-- ==== Sys2Proof/Word.lean ====
section
/-! DEFINITION. The machine's word types. Registers are 32 or 64 bits wide (R9); both are held in a `Word`, a 32-bit
register in its low half. A byte is the unit of memory. -/

namespace Sys2Proof

/-- A 64-bit register value, a Dorut register or a doubleword (R9, R264). -/
abbrev Word := BitVec 64

/-- One byte of memory. -/
abbrev Byte := BitVec 8

end Sys2Proof
end

