-- ==== Sys2Proof/Machine/Bits.lean ====
section
/-! DEFINITION. Bit fields, sign extension and byte order, as the spec writes them: [hi:lo] ranges of registers and
descriptors (R9), two's complement fields, little-endian registers and descriptors and big-endian packet fields (R8). -/

namespace Sys2Proof.Machine

/-- The field [hi:lo] of a value. -/
def bits (v hi lo : Nat) : Nat := v / 2 ^ lo % 2 ^ (hi + 1 - lo)

/-- Bit `n` of a value, as a truth value. -/
def bit (v n : Nat) : Bool := v.testBit n

/-- `v` with its field [hi:lo] replaced by `x` (bits of `x` above the field are dropped). -/
def putBits (v hi lo x : Nat) : Nat :=
  v / 2 ^ (hi + 1) * 2 ^ (hi + 1) + x % 2 ^ (hi + 1 - lo) * 2 ^ lo + v % 2 ^ lo

/-- 1 for true, 0 for false. -/
def b2n (b : Bool) : Nat := if b then 1 else 0

/-- The two's complement reading of the low `w` bits of `v`. -/
def signed (w v : Nat) : Int :=
  let m := v % 2 ^ w
  if m < 2 ^ (w - 1) then (m : Int) else (m : Int) - (2 ^ w : Nat)

/-- An integer as `w` bits of two's complement. -/
def unsigned (w : Nat) (x : Int) : Nat := (x % ((2 ^ w : Nat) : Int)).toNat

/-- The little-endian value of a list of bytes (R8). -/
def leNat : List Byte → Nat
  | [] => 0
  | b :: bs => b.toNat + 256 * leNat bs

/-- The `n` bytes of a value, lowest first (R8). -/
def leBytes : Nat → Nat → List Byte
  | 0, _ => []
  | n + 1, v => BitVec.ofNat 8 v :: leBytes n (v / 256)

/-- The big-endian value of a list of bytes, in network order (R8). -/
def beNat (bs : List Byte) : Nat := bs.foldl (fun a b => a * 256 + b.toNat) 0

/-- The `n` bytes of a value, highest first (R8). -/
def beBytes (n v : Nat) : List Byte := (leBytes n v).reverse

/-- The bits of a byte string numbered as packet fields are: bit 0 is the most significant bit of byte 0. The field of
`w` bits that starts at bit `b`; bits beyond the end read 0. -/
def netBits (bs : List Byte) (b w : Nat) : Nat :=
  let first := b / 8
  let last := (b + w + 7) / 8
  let v := beNat ((List.range (last - first)).map (fun k => bs.getD (first + k) 0))
  v / 2 ^ (8 * last - (b + w)) % 2 ^ w

/-- The byte string with its bytes from `o` on replaced by `x`, as far as they reach. -/
def putBytes (bs : List Byte) (o : Nat) (x : List Byte) : List Byte :=
  bs.take o ++ x.take (bs.length - o) ++ bs.drop (o + x.length)

/-- One bit of a reflected CRC with polynomial `poly`. -/
def crcBit (poly c : Nat) : Nat := if c % 2 = 1 then Nat.xor (c / 2) poly else c / 2

/-- One byte of a reflected 32-bit CRC. -/
def crcByte (poly c b : Nat) : Nat :=
  (List.range 8).foldl (fun c _ => crcBit poly c) (Nat.xor c b)

/-- The reflected Castagnoli polynomial of RFC 3720 (R126), and the reflected IEEE 802.3 polynomial (R278). -/
def castagnoli : Nat := 0x82F63B78
/-- The reflected IEEE 802.3 polynomial (R278). -/
def ieeeCrc : Nat := 0xEDB88320

/-- CRC-32C with initial register value `i` and complemented final value (R126). -/
def crc32c (i : Nat) (bs : List Nat) : Nat := 0xFFFFFFFF - (bs.foldl (crcByte castagnoli) i)

/-- A number as `n` byte values, most significant first. -/
def beVals (n v : Nat) : List Nat := (beBytes n v).map (·.toNat)

/-- The number of one bits of a value, counting `n` bits from bit 0. -/
def popCount : Nat → Nat → Nat
  | 0, _ => 0
  | n + 1, v => v % 2 + popCount n (v / 2)

/-- The sum of a list. -/
def sumNat (l : List Nat) : Nat := l.foldl (· + ·) 0

/-- Replace element `n` of a list by its image, when there is one. -/
def modAt {α : Type} (l : List α) (n : Nat) (f : α → α) : List α :=
  match l, n with
  | [], _ => []
  | a :: as, 0 => f a :: as
  | a :: as, n + 1 => a :: modAt as n f

end Sys2Proof.Machine
end

