-- ==== Sys2Proof/Machine/Sparse.lean ====
section
/-! DEFINITION. Sparse data: a list of (key, value) pairs in ONE canonical form: keys strictly rising, and no entry
equal to what an unlisted key reads as. Memories, the register file and the entry tables are all held so, and equal
contents are then equal data. What an unlisted key reads as is the function `d` of the operations. -/

namespace Sys2Proof.Machine

/-- A sparse map from keys to values. -/
abbrev Sparse (α : Type) := List (Nat × α)

/-- The listed value of a key, or nothing. -/
def Sparse.get? {α : Type} : Sparse α → Nat → Option α
  | [], _ => none
  | (k, v) :: m, q => if q = k then some v else Sparse.get? m q

/-- The value of a key: its listed value, or what an unlisted key reads as. -/
def Sparse.get {α : Type} (d : Nat → α) (m : Sparse α) (q : Nat) : α := (Sparse.get? m q).getD (d q)

/-- Take a key out of the list. -/
def Sparse.erase {α : Type} : Sparse α → Nat → Sparse α
  | [], _ => []
  | (k, v) :: m, q => if q = k then Sparse.erase m q else (k, v) :: Sparse.erase m q

/-- List a value at the place of its key. -/
def Sparse.insert {α : Type} : Sparse α → Nat → α → Sparse α
  | [], q, v => [(q, v)]
  | (k, w) :: m, q, v => if q < k then (q, v) :: (k, w) :: m else (k, w) :: Sparse.insert m q v

/-- List `v` for the key `q`, or take the key out of the list for `none`. -/
def Sparse.put {α : Type} (m : Sparse α) (q : Nat) (o : Option α) : Sparse α :=
  match o with
  | none => Sparse.erase m q
  | some v => Sparse.insert (Sparse.erase m q) q v

/-- Write a value; writing what an unlisted key reads as takes the entry out. -/
def Sparse.set {α : Type} [DecidableEq α] (d : Nat → α) (m : Sparse α) (q : Nat) (v : α) : Sparse α :=
  Sparse.put m q (if v = d q then none else some v)

/-- Every listed key is above `q`. -/
def Sparse.above {α : Type} (q : Nat) (m : Sparse α) : Bool := m.all (fun e => decide (q < e.1))

/-- The keys rise strictly. -/
def Sparse.sorted {α : Type} : Sparse α → Bool
  | [] => true
  | (k, _) :: m => Sparse.above k m && Sparse.sorted m

/-- The canonical form: rising keys, and no entry equal to what an unlisted key reads as. -/
def Sparse.wf {α : Type} [DecidableEq α] (d : Nat → α) (m : Sparse α) : Bool :=
  Sparse.sorted m && m.all (fun e => !decide (e.2 = d e.1))

/-- Take out every entry whose key satisfies `p`. -/
def Sparse.drop {α : Type} (p : Nat → Bool) (m : Sparse α) : Sparse α := m.filter (fun e => !p e.1)

end Sys2Proof.Machine
end

