-- ==== Sys2Proof/Machine/Types.lean ====
section
/-! DEFINITION. The records the state is made of and the commands carry: origins, Logbook records, whistles, staged
applies, frames, table entries. Values are natural numbers of the width their docstring gives; multi-bit images are
numbered as their layouts in the spec number them, bit 0 lowest. -/

namespace Sys2Proof.Machine

/-- The operating modes (R32). -/
inductive Mode where
  | dormant | bringup | service | maintenance | degraded | lockdown
  deriving DecidableEq, Repr

/-- SITE_MODE.MODE of a mode (R32). -/
def Mode.code : Mode → Nat
  | .dormant => 1 | .bringup => 2 | .service => 3 | .maintenance => 4 | .degraded => 5 | .lockdown => 6

/-- The mode a SITE_MODE.MODE value names; the values not used (R32) name none. -/
def Mode.ofCode : Nat → Option Mode
  | 1 => some .dormant | 2 => some .bringup | 3 => some .service
  | 4 => some .maintenance | 5 => some .degraded | 6 => some .lockdown
  | _ => none

/-- Who asks: the origin of an access, a capsule or a change (R524 RIGHTS and PATH, R518). -/
inductive Origin where
  /-- a BAR0 access from host admin on a link, with OPERATOR rights (R298) -/
  | bar0 (link : Nat)
  /-- a BAR2 access to the page of a pitch, from a link (R298) -/
  | bar2 (link page : Nat)
  /-- a capsule from an admin ring on a link -/
  | adminRing (link : Nat)
  /-- a capsule from a pitch's command ring -/
  | cmdRing (link pitch pasid : Nat)
  /-- a capsule over MCTP on SMBus -/
  | mctpSmbus (eid : Nat)
  /-- a capsule over MCTP on PCIe vendor-defined messages -/
  | mctpVdm (link eid : Nat)
  /-- a capsule over NC-SI -/
  | ncsi (channel : Nat)
  /-- a Dorut thread -/
  | thread (cluster tid : Nat)
  /-- Basecamp firmware -/
  | basecamp
  /-- the Referee -/
  | referee
  /-- an action of device hardware that no origin caused (R36) -/
  | device
  deriving DecidableEq, Repr

/-- A Logbook record (R524). `old` and `new` are the 16-byte fields; `seq` and `vn` are given when it is taken. -/
structure LogRec where
  typ : Nat
  object : Nat
  addr : Nat
  old : Nat
  oldValid : Bool
  new : Nat
  truncated : Bool
  op : Nat
  rights : Nat
  path : Nat
  link : Nat
  originId : Nat
  seq : Nat
  vn : Nat
  torn : Bool
  deriving DecidableEq, Repr

/-- A register write that waits for its Logbook record (R523): its origin, the register cell by its key, the value in its place and
the bits written; with the last register of an access that covers two, `mate` is the first, and both are written together. -/
structure HeldWrite where
  origin : Origin
  cell : Nat
  value : Nat
  mask : Nat
  mate : Option (Nat × Nat × Nat)
  deriving DecidableEq, Repr

/-- A raised record: its number in the order of raising, and the write that waits for its seal, if any. -/
structure LogEntry where
  id : Nat
  body : LogRec
  held : Option HeldWrite
  deriving DecidableEq, Repr

/-- The whistle of a unit's own check that no other event of the device raises (R466, R471): kind, source, ADDR and DETAIL. -/
structure UnitCheck where
  kind : Nat
  source : Nat
  addr : Nat
  detail : Nat
  deriving DecidableEq, Repr

/-- A whistle (R462). `source` is the 24-bit physical identifier, `seq` the sender's 16-bit number. -/
structure WhistleMsg where
  vn : Nat
  source : Nat
  kind : Nat
  idEpoch : Nat
  severity : Nat
  addr : Nat
  detail : Nat
  seq : Nat
  deriving DecidableEq, Repr

/-- A WAITING apply (R23): block, group, TAG, the volley at whose start it is due, the snapshot (register cell and
value), and the number of its priority record. -/
structure ApplyWait where
  blk : Nat
  group : Nat
  tag : Nat
  due : Nat
  snap : List (Nat × Word)
  recNo : Nat
  deriving DecidableEq, Repr

/-- An entry of a parsed frame's step list (R77): node, header start O, KIND; `count` is the node's COUNT, which DECAP
looks for (R86). -/
structure PStep where
  node : Nat
  off : Nat
  kind : Nat
  count : Nat
  deriving DecidableEq, Repr

/-- A work item: the work ring it came from and its free-running index. -/
structure ItemRef where
  ring : Nat
  index : Nat
  deriving DecidableEq, Repr

/-- What a frame in the device is: an original, replica n of a multicast group, of destination index d, or a copy for a mirror
session. -/
inductive FrameKind where
  | original
  | replica (n d : Nat)
  | mirror (session : Nat)
  deriving DecidableEq, Repr

/-- Where a frame in the device is. -/
inductive FrameLoc where
  /-- at its parser front end, before the parse (R60) -/
  | frontEnd
  /-- parsed, waiting for admission (R95) -/
  | parsed
  /-- in the miss buffer of its ingress pipeline, waiting for a FLOW read (R136) -/
  | flowMiss
  /-- held at the switch core entry by a drain barrier or a cluster barrier (R169, R194) -/
  | held
  /-- in the input queue of an internal path (R168) -/
  | path (p : Nat)
  /-- in an egress queue, on chip or in spill (R164, R178) -/
  | queue (q : Nat)
  /-- at the SA sequencer or in a crypto lane (R379) -/
  | crypto
  /-- at the MAC of a port, to be sent (R45) -/
  | mac (port : Nat)
  /-- in the queue engine, to be delivered to a host receive ring (R344) -/
  | ringEngine
  /-- in the punt queue of a core of a cluster (R248) -/
  | puntQueue (cluster core : Nat)
  /-- held by a thread of a cluster (R280) -/
  | thread (cluster tid : Nat)
  /-- returned under a reorder slot that is not yet released (R191) -/
  | reorder (slot : Nat)
  /-- returned or created inside an open step, held until its release (R254) -/
  | stepHeld (cluster tid : Nat)
  /-- at the storage/transport engine (R418) -/
  | stx
  deriving DecidableEq, Repr

/-- A frame inside the device, with its metadata. `bytes` is without FCS; `rxTime` is the full 80-bit receive timestamp
(R51); `kv` the 640-bit key vector (R76); `action` the 128-bit action record (R83, R85); `epoch` counts commits and its
low 8 bits are the stamp (R95); `ord` orders the frames of one place. -/
structure Frame where
  bytes : List Byte
  inPort : Nat
  rxTime : Nat
  pitch : Option Nat
  kv : Nat
  steps : List PStep
  malformed : Nat
  cfgVer : Nat
  stamped : Bool
  epoch : Nat
  action : Nat
  carried : Bool
  /-- final colour: 0 green, 1 yellow, 2 red (R223) -/
  color : Nat
  /-- remark profiles to apply at egress, each with its colour, in order (R223) -/
  remark : List (Nat × Nat)
  /-- the record of a TCAM hit, while the frame waits for a FLOW read (R82, R136) -/
  tcam : Nat
  /-- its egress modifiers have been carried out, so the scheduler may take it (R86, R380, R201) -/
  ready : Bool
  /-- marked CE at egress (R181) -/
  ecnMark : Bool
  cls : Nat
  hash : Nat
  kind : FrameKind
  /-- the frame a copy came from, with which it shares its cells (R171) -/
  orig : Option Nat
  /-- the class it entered the switch core in, by which its ingress port counts its cells (R174) -/
  inCls : Nat
  /-- the word of the session that a base action MIRROR diverts it to (R84, R186) -/
  session : Nat
  /-- it has counted in TBL_PARITY_MISS (R156) -/
  missed : Bool
  item : Option ItemRef
  /-- the host receive ring a punt names, when it names one (R84) -/
  rxRing : Option Nat
  /-- the cells a frame takes and the queue they are charged to -/
  cells : Nat
  queue : Nat
  spilled : Bool
  /-- the spill profile whose region holds it (R178, R179) -/
  region : Nat
  /-- admitted as lossless traffic, and whether from the headroom pool (R174) -/
  lossless : Bool
  headroom : Bool
  cut : Bool
  charge : Option Nat
  /-- FCS known bad, or a cell found bad: sent stomped or dropped (R171, R177) -/
  bad : Bool
  /-- reorder slot and the word returned under (R190, R281) -/
  slot : Option Nat
  encrypted : Bool
  /-- connection for frames of the storage/transport engine, SA for frames of the crypto complex -/
  tag : Nat
  loc : FrameLoc
  ord : Nat
  deriving DecidableEq, Repr

/-- A table entry (R123): its images by the epoch that made them, newest first, its staged and closed images, its age
stamp, and whether parity has marked it bad (R156). -/
structure TblEntry where
  images : List (Nat × Nat)
  staged : Option Nat
  closed : Option Nat
  age : Nat
  bad : Bool
  deriving DecidableEq, Repr

/-- The shadow's record of an isolation-table entry (R159): the live value recorded as pending, whether the entry is
frozen, and whether a port that may clear it has staged its rewrite. -/
structure IsoMark where
  pending : Option Nat
  frozen : Bool
  clearing : Bool
  deriving DecidableEq, Repr

/-- The per-port state of a MAC port beside its registers: the transmit-timestamp FIFO (tag and compact time, R53), the
VN at which its present STATE began (R47), and the classes paused by received PAUSE or PFC frames with the VN at which
their quanta end (R174). -/
structure WirePort where
  ts : List (Nat × Nat)
  since : Nat
  rxPause : List (Nat × Nat)
  deriving DecidableEq, Repr

/-- The per-lane state of a SerDes lane: the VN at which a retrain started (R48), the RS-FEC symbol errors of the
present window and its start (R49), and the polarities in use since the last training (R46). -/
structure WireLane where
  retrain : Option Nat
  errors : Nat
  window : Nat
  polarity : Nat
  deriving DecidableEq, Repr

/-- A command of a command port that has been issued (R139): what the engine took from the port's registers at GO. -/
structure TblCmd where
  o : Origin
  op : Nat
  table : Nat
  tag : Nat
  snapView : Bool
  direct : Bool
  index : Nat
  data : Nat
  deriving DecidableEq, Repr

/-- A queued learn or move (R149): FID and MAC, port, pitch, and whether it is a move. -/
structure LearnReq where
  fid : Nat
  mac : Nat
  port : Nat
  owner : Option Nat
  isMove : Bool
  deriving DecidableEq, Repr

/-- A queued compare-and-delete of the aging scan (R153). -/
structure AgeReq where
  table : Nat
  index : Nat
  key : Nat
  stamp : Nat
  deriving DecidableEq, Repr

/-- A closed staging set (R104) or a held commit (R105): its origin, TAG, timed or not, the boundary its request names and the one it
is due at, whether it is a pause, its record, and the entries it holds. -/
structure Commit where
  o : Origin
  tag : Nat
  timed : Bool
  target : Nat
  due : Nat
  pause : Bool
  recNo : Nat
  count : Nat
  deriving DecidableEq, Repr

/-- A change request of a gate list (R204): TAG, snapshot of the admin list, and change time X. -/
structure GateChange where
  tag : Nat
  en : Bool
  base : Nat
  cycle : Nat
  entries : List Nat
  x : Nat
  recNo : Nat
  deriving DecidableEq, Repr

/-- A slot of the reorder sequencer (R190): its cluster and order queue, the frames returned under it in order, whether
it is resolved, and the VN from which its wait at the head is counted. -/
structure Slot where
  cluster : Nat
  oq : Nat
  ord : Nat
  frames : List Nat
  count : Nat
  resolved : Bool
  since : Nat
  stalls : Nat
  deriving DecidableEq, Repr

/-- A cause of DEGRADED (R469, R478): the unit, the whistle kind, the action, whether it is still OPEN, and whether it
is listed in REF_CAUSE. -/
structure Cause where
  source : Nat
  kind : Nat
  action : Nat
  isOpen : Bool
  listed : Bool
  deriving DecidableEq, Repr

/-- A fence that has been decided (R475), or a readmission that waits for its boundary (R479): the unit, the whistle kind, the volley D of the decision,
and its record. -/
structure FenceDue where
  unit : Nat
  kind : Nat
  d : Nat
  recNo : Nat
  deriving DecidableEq, Repr

/-- A substitution under way (R475): the fenced unit, its REF_MAP position unless it is a bench unit that serves none, D, and the
number of its record when one was raised, with the bench unit that the record names. -/
structure Subst where
  unit : Nat
  pos : Option Nat
  d : Nat
  recNo : Option Nat
  taker : Option Nat
  deriving DecidableEq, Repr

/-- A mode change that has been triggered and waits for its boundary (R33, R36): the mode asked for, the mode that its record
names, and whose request it is. -/
structure ModeReq where
  newMode : Mode
  cause : Nat
  due : Nat
  recNo : Nat
  told : Mode
  o : Origin
  deriving DecidableEq, Repr

/-- What a host request names (R297): one of the three BARs, or the configuration space of the link's function (R295, R296). -/
inductive HostSpace where
  | bar0 | bar2 | bar4 | cfg
  deriving DecidableEq, Repr

/-- What the device has sent to the outside: the model's record of its outputs, newest last. -/
inductive Out where
  /-- a frame on a MAC port: bytes without FCS, whether the FCS is good, transmit time -/
  | ethFrame (port : Nat) (bytes : List Byte) (good : Bool) (time : Nat)
  /-- a PAUSE or PFC frame: port, class bits, quanta (R174) -/
  | flowControl (port classes quanta : Nat)
  /-- an MSI-X message of a vector of a link (R313) -/
  | msix (link vector : Nat)
  /-- a posted write to host memory on a link, with the PASID of a pitch or none (R302) -/
  | hostWrite (link : Nat) (pasid : Option Nat) (addr : Nat) (bytes : List Byte)
  /-- a non-posted read of host memory: link, PASID, address, length, tag -/
  | hostRead (link : Nat) (pasid : Option Nat) (addr len tag : Nat)
  /-- a completion to a host request: link, whether Successful, and its data -/
  | hostCpl (link : Nat) (ok : Bool) (data : List Byte)
  /-- a reply to a capsule, a management command or an SPDM request: completion code or STATUS, and the data -/
  | reply (code : Nat) (data : List Nat)
  deriving DecidableEq, Repr

/-! ### Dorut threads -/

/-- An effect held in a step, in program order (R254): a register write (internal address, width, value), a counter add
(pair, packets, bytes), a SEV, a frame returned (frame number, reorder word, ends its slot) or discarded. Stores to shared memory
are held as bytes of lines beside these. -/
inductive Held where
  | regWrite (addr width value : Nat)
  | ctrAdd (pair packets bytes : Nat)
  | sev (thread : Nat)
  | ret (frame word : Nat) (last : Bool)
  | free (frame : Nat)
  deriving DecidableEq, Repr

/-- A step record (R254, R255, R281): the registers and PC saved at step begin, the bytes of shared memory held, the other held
effects in program order, the handles that PTAKE returned in order, how many of them the present run has taken, and the
frames that BALLOC made in the step. -/
structure StepRec where
  regs : Sparse Word
  pc : Nat
  lines : Sparse Byte
  outs : List Held
  takes : List Nat
  taken : Nat
  made : List Nat
  deriving DecidableEq, Repr

/-- What a thread in EVENT_WAIT waits for (R239, R243, R244). -/
inductive Wait where
  /-- WFE: result register and mask -/
  | event (rd mask : Nat)
  /-- FORKW: result register, child PC, argument, detached -/
  | fork (rd pc : Nat) (arg : Word) (detach : Bool)
  /-- JOIN: result register and child -/
  | join (rd child : Nat)
  /-- JOIN of a child that KILL freed while the parent was halted: KILLED_WAIT when the parent goes on (R290) -/
  | killed (child : Nat)
  deriving DecidableEq, Repr

/-- The result of a variable-latency instruction that has not returned (R233): the registers it writes, what it writes
to F, what it latches into KV and KV_EPOCH, the exception it meets on return (R290, R291), if any, and whether it is that of a
FENCE, which waits for the releases of the thread's steps (R289). -/
structure Res where
  writes : List (Nat × Word)
  f : Option Bool
  kv : Option (Nat × Nat)
  fault : Option (Nat × Nat × Nat)
  fence : Bool
  deriving DecidableEq, Repr

/-- A thread context (R231, R264): its state, its registers g1 to g31, PC, F, KV, KV_EPOCH, KV_EVALID, timer target,
PENDING bits, wait, outstanding result, parent, whether it is detached, its exit value, the state a halt left, whether a
halt is due and whether QUIESCE asked for it, its open step, its ring credits in use, the volley in which its timer was armed (R241),
the core cycle before which it does not issue (R235), and the cause of a restart at ENTRY that waits for a release (R256). -/
structure Ctx where
  st : Nat
  regs : Sparse Word
  pc : Nat
  f : Bool
  kv : Nat
  kvEpoch : Nat
  kvValid : Bool
  timer : Option Nat
  events : Nat
  wait : Option Wait
  res : Option Res
  parent : Option Nat
  detached : Bool
  exitVal : Word
  was : Nat
  haltDue : Bool
  byQuiesce : Bool
  step : Option StepRec
  credits : Nat
  armed : Nat
  notBefore : Nat
  again : Option Nat
  deriving DecidableEq, Repr

/-! ### Rings, items and host requests -/

/-- A work ring (R320, R353, R356): its context, indices, state (0 DISABLED, 1 ACTIVE, 2 ERROR, 3 DRAINING), its error
slot and the error entry still to post, the error entries that a RESUME found not yet posted (code, index, and the DONE they
follow), its lookahead copies (index, bytes), the items of its open batch, the VN of the last acceptance, and whether its drain ends
DISABLED. -/
structure Ring where
  ctx : Nat
  p : Nat
  c : Nat
  f : Nat
  done : Nat
  st : Nat
  cqFull : Bool
  errSlot : Bool
  la : List (Nat × List Byte)
  errCode : Nat
  errIndex : Nat
  errDue : Bool
  owed : List (Nat × Nat × Nat)
  accepted : Nat
  stalls : Nat
  refetch : Nat
  batch : Nat
  lastVn : Nat
  toDisable : Bool
  deriving DecidableEq, Repr

/-- A completion ring (R336, R350, R355): its context, P_cq, C_cq, the reserved slots, ARMED, u, and the VN of the first
entry counted in u. -/
structure Cq where
  ctx : Nat
  pcq : Nat
  ccq : Nat
  resv : Nat
  armed : Bool
  u : Nat
  enabled : Bool
  firstVn : Nat
  deriving DecidableEq, Repr

/-- An accepted item with its journal record (R483, R488): `stage` is 1 ACCEPTED or 2 RELEASED; `result` is the 32-byte
entry it alone would produce; `ext` the multicast extension's mask of replicas handed over, when it has one; `busy` that
its engine has begun it, `filled` that a RECV item has been assigned a frame or notice, or that the data of a SEND item has been
read; `ord` its place in the order of acceptance (R333). -/
structure Item where
  ring : Nat
  index : Nat
  kind : Nat
  stage : Nat
  desc : List Byte
  frags : List Nat
  acceptVn : Nat
  user : Nat
  first : Bool
  last : Bool
  result : Nat
  retries : Nat
  ext : Option Nat
  busy : Bool
  filled : Bool
  ord : Nat
  /-- MAC ports that sent a frame of a SEND item, and the compact time of the last (R340) -/
  sentMac : Nat
  sentTime : Nat
  deriving DecidableEq, Repr

/-- The data movement of an item that waits for a QUEUE channel (R361, R375, R440): the item, its pitch or none for host
admin on `link`, whether it writes to the host, its segments, and what it is to write. -/
structure Work where
  item : ItemRef
  pitch : Option Nat
  link : Nat
  write : Bool
  segs : List (Nat × Nat × Bool)
  data : List Byte
  deriving DecidableEq, Repr

/-- What a read of a descriptor, a fragment table or another host buffer returned: its bytes, or the status code of its
failure (R302, R310). -/
inductive Fetch where
  | ok (bytes : List Byte)
  | fail (status : Nat)
  deriving DecidableEq, Repr

/-- Who issued a non-posted host request of a DMA channel: its instance and unit, the offset in the transfer its data
goes to, whether it is the flush read (R367), its VN, and the data its completions have brought so far. -/
structure Req where
  inst : Nat
  unit : Nat
  off : Nat
  len : Nat
  flush : Bool
  issued : Nat
  got : List Byte
  deriving DecidableEq, Repr

/-- The running state of a DMA channel beside its registers: requests outstanding, bytes whose data has arrived, the
flush read (0 not due, 1 outstanding, 2 returned), the first failure, whether a reset waits, the last host address
written, the boundaries its owner has been halted, the work a QUEUE channel carries, the bytes that have arrived for it, by offset,
the reads of a transfer whose data waits for that of earlier ones (length and bytes, by offset), and the bytes written so far
(R366). -/
structure Chan where
  outst : Nat
  flush : Nat
  failed : Option Nat
  resetting : Bool
  lastWrite : Nat
  halt : Nat
  work : Option Work
  got : Sparse Byte
  hold : Sparse (Nat × List Byte)
  wrote : Nat
  deriving DecidableEq, Repr

/-! ### Storage connections (R413 to R432) -/

/-- A started STORE item (R421, R422): its command identifier once it holds a tag, the item, the namespace entry read at its
start, the submission queue entry of NVME_RAW, whether its data flows to the host, its length, the status of a digest
failure or 0, and the bytes of a partial block. -/
structure StxCmd where
  cid : Nat
  item : ItemRef
  ns : Nat
  sqe : List Byte
  toHost : Bool
  len : Nat
  fail : Nat
  part : List Byte
  deriving DecidableEq, Repr

/-- A segment or packet sent and not yet acknowledged: its sequence number or PSN, its bytes as payload (TCP) or as a BTH
and payload (RoCE), the VN it was last sent, and whether it has been sent again. -/
structure Sent where
  seq : Nat
  bytes : List Byte
  at_ : Nat
  again : Bool
  deriving DecidableEq, Repr

/-- A connection (R413): its image, and the transport state beside it: SND_UNA, the segments in flight, the bytes to be
sent, the received bytes of a PDU not yet whole, the started items waiting for a tag, the commands outstanding, the generation
of each tag, the congestion window and threshold, SRTT and RTTVAR and RTO in volleys, the timer, the consecutive
timeouts, duplicate ACKs, segments received and not acknowledged with the VN an ACK is due, the end of the window that
ECE has halved, whether ECE is to be echoed, the RoCE retries and RNR retries used, the message sequence number, packets
since the last ACK, the VN of the last CNP, the placement of a message in progress (command, offset), and of one that comes again, the
VN an RNR wait ends, whether CWR is to be sent, whether a FIN has been taken behind whole PDUs, and the PSN of a READ Request whose data
is being fetched again. -/
structure Conn where
  img : Nat
  una : Nat
  flight : List Sent
  sendq : List Byte
  rx : List Byte
  waiting : List StxCmd
  cmds : List StxCmd
  gens : Sparse Nat
  cwnd : Nat
  ssthresh : Nat
  srtt : Option (Nat × Nat)
  rto : Nat
  timer : Option Nat
  tries : Nat
  dups : Nat
  unacked : Nat
  ackDue : Option Nat
  recover : Nat
  ece : Bool
  rnrUsed : Nat
  msn : Nat
  sinceAck : Nat
  cnpAt : Option Nat
  place : Option (Nat × Nat)
  rnrEnd : Option Nat
  again : Option (Nat × Nat)
  cwr : Bool
  fin : Bool
  reread : Option Nat
  deriving DecidableEq, Repr

/-- What a link's configuration space sets that the spec gives an effect (R310, R312, R365): the Completion Timeout Value, the 10-bit tag enable, Max Payload and Max Read Request sizes, ASPM L1 and L1 PM Substates with LTR
enabled, and that the partner supports L0p. -/
structure LinkCfg where
  cplTmo : Nat
  tag10 : Bool
  mps : Nat
  mrrs : Nat
  aspm : Bool
  l1ss : Bool
  l0p : Bool
  deriving DecidableEq, Repr

/-- A pitch operation that runs (R442): the PIT_CTL fields, the state it began from, the VN its present phase began, its phase
(0 until the boundary that begins it, 1 after, 2 while the record of the state it ends in is not sealed, 3 while that of SQUASHING is
not), the outcome that its closing reports (RESULT, DETAIL), the state it ends in, and the length of a SAVE's image. -/
structure PitOp where
  op : Nat
  pitch : Nat
  link : Nat
  tag : Nat
  start : Nat
  since : Nat
  phase : Nat
  result : Nat
  detail : Nat
  last : Nat
  len : Nat
  deriving DecidableEq, Repr

/-- A frame or an XFORM item in a crypto lane (R379): which, its SA or key slot, the SA image and the key it took at dispatch
(R382, R398), its number, and its logical lane. -/
structure Job where
  frame : Option Nat
  item : ItemRef
  sa : Nat
  img : Nat
  key : Nat
  num : Nat
  lane : Nat
  deriving DecidableEq, Repr

/-- Where a capsule comes from (R512, R520): a CMD ring, as the accepted item whose descriptor it is, or a management path,
as the 512 bits that arrived. -/
inductive CapSrc where
  | ring (item : ItemRef)
  | path (o : Origin) (word : Nat)
  deriving DecidableEq, Repr

/-- A capsule in progress (R514): its origin, its item on a ring, its 512 bits, the number of its Logbook record and the SEQ
of that record once its seal is acknowledged (R523), its stage (0 until its effect begins, 1 while its operation runs),
the VN its effect began, and the buffer that has been read for it. -/
structure CapRun where
  o : Origin
  item : Option ItemRef
  word : Nat
  recNo : Nat
  logSeq : Option Nat
  stage : Nat
  start : Nat
  buf : Fetch
  deriving DecidableEq, Repr

/-- A flush image in a slot of the Journal Store (R503): the VN of V1, whether it is sealed with everything in it matching, the
items with their records, the rings, the completion rings, the connection images, and the cells of the Pitch Map, the pitch
states and the quotas. -/
structure FlushImg where
  vn : Nat
  good : Bool
  items : Sparse Item
  rings : Sparse Ring
  cqs : Sparse Cq
  conns : Sparse Nat
  cells : List (Nat × Word)
  deriving DecidableEq, Repr

/-- A function reset of a link, or with none a device-warm reset, that runs (R495): the volley V at which it was taken, the
origin, and the number of its record. -/
structure ResetRun where
  link : Option Nat
  v : Nat
  o : Origin
  recNo : Nat
  deriving DecidableEq, Repr

/-- A PLDM firmware update (R534): its stage (0 RequestUpdate waits for its record, 1 requested, 2 component table passed, 3
downloading, 4 transferred, 5 verified, 6 applied), the size of the image, the bytes written, and the number of the record that
its present command waits for. -/
structure Upd where
  stage : Nat
  size : Nat
  got : Nat
  recNo : Option Nat
  deriving DecidableEq, Repr

/-- Where a management message comes from (R408, R521): the Data Object Exchange of a link, SMBus, or PCIe vendor-defined messages,
the last two with the sender's MCTP endpoint ID. -/
inductive MsgPath where
  | doe (link : Nat)
  | smbus (eid : Nat)
  | vdm (link eid : Nat)
  deriving DecidableEq, Repr

end Sys2Proof.Machine
end

