-- ==== Sys2Proof/Syntax.lean ====
section
/-! DEFINITION. The commands of the block: one constructor for every row of spec/opcode_table.json, in the table's
order. The table gives its rows no operands and no bits. The operands here are what the row's rule takes from outside
the block: which port, ring, thread or register is meant, the bytes that arrive, the answer of a host or a partner, and
what only the physical device can tell (a measurement, a check of an external key). -/

namespace Sys2Proof

open Sys2Proof.Machine

/-- The commands of the WSH1680 (spec/opcode_table.json). -/
inductive Instr where
  /-- VOLLEY_BOUNDARY (R16): The 40 ns volley tick: device time advances by 40 ns, VN increments and boundary work runs. -/
  | volleyBoundary (late : List Nat) (scanBad : Bool)
  /-- CLK_ADJ (R16): A write to CLK_ADJ adds its signed offset to CLK_PHASE_ERR and returns a HOLDOVER counter to LOCKED. -/
  | clkAdj (o : Origin) (v : Nat)
  /-- CLK_TIME_LOAD (R17): A write to CLK_TIME_LOAD records a device time to load in BRINGUP, or is dropped and sets LOAD_DROPPED in any other mode. -/
  | clkTimeLoad (o : Origin) (t elapsed : Nat)
  /-- HOLDOVER (R18): CLK_LOCK_TIMEOUT volleys pass without a CLK_ADJ write while LOCKED, so the counter enters HOLDOVER. -/
  | holdover
  /-- RWS_WRITE (R22): A write to an RWS field changes only its group's pending copy and sets the group's pending bit. -/
  | rwsWrite (o : Origin) (off width v : Nat)
  /-- APPLY (R23): GROUP_APPLY with ACTION APPLY snapshots the pending copy, runs the group's checks, and rejects the group or makes it WAITING. -/
  | apply (o : Origin) (block group tag : Nat) (timed : Bool)
  /-- DISCARD (R26): GROUP_APPLY with ACTION DISCARD drops the pending copy and may cancel a WAITING apply. -/
  | discard (o : Origin) (block group tag : Nat)
  /-- APPLIED (R23): A WAITING apply reaches its boundary and every field of its snapshot takes effect together. -/
  | applied (rxBusy : List Nat)
  /-- SET_MODE (R33): The SET_MODE capsule requests a mode transition and is checked against the transition table and the self-checks. -/
  | setMode (src : CapSrc)
  /-- MODE_CHANGE (R33): The device changes mode on a volley boundary, and SITE_MODE and SITE_MODE_VN are updated. -/
  | modeChange
  /-- RECEIVE_FRAME (R45): A MAC port receives a whole frame, timestamps and checks it, counts it, and passes it to the parser or discards it. -/
  | receiveFrame (port : Nat) (bytes : List Byte) (fcsOk cut : Bool) (ago sub : Nat)
  /-- PAUSE_FRAME_RECEIVED (R46): A received PAUSE or PFC frame is consumed, counted in RX_FC, and pauses the named classes for the quanta received. -/
  | pauseFrameReceived (port : Nat) (pfc : Bool) (quanta : List (Nat × Nat))
  /-- PAUSE_QUANTA_EXPIRY (R174): The quanta of a received PAUSE or PFC frame run out, and the paused classes may be served again. -/
  | pauseQuantaExpiry (port cls : Nat)
  /-- TRANSMIT_FRAME (R45): A frame is padded if needed, timestamped, finished with its FCS and sent on a MAC port. -/
  | transmitFrame (port ago sub : Nat)
  /-- PORT_RESET (R47): A write of WIRE_PORT_CTL.RESET sets TX_DRAIN and stops handing frames to the port. -/
  | portReset (o : Origin) (port : Nat)
  /-- TX_DRAIN_END (R47): At the boundary after the frame on the wire finishes, the port enters STATE 0x5, its state is cleared and its hold starts. -/
  | txDrainEnd (port : Nat) (rxBusy : Bool)
  /-- TRAINING_START (R47): A resetting or new port enters STATE 0x2 and begins training or adaptation. -/
  | trainingStart (port : Nat)
  /-- LINK_UP (R47): Training completes and the port reaches STATE 0x4, which ends any port hold. -/
  | linkUp (port : Nat)
  /-- TRAINING_RETRY (R47): A port whose partner does not respond restarts its training every 120 ms. -/
  | trainingRetry (port : Nat)
  /-- LINK_DOWN (R188): A port loses FEC lock, alignment or link, falls from up, cuts off the frames in flight and starts its hold. -/
  | linkDown (port : Nat) (rxBusy : Bool)
  /-- RETRAIN (R48): A write of WIRE_LANE_CTL.RETRAIN starts re-converging one lane's receive equaliser on live traffic. -/
  | retrain (o : Origin) (lane : Nat)
  /-- RETRAIN_COMPLETE (R48): The lane's retrain completes. -/
  | retrainComplete (lane : Nat)
  /-- FEC_WINDOW_END (R49): A lane's 25,000-volley window of RS-FEC symbol errors ends and the count is compared with the limit. -/
  | fecWindowEnd (lane symbols corrected uncorrected : Nat)
  /-- TS_TX_POP (R53): A write of WIRE_TS_TX_POP removes the head entry of the transmit-timestamp FIFO. -/
  | tsTxPop (o : Origin) (port : Nat)
  /-- TRIM_SET_LOAD (R55): Basecamp loads and validates the Trim Set in BRINGUP before any lane trains. -/
  | trimSetLoad
  /-- CAL_WRITE (R56): The CAL_WRITE capsule replaces the Trim Set in flash with the image it carries. -/
  | calWrite (src : CapSrc) (buf : Fetch)
  /-- PARSE_FRAME (R71): Once PRS_DEPTH bytes of a frame have arrived, a parser front end walks the parse graph and builds the key vector and step list. -/
  | parseFrame (frame : Nat)
  /-- HEADER_ADMISSION (R95): An ingress pipeline admits a header, stamps it with the live epoch, and performs its lookups, resolution, validation and policing. -/
  | headerAdmission (frame : Nat) (miss : Bool) (parity : List (Nat × Nat))
  /-- FLOW_MISS_RETURN (R136): The HBM read of a FLOW entry that missed the cache returns, and the headers waiting on it proceed. -/
  | flowMissReturn (frame : Nat) (parity : List (Nat × Nat))
  /-- EGRESS_PIPELINE (R86): An egress pipeline carries out the record's modifiers: DECAP, REWRITE, ENCAP, CRYPTO and TS_OP. -/
  | egressPipeline (queue : Nat) (parity : List (Nat × Nat))
  /-- EPC_COMMIT (R104): A write of EPC_COMMIT with GO closes the open staging set, or is held or refused. -/
  | epcCommit (o : Origin) (tag : Nat) (timed early : Bool)
  /-- EPC_MODE_WRITE (R113): A write to EPC_MODE takes effect only with an empty open set and no commit or pause in progress, and is otherwise dropped. -/
  | epcModeWrite (o : Origin) (v : Nat)
  /-- COMMIT_APPLIES (R104): A closed set becomes the new current epoch at its boundary, or completes EMPTY. -/
  | commitApplies
  /-- RETIREMENT (R111): The oldest live epoch with no frames left retires at a boundary, and its images are freed. -/
  | retirement
  /-- EPOCH_STALL (R112): A commit has waited EPC_STALL_VOLLEYS boundaries, and the PIPE block raises whistle EPOCH_STALL. -/
  | epochStall
  /-- PAUSE_HOLD (R115): At V+1 of a PAUSE commit, admission and egress hand-over are held and the drain begins. -/
  | pauseHold
  /-- PAUSE_APPLY (R115): At the first boundary at which the pipelines and lanes are empty, the staged images begin to be written in. -/
  | pauseApply
  /-- PAUSE_RESUME (R115): The pause apply ends, admission resumes, and the commit completes. -/
  | pauseResume
  /-- PAUSE_ABANDONED (R116): The drain has not ended in time, so the pause is abandoned and traffic resumes. -/
  | pauseAbandoned
  /-- READ_INDEX (R139): A command-port READ_INDEX reads the image at an index into DATA. -/
  | readIndex (o : Origin) (port table tag : Nat) (snapView : Bool)
  /-- WRITE_INDEX (R139): A command-port WRITE_INDEX writes a whole image at an index, staged or direct. -/
  | writeIndex (o : Origin) (port table tag : Nat)
  /-- INSERT (R146): A command-port INSERT places an entry by key, relocating other entries if needed. -/
  | insert (o : Origin) (port table tag : Nat)
  /-- DELETE (R139): A command-port DELETE removes an entry by key or by index. -/
  | delete (o : Origin) (port table tag : Nat)
  /-- SEARCH (R139): A command-port SEARCH looks an entry up by key and returns its image and index. -/
  | search (o : Origin) (port table tag : Nat)
  /-- UPDATE (R139): A command-port UPDATE replaces an entry's whole image by key and refreshes its age stamp. -/
  | update (o : Origin) (port table tag : Nat)
  /-- TBL_CMD_COMPLETE (R141): An outstanding table command completes, its result is set, and BUSY clears. -/
  | tblCmdComplete (port : Nat)
  /-- LEARN (R149): The table engine takes a queued learn and inserts a dynamic STATION entry. -/
  | learn
  /-- MOVE (R149): The table engine takes a queued move and sets the entry's destination to the new port. -/
  | move
  /-- LEARN_TOKEN_REFILL (R150): At each boundary whose VN is a multiple of 25,000, each port's learn bucket gains RATE tokens. -/
  | learnTokenRefill
  /-- AGE_TICK (R152): The current age stamp advances at each boundary whose VN is a multiple of TICK. -/
  | ageTick
  /-- AGE_OUT (R154): The engine deletes an aged entry whose stamp is unchanged and sends notice AGE_OUT. -/
  | ageOut
  /-- SHADOW_SWEEP (R159): At each boundary whose VN is a multiple of 250,000, a sweep starts comparing the isolation tables with their host shadow. -/
  | shadowSweep
  /-- SHADOW_SWEEP_END (R159): A sweep ends: entries are marked pending, frozen or cleared, or the sweep is abandoned. -/
  | shadowSweepEnd (shadow : Option (Sparse Nat))
  /-- TBL_PARITY_LOG_READ (R161): A read of TBL_PARITY_LOG returns and removes the head of its FIFO. -/
  | tblParityLogRead (link : Nat)
  /-- TBL_FROZEN_LOG_READ (R161): A read of TBL_FROZEN_LOG returns and removes the head of its FIFO. -/
  | tblFrozenLogRead (link : Nat)
  /-- PATH_DELIVER (R168): An internal path delivers a frame from its input queue to its egress queues, under admission and replication. -/
  | pathDeliver (path ns : Nat)
  /-- SPILL_READBACK (R178): The spill engine reads a spilled frame back into on-chip cells. -/
  | spillReadback (queue : Nat)
  /-- PATH_BARRIER_END (R169): The drain barrier of a re-pinned bucket ends, and its held frames enter the new path. -/
  | pathBarrierEnd (bucket : Nat)
  /-- HOLD_EXPIRY (R189): A port's hold expires before it is up, and every frame queued for it is flushed. -/
  | holdExpiry (port : Nat)
  /-- PFC_REFRESH (R174): Every 500 volleys while i is above XON, the PFC or PAUSE frame is sent again. -/
  | pfcRefresh (port cls : Nat)
  /-- MC_ACC_READ (R184): SWB_MC_ACC_CTL with OP read copies a group or replica entry into DATA. -/
  | mcAccRead (o : Origin) (replica : Bool) (index : Nat)
  /-- MC_ACC_WRITE (R184): SWB_MC_ACC_CTL with OP write writes DATA into a group or replica entry, or drops a bad write. -/
  | mcAccWrite (o : Origin) (replica : Bool) (index : Nat)
  /-- PUNT_HANDOVER (R248): A frame is handed from its cluster port queue to a core, and gets a reorder slot and buffer blocks. -/
  | puntHandover (cluster ns : Nat) (cellBad : Bool)
  /-- RSQ_SKIP (R192): A head slot unresolved for SWB_RSQ_SKIP volleys is skipped. -/
  | rsqSkip (cluster oq : Nat)
  /-- RSQ_STALL (R192): A head slot has waited a further SWB_RSQ_STALL volleys, and a whistle is raised. -/
  | rsqStall (cluster oq : Nat)
  /-- CLUSTER_BARRIER_END (R194): The cluster barrier's condition is met, and the held punts proceed. -/
  | clusterBarrierEnd
  /-- SCHEDULE_FRAME (R199): The scheduler hands the head frame of an eligible queue to its destination and charges the shapers. -/
  | scheduleFrame (dest ns : Nat) (cellBad : Bool)
  /-- GATE_TRANSITION (R203): An operational gate list moves to its next entry, opening and closing class gates. -/
  | gateTransition (port : Nat)
  /-- GATE_CHANGE (R204): SCH_GATE_CTL with CHANGE snapshots and checks the admin list and makes the change pending. -/
  | gateChange (o : Origin) (port tag : Nat) (early : Bool)
  /-- GATE_CANCEL (R205): SCH_GATE_CTL with CANCEL cancels a pending change that is at least 2 volleys away. -/
  | gateCancel (o : Origin) (port tag : Nat)
  /-- GATE_SWAP (R205): At volley X the admin snapshot becomes the operational list, starting at entry 0. -/
  | gateSwap (port : Nat)
  /-- SHAPER_WRITE (R213): SCH_SHP_ACC_CTL with OP write copies DATA into the pending copy of a shaper entry. -/
  | shaperWrite (o : Origin) (index : Nat)
  /-- SHAPER_READ (R213): SCH_SHP_ACC_CTL with OP read returns the shaper entry in force. -/
  | shaperRead (o : Origin) (index : Nat)
  /-- SHAPER_STATE_READ (R213): SCH_SHP_ACC_CTL with OP state read returns a node's bucket. -/
  | shaperStateRead (o : Origin) (index : Nat)
  /-- POLICER_WRITE (R225): SCH_POL_ACC_CTL with OP write copies DATA into the pending copy of a policer entry. -/
  | policerWrite (o : Origin) (index : Nat)
  /-- POLICER_READ (R225): SCH_POL_ACC_CTL with OP read returns the policer entry in force. -/
  | policerRead (o : Origin) (index : Nat)
  /-- POLICER_STATE_READ (R225): SCH_POL_ACC_CTL with OP state read returns a policer's buckets and the VN of its last charge. -/
  | policerStateRead (o : Origin) (index : Nat)
  /-- TIMER_FIRE (R241): A context's timer reaches its target volley and sets the TIMER event. -/
  | timerFire (thread : Nat)
  /-- RESULT_RETURN (R235): The result of a variable-latency instruction returns, and the WAITING thread becomes READY. -/
  | resultReturn (thread : Nat)
  /-- EVENT_STALL (R245): A core has been in event stall at DOR_STALL_VOLLEYS boundaries: a whistle is raised, a record is queued and the supervisor is told. -/
  | eventStall (cluster core : Nat)
  /-- EVENT_STALL_ESCALATE (R246): An event stall is escalated to Basecamp with detail bit 31, which may KILL a thread under BCP_ESC_CFG. -/
  | eventStallEscalate (cluster core : Nat)
  /-- THREAD_RESUME (R253): DOR_SUP_ACT RESUME continues a FAULTED or HALTED thread. -/
  | threadResume (o : Origin) (cluster thread : Nat) (pcSet : Bool) (tag : Nat)
  /-- THREAD_RESTART (R253): DOR_SUP_ACT RESTART restarts a thread's open step from its begin state. -/
  | threadRestart (o : Origin) (cluster thread tag : Nat)
  /-- THREAD_KILL (R253): DOR_SUP_ACT KILL aborts the step, discards the frames and frees the context. -/
  | threadKill (o : Origin) (cluster thread tag : Nat)
  /-- THREAD_HALT (R253): DOR_SUP_ACT HALT halts a live thread after its current instruction. -/
  | threadHalt (o : Origin) (cluster thread tag : Nat)
  /-- THREAD_START (R253): DOR_SUP_ACT START starts a thread in a FREE context. -/
  | threadStart (o : Origin) (cluster thread tag : Nat)
  /-- CORE_RESTART (R253): DOR_SUP_ACT CORE_RESTART restarts every non-FREE context of a stopped core. -/
  | coreRestart (o : Origin) (cluster thread tag : Nat)
  /-- CORE_CTL_RESTART (R262): A Basecamp write of DOR_CORE_CTL.RESTART acts as CORE_RESTART. -/
  | coreCtlRestart (o : Origin) (cluster core : Nat)
  /-- STEP_RELEASE (R255): The release engine makes the held effects of a committed step in program order. -/
  | stepRelease (cluster : Nat)
  /-- BENCH_CORE_RESTART (R257): A substituted bench core restarts the lost core's contexts. -/
  | benchCoreRestart (cluster core : Nat)
  /-- FQ_POP (R251): A write of DOR_FQ_POP removes the head of the fault queue. -/
  | fqPop (o : Origin) (cluster : Nat)
  /-- NQ_POP (R249): A write of DOR_NQ_POP removes the head of the notice queue. -/
  | nqPop (o : Origin) (cluster : Nat)
  /-- QUIESCE (R260): A write of DOR_CLU_CTL.QUIESCE = 1 halts each thread once it has no open step. -/
  | quiesce (o : Origin) (cluster : Nat)
  /-- QUIESCE_RELEASE (R260): A write of QUIESCE = 0 resumes the threads that QUIESCE halted. -/
  | quiesceRelease (o : Origin) (cluster : Nat)
  /-- CLUSTER_WAKE (R286): A sleeping cluster wakes on an event, a handed frame or a PWR_MODE write. -/
  | clusterWake (cluster : Nat)
  /-- ADD (R271): ALU ADD. -/
  | add (k : Nat) (rd ra rb : Fin 32)
  /-- SUB (R271): ALU SUB. -/
  | sub (k : Nat) (rd ra rb : Fin 32)
  /-- AND (R271): ALU AND. -/
  | and (k : Nat) (rd ra rb : Fin 32)
  /-- OR (R271): ALU OR. -/
  | or (k : Nat) (rd ra rb : Fin 32)
  /-- XOR (R271): ALU XOR. -/
  | xor (k : Nat) (rd ra rb : Fin 32)
  /-- SLL (R271): ALU logical shift left. -/
  | sll (k : Nat) (rd ra rb : Fin 32)
  /-- SRL (R271): ALU logical shift right. -/
  | srl (k : Nat) (rd ra rb : Fin 32)
  /-- SRA (R271): ALU arithmetic shift right. -/
  | sra (k : Nat) (rd ra rb : Fin 32)
  /-- SLT (R271): ALU signed set-less-than. -/
  | slt (k : Nat) (rd ra rb : Fin 32)
  /-- SLTU (R271): ALU unsigned set-less-than. -/
  | sltu (k : Nat) (rd ra rb : Fin 32)
  /-- MIN (R271): ALU signed minimum. -/
  | min (k : Nat) (rd ra rb : Fin 32)
  /-- MAX (R271): ALU signed maximum. -/
  | max (k : Nat) (rd ra rb : Fin 32)
  /-- MINU (R271): ALU unsigned minimum. -/
  | minu (k : Nat) (rd ra rb : Fin 32)
  /-- MAXU (R271): ALU unsigned maximum. -/
  | maxu (k : Nat) (rd ra rb : Fin 32)
  /-- MUL (R271): ALU multiply, low 64 bits. -/
  | mul (k : Nat) (rd ra rb : Fin 32)
  /-- MULH (R271): ALU multiply, signed high 64 bits. -/
  | mulh (k : Nat) (rd ra rb : Fin 32)
  /-- MULHU (R271): ALU multiply, unsigned high 64 bits. -/
  | mulhu (k : Nat) (rd ra rb : Fin 32)
  /-- DIV (R271): ALU signed divide. -/
  | div (k : Nat) (rd ra rb : Fin 32)
  /-- DIVU (R271): ALU unsigned divide. -/
  | divu (k : Nat) (rd ra rb : Fin 32)
  /-- REM (R271): ALU signed remainder. -/
  | rem (k : Nat) (rd ra rb : Fin 32)
  /-- REMU (R271): ALU unsigned remainder. -/
  | remu (k : Nat) (rd ra rb : Fin 32)
  /-- BSWAP (R271): ALU byte reverse. -/
  | bswap (k : Nat) (rd ra rb : Fin 32)
  /-- POPC (R271): ALU population count. -/
  | popc (k : Nat) (rd ra rb : Fin 32)
  /-- CLZ (R271): ALU count of leading zeros. -/
  | clz (k : Nat) (rd ra rb : Fin 32)
  /-- CTZ (R271): ALU count of trailing zeros. -/
  | ctz (k : Nat) (rd ra rb : Fin 32)
  /-- ADDI (R270): Add a sign-extended immediate. -/
  | addi (k : Nat) (rd ra : Fin 32) (imm : BitVec 16)
  /-- ANDI (R270): AND with a zero-extended immediate. -/
  | andi (k : Nat) (rd ra : Fin 32) (imm : BitVec 16)
  /-- ORI (R270): OR with a zero-extended immediate. -/
  | ori (k : Nat) (rd ra : Fin 32) (imm : BitVec 16)
  /-- XORI (R270): XOR with a zero-extended immediate. -/
  | xori (k : Nat) (rd ra : Fin 32) (imm : BitVec 16)
  /-- SLTI (R272): Signed compare with an immediate. -/
  | slti (k : Nat) (rd ra : Fin 32) (imm : BitVec 16)
  /-- SLTIU (R272): Unsigned compare with an immediate. -/
  | sltiu (k : Nat) (rd ra : Fin 32) (imm : BitVec 16)
  /-- SHI (R272): Shift or rotate by an immediate. -/
  | shi (k : Nat) (rd ra : Fin 32) (imm : BitVec 16)
  /-- LIH (R270): Load the immediate shifted left by 16. -/
  | lih (k : Nat) (rd : Fin 32) (imm : BitVec 21)
  /-- ADR (R270): Form a PC-relative address. -/
  | adr (k : Nat) (rd : Fin 32) (imm : BitVec 21)
  /-- LD_B (R270): Load a signed byte. -/
  | ldB (k : Nat) (rd ra : Fin 32) (imm : BitVec 16) (bad : Bool)
  /-- LD_H (R270): Load a signed halfword. -/
  | ldH (k : Nat) (rd ra : Fin 32) (imm : BitVec 16) (bad : Bool)
  /-- LD_W (R270): Load a signed word. -/
  | ldW (k : Nat) (rd ra : Fin 32) (imm : BitVec 16) (bad : Bool)
  /-- LD_D (R270): Load a doubleword. -/
  | ldD (k : Nat) (rd ra : Fin 32) (imm : BitVec 16) (bad : Bool)
  /-- LD_BU (R270): Load an unsigned byte. -/
  | ldBu (k : Nat) (rd ra : Fin 32) (imm : BitVec 16) (bad : Bool)
  /-- LD_HU (R270): Load an unsigned halfword. -/
  | ldHu (k : Nat) (rd ra : Fin 32) (imm : BitVec 16) (bad : Bool)
  /-- LD_WU (R270): Load an unsigned word. -/
  | ldWu (k : Nat) (rd ra : Fin 32) (imm : BitVec 16) (bad : Bool)
  /-- ST_B (R270): Store a byte. -/
  | stB (k : Nat) (rb ra : Fin 32) (imm : BitVec 16)
  /-- ST_H (R270): Store a halfword. -/
  | stH (k : Nat) (rb ra : Fin 32) (imm : BitVec 16)
  /-- ST_W (R270): Store a word. -/
  | stW (k : Nat) (rb ra : Fin 32) (imm : BitVec 16)
  /-- ST_D (R270): Store a doubleword. -/
  | stD (k : Nat) (rb ra : Fin 32) (imm : BitVec 16)
  /-- AMO_SWAP (R273): Atomic swap. -/
  | amoSwap (k : Nat) (rd ra rb : Fin 32) (bad : Bool)
  /-- AMO_ADD (R273): Atomic add. -/
  | amoAdd (k : Nat) (rd ra rb : Fin 32) (bad : Bool)
  /-- AMO_AND (R273): Atomic AND. -/
  | amoAnd (k : Nat) (rd ra rb : Fin 32) (bad : Bool)
  /-- AMO_OR (R273): Atomic OR. -/
  | amoOr (k : Nat) (rd ra rb : Fin 32) (bad : Bool)
  /-- AMO_XOR (R273): Atomic XOR. -/
  | amoXor (k : Nat) (rd ra rb : Fin 32) (bad : Bool)
  /-- AMO_MIN (R273): Atomic signed minimum. -/
  | amoMin (k : Nat) (rd ra rb : Fin 32) (bad : Bool)
  /-- AMO_MAX (R273): Atomic signed maximum. -/
  | amoMax (k : Nat) (rd ra rb : Fin 32) (bad : Bool)
  /-- AMO_MINU (R273): Atomic unsigned minimum. -/
  | amoMinu (k : Nat) (rd ra rb : Fin 32) (bad : Bool)
  /-- AMO_MAXU (R273): Atomic unsigned maximum. -/
  | amoMaxu (k : Nat) (rd ra rb : Fin 32) (bad : Bool)
  /-- CAS (R273): Compare and swap, writing F. -/
  | cas (k : Nat) (rd ra rb : Fin 32) (fn : BitVec 11) (bad : Bool)
  /-- FENCE (R289): Wait until the thread's earlier accesses are visible. -/
  | fence (k : Nat) (rd ra rb : Fin 32)
  /-- BEQ (R274): Branch if equal. -/
  | beq (k : Nat) (rb ra : Fin 32) (imm : BitVec 16)
  /-- BNE (R274): Branch if not equal. -/
  | bne (k : Nat) (rb ra : Fin 32) (imm : BitVec 16)
  /-- BLT (R274): Branch if signed less than. -/
  | blt (k : Nat) (rb ra : Fin 32) (imm : BitVec 16)
  /-- BGE (R274): Branch if signed greater than or equal. -/
  | bge (k : Nat) (rb ra : Fin 32) (imm : BitVec 16)
  /-- BLTU (R274): Branch if unsigned less than. -/
  | bltu (k : Nat) (rb ra : Fin 32) (imm : BitVec 16)
  /-- BGEU (R274): Branch if unsigned greater than or equal. -/
  | bgeu (k : Nat) (rb ra : Fin 32) (imm : BitVec 16)
  /-- BF (R274): Branch when F is 1. -/
  | bf (k : Nat) (rb ra : Fin 32) (imm : BitVec 16)
  /-- BNF (R274): Branch when F is 0. -/
  | bnf (k : Nat) (rb ra : Fin 32) (imm : BitVec 16)
  /-- JMP (R274): Jump. -/
  | jmp (k : Nat) (off : BitVec 26)
  /-- CALL (R274): Jump, saving the return address in g31. -/
  | call (k : Nat) (off : BitVec 26)
  /-- JR (R274): Jump to a register. -/
  | jr (k : Nat) (rd ra rb : Fin 32)
  /-- JALR (R274): Jump to a register and link. -/
  | jalr (k : Nat) (rd ra rb : Fin 32)
  /-- XTR (R276): Extract bits of KV into a register. -/
  | xtr (k : Nat) (rd ra : Fin 32) (kbit : BitVec 10) (w : BitVec 6)
  /-- INS (R276): Insert register bits into KV. -/
  | ins (k : Nat) (rd ra : Fin 32) (kbit : BitVec 10) (w : BitVec 6)
  /-- KVLD (R275): Load KV and the epoch stamp from a frame's metadata. -/
  | kvld (k : Nat) (rd ra rb : Fin 32) (bad : Bool)
  /-- KVST (R275): Store KV into a frame's metadata. -/
  | kvst (k : Nat) (rd ra rb : Fin 32)
  /-- KVCLR (R275): Clear KV and KV_EVALID. -/
  | kvclr (k : Nat) (rd ra rb : Fin 32)
  /-- LKP (R277): Look up a table in the current epoch or the frame's epoch. -/
  | lkp (k : Nat) (rd ra rb : Fin 32) (fn : BitVec 11) (parity : Bool)
  /-- CRC (R278): Update a running CRC. -/
  | crc (k : Nat) (rd ra rb : Fin 32) (fn : BitVec 11)
  /-- CTRADD (R279): Add 1 packet and RB bytes to a counter pair. -/
  | ctradd (k : Nat) (rd ra rb : Fin 32)
  /-- CTRADD_BYTES (R279): CTRADD with FN 0x001 adds RB to BYTES only. -/
  | ctraddBytes (k : Nat) (rd ra rb : Fin 32)
  /-- PTAKE (R280): Take the head frame of the core's punt queue. -/
  | ptake (k : Nat) (rd ra rb : Fin 32)
  /-- PRET (R280): Return a frame under its reorder word. -/
  | pret (k : Nat) (rd ra rb : Fin 32)
  /-- PRET_END (R280): Return a frame and mark it as ending its reorder slot. -/
  | pretEnd (k : Nat) (rd ra rb : Fin 32)
  /-- PFREE (R280): Discard a frame and free its blocks. -/
  | pfree (k : Nat) (rd ra rb : Fin 32)
  /-- BALLOC (R280): Allocate a new frame of buffer blocks. -/
  | balloc (k : Nat) (rd ra rb : Fin 32)
  /-- FORK (R242): Start a child thread, or fail at once. -/
  | fork (k : Nat) (rd ra rb : Fin 32)
  /-- FORK_D (R242): Start a detached child thread, or fail at once. -/
  | forkD (k : Nat) (rd ra rb : Fin 32)
  /-- FORKW (R243): Start a child thread, waiting for a free context. -/
  | forkw (k : Nat) (rd ra rb : Fin 32)
  /-- FORKW_D (R243): Start a detached child thread, waiting for a free context. -/
  | forkwD (k : Nat) (rd ra rb : Fin 32)
  /-- JOIN (R244): Wait for a child to exit and collect its exit value. -/
  | join (k : Nat) (rd ra rb : Fin 32)
  /-- EXIT (R244): End the thread. -/
  | exit (k : Nat) (rd ra rb : Fin 32)
  /-- SEV (R240): Set the SOFT event of another thread. -/
  | sev (k : Nat) (rd ra rb : Fin 32)
  /-- TMARM (R241): Arm the timer with a target VN. -/
  | tmarm (k : Nat) (rd ra rb : Fin 32)
  /-- TMDIS (R241): Disarm the timer. -/
  | tmdis (k : Nat) (rd ra rb : Fin 32)
  /-- WFE (R239): Wait for an event in a mask, or complete at once when one is pending. -/
  | wfe (k : Nat) (rd ra : Fin 32) (imm : BitVec 16)
  /-- SBEGIN (R254): Open a step, saving the registers and PC. -/
  | sbegin (k : Nat) (rd ra rb : Fin 32)
  /-- SCOMMIT (R255): Write the commit mark of the open step. -/
  | scommit (k : Nat) (rd ra rb : Fin 32)
  /-- SABORT (R255): Abort the open step, discarding its held effects. -/
  | sabort (k : Nat) (rd ra rb : Fin 32)
  /-- SYS (R285): Read a system value. -/
  | sys (k : Nat) (rd ra rb : Fin 32) (fn : BitVec 11)
  /-- WAIT (R286): A supervisor or Basecamp checks its preconditions and sleeps, or returns the outcome bits. -/
  | wait (k : Nat) (rd ra rb : Fin 32) (fn : BitVec 11)
  /-- BRK (R287): Raise a BREAK fault. -/
  | brk (k : Nat) (off : BitVec 26)
  /-- SURPRISE_REMOVAL (R314): A link leaves DL_Active with PERST# deasserted, and its pitches are stopped with HOST_GONE. -/
  | surpriseRemoval (link : Nat)
  /-- PCIE_LINK_UP (R294): A PCIe link trains to its rate and width. -/
  | pcieLinkUp (link speed width : Nat) (flit l0p : Bool)
  /-- REGISTER_WRITE (R298): A write to a register that has no row of its own, with its Logbook record and its access checks. -/
  | registerWrite (o : Origin) (off width v left : Nat)
  /-- WORK_DOORBELL (R321): A work doorbell is judged against the ring and accepted, ignored or rejected. -/
  | workDoorbell (o : Origin) (off width v : Nat)
  /-- COMPLETION_DOORBELL (R351): A completion doorbell frees completion-ring entries and may arm the interrupt. -/
  | completionDoorbell (o : Origin) (off width v : Nat)
  /-- BAR4_REQUEST (R305): A BAR4 request is translated through the Window table, or refused. -/
  | bar4Request (space : HostSpace) (link addr len : Nat) (pasid : Option Nat) (write atomic : Bool) (data : List Byte) (span : Nat) (parity : List (Nat × Nat))
  /-- PMAP_READ (R303): HIF_PMAP_ACC_CTL with OP read copies a Pitch Map entry into DATA. -/
  | pmapRead (o : Origin) (tag index : Nat)
  /-- PMAP_WRITE (R303): HIF_PMAP_ACC_CTL with OP write writes a Pitch Map entry, subject to uniqueness and binding. -/
  | pmapWrite (o : Origin) (tag index : Nat)
  /-- WIN_WRITE_PENDING (R307): HIF_WIN_ACC_CTL with OP write pending writes DATA into a window's pending image. -/
  | winWritePending (o : Origin) (tag index : Nat)
  /-- WIN_READ (R307): HIF_WIN_ACC_CTL with OP read in force returns a window entry. -/
  | winRead (o : Origin) (tag index : Nat)
  /-- WIN_READ_PENDING (R307): HIF_WIN_ACC_CTL with OP read pending returns a window's pending image. -/
  | winReadPending (o : Origin) (tag index : Nat)
  /-- WIN_COMMIT (R307): HIF_WIN_COMMIT with GO checks the pending copy of the Window table. -/
  | winCommit (o : Origin) (tag : Nat)
  /-- WIN_DISCARD (R307): HIF_WIN_COMMIT with DISCARD returns the pending copy to the entries in force. -/
  | winDiscard (o : Origin) (tag : Nat)
  /-- WIN_COMMIT_POINT (R308): A WAITING window commit reaches its commit point, and the new mapping takes effect. -/
  | winCommitPoint
  /-- COMPLETION_RECEIVED (R311): A PCIe completion arrives and ends its request, or is discarded as unexpected. -/
  | completionReceived (link tag : Nat) (ok last : Bool) (data : List Byte)
  /-- COMPLETION_TIMEOUT (R310): A non-posted request times out, fails with HOST_TIMEOUT, and its tag is quarantined. -/
  | completionTimeout (link tag : Nat)
  /-- TAG_RELEASE (R311): A quarantined tag is released after twice the timeout. -/
  | tagRelease (link tag : Nat)
  /-- L1_ENTRY (R312): A link idle for HIF_LPM.L1_IDLE µs enters ASPM L1 or L1.2. -/
  | l1Entry (link : Nat)
  /-- L0P_REDUCE (R312): A lightly loaded FLIT link reduces its width to L0P_WIDTH. -/
  | l0pReduce (link low : Nat)
  /-- L0P_RESTORE (R312): A reduced link returns to full width. -/
  | l0pRestore (link : Nat)
  /-- MSIX_UNMASK (R313): Unmasking an MSI-X vector sends its pending message. -/
  | msixUnmask (link vector : Nat)
  /-- FUNCTION_RESET (R494): An FLR or a single-port PERST# starts a function reset of the link. -/
  | functionReset (link : Nat)
  /-- PERST_ASSERT (R494): PERST# is asserted on a port, as a function reset or, on every port, a device-warm reset. -/
  | perstAssert (port : Nat)
  /-- RING_TURN (R333): An arbiter gives a ring its turn, and the turn fetches, validates and accepts up to BURST descriptors. -/
  | ringTurn (arbiter : Nat) (answers : List Fetch)
  /-- LOOKAHEAD_READ (R329): A stamped ring reads slots beyond P into lookahead copies. -/
  | lookaheadRead (ring : Nat) (answers : List Fetch)
  /-- IDLE_CLOSE (R335): An open batch with no item accepted for IDLE_CLOSE volleys is closed. -/
  | idleClose (ring : Nat)
  /-- POST_COMPLETION (R338): A batch's completion is written, P_cq is written back, and the records are marked COMPLETED. -/
  | postCompletion (ring : Nat)
  /-- MOD_TIME_EXPIRY (R350): MOD_TIME µs pass after the first counted entry, and the interrupt is sent. -/
  | modTimeExpiry (cq : Nat)
  /-- RECEIVE_DELIVERY (R344): A frame for a host virtual port or a punt ring is placed into the next accepted RECV item. -/
  | receiveDelivery (ring : Nat)
  /-- FW_DONE (R347): A write of RNG_FW_DONE by the server thread releases a FIRMWARE item. -/
  | fwDone (o : Origin) (index ring status : Nat)
  /-- RING_READ (R352): RNG_RING_ACC_CTL with OP READ returns a context or entry. -/
  | ringRead (o : Origin) (table index tag : Nat)
  /-- RING_WRITE (R352): RNG_RING_ACC_CTL with OP WRITE writes a context, pitch entry or RXMAP entry. -/
  | ringWrite (o : Origin) (table index tag : Nat)
  /-- RING_STATE (R356): RNG_RING_ACC_CTL with OP STATE returns a ring's indices and state. -/
  | ringState (o : Origin) (table index tag : Nat)
  /-- RING_ENABLE (R354): RNG_RING_ACC_CTL with OP ENABLE checks and enables a ring or completion ring. -/
  | ringEnable (o : Origin) (table index tag : Nat)
  /-- RING_DISABLE (R349): RNG_RING_ACC_CTL with OP DISABLE drains and disables a ring. -/
  | ringDisable (o : Origin) (table index tag : Nat)
  /-- RING_RESUME (R349): RNG_RING_ACC_CTL with OP RESUME returns a ring from ERROR to ACTIVE. -/
  | ringResume (o : Origin) (table index tag : Nat) (skip : Bool)
  /-- RING_RESET (R349): RNG_RING_ACC_CTL with OP RESET drains a ring and resets its indices. -/
  | ringReset (o : Origin) (table index tag : Nat)
  /-- RING_DRAIN_END (R349): The last accepted item of a draining ring completes, and the RESET or DISABLE finishes. -/
  | ringDrainEnd (ring : Nat)
  /-- RNG_ERR_LOG_READ (R359): A read of RNG_ERR_LOG returns and removes the head of its FIFO. -/
  | rngErrLogRead (link : Nat)
  /-- SHADOW_WRITE (R370): A write to a DMA shadow register sets SHADOW_DIRTY, or is dropped while ARMED. -/
  | shadowWrite (o : Origin) (inst unit which v : Nat)
  /-- ARM (R364): DMA_CH_CTL.ARM checks the shadow set and locks it, or starts it at once on an IDLE channel. -/
  | arm (o : Origin) (inst unit tag : Nat)
  /-- RECLAIM (R374): DMA_CH_CTL.RECLAIM clears the shadow and gives the channel to the supervisor or to NONE. -/
  | reclaim (o : Origin) (inst unit tag : Nat)
  /-- CHANNEL_RESET (R374): DMA_CH_CTL.RESET stops the transfer and waits for outstanding requests. -/
  | channelReset (o : Origin) (inst unit tag : Nat)
  /-- CHANNEL_RESUME (R372): DMA_CH_CTL.RESUME clears ERROR and starts any armed shadow. -/
  | channelResume (o : Origin) (inst unit tag : Nat)
  /-- OWNER_WRITE (R362): A DMA_CH_OWNER write changes a channel's owner, or is refused. -/
  | ownerWrite (o : Origin) (inst unit v : Nat)
  /-- COMPLETION_POINT (R367): The last proof of arrival returns, the transfer completes, and the owner is told. -/
  | completionPoint (inst unit : Nat)
  /-- TRANSFER_FAILED (R372): After a request fails and the outstanding requests settle, the channel enters ERROR. -/
  | transferFailed (inst unit : Nat)
  /-- CHANNEL_RESET_DONE (R374): A resetting channel becomes IDLE. -/
  | channelResetDone (inst unit : Nat)
  /-- DMA_OWNER_HALT (R373): A channel's owner has been halted with a dirty shadow for DMA_OWNER_HALT_LIMIT boundaries, and the halt is reported. -/
  | dmaOwnerHalt (inst unit : Nat)
  /-- DMA_HALT_LOG_READ (R377): A read of DMA_HALT_LOG returns and removes the head of its FIFO. -/
  | dmaHaltLogRead (link inst : Nat)
  /-- CRYPTO_DISPATCH (R379): The SA sequencer assigns a number and dispatches a frame or item to a lane. -/
  | cryptoDispatch (frame : Nat) (item : Option ItemRef)
  /-- LANE_OUTPUT (R407): A lane's checked output leaves the lane, after the replay check for an opened frame. -/
  | laneOutput (lane mismatch : Nat)
  /-- SA_READ (R382): CRY_SA_ACC_CTL with OP read returns an SA entry. -/
  | saRead (o : Origin) (index : Nat)
  /-- SA_WRITE (R382): CRY_SA_ACC_CTL with OP write checks and writes an SA entry. -/
  | saWrite (o : Origin) (index : Nat)
  /-- KEYPORT_ACQUIRE (R397): A read of CRY_KEYPORT_LOCK grants a free Key Port, or reports its holder. -/
  | keyportAcquire (o : Origin)
  /-- KEYPORT_RELEASE (R397): The holder's write of RELEASE frees the Key Port and zeroes DATA. -/
  | keyportRelease (o : Origin)
  /-- KEYPORT_TIMEOUT (R397): The Key Port's 1 ms timeout expires and the port is released. -/
  | keyportTimeout
  /-- KEYPORT_LOAD (R398): CRY_KEYPORT_CTL with OP LOAD unwraps a key under the KEK into a slot. -/
  | keyportLoad (o : Origin) (slot typ owner : Nat) (ownerValid : Bool) (tag : Nat)
  /-- KEYPORT_ERASE (R398): CRY_KEYPORT_CTL with OP ERASE empties a slot. -/
  | keyportErase (o : Origin) (slot tag : Nat)
  /-- KEYPORT_GENERATE (R398): CRY_KEYPORT_CTL with OP GENERATE fills a slot with a random key. -/
  | keyportGenerate (o : Origin) (slot typ owner : Nat) (ownerValid : Bool) (tag : Nat)
  /-- KEYPORT_OP_DONE (R398): A Key Port operation completes, its RESULT is set, and BUSY clears. -/
  | keyportOpDone
  /-- CRY_KEK_LOAD (R400): The CRY_KEK_LOAD capsule unwraps and loads the KEK. -/
  | cryKekLoad (src : CapSrc) (buf : Fetch) (tripping : Nat)
  /-- CRY_KEK_ERASE (R400): The CRY_KEK_ERASE capsule removes the KEK. -/
  | cryKekErase (src : CapSrc)
  /-- ALARM (R405): An alarm source trips: it is latched, dispatch stops, and the key erase begins. -/
  | alarm (sources : Nat)
  /-- KEY_ERASE_DONE (R405): Every key is zero, ERASED is set, and LOCKDOWN is entered. -/
  | keyEraseDone
  /-- ZEROING (R402): In BRINGUP Basecamp generates the no-pitch and spill keys and starts zeroing the device regions. -/
  | zeroing
  /-- ZEROING_DONE (R402): The zeroing of the device regions ends, and MEM may report ready. -/
  | zeroingDone
  /-- GET_VERSION (R408): SPDM GET_VERSION request. -/
  | getVersion (p : MsgPath) (req : List Byte)
  /-- GET_CAPABILITIES (R408): SPDM GET_CAPABILITIES request. -/
  | getCapabilities (p : MsgPath) (req : List Byte)
  /-- NEGOTIATE_ALGORITHMS (R408): SPDM NEGOTIATE_ALGORITHMS request. -/
  | negotiateAlgorithms (p : MsgPath) (req : List Byte)
  /-- GET_DIGESTS (R408): SPDM GET_DIGESTS request. -/
  | getDigests (p : MsgPath) (req : List Byte)
  /-- GET_CERTIFICATE (R408): SPDM GET_CERTIFICATE request. -/
  | getCertificate (p : MsgPath) (req : List Byte)
  /-- CHALLENGE (R408): SPDM CHALLENGE request. -/
  | challenge (p : MsgPath) (req : List Byte)
  /-- GET_MEASUREMENTS (R408): SPDM GET_MEASUREMENTS request. -/
  | getMeasurements (p : MsgPath) (index : Nat) (req : List Byte)
  /-- CONN_INSTALL (R414): STX_ACC_CTL INSTALL checks and installs a connection. -/
  | connInstall (o : Origin) (index tag : Nat)
  /-- STX_READ (R414): STX_ACC_CTL READ returns a connection or namespace image. -/
  | stxRead (o : Origin) (index : Nat) (namespc : Bool) (tag : Nat)
  /-- CONN_REMOVE (R414): STX_ACC_CTL REMOVE stops a connection, aborts its items, returns its image and frees it. -/
  | connRemove (o : Origin) (index tag : Nat)
  /-- NS_WRITE (R416): STX_ACC_CTL WRITE checks and writes a namespace entry. -/
  | nsWrite (o : Origin) (index tag : Nat)
  /-- STX_CONN_LOG_READ (R433): A read of STX_CONN_LOG returns and removes the head of its FIFO. -/
  | stxConnLogRead (link : Nat)
  /-- STORE_START (R421): The engine starts an accepted STORE item and runs its checks. -/
  | storeStart (item : ItemRef) (sqe : List Fetch) (miss : Bool)
  /-- COMMAND_SEND (R422): An item obtains a tag, and its command is built and sent. -/
  | commandSend (conn : Nat)
  /-- CAPSULE_RESP (R425): A received CapsuleResp PDU ends its command. -/
  | capsuleResp (conn : Nat)
  /-- C2H_DATA (R426): A received C2HData PDU is checked, decrypted and placed. -/
  | c2hData (conn : Nat)
  /-- RECEIVE_R2T (R424): A received R2T is answered with H2CData PDUs. -/
  | receiveR2t (conn : Nat)
  /-- TCP_SEGMENT (R428): A TCP segment of a connection is received, acknowledged, taken or dropped. -/
  | tcpSegment (conn : Nat) (miss : Bool)
  /-- FIN_RECEIVED (R428): A received FIN moves the connection to CLOSED. -/
  | finReceived (conn : Nat) (miss : Bool)
  /-- RST_RECEIVED (R428): A received RST moves the connection to ERROR. -/
  | rstReceived (conn : Nat) (miss : Bool)
  /-- DELAYED_ACK (R428): 40 µs pass with a segment unacknowledged, and an ACK is sent. -/
  | delayedAck (conn : Nat)
  /-- RTO_EXPIRY (R428): The TCP retransmission timer expires, the segment is retransmitted, or the connection fails. -/
  | rtoExpiry (conn : Nat)
  /-- PERSIST_TIMER (R428): The persist timer of a zero window expires. -/
  | persistTimer (conn : Nat)
  /-- ROCE_ACK_RECEIVED (R431): A RoCE ACK is received as requester. -/
  | roceAckReceived (conn : Nat) (miss : Bool)
  /-- NAK_RECEIVED (R431): A RoCE NAK is received, causing go-back-N or an RNR wait. -/
  | nakReceived (conn : Nat) (miss : Bool)
  /-- CNP_RECEIVED (R431): A received CNP is counted. -/
  | cnpReceived (conn : Nat) (miss : Bool)
  /-- RDMA_WRITE (R430): An RDMA WRITE packet is checked and placed as responder. -/
  | rdmaWrite (conn : Nat) (miss : Bool)
  /-- RDMA_READ_REQUEST (R430): An RDMA READ Request is checked and served from host memory. -/
  | rdmaReadRequest (conn : Nat) (miss : Bool)
  /-- RESPONSE_SEND (R429): A RoCE SEND carrying the 16-byte response ends its command. -/
  | responseSend (conn : Nat) (miss : Bool)
  /-- ACK_TIMEOUT (R431): No RoCE acknowledgement arrives in time, causing go-back-N or exhaustion. -/
  | ackTimeout (conn : Nat)
  /-- RNR_WAIT_END (R431): The wait of an RNR NAK ends, and the packets are retransmitted. -/
  | rnrWaitEnd (conn : Nat)
  /-- BIND (R436): PIT_CTL BIND gives a pitch a memory key and makes it ACTIVE. -/
  | bind (o : Origin) (pitch tag : Nat)
  /-- RESET_DRAIN (R445): PIT_CTL RESET_DRAIN requests a pitch reset by drain. -/
  | resetDrain (o : Origin) (pitch tag : Nat)
  /-- RESET_SQUASH (R446): PIT_CTL RESET_SQUASH requests a pitch reset by squash. -/
  | resetSquash (o : Origin) (pitch tag : Nat)
  /-- PITCH_RESET_BEGIN (R444): At the boundary after the request, acceptance stops and the pitch's doorbells are dropped. -/
  | pitchResetBegin
  /-- DRAIN_END (R447): No item of the pitch remains, and the reset ends with the rings reset and the pitch ACTIVE. -/
  | drainEnd
  /-- DRAIN_LIMIT (R445): PIT_DRAIN_LIMIT volleys pass, and the drain turns into a squash. -/
  | drainLimit
  /-- SQUASH_END (R446): The squash finishes, and the reset ends under its closing rule. -/
  | squashEnd
  /-- FREEZE (R449): PIT_CTL FREEZE requests that a pitch be frozen. -/
  | freeze (o : Origin) (pitch tag : Nat)
  /-- FREEZE_BEGIN (R449): At the next boundary the pitch's acceptance stops and its batches close. -/
  | freezeBegin
  /-- FREEZE_END (R449): Every accepted item has completed, and the pitch is FROZEN. -/
  | freezeEnd
  /-- FREEZE_LIMIT (R449): PIT_FREEZE_LIMIT volleys pass, and the pitch returns to ACTIVE. -/
  | freezeLimit
  /-- THAW (R455): PIT_CTL THAW opens acceptance at the next boundary. -/
  | thaw (o : Origin) (pitch tag : Nat)
  /-- SAVE (R453): PIT_CTL SAVE checks and starts writing the pitch image to host memory. -/
  | save (o : Origin) (pitch link tag : Nat)
  /-- SAVE_DONE (R453): The image's flush read completes, and the pitch is SAVED. -/
  | saveDone (fail : Option Nat)
  /-- RESTORE (R454): PIT_CTL RESTORE starts reading a pitch image from host memory. -/
  | restore (o : Origin) (pitch link tag : Nat)
  /-- RESTORE_DONE (R454): The image has been read; it is checked and installed, and the pitch is FROZEN. -/
  | restoreDone (img : Fetch)
  /-- RELEASE (R456): PIT_CTL RELEASE squashes a pitch before unbinding it. -/
  | release (o : Origin) (pitch tag : Nat)
  /-- RELEASE_DONE (R456): The pitch's resources are freed, its keys erased, and the pitch is UNBOUND. -/
  | releaseDone
  /-- WHISTLE (R465): The collector receives a whistle, logs or refuses it, and counts it in its window. -/
  | whistle (check : Option UnitCheck)
  /-- WINDOW_END (R467): A window entry's window ends, and it is reset or freed. -/
  | windowEnd (entry : Nat)
  /-- FENCE_IN_FORCE (R470): At the boundary after the decision, the fence of a unit takes force at every receiver. -/
  | fenceInForce
  /-- SUBSTITUTION (R475): At D+2 the position's epoch advances and a bench unit takes the position, or the position is left UNSERVED. -/
  | substitution
  /-- COPY_COMPLETE (R475): The copy of a pseudo-channel to its bench unit completes. -/
  | copyComplete (lost : List Nat)
  /-- REPAIR_COMPLETE (R472): A repair reset completes, and its cause is RESOLVED. -/
  | repairComplete (unit : Nat)
  /-- SELF_TEST_END (R479): A readmission self-test passes or fails. -/
  | selfTestEnd (unit : Nat) (pass : Bool)
  /-- READMISSION (R479): At the boundary after a passed test, the fence is lifted at every receiver. -/
  | readmission
  /-- REF_CLEAR (R480): A write of REF_CLEAR.GO judges and clears the REF status. -/
  | refClear (o : Origin)
  /-- CHECKPOINT (R500): At a boundary whose VN is a multiple of 25,000, a counter checkpoint image starts. -/
  | checkpoint (bad : List ItemRef)
  /-- CHECKPOINT_DONE (R500): A checkpoint image is written, and JNL_CKPT_VN is updated. -/
  | checkpointDone
  /-- DEVICE_WARM_RESET (R495): A write of SITE_RESET.WARM starts a device-warm reset. -/
  | deviceWarmReset (o : Origin)
  /-- RESET_BOUNDARY (R495): At B, stages are frozen, the blocks reached are reset, and the frames in scope are dropped. -/
  | resetBoundary (bad : List ItemRef)
  /-- REPLAY (R496): For each ring in scope, RELEASED items complete and ACCEPTED items are re-executed before acceptance resumes. -/
  | replay (ring : Nat)
  /-- PWRFAIL (R502): A falling PWRFAIL_N is latched. -/
  | pwrfail
  /-- PWRFAIL_BOUNDARY (R502): At V0 acceptance, admission and state changes stop. -/
  | pwrfailBoundary
  /-- FLUSH_START (R502): At V1 the stages are frozen and the flush image starts. -/
  | flushStart
  /-- FLUSHED (R502): The flush image is sealed, and every block halts. -/
  | flushed
  /-- PWRFAIL_RECOVER (R502): PWRFAIL_N has been high for 10 ms with the rails in specification, and the device restarts. -/
  | pwrfailRecover
  /-- POWER_LOSS (R506): The rails leave specification, and all state not held in non-volatile storage is lost. -/
  | powerLoss (cut : Nat)
  /-- JOURNAL_RESTORE (R505): Basecamp restores the journal and ring state from a valid flush image. -/
  | journalRestore (corrupt : List Nat)
  /-- JNL_DISCARD (R505): A write of JNL_CTL.DISCARD frees the restored records and disables the restored rings. -/
  | jnlDiscard (o : Origin)
  /-- SITE_INFO (R556): The SITE_INFO capsule copies Site Map bytes to a buffer. -/
  | siteInfo (src : CapSrc)
  /-- SITE_REG_READ (R558): The SITE_REG_READ capsule reads a BAR0 register. -/
  | siteRegRead (src : CapSrc)
  /-- SITE_REG_WRITE (R558): The SITE_REG_WRITE capsule writes a BAR0 register. -/
  | siteRegWrite (src : CapSrc) (left : Nat)
  /-- CAL_READ (R556): The CAL_READ capsule copies the Trim Set as stored. -/
  | calRead (src : CapSrc)
  /-- DOR_LOAD (R259): The DOR_LOAD capsule loads a firmware image into a quiesced cluster. -/
  | dorLoad (src : CapSrc) (buf : Fetch)
  /-- DOR_THREAD_ACT (R556): The DOR_THREAD_ACT capsule performs a DOR_SUP_ACT operation. -/
  | dorThreadAct (src : CapSrc)
  /-- PIT_RESET (R519): The PIT_RESET capsule resets the tenant's pitch by drain or squash. -/
  | pitReset (src : CapSrc)
  /-- PIT_INFO (R558): The PIT_INFO capsule returns a pitch's state, quota, use and counters. -/
  | pitInfo (src : CapSrc)
  /-- PIT_OP (R556): The PIT_OP capsule carries out a PIT_CTL operation. -/
  | pitOp (src : CapSrc)
  /-- PIT_MIGKEY_LOAD (R450): The PIT_MIGKEY_LOAD capsule loads the migration key. -/
  | pitMigkeyLoad (src : CapSrc) (buf : Fetch)
  /-- CRY_KEY_LOAD (R558): The CRY_KEY_LOAD capsule loads a key slot through the Key Port. -/
  | cryKeyLoad (src : CapSrc) (buf : Fetch)
  /-- CRY_KEY_ERASE (R558): The CRY_KEY_ERASE capsule erases a key slot through the Key Port. -/
  | cryKeyErase (src : CapSrc)
  /-- CRY_SA_WRITE (R556): The CRY_SA_WRITE capsule writes an SA entry. -/
  | crySaWrite (src : CapSrc) (buf : Fetch)
  /-- STX_CONN_INSTALL (R556): The STX_CONN_INSTALL capsule installs a connection. -/
  | stxConnInstall (src : CapSrc) (buf : Fetch)
  /-- STX_CONN_REMOVE (R556): The STX_CONN_REMOVE capsule removes a connection and returns its image. -/
  | stxConnRemove (src : CapSrc)
  /-- STX_NS_WRITE (R556): The STX_NS_WRITE capsule writes a namespace entry. -/
  | stxNsWrite (src : CapSrc)
  /-- BCP_REBOOT (R511): The BCP_REBOOT capsule reboots Basecamp. -/
  | bcpReboot (src : CapSrc)
  /-- BCP_IMGKEY_SET (R533): The BCP_IMGKEY_SET capsule adds an image key digest to the key record. -/
  | bcpImgkeySet (src : CapSrc) (buf : Fetch)
  /-- BCP_SVN_COMMIT (R533): The BCP_SVN_COMMIT capsule raises the fused minimum SVN. -/
  | bcpSvnCommit (src : CapSrc)
  /-- LOG_READ (R526): The LOG_READ capsule copies Logbook records to a buffer. -/
  | logRead (src : CapSrc)
  /-- BENCH_READMIT (R479): The BENCH_READMIT capsule starts the self-test of a fenced unit. -/
  | benchReadmit (src : CapSrc)
  /-- JNL_CKPT_READ (R556): The JNL_CKPT_READ capsule copies bytes of a checkpoint image. -/
  | jnlCkptRead (src : CapSrc)
  /-- PWR_DORMANT (R537): The PWR_DORMANT capsule holds acceptance and begins the entry to DORMANT. -/
  | pwrDormant (src : CapSrc)
  /-- JOURNAL_EMPTY_WAIT_END (R537): The wait for an empty journal ends, and the flush image is written or DORMANT is abandoned. -/
  | journalEmptyWaitEnd
  /-- SEAL_ACK (R523): A record's SEAL write is acknowledged, and the change waiting on it may take effect. -/
  | sealAck (left : Nat)
  /-- TORN_SCAN (R527): In BRINGUP Basecamp marks the records cut by an unannounced power loss as TORN. -/
  | tornScan
  /-- SENSOR_SAMPLE (R528): Every 25,000 volleys the sensors are sampled and checked against their limits. -/
  | sensorSample (raw : List Int)
  /-- BCP_EVENT_LOG_READ (R530): A read of BCP_EVENT_LOG returns and removes the head of its FIFO. -/
  | bcpEventLogRead (link : Nat)
  /-- LOCKSTEP_MISMATCH (R511): The lockstep cores disagree, halt, and Basecamp reboots. -/
  | lockstepMismatch
  /-- WATCHDOG_EXPIRY (R511): BCP_WDT expires, and Basecamp reboots. -/
  | watchdogExpiry
  /-- WDT_WRITE (R543): A write of BCP_WDT restarts the watchdog. -/
  | wdtWrite (o : Origin) (v : Nat)
  /-- BASECAMP_RUNNING (R511): A Basecamp reboot completes, and BCP_STATUS reads RUNNING. -/
  | basecampRunning
  /-- BOOT_CONFIRM (R535): A write of BCP_BOOT_CONFIRM makes the trial slot active. -/
  | bootConfirm (o : Origin)
  /-- TRIAL_TIMEOUT (R535): The trial image is not confirmed within 5 s, and Basecamp rolls back. -/
  | trialTimeout
  /-- QUERY_DEVICE_IDENTIFIERS (R534): PLDM QueryDeviceIdentifiers. -/
  | queryDeviceIdentifiers (p : MsgPath)
  /-- GET_FIRMWARE_PARAMETERS (R534): PLDM GetFirmwareParameters. -/
  | getFirmwareParameters (p : MsgPath)
  /-- REQUEST_UPDATE (R534): PLDM RequestUpdate starts a firmware update. -/
  | requestUpdate (p : MsgPath)
  /-- PASS_COMPONENT_TABLE (R534): PLDM PassComponentTable. -/
  | passComponentTable (p : MsgPath)
  /-- UPDATE_COMPONENT (R534): PLDM UpdateComponent. -/
  | updateComponent (p : MsgPath) (size : Nat)
  /-- REQUEST_FIRMWARE_DATA (R534): PLDM RequestFirmwareData transfers a chunk into the inactive slot. -/
  | requestFirmwareData (p : MsgPath) (data : List Byte)
  /-- TRANSFER_COMPLETE (R534): PLDM TransferComplete. -/
  | transferComplete (p : MsgPath)
  /-- VERIFY_COMPLETE (R534): PLDM VerifyComplete reports the image check. -/
  | verifyComplete (p : MsgPath)
  /-- APPLY_COMPLETE (R534): PLDM ApplyComplete. -/
  | applyComplete (p : MsgPath)
  /-- ACTIVATE_FIRMWARE (R535): PLDM ActivateFirmware marks the new slot on trial and reboots Basecamp. -/
  | activateFirmware (p : MsgPath)
  /-- GET_STATUS (R534): PLDM GetStatus. -/
  | getStatus (p : MsgPath)
  /-- CANCEL_UPDATE_COMPONENT (R534): PLDM CancelUpdateComponent. -/
  | cancelUpdateComponent (p : MsgPath)
  /-- CANCEL_UPDATE (R534): PLDM CancelUpdate. -/
  | cancelUpdate (p : MsgPath)
  /-- PLDM_SENSOR_READ (R521): A PLDM type 2 read of BCP_SENSOR. -/
  | pldmSensorRead (p : MsgPath) (sensor : Nat)
  /-- MCTP_CONTROL (R521): An MCTP control message. -/
  | mctpControl (p : MsgPath) (req : List Byte)
  /-- NCSI_COMMAND (R522): A required NC-SI command that has no row of its own. -/
  | ncsiCommand (pkg channel cmd : Nat) (req : List Byte)
  /-- GET_LINK_STATUS (R522): NC-SI Get Link Status reports WIRE_PORT_STATUS. -/
  | getLinkStatus (pkg channel : Nat)
  /-- NCSI_GET_CAPABILITIES (R522): NC-SI Get Capabilities, which reports no pass-through filters. -/
  | ncsiGetCapabilities (pkg channel : Nat)
  /-- ENABLE_CHANNEL_NETWORK_TX (R522): NC-SI Enable Channel Network TX, answered Command Unsupported. -/
  | enableChannelNetworkTx (pkg channel : Nat)
  /-- OEM_COMMAND (R522): The NC-SI OEM command carries a capsule. -/
  | oemCommand (pkg channel mfr word : Nat) (buf : List Byte) (left : Nat) (tripping : Nat)
  /-- PWR_MODE_WRITE (R536): A write of PWR_MODE arms sleep, arms the wake latches, or wakes a cluster. -/
  | pwrModeWrite (o : Origin) (v : Nat)
  /-- SMBUS_ADDRESS_MATCH (R539): The SMBus matcher detects its address, which wakes the device from DORMANT. -/
  | smbusAddressMatch
  /-- PERST_DEASSERT (R539): PERST# is deasserted on a port, which wakes the device from DORMANT. -/
  | perstDeassert (port : Nat)
  /-- WAKE_IN (R568): A rising edge on WAKE_IN while the latches are armed. -/
  | wakeIn
  /-- PLL_ENABLE (R540): A write of CLK_PLL_CTL.EN starts or stops the PLLs. -/
  | pllEnable (o : Origin) (en : Bool)
  /-- PLL_LOCK (R540): Every PLL locks, and CLK_PLL_STATUS.LOCK sets. -/
  | pllLock
  /-- CLK_SRC_WRITE (R540): A write of CLK_SRC switches a class's clock, or is dropped. -/
  | clkSrcWrite (o : Origin) (cls v : Nat)
  /-- POWER_ON_RELEASE (R564): Power-on reset is released, the straps are sampled, and Basecamp starts in BRINGUP. -/
  | powerOnRelease (bifurA bifurB : Bool) (pkg : Nat)
  /-- DMA_BURST_ISSUE (R365): In each 1 ns engine cycle the arbiter of an engine or link issues one burst, or the flush read, for the highest-priority RUNNING channel that can issue one. -/
  | dmaBurstIssue (arbiter : Nat)
  /-- FEC_ALIGN_LOCK (R46): A training port gains RS-FEC codeword lock on every lane and moves to STATE 0x3 to deskew its PCS lanes. -/
  | fecAlignLock (port : Nat)
  deriving DecidableEq, Repr

end Sys2Proof
end

