-- ==== Sys2Proof/Config.lean ====
section
/-! DEFINITION. What the spec leaves open, and the functions of standards the spec names without giving them: opaque
constants with no body, so that no proof can see a value of one and every claim holds for all of them. -/

namespace Sys2Proof.Config

/-- A free value: what the spec calls undefined, unspecified or random. The step applies it to a counter of the state
that it advances, so every draw is a fresh one (log entry 2). -/
opaque freeNat : Nat → Nat

/-- What a read of a byte of HBM under a key other than the one it was written under returns: "unrelated bytes" (R403).
The arguments are the reader's key, the line's key (each plus one, 0 for none), the address and the stored byte. -/
opaque unrelated : Nat → Nat → Nat → Byte → Byte

/-- AES-GCM and ChaCha20-Poly1305 sealing (R385 to R390): algorithm, key, nonce, additional data and plaintext to
ciphertext and 16-byte tag. -/
opaque aeadSeal : Nat → Nat → Nat → List Byte → List Byte → List Byte × List Byte

/-- The opening of the same: the plaintext, or nothing when the tag does not verify. -/
opaque aeadOpen : Nat → Nat → Nat → List Byte → List Byte → List Byte → Option (List Byte)

/-- AES-XTS-256 of IEEE 1619 (R390): encrypting or not, key slot value, tweak of the first data unit, unit size, data. -/
opaque xts : Bool → Nat → Nat → Nat → List Byte → List Byte

/-- AES Key Wrap of RFC 3394 (R399, R400, R450): key-encryption key, initial value and plaintext to the wrapped bytes. -/
opaque keyWrap : Nat → Nat → List Byte → List Byte

/-- The unwrap of the same: the plaintext, or nothing when the initial value is not recovered. -/
opaque keyUnwrap : Nat → Nat → List Byte → Option (List Byte)

/-- The wrapping key that R400 derives by HKDF-SHA-384 from the 97-byte ephemeral public key and the device identity key. -/
opaque kekWrappingKey : List Byte → Nat

/-- SHA-384 of a byte string (R408, R532). -/
opaque sha384 : List Byte → List Byte

/-- The device's ECDSA P-384 signature with its identity key over a byte string (R408). -/
opaque signature : List Byte → List Byte

/-- The certificate chain of SPDM slot 0 (R408). -/
opaque certChain : List Byte

/-- What the fuses hold of the serial number. -/
opaque fusedSerial : Nat

/-- The fused serial number, also the Device Serial Number (R296, R299): 64 bits, never 0 and never all ones. -/
def serial : Nat := 1 + fusedSerial % (2 ^ 64 - 2)

/-- The part is a WSH1680-E, not a WSH1680-C (R2, R299). -/
opaque gradeE : Bool

/-- The stepping, equal to the PCI Revision ID (R299): that of the first production stepping (R1). -/
def stepping : Nat := 1

/-- The Subsystem Vendor ID and, above it, the Subsystem ID that a board record holds (R295): the spec gives no layout of the record. -/
opaque boardIds : List Byte → Nat

/-- The contents of the SPI NOR flash as the part is shipped (R531), which the spec does not give. -/
opaque factoryFlash : Nat → Byte

/-- ECDSA P-384 verification (R533): public key, digest and signature. -/
opaque verifies : List Byte → List Byte → List Byte → Bool

/-- The fused digest of the vendor's image key (R533). -/
opaque vendorDigest : List Byte

/-- The digest of the boot ROM (R408). -/
opaque bootRomDigest : List Byte

/-- The byte at an offset of a checkpoint image, for the parts of its layout that the spec leaves open (R500): the image's VN, its
counters as register key and value, and the offset. -/
opaque ckptByte : Nat → List (Nat × Word) → Nat → Byte

/-- The body of a reply of SPDM, PLDM, MCTP control and NC-SI beyond what the spec fixes (R408, R521, R522, R534): the standards lay
it out. The arguments are the protocol, the command and its bytes, and what the device reports in it. -/
opaque standardReply : Nat → Nat → List Byte → List (List Byte) → List Byte

end Sys2Proof.Config
end

