-- ==== Sys2Proof/Machine/Cfg.lean ====
section
/-! DEFINITION. The PCIe configuration space of a link's endpoint function (R295, R296, R297): the words of the Type 0 header and of
the capabilities at R296's offsets. R295 to R297 give the values that bind the device; where a field stands in its word is PCI
Express's (PRESUMED, log entry 138). -/

namespace Sys2Proof.Machine

/-- The header of an extended capability: its ID, its version and the next offset. -/
def extCap (id ver next : Nat) : Nat := id + ver * 2 ^ 16 + next * 2 ^ 20

/-- What word `dw` of the configuration space of link `k` reads after reset (R295, R296, R297, R313). -/
def cfgReset (k dw : Nat) : Nat :=
  match 4 * dw with
  | 0x00 => 0x1680E7A5
  | 0x04 => 0x00100000
  | 0x08 => 0x02000000 + Config.stepping
  | 0x10 => 0x4
  | 0x18 => 0x4
  | 0x20 => 0xC
  | 0x34 => 0x40
  | 0x40 => 0xC0035001
  | 0x44 => 0x8
  | 0x50 => 0x00029010
  | 0x54 => 0x10008022
  | 0x58 => 0x2810
  | 0x5C => 0x18806
  | 0x74 => 0x30801
  | 0x7C => 0x7E
  | 0x80 => 6
  | 0x90 => 0x11
  | 0x94 => 0x1100000 + 0x40000 * k
  | 0x98 => 0x1120000 + 0x40000 * k
  | 0x100 => extCap 0x0001 2 0x148
  | 0x108 => 0x00400000
  | 0x10C => 0x00462030
  | 0x114 => 0x6000
  | 0x148 => extCap 0x0003 1 0x158
  | 0x158 => extCap 0x001B 1 0x160
  | 0x15C => 0x1400
  | 0x160 => extCap 0x0019 1 0x1A0
  | 0x1A0 => extCap 0x0025 1 0x1B0
  | 0x1A4 => 0x80000001
  | 0x1B0 => extCap 0x0026 1 0x1E0
  | 0x1E0 => extCap 0x002A 1 0x210
  | 0x210 => extCap 0x0031 1 0x240
  | 0x240 => extCap 0x0027 1 0x280
  | 0x280 => extCap 0x001E 1 0x2A0
  | 0x284 => 0x39001C
  | 0x2A0 => extCap 0x002F 1 0x2C0
  | 0x2A4 => 0xE
  | 0x2C0 => extCap 0x0018 1 0x2D0
  | 0x2D0 => extCap 0x002E 2 0x300
  | 0x300 => extCap 0x000B 1 0
  | 0x304 => 0x01000001
  | 0x308 => k
  | _ => 0

/-- The bits of a word that a configuration write sets: the Command register, the BAR addresses above their sizes (64 MiB, 16 MiB
and 64 GiB), D0 or D3hot and PME_En, Device Control, Link Control and their second and third, the MSI-X enable and Function Mask,
the AER masks and severity, and the enables of PASID, L1 PM Substates, LTR and DOE. -/
def cfgRw (dw : Nat) : Nat :=
  match 4 * dw with
  | 0x04 => 0x546
  | 0x0C => 0xFF
  | 0x10 => 0xFC000000
  | 0x14 => 0xFFFFFFFF
  | 0x18 => 0xFF000000
  | 0x1C => 0xFFFFFFFF
  | 0x24 => 0xFFFFFFF0
  | 0x3C => 0xFF
  | 0x44 => 0x103
  | 0x58 => 0x79FF
  | 0x60 => 0x1CB
  | 0x78 => 0x140F
  | 0x80 => 0xF
  | 0x90 => 0xC0000000
  | 0x108 => 0x07FFF030
  | 0x10C => 0x07FFF030
  | 0x114 => 0xF1C1
  | 0x15C => 0x10000
  | 0x288 => 0xE3FFFF0C
  | 0x28C => 0xFB
  | 0x2A8 => 0x7C
  | 0x2C4 => 0x1FFF1FFF
  | 0x2D8 => 0x2
  | _ => 0

/-- The bits of a word that a configuration write of 1 clears: the error bits of Status and Device Status, PME_Status, and the AER
status registers. -/
def cfgW1c (dw : Nat) : Nat :=
  match 4 * dw with
  | 0x04 => 0xF9000000
  | 0x44 => 0x8000
  | 0x58 => 0xF0000
  | 0x104 => 0x07FFF030
  | 0x110 => 0xF1C1
  | _ => 0

end Sys2Proof.Machine
end

