-- ==== Sys2Proof/Machine/Regs.lean ====
section
/-! DEFINITION. The register index of the device: one constructor of `Reg` for every register name of the spec's
register tables and offset tables, and for each its place and its fields' access codes and reset value.
The class windows and offsets are those of R29, R94, R121, R162, R197, R227, R263, R316, R359, R377, R410, R434, R460,
R482, R508, R544, R551 to R554; the access codes are those of R10. -/

namespace Sys2Proof.Machine

/-- The registers of the WSH1680, by the names of the spec. An array of registers is one name; its index is flattened
in the order of `RegInfo.dims`. -/
inductive Reg where
  | BLK_ID
  | BLK_VERSION
  | GROUP_APPLY
  | GROUP_STATUS
  | GROUP_PENDING_MASK
  | GROUP_WAITING_MASK
  | GROUP_TARGET_VN
  | GROUP_APPLY_VN
  | GROUP_REJECT_COUNT
  | VOLLEY_OVERRUN_COUNT
  | SITE_MODE
  | SITE_MODE_VN
  | SITE_RESET
  | CLK_VN
  | CLK_TIME_LOAD
  | CLK_ADJ
  | CLK_PHASE_ERR
  | CLK_LOCK_TIMEOUT
  | CLK_TIME_STATUS
  | CLK_TOUT_PERIOD
  | CLK_TOUT_WIDTH
  | CLK_PLL_CTL
  | CLK_PLL_STATUS
  | CLK_SRC
  | CLK_SRC_DROPPED
  | WIRE_PG_MAP
  | WIRE_LANE_DEGRADE_LIMIT
  | WIRE_PORT_CFG
  | WIRE_PORT_CTL
  | WIRE_PORT_STATUS
  | WIRE_TS_ADJ
  | WIRE_TS_TX_HEAD
  | WIRE_TS_TX_TAG
  | WIRE_TS_TX_POP
  | WIRE_LANE_CTL
  | WIRE_RX_FRAMES_OK
  | WIRE_RX_BYTES_OK
  | WIRE_RX_FCS_ERR
  | WIRE_RX_UNDERSIZE
  | WIRE_RX_FRAGMENT
  | WIRE_RX_OVERSIZE
  | WIRE_RX_ABORTED
  | WIRE_RX_FC
  | WIRE_TX_FRAMES
  | WIRE_TX_BYTES
  | WIRE_TX_OVERSIZE
  | WIRE_TX_FC
  | WIRE_FEC_CW_CORRECTED
  | WIRE_FEC_CW_UNCORRECTED
  | WIRE_LINK_DOWN
  | WIRE_TS_ONESTEP_DEMOTED
  | WIRE_TS_TX_LOST
  | WIRE_RX_MODE_DROP
  | WIRE_LANE_FEC_SYMBOLS
  | PRS_DEPTH
  | PRS_MALFORMED_ACTION
  | PRS_MALFORMED_LAST
  | PRS_NODE_LEN
  | PRS_NODE_NEXT
  | PRS_NODE_CHK
  | PRS_NODE_XT
  | PRS_TRANS
  | PRS_PORT_CFG
  | PRS_KSEL_EN
  | PRS_KSEL_RANGE
  | PRS_PARSED_OK
  | PRS_MAL_TRUNCATED
  | PRS_MAL_BAD_LENGTH
  | PRS_MAL_TOO_MANY_TAGS
  | PRS_MAL_TOO_DEEP
  | PRS_MAL_LOOP
  | PRS_DEFAULT_TAKEN
  | PRS_ACTION_INVALID
  | PRS_PUNT_FOREIGN
  | PRS_DECAP_NO_L2
  | PRS_TTL_EXPIRED
  | PRS_TS_OUTSIDE
  | EPC_MODE
  | EPC_COMMIT
  | EPC_STATUS
  | EPC_LIVE
  | EPC_STAGED
  | EPC_STALL_VOLLEYS
  | EPC_PAUSE_HOLD
  | EPC_TARGET_VN
  | EPC_COMMIT_VN
  | EPC_EPOCH_COUNT
  | EPC_PARKED
  | EPC_COMMITS
  | EPC_BUSY_VOLLEYS
  | EPC_PAUSES
  | EPC_PAUSE_ABANDONED
  | TBL_AGE_STN
  | TBL_AGE_FLOW
  | TBL_AGE_NOW
  | TBL_NOTICE_CFG
  | TBL_FLOW_CFG
  | TBL_FLOW_BASE
  | TBL_SHADOW_BASE
  | TBL_SHADOW_CTL
  | TBL_SHADOW_STATUS
  | TBL_PARITY_LOG
  | TBL_FROZEN_LOG
  | TBL_STN_ENTRIES
  | TBL_FLOW_ENTRIES
  | TBL_STN_RELOCATIONS
  | TBL_STN_INSERT_FULL
  | TBL_LEARN_QUEUE_DROP
  | TBL_NOTICE_DROP
  | TBL_AGED_STN
  | TBL_AGED_FLOW
  | TBL_PARITY_MISS
  | TBL_PARITY_PURGED
  | TBL_ISOLATION_SUSPECT
  | TBL_SHADOW_SWEEPS
  | TBL_SHADOW_FAIL
  | TBL_CMD_FOREIGN
  | TBL_NH_INVALID
  | TBL_LEARN_CFG
  | TBL_CMD_CTL
  | TBL_CMD_INDEX
  | TBL_CMD_STATUS
  | TBL_CMD_MODE
  | TBL_CMD_DATA
  | TBL_PORT_LEARNS
  | TBL_PORT_MOVES
  | TBL_PORT_VIOLATIONS
  | TBL_PORT_RATE_DROP
  | SWB_HASH_CTL
  | SWB_HASH_RANGE
  | SWB_PATH_MAP
  | SWB_POOL_HEADROOM
  | SWB_POOL_RESERVED
  | SWB_POOL_SHARED
  | SWB_SHARED_USED
  | SWB_CLUSTER_CTL
  | SWB_CLUSTER_STATUS
  | SWB_RSQ_SKIP
  | SWB_RSQ_STALL
  | SWB_MC_ACC_CTL
  | SWB_MC_ACC_DATA
  | SWB_BPROF
  | SWB_SPILL
  | SWB_MIRROR
  | SWB_PORT_CFG
  | SWB_PORT_PFC
  | SWB_PORT_STATUS
  | SWB_WRED
  | SWB_WRED_CTL
  | SWB_QCFG
  | SWB_REPIN_HELD
  | SWB_SPILL_RATE_DROP
  | SWB_CELL_CRC_DROP
  | SWB_MC_EMPTY
  | SWB_MC_PRUNED
  | SWB_MC_BAD_WRITE
  | SWB_RSQ_LATE
  | SWB_RSQ_SLOT_OVER
  | SWB_RSQ_FULL_VOLLEYS
  | SWB_PUNT_NO_CLUSTER
  | SWB_PATH_FULL_DROP
  | SWB_MIRROR_DROP
  | SWB_CT_FALLBACK
  | SWB_CT_STOMPED
  | SWB_FLUSH_LINKDOWN
  | SWB_PORT_DOWN_DROP
  | SWB_TX_ABORTED
  | SWB_HEADROOM_DROP
  | SWB_PFC_XOFF_SENT
  | SWB_MC_PARTIAL
  | SWB_Q_TAIL_DROP
  | SWB_Q_WRED_DROP
  | SWB_Q_ECN_MARKED
  | SWB_Q_SPILLED
  | SCH_SHP_ACC_CTL
  | SCH_SHP_ACC_STATUS
  | SCH_SHP_ACC_DATA0
  | SCH_SHP_ACC_DATA1
  | SCH_POL_ACC_CTL
  | SCH_POL_ACC_STATUS
  | SCH_POL_ACC_DATA
  | SCH_COLOR_SEL
  | SCH_PCP_MAP
  | SCH_DSCP_MAP
  | SCH_REMARK
  | SCH_PORT_ARB
  | SCH_GATE_ADMIN_CFG
  | SCH_GATE_CTL
  | SCH_GATE_STATUS
  | SCH_GATE_STATE
  | SCH_GATE_ADMIN_BASE
  | SCH_GATE_ADMIN_CYCLE
  | SCH_GATE_CHANGE_VN
  | SCH_GATE_OPER_BASE
  | SCH_GATE_OPER_CYCLE
  | SCH_GATE_OVERSIZE
  | SCH_GUARD_WAITS
  | SCH_GATE_SWAPS
  | SCH_POL_DROPS
  | SCH_POL_CHAIN_CUT
  | SCH_GATE_ADMIN
  | SCH_GATE_OPER
  | DOR_SUP_CFG
  | DOR_BUF_CFG
  | DOR_PUNT_CORES
  | DOR_STALL_VOLLEYS
  | DOR_CLU_CTL
  | DOR_CLU_STATUS
  | DOR_CLU_FRAMES
  | DOR_SUP_ACT
  | DOR_SUP_STATUS
  | DOR_SUP_PC
  | DOR_SUP_ARG
  | DOR_FQ_HEAD
  | DOR_FQ_STATUS
  | DOR_FQ_POP
  | DOR_NQ_HEAD
  | DOR_NQ_STATUS
  | DOR_NQ_POP
  | DOR_PUNTS_RX
  | DOR_FAULTS
  | DOR_FQ_OVERFLOW
  | DOR_CORE_STOPS
  | DOR_EVENT_STALLS
  | DOR_STEPS_COMMITTED
  | DOR_STEPS_ABORTED
  | DOR_STEPS_RESTARTED
  | DOR_FORK_FAILS
  | DOR_BUF_FAILS
  | DOR_DISCARDED_FRAMES
  | DOR_ACT_FOREIGN
  | DOR_SEV_LOST
  | DOR_RESET_DROPS
  | DOR_CORE_CTL
  | DOR_CORE_STATUS
  | DOR_SLOT
  | DOR_CORE_IDLE_SLOTS
  | DOR_CTX_CFG
  | DOR_CTX_STATE
  | DOR_CTX_SHARE
  | DOR_CTX_ISSUED
  | HIF_ALIVE
  | HIF_WIN_ACC_CTL
  | HIF_WIN_ACC_DATA0
  | HIF_WIN_ACC_DATA1
  | HIF_WIN_COMMIT
  | HIF_WIN_STATUS
  | HIF_WIN_INFLIGHT
  | HIF_PMAP_ACC_CTL
  | HIF_PMAP_ACC_DATA
  | HIF_PMAP_STATUS
  | PIT_CTL
  | PIT_STATUS
  | PIT_IMAGE_LEN
  | PIT_IMAGE_ADDR
  | PIT_IMAGE_OUT
  | PIT_DRAIN_LIMIT
  | PIT_FREEZE_LIMIT
  | PIT_MIGKEY_STATUS
  | HIF_LINK_STATUS
  | HIF_LPM
  | HIF_CPL_TMO
  | HIF_WIN_MISS
  | HIF_WIN_PERM
  | HIF_CPL_TIMEOUTS
  | HIF_UNEXPECTED_CPL
  | HIF_TAG_WAIT_VOLLEYS
  | HIF_DB_FOREIGN
  | HIF_BAD_ACCESS
  | HIF_L1_ENTRIES
  | HIF_L0P_CHANGES
  | HIF_GONE_EVENTS
  | HIF_MSIX_ADDR
  | HIF_MSIX_CTL
  | HIF_MSIX_PBA
  | PIT_STATE
  | PIT_QUOTA
  | PIT_USE
  | PIT_ITEMS_ACCEPTED
  | PIT_ITEMS_COMPLETED
  | PIT_ITEMS_ABORTED
  | PIT_ITEMS_LOST
  | PIT_RX_FRAMES
  | PIT_RX_BYTES
  | PIT_TAIL_DROP
  | PIT_WRED_DROP
  | PIT_ECN_MARKED
  | PIT_QUOTA_DROP
  | PIT_DB_DROPPED
  | PIT_RESETS
  | PIT_DRAIN_TIMEOUTS
  | RNG_RING_ACC_CTL
  | RNG_RING_ACC_STATUS
  | RNG_RING_ACC_DATA
  | RNG_ADMIN_WORK_DB
  | RNG_ADMIN_CQ_DB
  | RNG_FW_WORK_DB
  | RNG_FW_CQ_DB
  | RNG_FW_DONE
  | RNG_ERR_LOG
  | RNG_DB_FOREIGN
  | RNG_DB_DISABLED
  | RNG_DB_NO_CREDIT
  | RNG_CQ_DB_BAD
  | RNG_LA_USED
  | RNG_LA_REFETCH
  | RNG_RX_NO_RING
  | RNG_RX_NO_BUF
  | RNG_RX_TRUNCATED
  | RNG_FW_DONE_BAD
  | RNG_ACC_FOREIGN
  | RNG_CTX_MISSES
  | RNG_IRQ_SENT
  | DMA_OWNER_HALT_LIMIT
  | DMA_HALT_LOG
  | DMA_OWNER_HALTS
  | DMA_RECLAIMS
  | DMA_SH_SRC
  | DMA_SH_DST
  | DMA_SH_LEN
  | DMA_SH_CFG
  | DMA_CH_CTL
  | DMA_CH_STATUS
  | DMA_CH_OWNER
  | DMA_ACT_SRC
  | DMA_ACT_DST
  | DMA_ACT_LEN
  | DMA_ACT_CFG
  | DMA_ACT_REMAIN
  | DMA_CH_TRANSFERS
  | DMA_CH_BYTES
  | DMA_CH_ERRORS
  | DMA_CH_LATE_ARMS
  | DMA_CH_SHADOW_LOCKED
  | DMA_CH_FOREIGN
  | CRY_KEYPORT_LOCK
  | CRY_KEYPORT_STATUS
  | CRY_KEYPORT_CTL
  | CRY_KEYPORT_DATA
  | CRY_SA_ACC_CTL
  | CRY_SA_ACC_STATUS
  | CRY_SA_ACC_DATA
  | CRY_ALARM_STATUS
  | CRY_ALARM_VN
  | CRY_KEK_STATUS
  | CRY_SA_LIMIT_LOG
  | CRY_LANE_STATUS
  | CRY_AUTH_FAIL
  | CRY_REPLAY_DROP
  | CRY_FORMAT_DROP
  | CRY_SA_MISMATCH
  | CRY_SA_INVALID_DROP
  | CRY_SA_FOREIGN_DROP
  | CRY_KEY_EMPTY_DROP
  | CRY_PN_EXHAUSTED
  | CRY_TLS_SEQ_DROP
  | CRY_CHECK_RETRIES
  | CRY_CHECK_DROP
  | CRY_KEYPORT_LOADS
  | CRY_KEYPORT_DENIED
  | CRY_KEYPORT_TIMEOUTS
  | CRY_KEYPORT_FOREIGN
  | CRY_SA_FOREIGN_WRITE
  | CRY_KEYINFO
  | STX_ACC_CTL
  | STX_ACC_STATUS
  | STX_ACC_DATA
  | STX_CONN_LOG
  | STX_PDU_TX
  | STX_PDU_RX
  | STX_PLACED_BYTES
  | STX_HDGST_ERR
  | STX_DDGST_ERR
  | STX_STALE_PDU
  | STX_TCP_OOO_DROP
  | STX_TCP_RETX
  | STX_TCP_RTO
  | STX_TCP_BAD_SEG
  | STX_ROCE_RETX
  | STX_ROCE_NAK_SENT
  | STX_ROCE_NAK_RCVD
  | STX_ROCE_CNP_SENT
  | STX_ROCE_CNP_RCVD
  | STX_ICRC_DROP
  | STX_CONN_ERRORS
  | STX_CONN_MISSES
  | STX_ACC_FOREIGN
  | MEM_KEY_EMPTY
  | BCP_STATUS
  | BCP_WDT
  | BCP_BOOT_CONFIRM
  | BCP_ESC_CFG
  | BCP_SMB_ADDR
  | BCP_DOM_CFG
  | BCP_LOG_WIDX
  | BCP_EVENT_LOG
  | BCP_EVENT_VEC
  | BCP_CAPSULES
  | BCP_CAPSULES_REFUSED
  | BCP_REBOOTS
  | BCP_LOG_TORN
  | BCP_EVENTS_LOST
  | BCP_SENSOR
  | BCP_SENSOR_WARN
  | BCP_SENSOR_CRIT
  | PWR_MODE
  | PWR_WAKE_STATUS
  | PWR_STATUS
  | PWR_DORMANT_ENTRIES
  | PWR_WAKE_RACES
  | REF_STATUS
  | REF_CLEAR
  | REF_PHYS_QUERY
  | REF_PHYS_STATE
  | REF_LOG_WIDX
  | REF_WHISTLES
  | REF_WHISTLE_LOST
  | REF_FENCED_TALK
  | REF_FENCED_ACCESS
  | REF_WIN_OVERFLOW
  | REF_LASTING
  | REF_SUBSTITUTIONS
  | REF_REPAIRS
  | REF_FENCE_DROPS
  | REF_READMITS
  | REF_KIND_CFG
  | REF_MAP
  | REF_CAUSE
  | REF_WIN
  | REF_LOG
  | JNL_STATUS
  | JNL_CTL
  | JNL_CKPT_VN
  | JNL_RESTORE_VN
  | JNL_REPLAY_RELEASED
  | JNL_REPLAY_EXECUTED
  | JNL_RETRIES
  | JNL_LOST_ITEMS
  | JNL_DISCARDED
  | JNL_FULL_VOLLEYS
  | JNL_EXT_WAIT
  | JNL_RESET_DROPS
  | SCH_SHP_ENTRY
  | SCH_POL_ENTRY
  | SWB_MC_GROUP
  | SWB_MC_REPLICA
  | HIF_PMAP_ENTRY
  | HIF_WIN_ENTRY
  | HIF_CFG
  | CRY_SA_ENTRY
  deriving DecidableEq, Repr

/-- What the spec's tables say of a register: its class code (99 for the common block header, which every block
window has), the BAR0 offset of its first element, the count and the stride of each index (outermost first), its width
in bits, the bits of each access code (R10), whether it is a counter (R9), and its reset value (R13). -/
structure RegInfo where
  cls   : Nat
  base  : Nat
  dims  : List (Nat × Nat)
  width : Nat
  rw    : Nat
  rws   : Nat
  w1c   : Nat
  rc    : Nat
  wo    : Nat
  counter : Bool
  reset : Nat
  deriving DecidableEq, Repr

/-- A 64-bit counter of class `c` at `base` with the indices `dims` (R9). -/
def RegInfo.ctr (c base : Nat) (dims : List (Nat × Nat)) : RegInfo :=
  ⟨c, base, dims, 64, 0, 0, 0, 0, 0, true, 0⟩

/-- Place, fields and reset value of every register. -/
def Reg.info : Reg → RegInfo
  | .BLK_ID => ⟨99, 0, [], 32, 0, 0, 0, 0, 0, false, 0⟩
  | .BLK_VERSION => ⟨99, 4, [], 32, 0, 0, 0, 0, 0, false, 0x10000⟩
  | .GROUP_APPLY => ⟨99, 8, [], 32, 0, 0, 0, 0, 0xffff00ff, false, 0⟩
  | .GROUP_STATUS => ⟨99, 0xc, [], 32, 0, 0, 0, 0, 0, false, 0⟩
  | .GROUP_PENDING_MASK => ⟨99, 0x10, [], 32, 0, 0, 0, 0, 0, false, 0⟩
  | .GROUP_WAITING_MASK => ⟨99, 0x14, [], 32, 0, 0, 0, 0, 0, false, 0⟩
  | .GROUP_TARGET_VN => ⟨99, 0x18, [], 64, 0xffffffffffffffff, 0, 0, 0, 0, false, 0⟩
  | .GROUP_APPLY_VN => ⟨99, 0x20, [], 64, 0, 0, 0, 0, 0, false, 0⟩
  | .GROUP_REJECT_COUNT => .ctr 99 0x28 []
  | .VOLLEY_OVERRUN_COUNT => .ctr 99 0x30 []
  | .SITE_MODE => ⟨0, 0x10000, [], 32, 0, 0, 0, 0, 0, false, 0x512⟩
  | .SITE_MODE_VN => ⟨0, 0x10008, [], 64, 0, 0, 0, 0, 0, false, 0⟩
  | .SITE_RESET => ⟨0, 0x10100, [], 32, 0, 0, 0, 0, 1, false, 0⟩
  | .CLK_VN => ⟨17, 0x2200040, [], 64, 0, 0, 0, 0, 0, false, 0⟩
  | .CLK_TIME_LOAD => ⟨17, 0x2200048, [], 64, 0, 0, 0, 0, 0xffffffffffffffff, false, 0⟩
  | .CLK_ADJ => ⟨17, 0x2200050, [], 32, 0, 0, 0, 0, 0xffffffff, false, 0⟩
  | .CLK_PHASE_ERR => ⟨17, 0x2200054, [], 32, 0, 0, 0, 0, 0, false, 0⟩
  | .CLK_LOCK_TIMEOUT => ⟨17, 0x2200058, [], 32, 0xffffffff, 0, 0, 0, 0, false, 0x17d7840⟩
  | .CLK_TIME_STATUS => ⟨17, 0x220005c, [], 32, 0, 0, 8, 0, 0, false, 0⟩
  | .CLK_TOUT_PERIOD => ⟨17, 0x2200060, [], 32, 0, 0xffffffff, 0, 0, 0, false, 0x17d7840⟩
  | .CLK_TOUT_WIDTH => ⟨17, 0x2200064, [], 32, 0, 0xffffffff, 0, 0, 0, false, 0x2625a0⟩
  | .CLK_PLL_CTL => ⟨17, 0x2200180, [], 32, 1, 0, 0, 0, 0, false, 0⟩
  | .CLK_PLL_STATUS => ⟨17, 0x2200184, [], 32, 0, 0, 0, 0, 0, false, 0⟩
  | .CLK_SRC => ⟨17, 0x2200200, [(19, 4)], 32, 3, 0, 0, 0, 0, false, 0⟩
  | .CLK_SRC_DROPPED => .ctr 17 0x2200280 []
  | .WIRE_PG_MAP => ⟨1, 0x200040, [(4, 0x80000)], 32, 0, 0x177, 0, 0, 0, false, 0x55⟩
  | .WIRE_LANE_DEGRADE_LIMIT => ⟨1, 0x200044, [(4, 0x80000)], 32, 0xffffffff, 0, 0, 0, 0, false, 0x1e8480⟩
  | .WIRE_PORT_CFG => ⟨1, 0x200100, [(4, 0x80000), (8, 0x40)], 32, 0, 0xfffc00f1, 0, 0, 0, false, 0x17b80001⟩
  | .WIRE_PORT_CTL => ⟨1, 0x200104, [(4, 0x80000), (8, 0x40)], 32, 0, 0, 0, 0, 1, false, 0⟩
  | .WIRE_PORT_STATUS => ⟨1, 0x200108, [(4, 0x80000), (8, 0x40)], 32, 0, 0, 0, 0, 0, false, 0⟩
  | .WIRE_TS_ADJ => ⟨1, 0x20010c, [(4, 0x80000), (8, 0x40)], 32, 0xffffffff, 0, 0, 0, 0, false, 0⟩
  | .WIRE_TS_TX_HEAD => ⟨1, 0x200110, [(4, 0x80000), (8, 0x40)], 64, 0, 0, 0, 0, 0, false, 0⟩
  | .WIRE_TS_TX_TAG => ⟨1, 0x200118, [(4, 0x80000), (8, 0x40)], 32, 0, 0, 0, 0, 0, false, 0⟩
  | .WIRE_TS_TX_POP => ⟨1, 0x20011c, [(4, 0x80000), (8, 0x40)], 32, 0, 0, 0, 0, 1, false, 0⟩
  | .WIRE_LANE_CTL => ⟨1, 0x200400, [(4, 0x80000), (8, 4)], 32, 0xb, 0, 0, 0, 4, false, 0⟩
  | .WIRE_RX_FRAMES_OK => .ctr 1 0x201000 [(4, 0x80000), (8, 0x100)]
  | .WIRE_RX_BYTES_OK => .ctr 1 0x201008 [(4, 0x80000), (8, 0x100)]
  | .WIRE_RX_FCS_ERR => .ctr 1 0x201010 [(4, 0x80000), (8, 0x100)]
  | .WIRE_RX_UNDERSIZE => .ctr 1 0x201018 [(4, 0x80000), (8, 0x100)]
  | .WIRE_RX_FRAGMENT => .ctr 1 0x201020 [(4, 0x80000), (8, 0x100)]
  | .WIRE_RX_OVERSIZE => .ctr 1 0x201028 [(4, 0x80000), (8, 0x100)]
  | .WIRE_RX_ABORTED => .ctr 1 0x201030 [(4, 0x80000), (8, 0x100)]
  | .WIRE_RX_FC => .ctr 1 0x201038 [(4, 0x80000), (8, 0x100)]
  | .WIRE_TX_FRAMES => .ctr 1 0x201040 [(4, 0x80000), (8, 0x100)]
  | .WIRE_TX_BYTES => .ctr 1 0x201048 [(4, 0x80000), (8, 0x100)]
  | .WIRE_TX_OVERSIZE => .ctr 1 0x201050 [(4, 0x80000), (8, 0x100)]
  | .WIRE_TX_FC => .ctr 1 0x201058 [(4, 0x80000), (8, 0x100)]
  | .WIRE_FEC_CW_CORRECTED => .ctr 1 0x201060 [(4, 0x80000), (8, 0x100)]
  | .WIRE_FEC_CW_UNCORRECTED => .ctr 1 0x201068 [(4, 0x80000), (8, 0x100)]
  | .WIRE_LINK_DOWN => .ctr 1 0x201070 [(4, 0x80000), (8, 0x100)]
  | .WIRE_TS_ONESTEP_DEMOTED => .ctr 1 0x201078 [(4, 0x80000), (8, 0x100)]
  | .WIRE_TS_TX_LOST => .ctr 1 0x201080 [(4, 0x80000), (8, 0x100)]
  | .WIRE_RX_MODE_DROP => .ctr 1 0x201088 [(4, 0x80000), (8, 0x100)]
  | .WIRE_LANE_FEC_SYMBOLS => .ctr 1 0x201800 [(4, 0x80000), (8, 8)]
  | .PRS_DEPTH => ⟨2, 0x400040, [], 32, 0, 0x3ff, 0, 0, 0, false, 0x200⟩
  | .PRS_MALFORMED_ACTION => ⟨2, 0x400048, [], 64, 0, 0x1ffffffffff, 0, 0, 0, false, 0⟩
  | .PRS_MALFORMED_LAST => ⟨2, 0x400050, [], 64, 0, 0, 0, 0, 0, false, 0⟩
  | .PRS_NODE_LEN => ⟨2, 0x401000, [(64, 0x20)], 32, 0, 0xfffffffc, 0, 0, 0, false, 0⟩
  | .PRS_NODE_NEXT => ⟨2, 0x401004, [(64, 0x20)], 32, 0, 0xffffffc0, 0, 0, 0, false, 0x7f0000⟩
  | .PRS_NODE_CHK => ⟨2, 0x401008, [(64, 0x20)], 32, 0, 0xffffffff, 0, 0, 0, false, 0⟩
  | .PRS_NODE_XT => ⟨2, 0x40100c, [(64, 0x20), (5, 4)], 32, 0, 0xffffffc1, 0, 0, 0, false, 0⟩
  | .PRS_TRANS => ⟨2, 0x402000, [(512, 4)], 32, 0, 0xfffffe01, 0, 0, 0, false, 0⟩
  | .PRS_PORT_CFG => ⟨2, 0x403000, [(64, 8)], 64, 0, 0xfffffffffffff, 0, 0, 0, false, 1⟩
  | .PRS_KSEL_EN => ⟨2, 0x403400, [(6, 0x20)], 32, 0, 0x800003ff, 0, 0, 0, false, 0⟩
  | .PRS_KSEL_RANGE => ⟨2, 0x403404, [(6, 0x20), (4, 4)], 32, 0, 0x7ffff, 0, 0, 0, false, 0⟩
  | .PRS_PARSED_OK => .ctr 2 0x404000 [(64, 0x80)]
  | .PRS_MAL_TRUNCATED => .ctr 2 0x404008 [(64, 0x80)]
  | .PRS_MAL_BAD_LENGTH => .ctr 2 0x404010 [(64, 0x80)]
  | .PRS_MAL_TOO_MANY_TAGS => .ctr 2 0x404018 [(64, 0x80)]
  | .PRS_MAL_TOO_DEEP => .ctr 2 0x404020 [(64, 0x80)]
  | .PRS_MAL_LOOP => .ctr 2 0x404028 [(64, 0x80)]
  | .PRS_DEFAULT_TAKEN => .ctr 2 0x404030 [(64, 0x80)]
  | .PRS_ACTION_INVALID => .ctr 2 0x404038 [(64, 0x80)]
  | .PRS_PUNT_FOREIGN => .ctr 2 0x404040 [(64, 0x80)]
  | .PRS_DECAP_NO_L2 => .ctr 2 0x404048 [(64, 0x80)]
  | .PRS_TTL_EXPIRED => .ctr 2 0x404050 [(64, 0x80)]
  | .PRS_TS_OUTSIDE => .ctr 2 0x404058 [(64, 0x80)]
  | .EPC_MODE => ⟨3, 0x600100, [], 32, 1, 0, 0, 0, 0, false, 0⟩
  | .EPC_COMMIT => ⟨3, 0x600104, [], 32, 0, 0, 0, 0, 0xffff0003, false, 0⟩
  | .EPC_STATUS => ⟨3, 0x600108, [], 32, 0, 0, 3, 0, 0, false, 0⟩
  | .EPC_LIVE => ⟨3, 0x60010c, [], 32, 0, 0, 0, 0, 0, false, 0⟩
  | .EPC_STAGED => ⟨3, 0x600110, [], 32, 0, 0, 0, 0, 0, false, 0⟩
  | .EPC_STALL_VOLLEYS => ⟨3, 0x600114, [], 32, 0xffffffff, 0, 0, 0, 0, false, 0x3d090⟩
  | .EPC_PAUSE_HOLD => ⟨3, 0x600118, [], 32, 0, 0, 0, 0, 0, false, 0⟩
  | .EPC_TARGET_VN => ⟨3, 0x600120, [], 64, 0xffffffffffffffff, 0, 0, 0, 0, false, 0⟩
  | .EPC_COMMIT_VN => ⟨3, 0x600128, [], 64, 0, 0, 0, 0, 0, false, 0⟩
  | .EPC_EPOCH_COUNT => ⟨3, 0x600140, [(4, 8)], 64, 0, 0, 0, 0, 0, false, 0⟩
  | .EPC_PARKED => ⟨3, 0x600160, [(8, 4)], 32, 0, 0, 0, 0, 0, false, 0⟩
  | .EPC_COMMITS => .ctr 3 0x600180 []
  | .EPC_BUSY_VOLLEYS => .ctr 3 0x600188 []
  | .EPC_PAUSES => .ctr 3 0x600190 []
  | .EPC_PAUSE_ABANDONED => .ctr 3 0x600198 []
  | .TBL_AGE_STN => ⟨4, 0x800040, [], 64, 0, 0xffffffff0000ff03, 0, 0, 0, false, 0x17d78400000fa01⟩
  | .TBL_AGE_FLOW => ⟨4, 0x800048, [], 64, 0, 0xffffffff0000ff03, 0, 0, 0, false, 0x17d78400000fa01⟩
  | .TBL_AGE_NOW => ⟨4, 0x800050, [], 32, 0, 0, 0, 0, 0, false, 0⟩
  | .TBL_NOTICE_CFG => ⟨4, 0x800054, [], 32, 0, 0xc01fffff, 0, 0, 0, false, 0x1f0000⟩
  | .TBL_FLOW_CFG => ⟨4, 0x800058, [], 32, 0, 0x1f, 0, 0, 0, false, 0xa⟩
  | .TBL_FLOW_BASE => ⟨4, 0x800060, [], 64, 0, 0xffffffffffffffff, 0, 0, 0, false, 0⟩
  | .TBL_SHADOW_BASE => ⟨4, 0x800068, [], 64, 0, 0xffffffffffffffff, 0, 0, 0, false, 0⟩
  | .TBL_SHADOW_CTL => ⟨4, 0x800070, [], 32, 0, 7, 0, 0, 0, false, 0⟩
  | .TBL_SHADOW_STATUS => ⟨4, 0x800074, [], 32, 0, 0, 0, 0, 0, false, 0⟩
  | .TBL_PARITY_LOG => ⟨4, 0x800078, [], 64, 0, 0, 0, 0xffffffffffffffff, 0, false, 0⟩
  | .TBL_FROZEN_LOG => ⟨4, 0x800080, [], 64, 0, 0, 0, 0xffffffffffffffff, 0, false, 0⟩
  | .TBL_STN_ENTRIES => .ctr 4 0x800100 []
  | .TBL_FLOW_ENTRIES => .ctr 4 0x800108 []
  | .TBL_STN_RELOCATIONS => .ctr 4 0x800110 []
  | .TBL_STN_INSERT_FULL => .ctr 4 0x800118 []
  | .TBL_LEARN_QUEUE_DROP => .ctr 4 0x800120 []
  | .TBL_NOTICE_DROP => .ctr 4 0x800128 []
  | .TBL_AGED_STN => .ctr 4 0x800130 []
  | .TBL_AGED_FLOW => .ctr 4 0x800138 []
  | .TBL_PARITY_MISS => .ctr 4 0x800140 []
  | .TBL_PARITY_PURGED => .ctr 4 0x800148 []
  | .TBL_ISOLATION_SUSPECT => .ctr 4 0x800150 []
  | .TBL_SHADOW_SWEEPS => .ctr 4 0x800158 []
  | .TBL_SHADOW_FAIL => .ctr 4 0x800160 []
  | .TBL_CMD_FOREIGN => .ctr 4 0x800168 []
  | .TBL_NH_INVALID => .ctr 4 0x800170 []
  | .TBL_LEARN_CFG => ⟨4, 0x800200, [(32, 4)], 32, 0, 0xffffff0d, 0, 0, 0, false, 0x3e84000⟩
  | .TBL_CMD_CTL => ⟨4, 0x801000, [(16, 0x200)], 32, 0, 0, 0, 0, 0xffffff03, false, 0⟩
  | .TBL_CMD_INDEX => ⟨4, 0x801004, [(16, 0x200)], 32, 0xffffffff, 0, 0, 0, 0, false, 0⟩
  | .TBL_CMD_STATUS => ⟨4, 0x801008, [(16, 0x200)], 32, 0, 0, 2, 0, 0, false, 0⟩
  | .TBL_CMD_MODE => ⟨4, 0x80100c, [(16, 0x200)], 32, 1, 0, 0, 0, 0, false, 0⟩
  | .TBL_CMD_DATA => ⟨4, 0x801100, [(16, 0x200), (64, 4)], 32, 0xffffffff, 0, 0, 0, 0, false, 0⟩
  | .TBL_PORT_LEARNS => .ctr 4 0x803000 [(32, 0x20)]
  | .TBL_PORT_MOVES => .ctr 4 0x803008 [(32, 0x20)]
  | .TBL_PORT_VIOLATIONS => .ctr 4 0x803010 [(32, 0x20)]
  | .TBL_PORT_RATE_DROP => .ctr 4 0x803018 [(32, 0x20)]
  | .SWB_HASH_CTL => ⟨5, 0xa00040, [], 32, 0, 0xf, 0, 0, 0, false, 0⟩
  | .SWB_HASH_RANGE => ⟨5, 0xa00080, [(8, 4)], 32, 0, 0x7ffff, 0, 0, 0, false, 0⟩
  | .SWB_PATH_MAP => ⟨5, 0xa00100, [(32, 4)], 32, 0, 0x77777777, 0, 0, 0, false, 0⟩
  | .SWB_POOL_HEADROOM => ⟨5, 0xa00200, [], 32, 0, 0xfffff, 0, 0, 0, false, 0x8000⟩
  | .SWB_POOL_RESERVED => ⟨5, 0xa00204, [], 32, 0, 0, 0, 0, 0, false, 0⟩
  | .SWB_POOL_SHARED => ⟨5, 0xa00208, [], 32, 0, 0, 0, 0, 0, false, 0x98000⟩
  | .SWB_SHARED_USED => ⟨5, 0xa0020c, [], 32, 0, 0, 0, 0, 0, false, 0⟩
  | .SWB_CLUSTER_CTL => ⟨5, 0xa00220, [], 32, 0, 0xffff80ff, 0, 0, 0, false, 0x200000ff⟩
  | .SWB_CLUSTER_STATUS => ⟨5, 0xa00224, [], 32, 0, 0, 0, 0, 0, false, 0⟩
  | .SWB_RSQ_SKIP => ⟨5, 0xa00228, [], 32, 0xffffffff, 0, 0, 0, 0, false, 0⟩
  | .SWB_RSQ_STALL => ⟨5, 0xa0022c, [], 32, 0xffffffff, 0, 0, 0, 0, false, 0x3d090⟩
  | .SWB_MC_ACC_CTL => ⟨5, 0xa00230, [], 32, 0, 0, 0, 0, 0x3fffff, false, 0⟩
  | .SWB_MC_ACC_DATA => ⟨5, 0xa00238, [], 64, 0xffffffffffffffff, 0, 0, 0, 0, false, 0⟩
  | .SWB_BPROF => ⟨5, 0xa00400, [(64, 8)], 64, 0, 0xffffffffffff0000, 0, 0, 0, false, 0xa000000000040000⟩
  | .SWB_SPILL => ⟨5, 0xa00600, [(16, 8)], 64, 0, 0xfffffc00007f, 0, 0, 0, false, 0x1a⟩
  | .SWB_MIRROR => ⟨5, 0xa00700, [(64, 8)], 64, 0, 0xfffffffffffff801, 0, 0, 0, false, 0⟩
  | .SWB_PORT_CFG => ⟨5, 0xa01000, [(32, 8)], 64, 0, 0xfffffffff000ffff, 0, 0, 0, false, 0xa000003e80000000⟩
  | .SWB_PORT_PFC => ⟨5, 0xa01100, [(32, 8)], 64, 0, 0xfffffffffffffff, 0, 0, 0, false, 0x20000180000000⟩
  | .SWB_PORT_STATUS => ⟨5, 0xa01200, [(32, 4)], 32, 0, 0, 0, 0, 0, false, 0⟩
  | .SWB_WRED => ⟨5, 0xa02000, [(256, 0x20), (3, 8)], 64, 0, 0xffffffffff00ff03, 0, 0, 0, false, 0⟩
  | .SWB_WRED_CTL => ⟨5, 0xa02018, [(256, 0x20)], 32, 0, 0xf, 0, 0, 0, false, 9⟩
  | .SWB_QCFG => ⟨5, 0xa10000, [(33280, 4)], 32, 0, 0xff3f, 0, 0, 0, false, 0⟩
  | .SWB_REPIN_HELD => .ctr 5 0xa04000 []
  | .SWB_SPILL_RATE_DROP => .ctr 5 0xa04008 []
  | .SWB_CELL_CRC_DROP => .ctr 5 0xa04010 []
  | .SWB_MC_EMPTY => .ctr 5 0xa04018 []
  | .SWB_MC_PRUNED => .ctr 5 0xa04020 []
  | .SWB_MC_BAD_WRITE => .ctr 5 0xa04028 []
  | .SWB_RSQ_LATE => .ctr 5 0xa04030 []
  | .SWB_RSQ_SLOT_OVER => .ctr 5 0xa04038 []
  | .SWB_RSQ_FULL_VOLLEYS => .ctr 5 0xa04040 []
  | .SWB_PUNT_NO_CLUSTER => .ctr 5 0xa04048 []
  | .SWB_PATH_FULL_DROP => .ctr 5 0xa04100 [(8, 8)]
  | .SWB_MIRROR_DROP => .ctr 5 0xa04200 [(64, 8)]
  | .SWB_CT_FALLBACK => .ctr 5 0xa05000 [(32, 0x40)]
  | .SWB_CT_STOMPED => .ctr 5 0xa05008 [(32, 0x40)]
  | .SWB_FLUSH_LINKDOWN => .ctr 5 0xa05010 [(32, 0x40)]
  | .SWB_PORT_DOWN_DROP => .ctr 5 0xa05018 [(32, 0x40)]
  | .SWB_TX_ABORTED => .ctr 5 0xa05020 [(32, 0x40)]
  | .SWB_HEADROOM_DROP => .ctr 5 0xa05028 [(32, 0x40)]
  | .SWB_PFC_XOFF_SENT => .ctr 5 0xa05030 [(32, 0x40)]
  | .SWB_MC_PARTIAL => .ctr 5 0xa05800 [(46, 8)]
  | .SWB_Q_TAIL_DROP => .ctr 5 0xa06000 [(368, 0x20)]
  | .SWB_Q_WRED_DROP => .ctr 5 0xa06008 [(368, 0x20)]
  | .SWB_Q_ECN_MARKED => .ctr 5 0xa06010 [(368, 0x20)]
  | .SWB_Q_SPILLED => .ctr 5 0xa06018 [(368, 0x20)]
  | .SCH_SHP_ACC_CTL => ⟨6, 0xc00040, [], 32, 0, 0, 0, 0, 0x7ffff, false, 0⟩
  | .SCH_SHP_ACC_STATUS => ⟨6, 0xc00044, [], 32, 0, 0, 0, 0, 0, false, 0⟩
  | .SCH_SHP_ACC_DATA0 => ⟨6, 0xc00048, [], 64, 0xffffffffffffffff, 0, 0, 0, 0, false, 0⟩
  | .SCH_SHP_ACC_DATA1 => ⟨6, 0xc00050, [], 64, 0xffffffffffffffff, 0, 0, 0, 0, false, 0⟩
  | .SCH_POL_ACC_CTL => ⟨6, 0xc00060, [], 32, 0, 0, 0, 0, 0xfffff, false, 0⟩
  | .SCH_POL_ACC_STATUS => ⟨6, 0xc00064, [], 32, 0, 0, 0, 0, 0, false, 0⟩
  | .SCH_POL_ACC_DATA => ⟨6, 0xc00068, [(4, 8)], 64, 0xffffffffffffffff, 0, 0, 0, 0, false, 0⟩
  | .SCH_COLOR_SEL => ⟨6, 0xc00090, [], 64, 0, 0xffffffffff, 0, 0, 0, false, 0⟩
  | .SCH_PCP_MAP => ⟨6, 0xc00100, [(16, 4)], 32, 0, 0xffffffff, 0, 0, 0, false, 0⟩
  | .SCH_DSCP_MAP => ⟨6, 0xc00200, [(16, 0x10), (2, 8)], 64, 0, 0xffffffffffffffff, 0, 0, 0, false, 0⟩
  | .SCH_REMARK => ⟨6, 0xc00300, [(16, 4)], 32, 0, 0x7ffffff, 0, 0, 0, false, 0⟩
  | .SCH_PORT_ARB => ⟨6, 0xc00400, [(46, 4)], 32, 0, 0xff, 0, 0, 0, false, 0xff⟩
  | .SCH_GATE_ADMIN_CFG => ⟨6, 0xc01000, [(32, 0x40)], 32, 0x107ff, 0, 0, 0, 0, false, 0⟩
  | .SCH_GATE_CTL => ⟨6, 0xc01004, [(32, 0x40)], 32, 0, 0, 0, 0, 0xffff0003, false, 0⟩
  | .SCH_GATE_STATUS => ⟨6, 0xc01008, [(32, 0x40)], 32, 0, 0, 0, 0, 0, false, 0⟩
  | .SCH_GATE_STATE => ⟨6, 0xc0100c, [(32, 0x40)], 32, 0, 0, 0, 0, 0, false, 0x1fe00000⟩
  | .SCH_GATE_ADMIN_BASE => ⟨6, 0xc01010, [(32, 0x40)], 64, 0xffffffffffffffff, 0, 0, 0, 0, false, 0⟩
  | .SCH_GATE_ADMIN_CYCLE => ⟨6, 0xc01018, [(32, 0x40)], 32, 0xffffffff, 0, 0, 0, 0, false, 0⟩
  | .SCH_GATE_CHANGE_VN => ⟨6, 0xc01020, [(32, 0x40)], 64, 0, 0, 0, 0, 0, false, 0⟩
  | .SCH_GATE_OPER_BASE => ⟨6, 0xc01028, [(32, 0x40)], 64, 0, 0, 0, 0, 0, false, 0⟩
  | .SCH_GATE_OPER_CYCLE => ⟨6, 0xc01030, [(32, 0x40)], 32, 0, 0, 0, 0, 0, false, 0⟩
  | .SCH_GATE_OVERSIZE => .ctr 6 0xc02000 [(32, 0x20)]
  | .SCH_GUARD_WAITS => .ctr 6 0xc02008 [(32, 0x20)]
  | .SCH_GATE_SWAPS => .ctr 6 0xc02010 [(32, 0x20)]
  | .SCH_POL_DROPS => .ctr 6 0xc02800 []
  | .SCH_POL_CHAIN_CUT => .ctr 6 0xc02808 []
  | .SCH_GATE_ADMIN => ⟨6, 0xc10000, [(32, 0x1000), (1024, 4)], 32, 0xffffffff, 0, 0, 0, 0, false, 0xff000000⟩
  | .SCH_GATE_OPER => ⟨6, 0xc40000, [(32, 0x1000), (1024, 4)], 32, 0, 0, 0, 0, 0, false, 0xff000000⟩
  | .DOR_SUP_CFG => ⟨7, 0xe00040, [(8, 0x40000)], 32, 0, 0xff, 0, 0, 0, false, 0⟩
  | .DOR_BUF_CFG => ⟨7, 0xe00044, [(8, 0x40000)], 32, 0, 0x7fff7fff, 0, 0, 0, false, 0x8006000⟩
  | .DOR_PUNT_CORES => ⟨7, 0xe00048, [(8, 0x40000)], 32, 0, 0xffffffff, 0, 0, 0, false, 0xffffffff⟩
  | .DOR_STALL_VOLLEYS => ⟨7, 0xe0004c, [(8, 0x40000)], 32, 0xffffffff, 0, 0, 0, 0, false, 0x100⟩
  | .DOR_CLU_CTL => ⟨7, 0xe00050, [(8, 0x40000)], 32, 1, 0, 0, 0, 0, false, 0⟩
  | .DOR_CLU_STATUS => ⟨7, 0xe00054, [(8, 0x40000)], 32, 0, 0, 0, 0, 0, false, 0⟩
  | .DOR_CLU_FRAMES => ⟨7, 0xe00058, [(8, 0x40000)], 32, 0, 0, 0, 0, 0, false, 0⟩
  | .DOR_SUP_ACT => ⟨7, 0xe00060, [(8, 0x40000)], 32, 0, 0, 0, 0, 0xffff0fff, false, 0⟩
  | .DOR_SUP_STATUS => ⟨7, 0xe00064, [(8, 0x40000)], 32, 0, 0, 0, 0, 0, false, 0⟩
  | .DOR_SUP_PC => ⟨7, 0xe00068, [(8, 0x40000)], 64, 0xffffffffffffffff, 0, 0, 0, 0, false, 0⟩
  | .DOR_SUP_ARG => ⟨7, 0xe00070, [(8, 0x40000)], 64, 0xffffffffffffffff, 0, 0, 0, 0, false, 0⟩
  | .DOR_FQ_HEAD => ⟨7, 0xe00080, [(8, 0x40000), (4, 8)], 64, 0, 0, 0, 0, 0, false, 0⟩
  | .DOR_FQ_STATUS => ⟨7, 0xe000a0, [(8, 0x40000)], 32, 0, 0, 0, 0, 0, false, 0⟩
  | .DOR_FQ_POP => ⟨7, 0xe000a4, [(8, 0x40000)], 32, 0, 0, 0, 0, 1, false, 0⟩
  | .DOR_NQ_HEAD => ⟨7, 0xe000b0, [(8, 0x40000), (2, 8)], 64, 0, 0, 0, 0, 0, false, 0⟩
  | .DOR_NQ_STATUS => ⟨7, 0xe000c0, [(8, 0x40000)], 32, 0, 0, 0, 0, 0, false, 0⟩
  | .DOR_NQ_POP => ⟨7, 0xe000c4, [(8, 0x40000)], 32, 0, 0, 0, 0, 1, false, 0⟩
  | .DOR_PUNTS_RX => .ctr 7 0xe00200 [(8, 0x40000)]
  | .DOR_FAULTS => .ctr 7 0xe00208 [(8, 0x40000)]
  | .DOR_FQ_OVERFLOW => .ctr 7 0xe00210 [(8, 0x40000)]
  | .DOR_CORE_STOPS => .ctr 7 0xe00218 [(8, 0x40000)]
  | .DOR_EVENT_STALLS => .ctr 7 0xe00220 [(8, 0x40000)]
  | .DOR_STEPS_COMMITTED => .ctr 7 0xe00228 [(8, 0x40000)]
  | .DOR_STEPS_ABORTED => .ctr 7 0xe00230 [(8, 0x40000)]
  | .DOR_STEPS_RESTARTED => .ctr 7 0xe00238 [(8, 0x40000)]
  | .DOR_FORK_FAILS => .ctr 7 0xe00240 [(8, 0x40000)]
  | .DOR_BUF_FAILS => .ctr 7 0xe00248 [(8, 0x40000)]
  | .DOR_DISCARDED_FRAMES => .ctr 7 0xe00250 [(8, 0x40000)]
  | .DOR_ACT_FOREIGN => .ctr 7 0xe00258 [(8, 0x40000)]
  | .DOR_SEV_LOST => .ctr 7 0xe00260 [(8, 0x40000)]
  | .DOR_RESET_DROPS => .ctr 7 0xe00268 [(8, 0x40000)]
  | .DOR_CORE_CTL => ⟨7, 0xe01000, [(8, 0x40000), (32, 0x100)], 32, 0, 0, 0, 0, 1, false, 0⟩
  | .DOR_CORE_STATUS => ⟨7, 0xe01004, [(8, 0x40000), (32, 0x100)], 32, 0, 0, 0, 0, 0, false, 0⟩
  | .DOR_SLOT => ⟨7, 0xe01010, [(8, 0x40000), (32, 0x100), (4, 4)], 32, 0, 0xffffffff, 0, 0, 0, false, 0xfedcba98⟩
  | .DOR_CORE_IDLE_SLOTS => .ctr 7 0xe01020 [(8, 0x40000), (32, 0x100)]
  | .DOR_CTX_CFG => ⟨7, 0xe01040, [(8, 0x40000), (32, 0x100), (8, 4)], 32, 0, 0x1fffff, 0, 0, 0, false, 0x180000⟩
  | .DOR_CTX_STATE => ⟨7, 0xe01060, [(8, 0x40000), (32, 0x100), (8, 4)], 32, 0, 0, 0, 0, 0, false, 0⟩
  | .DOR_CTX_SHARE => ⟨7, 0xe01080, [(8, 0x40000), (32, 0x100), (8, 8)], 64, 0, 0x7fff7fff3fff3fff, 0, 0, 0, false, 0x400000001000000⟩
  | .DOR_CTX_ISSUED => .ctr 7 0xe010c0 [(8, 0x40000), (32, 0x100), (8, 8)]
  | .HIF_ALIVE => ⟨8, 0x1000040, [], 32, 0, 0, 0, 0, 0, false, 0x5753⟩
  | .HIF_WIN_ACC_CTL => ⟨8, 0x1000044, [], 32, 0, 0, 0, 0, 0xffff03ff, false, 0⟩
  | .HIF_WIN_ACC_DATA0 => ⟨8, 0x1000048, [], 64, 0xffffffffffffffff, 0, 0, 0, 0, false, 0⟩
  | .HIF_WIN_ACC_DATA1 => ⟨8, 0x1000050, [], 64, 0xffffffffffffffff, 0, 0, 0, 0, false, 0⟩
  | .HIF_WIN_COMMIT => ⟨8, 0x1000058, [], 32, 0, 0, 0, 0, 0xffff0003, false, 0⟩
  | .HIF_WIN_STATUS => ⟨8, 0x100005c, [], 32, 0, 0, 0, 0, 0, false, 0⟩
  | .HIF_WIN_INFLIGHT => ⟨8, 0x1000060, [], 32, 0, 0, 0, 0, 0, false, 0⟩
  | .HIF_PMAP_ACC_CTL => ⟨8, 0x1000064, [], 32, 0, 0, 0, 0, 0xffff3fff, false, 0⟩
  | .HIF_PMAP_ACC_DATA => ⟨8, 0x1000068, [], 64, 0xffffffffffffffff, 0, 0, 0, 0, false, 0⟩
  | .HIF_PMAP_STATUS => ⟨8, 0x1000070, [], 32, 0, 0, 0, 0, 0, false, 0⟩
  | .PIT_CTL => ⟨8, 0x1000080, [], 64, 0, 0, 0, 0, 0xffff0003ffff, false, 0⟩
  | .PIT_STATUS => ⟨8, 0x1000088, [], 32, 0, 0, 0, 0, 0, false, 0⟩
  | .PIT_IMAGE_LEN => ⟨8, 0x100008c, [], 32, 0xffffffff, 0, 0, 0, 0, false, 0x4000000⟩
  | .PIT_IMAGE_ADDR => ⟨8, 0x1000090, [], 64, 0xffffffffffffffff, 0, 0, 0, 0, false, 0⟩
  | .PIT_IMAGE_OUT => ⟨8, 0x1000098, [], 32, 0, 0, 0, 0, 0, false, 0⟩
  | .PIT_DRAIN_LIMIT => ⟨8, 0x100009c, [], 32, 0xffffffff, 0, 0, 0, 0, false, 0x3d090⟩
  | .PIT_FREEZE_LIMIT => ⟨8, 0x10000a0, [], 32, 0xffffffff, 0, 0, 0, 0, false, 0x61a8⟩
  | .PIT_MIGKEY_STATUS => ⟨8, 0x10000a4, [], 32, 0, 0, 0, 0, 0, false, 0⟩
  | .HIF_LINK_STATUS => ⟨8, 0x1000200, [(4, 0x10)], 32, 0, 0, 8, 0, 0, false, 0x100⟩
  | .HIF_LPM => ⟨8, 0x1000204, [(4, 0x10)], 32, 0xffffffc0, 0, 0, 0, 0, false, 0x641400⟩
  | .HIF_CPL_TMO => ⟨8, 0x1000208, [(4, 0x10)], 32, 0xffff0001, 0, 0, 0, 0, false, 0xc3500000⟩
  | .HIF_WIN_MISS => .ctr 8 0x1001000 [(4, 0x80)]
  | .HIF_WIN_PERM => .ctr 8 0x1001008 [(4, 0x80)]
  | .HIF_CPL_TIMEOUTS => .ctr 8 0x1001010 [(4, 0x80)]
  | .HIF_UNEXPECTED_CPL => .ctr 8 0x1001018 [(4, 0x80)]
  | .HIF_TAG_WAIT_VOLLEYS => .ctr 8 0x1001020 [(4, 0x80)]
  | .HIF_DB_FOREIGN => .ctr 8 0x1001028 [(4, 0x80)]
  | .HIF_BAD_ACCESS => .ctr 8 0x1001030 [(4, 0x80)]
  | .HIF_L1_ENTRIES => .ctr 8 0x1001038 [(4, 0x80)]
  | .HIF_L0P_CHANGES => .ctr 8 0x1001040 [(4, 0x80)]
  | .HIF_GONE_EVENTS => .ctr 8 0x1001048 [(4, 0x80)]
  | .HIF_MSIX_ADDR => ⟨8, 0x1100000, [(4, 0x40000), (8192, 0x10)], 64, 0xfffffffffffffffc, 0, 0, 0, 0, false, 0⟩
  | .HIF_MSIX_CTL => ⟨8, 0x1100008, [(4, 0x40000), (8192, 0x10)], 64, 0x1ffffffff, 0, 0, 0, 0, false, 0x100000000⟩
  | .HIF_MSIX_PBA => ⟨8, 0x1120000, [(4, 0x40000), (128, 8)], 64, 0, 0, 0, 0, 0, false, 0⟩
  | .PIT_STATE => ⟨8, 0x1008000, [(4096, 4)], 32, 0, 0, 0, 0, 0, false, 0⟩
  | .PIT_QUOTA => ⟨8, 0x1010000, [(4096, 0x10), (2, 8)], 64, 0xffffffffffffffff, 0, 0, 0, 0, false, 0⟩
  | .PIT_USE => ⟨8, 0x1020000, [(4096, 0x10), (2, 8)], 64, 0, 0, 0, 0, 0, false, 0⟩
  | .PIT_ITEMS_ACCEPTED => .ctr 8 0x1040000 [(4096, 0x80)]
  | .PIT_ITEMS_COMPLETED => .ctr 8 0x1040008 [(4096, 0x80)]
  | .PIT_ITEMS_ABORTED => .ctr 8 0x1040010 [(4096, 0x80)]
  | .PIT_ITEMS_LOST => .ctr 8 0x1040018 [(4096, 0x80)]
  | .PIT_RX_FRAMES => .ctr 8 0x1040020 [(4096, 0x80)]
  | .PIT_RX_BYTES => .ctr 8 0x1040028 [(4096, 0x80)]
  | .PIT_TAIL_DROP => .ctr 8 0x1040030 [(4096, 0x80)]
  | .PIT_WRED_DROP => .ctr 8 0x1040038 [(4096, 0x80)]
  | .PIT_ECN_MARKED => .ctr 8 0x1040040 [(4096, 0x80)]
  | .PIT_QUOTA_DROP => .ctr 8 0x1040048 [(4096, 0x80)]
  | .PIT_DB_DROPPED => .ctr 8 0x1040050 [(4096, 0x80)]
  | .PIT_RESETS => .ctr 8 0x1040058 [(4096, 0x80)]
  | .PIT_DRAIN_TIMEOUTS => .ctr 8 0x1040060 [(4096, 0x80)]
  | .RNG_RING_ACC_CTL => ⟨9, 0x1200040, [], 64, 0, 0, 0, 0, 0xffff003fffff, false, 0⟩
  | .RNG_RING_ACC_STATUS => ⟨9, 0x1200048, [], 32, 0, 0, 0, 0, 0, false, 0⟩
  | .RNG_RING_ACC_DATA => ⟨9, 0x1200050, [(6, 8)], 64, 0xffffffffffffffff, 0, 0, 0, 0, false, 0⟩
  | .RNG_ADMIN_WORK_DB => ⟨9, 0x1200080, [], 64, 0, 0, 0, 0, 0xffffffffffffffff, false, 0⟩
  | .RNG_ADMIN_CQ_DB => ⟨9, 0x1200088, [], 64, 0, 0, 0, 0, 0xffffffffffffffff, false, 0⟩
  | .RNG_FW_WORK_DB => ⟨9, 0x1200090, [], 64, 0, 0, 0, 0, 0xffffffffffffffff, false, 0⟩
  | .RNG_FW_CQ_DB => ⟨9, 0x1200098, [], 64, 0, 0, 0, 0, 0xffffffffffffffff, false, 0⟩
  | .RNG_FW_DONE => ⟨9, 0x12000a0, [], 64, 0, 0, 0, 0, 0xffffffffffffffff, false, 0⟩
  | .RNG_ERR_LOG => ⟨9, 0x12000a8, [], 64, 0, 0, 0, 0xffffffffffffffff, 0, false, 0⟩
  | .RNG_DB_FOREIGN => .ctr 9 0x1200100 []
  | .RNG_DB_DISABLED => .ctr 9 0x1200108 []
  | .RNG_DB_NO_CREDIT => .ctr 9 0x1200110 []
  | .RNG_CQ_DB_BAD => .ctr 9 0x1200118 []
  | .RNG_LA_USED => .ctr 9 0x1200120 []
  | .RNG_LA_REFETCH => .ctr 9 0x1200128 []
  | .RNG_RX_NO_RING => .ctr 9 0x1200130 []
  | .RNG_RX_NO_BUF => .ctr 9 0x1200138 []
  | .RNG_RX_TRUNCATED => .ctr 9 0x1200140 []
  | .RNG_FW_DONE_BAD => .ctr 9 0x1200148 []
  | .RNG_ACC_FOREIGN => .ctr 9 0x1200150 []
  | .RNG_CTX_MISSES => .ctr 9 0x1200158 []
  | .RNG_IRQ_SENT => .ctr 9 0x1200160 []
  | .DMA_OWNER_HALT_LIMIT => ⟨10, 0x1400040, [(9, 0x20000)], 32, 0xffffffff, 0, 0, 0, 0, false, 0x61a8⟩
  | .DMA_HALT_LOG => ⟨10, 0x1400048, [(9, 0x20000)], 64, 0, 0, 0, 0xffffffffffffffff, 0, false, 0⟩
  | .DMA_OWNER_HALTS => .ctr 10 0x1400080 [(9, 0x20000)]
  | .DMA_RECLAIMS => .ctr 10 0x1400088 [(9, 0x20000)]
  | .DMA_SH_SRC => ⟨10, 0x1401000, [(9, 0x20000), (128, 0x200)], 64, 0xffffffffffffffff, 0, 0, 0, 0, false, 0⟩
  | .DMA_SH_DST => ⟨10, 0x1401008, [(9, 0x20000), (128, 0x200)], 64, 0xffffffffffffffff, 0, 0, 0, 0, false, 0⟩
  | .DMA_SH_LEN => ⟨10, 0x1401010, [(9, 0x20000), (128, 0x200)], 32, 0xffffffff, 0, 0, 0, 0, false, 0⟩
  | .DMA_SH_CFG => ⟨10, 0x1401014, [(9, 0x20000), (128, 0x200)], 32, 0x1fffff7f, 0, 0, 0, 0, false, 0⟩
  | .DMA_CH_CTL => ⟨10, 0x1401018, [(9, 0x20000), (128, 0x200)], 32, 0, 0, 0, 0, 0xffff000f, false, 0⟩
  | .DMA_CH_STATUS => ⟨10, 0x1401020, [(9, 0x20000), (128, 0x200)], 64, 0, 0, 0x28, 0, 0, false, 0⟩
  | .DMA_CH_OWNER => ⟨10, 0x1401028, [(9, 0x20000), (128, 0x200)], 64, 0x3fffffffff7f, 0, 0, 0, 0, false, 0⟩
  | .DMA_ACT_SRC => ⟨10, 0x1401040, [(9, 0x20000), (128, 0x200)], 64, 0, 0, 0, 0, 0, false, 0⟩
  | .DMA_ACT_DST => ⟨10, 0x1401048, [(9, 0x20000), (128, 0x200)], 64, 0, 0, 0, 0, 0, false, 0⟩
  | .DMA_ACT_LEN => ⟨10, 0x1401050, [(9, 0x20000), (128, 0x200)], 32, 0, 0, 0, 0, 0, false, 0⟩
  | .DMA_ACT_CFG => ⟨10, 0x1401054, [(9, 0x20000), (128, 0x200)], 32, 0, 0, 0, 0, 0, false, 0⟩
  | .DMA_ACT_REMAIN => ⟨10, 0x1401058, [(9, 0x20000), (128, 0x200)], 32, 0, 0, 0, 0, 0, false, 0⟩
  | .DMA_CH_TRANSFERS => .ctr 10 0x1401100 [(9, 0x20000), (128, 0x200)]
  | .DMA_CH_BYTES => .ctr 10 0x1401108 [(9, 0x20000), (128, 0x200)]
  | .DMA_CH_ERRORS => .ctr 10 0x1401110 [(9, 0x20000), (128, 0x200)]
  | .DMA_CH_LATE_ARMS => .ctr 10 0x1401118 [(9, 0x20000), (128, 0x200)]
  | .DMA_CH_SHADOW_LOCKED => .ctr 10 0x1401120 [(9, 0x20000), (128, 0x200)]
  | .DMA_CH_FOREIGN => .ctr 10 0x1401128 [(9, 0x20000), (128, 0x200)]
  | .CRY_KEYPORT_LOCK => ⟨11, 0x1600040, [], 32, 0, 0, 0, 0, 0x80000000, false, 0⟩
  | .CRY_KEYPORT_STATUS => ⟨11, 0x1600044, [], 32, 0, 0, 8, 0, 0, false, 0⟩
  | .CRY_KEYPORT_CTL => ⟨11, 0x1600048, [], 64, 0, 0, 0, 0, 0xffff1fffff1fffff, false, 0⟩
  | .CRY_KEYPORT_DATA => ⟨11, 0x1600080, [(9, 8)], 64, 0xffffffffffffffff, 0, 0, 0, 0, false, 0⟩
  | .CRY_SA_ACC_CTL => ⟨11, 0x1600100, [], 32, 0, 0, 0, 0, 0xfffff, false, 0⟩
  | .CRY_SA_ACC_STATUS => ⟨11, 0x1600104, [], 32, 0, 0, 0, 0, 0, false, 0⟩
  | .CRY_SA_ACC_DATA => ⟨11, 0x1600140, [(8, 8)], 64, 0xffffffffffffffff, 0, 0, 0, 0, false, 0⟩
  | .CRY_ALARM_STATUS => ⟨11, 0x1600200, [], 32, 0, 0, 0, 0, 0, false, 0⟩
  | .CRY_ALARM_VN => ⟨11, 0x1600208, [], 64, 0, 0, 0, 0, 0, false, 0⟩
  | .CRY_KEK_STATUS => ⟨11, 0x1600210, [], 32, 0, 0, 0, 0, 0, false, 0⟩
  | .CRY_SA_LIMIT_LOG => ⟨11, 0x1600218, [], 64, 0, 0, 0, 0xffffffff8003ffff, 0, false, 0⟩
  | .CRY_LANE_STATUS => ⟨11, 0x1600300, [(18, 4)], 32, 0, 0, 0, 0, 0, false, 0⟩
  | .CRY_AUTH_FAIL => .ctr 11 0x1600400 []
  | .CRY_REPLAY_DROP => .ctr 11 0x1600408 []
  | .CRY_FORMAT_DROP => .ctr 11 0x1600410 []
  | .CRY_SA_MISMATCH => .ctr 11 0x1600418 []
  | .CRY_SA_INVALID_DROP => .ctr 11 0x1600420 []
  | .CRY_SA_FOREIGN_DROP => .ctr 11 0x1600428 []
  | .CRY_KEY_EMPTY_DROP => .ctr 11 0x1600430 []
  | .CRY_PN_EXHAUSTED => .ctr 11 0x1600438 []
  | .CRY_TLS_SEQ_DROP => .ctr 11 0x1600440 []
  | .CRY_CHECK_RETRIES => .ctr 11 0x1600448 []
  | .CRY_CHECK_DROP => .ctr 11 0x1600450 []
  | .CRY_KEYPORT_LOADS => .ctr 11 0x1600458 []
  | .CRY_KEYPORT_DENIED => .ctr 11 0x1600460 []
  | .CRY_KEYPORT_TIMEOUTS => .ctr 11 0x1600468 []
  | .CRY_KEYPORT_FOREIGN => .ctr 11 0x1600470 []
  | .CRY_SA_FOREIGN_WRITE => .ctr 11 0x1600478 []
  | .CRY_KEYINFO => ⟨11, 0x1700000, [(262144, 4)], 32, 0, 0, 0, 0, 0, false, 0⟩
  | .STX_ACC_CTL => ⟨12, 0x1800040, [], 64, 0, 0, 0, 0, 0xffff000fffff, false, 0⟩
  | .STX_ACC_STATUS => ⟨12, 0x1800048, [], 32, 0, 0, 0, 0, 0, false, 0⟩
  | .STX_ACC_DATA => ⟨12, 0x1800080, [(12, 8)], 64, 0xffffffffffffffff, 0, 0, 0, 0, false, 0⟩
  | .STX_CONN_LOG => ⟨12, 0x1800100, [], 64, 0, 0, 0, 0xffffffff80ffffff, 0, false, 0⟩
  | .STX_PDU_TX => .ctr 12 0x1800200 []
  | .STX_PDU_RX => .ctr 12 0x1800208 []
  | .STX_PLACED_BYTES => .ctr 12 0x1800210 []
  | .STX_HDGST_ERR => .ctr 12 0x1800218 []
  | .STX_DDGST_ERR => .ctr 12 0x1800220 []
  | .STX_STALE_PDU => .ctr 12 0x1800228 []
  | .STX_TCP_OOO_DROP => .ctr 12 0x1800230 []
  | .STX_TCP_RETX => .ctr 12 0x1800238 []
  | .STX_TCP_RTO => .ctr 12 0x1800240 []
  | .STX_TCP_BAD_SEG => .ctr 12 0x1800248 []
  | .STX_ROCE_RETX => .ctr 12 0x1800250 []
  | .STX_ROCE_NAK_SENT => .ctr 12 0x1800258 []
  | .STX_ROCE_NAK_RCVD => .ctr 12 0x1800260 []
  | .STX_ROCE_CNP_SENT => .ctr 12 0x1800268 []
  | .STX_ROCE_CNP_RCVD => .ctr 12 0x1800270 []
  | .STX_ICRC_DROP => .ctr 12 0x1800278 []
  | .STX_CONN_ERRORS => .ctr 12 0x1800280 []
  | .STX_CONN_MISSES => .ctr 12 0x1800288 []
  | .STX_ACC_FOREIGN => .ctr 12 0x1800290 []
  | .MEM_KEY_EMPTY => .ctr 13 0x1a00100 [(4, 8)]
  | .BCP_STATUS => ⟨14, 0x1c00040, [], 32, 0, 0, 0, 0, 0, false, 0⟩
  | .BCP_WDT => ⟨14, 0x1c00044, [], 32, 0xffff, 0, 0, 0, 0, false, 0x3e8⟩
  | .BCP_BOOT_CONFIRM => ⟨14, 0x1c00048, [], 32, 0, 0, 0, 0, 1, false, 0⟩
  | .BCP_ESC_CFG => ⟨14, 0x1c0004c, [], 32, 3, 0, 0, 0, 0, false, 0⟩
  | .BCP_SMB_ADDR => ⟨14, 0x1c00050, [], 32, 0x7f, 0, 0, 0, 0, false, 0x32⟩
  | .BCP_DOM_CFG => ⟨14, 0x1c00058, [], 32, 0xffffffff, 0, 0, 0, 0, false, 0⟩
  | .BCP_LOG_WIDX => ⟨14, 0x1c00060, [], 64, 0, 0, 0, 0, 0, false, 0⟩
  | .BCP_EVENT_LOG => ⟨14, 0x1c00068, [], 64, 0, 0, 0, 0xffffffffffffffff, 0, false, 0⟩
  | .BCP_EVENT_VEC => ⟨14, 0x1c00070, [(4, 4)], 32, 0x3fff, 0, 0, 0, 0, false, 0⟩
  | .BCP_CAPSULES => .ctr 14 0x1c00100 []
  | .BCP_CAPSULES_REFUSED => .ctr 14 0x1c00108 []
  | .BCP_REBOOTS => .ctr 14 0x1c00110 []
  | .BCP_LOG_TORN => .ctr 14 0x1c00118 []
  | .BCP_EVENTS_LOST => .ctr 14 0x1c00120 []
  | .BCP_SENSOR => ⟨14, 0x1c01000, [(104, 4)], 32, 0, 0, 0, 0, 0, false, 0⟩
  | .BCP_SENSOR_WARN => ⟨14, 0x1c02000, [(104, 8)], 64, 0xffffff00ffffff, 0, 0, 0, 0, false, 0⟩
  | .BCP_SENSOR_CRIT => ⟨14, 0x1c03000, [(104, 8)], 64, 0xffffff00ffffff, 0, 0, 0, 0, false, 0⟩
  | .PWR_MODE => ⟨18, 0x2400040, [], 32, 0x1ff, 0, 0, 0, 0, false, 0⟩
  | .PWR_WAKE_STATUS => ⟨18, 0x2400044, [], 32, 0, 0, 7, 0, 0, false, 0⟩
  | .PWR_STATUS => ⟨18, 0x2400048, [], 32, 0, 0, 0, 0, 0, false, 0⟩
  | .PWR_DORMANT_ENTRIES => .ctr 18 0x2400080 []
  | .PWR_WAKE_RACES => .ctr 18 0x2400088 []
  | .REF_STATUS => ⟨15, 0x1e00040, [], 32, 0, 0, 0, 0, 0, false, 0⟩
  | .REF_CLEAR => ⟨15, 0x1e00044, [], 32, 0, 0, 0, 0, 1, false, 0⟩
  | .REF_PHYS_QUERY => ⟨15, 0x1e00048, [], 32, 0xffffff, 0, 0, 0, 0, false, 0⟩
  | .REF_PHYS_STATE => ⟨15, 0x1e0004c, [], 32, 0, 0, 0, 0, 0, false, 0⟩
  | .REF_LOG_WIDX => ⟨15, 0x1e00050, [], 64, 0, 0, 0, 0, 0, false, 0⟩
  | .REF_WHISTLES => .ctr 15 0x1e00080 []
  | .REF_WHISTLE_LOST => .ctr 15 0x1e00088 []
  | .REF_FENCED_TALK => .ctr 15 0x1e00090 []
  | .REF_FENCED_ACCESS => .ctr 15 0x1e00098 []
  | .REF_WIN_OVERFLOW => .ctr 15 0x1e000a0 []
  | .REF_LASTING => .ctr 15 0x1e000a8 []
  | .REF_SUBSTITUTIONS => .ctr 15 0x1e000b0 []
  | .REF_REPAIRS => .ctr 15 0x1e000b8 []
  | .REF_FENCE_DROPS => .ctr 15 0x1e000c0 []
  | .REF_READMITS => .ctr 15 0x1e000c8 []
  | .REF_KIND_CFG => ⟨15, 0x1e01000, [(256, 8)], 64, 0, 0x3ffff003fffff, 0, 0, 0, false, 0⟩
  | .REF_MAP => ⟨15, 0x1e02000, [(348, 4)], 32, 0, 0, 0, 0, 0, false, 0⟩
  | .REF_CAUSE => ⟨15, 0x1e03000, [(64, 8)], 64, 0, 0, 0, 0, 0, false, 0⟩
  | .REF_WIN => ⟨15, 0x1e40000, [(16384, 0x10), (2, 8)], 64, 0, 0, 0, 0, 0, false, 0⟩
  | .REF_LOG => ⟨15, 0x1f00000, [(4096, 0x20), (4, 8)], 64, 0, 0, 0, 0, 0, false, 0⟩
  | .JNL_STATUS => ⟨16, 0x2000040, [], 32, 0, 0, 0, 0, 0, false, 3⟩
  | .JNL_CTL => ⟨16, 0x2000044, [], 32, 0, 0, 0, 0, 1, false, 0⟩
  | .JNL_CKPT_VN => ⟨16, 0x2000048, [], 64, 0, 0, 0, 0, 0, false, 0⟩
  | .JNL_RESTORE_VN => ⟨16, 0x2000050, [], 64, 0, 0, 0, 0, 0, false, 0⟩
  | .JNL_REPLAY_RELEASED => .ctr 16 0x2000100 []
  | .JNL_REPLAY_EXECUTED => .ctr 16 0x2000108 []
  | .JNL_RETRIES => .ctr 16 0x2000110 []
  | .JNL_LOST_ITEMS => .ctr 16 0x2000118 []
  | .JNL_DISCARDED => .ctr 16 0x2000120 []
  | .JNL_FULL_VOLLEYS => .ctr 16 0x2000128 []
  | .JNL_EXT_WAIT => .ctr 16 0x2000130 []
  | .JNL_RESET_DROPS => .ctr 16 0x2000138 []
  | .SCH_SHP_ENTRY => ⟨100, 0, [(131072, 0x10), (2, 8)], 64, 0, 0xffffffffffffffff, 0, 0, 0, false, 0⟩
  | .SCH_POL_ENTRY => ⟨100, 0, [(262144, 0x20), (4, 8)], 64, 0, 0xffffffffffffffff, 0, 0, 0, false, 0⟩
  | .SWB_MC_GROUP => ⟨100, 0, [(65536, 4)], 32, 0xffffffff, 0, 0, 0, 0, false, 0⟩
  | .SWB_MC_REPLICA => ⟨100, 0, [(524288, 8)], 64, 0xffffffffffffffff, 0, 0, 0, 0, false, 0⟩
  | .HIF_PMAP_ENTRY => ⟨100, 0, [(4096, 8)], 64, 0xffffffffffffffff, 0, 0, 0, 0, false, 0⟩
  | .HIF_WIN_ENTRY => ⟨100, 0, [(256, 0x10), (2, 8)], 64, 0xffffffffffffffff, 0, 0, 0, 0, false, 0⟩
  | .HIF_CFG => ⟨100, 0, [(4, 0x1000), (1024, 4)], 32, 0, 0, 0, 0, 0, false, 0⟩
  | .CRY_SA_ENTRY => ⟨100, 0, [(262144, 0x40), (8, 8)], 64, 0xffffffffffffffff, 0, 0, 0, 0, false, 0⟩

/-- The registers of class 99 (the common block header), in the order of the offset tables. -/
def Reg.listOf99 : List Reg :=
  [.BLK_ID, .BLK_VERSION, .GROUP_APPLY, .GROUP_STATUS,
     .GROUP_PENDING_MASK, .GROUP_WAITING_MASK, .GROUP_TARGET_VN, .GROUP_APPLY_VN,
     .GROUP_REJECT_COUNT, .VOLLEY_OVERRUN_COUNT]

/-- The registers of class 0, in the order of the offset tables. -/
def Reg.listOf0 : List Reg :=
  [.SITE_MODE, .SITE_MODE_VN, .SITE_RESET]

/-- The registers of class 17, in the order of the offset tables. -/
def Reg.listOf17 : List Reg :=
  [.CLK_VN, .CLK_TIME_LOAD, .CLK_ADJ, .CLK_PHASE_ERR,
     .CLK_LOCK_TIMEOUT, .CLK_TIME_STATUS, .CLK_TOUT_PERIOD, .CLK_TOUT_WIDTH,
     .CLK_PLL_CTL, .CLK_PLL_STATUS, .CLK_SRC, .CLK_SRC_DROPPED]

/-- The registers of class 1, in the order of the offset tables. -/
def Reg.listOf1 : List Reg :=
  [.WIRE_PG_MAP, .WIRE_LANE_DEGRADE_LIMIT, .WIRE_PORT_CFG, .WIRE_PORT_CTL,
     .WIRE_PORT_STATUS, .WIRE_TS_ADJ, .WIRE_TS_TX_HEAD, .WIRE_TS_TX_TAG,
     .WIRE_TS_TX_POP, .WIRE_LANE_CTL, .WIRE_RX_FRAMES_OK, .WIRE_RX_BYTES_OK,
     .WIRE_RX_FCS_ERR, .WIRE_RX_UNDERSIZE, .WIRE_RX_FRAGMENT, .WIRE_RX_OVERSIZE,
     .WIRE_RX_ABORTED, .WIRE_RX_FC, .WIRE_TX_FRAMES, .WIRE_TX_BYTES,
     .WIRE_TX_OVERSIZE, .WIRE_TX_FC, .WIRE_FEC_CW_CORRECTED, .WIRE_FEC_CW_UNCORRECTED] ++
  [.WIRE_LINK_DOWN, .WIRE_TS_ONESTEP_DEMOTED, .WIRE_TS_TX_LOST, .WIRE_RX_MODE_DROP,
     .WIRE_LANE_FEC_SYMBOLS]

/-- The registers of class 2, in the order of the offset tables. -/
def Reg.listOf2 : List Reg :=
  [.PRS_DEPTH, .PRS_MALFORMED_ACTION, .PRS_MALFORMED_LAST, .PRS_NODE_LEN,
     .PRS_NODE_NEXT, .PRS_NODE_CHK, .PRS_NODE_XT, .PRS_TRANS,
     .PRS_PORT_CFG, .PRS_KSEL_EN, .PRS_KSEL_RANGE, .PRS_PARSED_OK,
     .PRS_MAL_TRUNCATED, .PRS_MAL_BAD_LENGTH, .PRS_MAL_TOO_MANY_TAGS, .PRS_MAL_TOO_DEEP,
     .PRS_MAL_LOOP, .PRS_DEFAULT_TAKEN, .PRS_ACTION_INVALID, .PRS_PUNT_FOREIGN,
     .PRS_DECAP_NO_L2, .PRS_TTL_EXPIRED, .PRS_TS_OUTSIDE]

/-- The registers of class 3, in the order of the offset tables. -/
def Reg.listOf3 : List Reg :=
  [.EPC_MODE, .EPC_COMMIT, .EPC_STATUS, .EPC_LIVE,
     .EPC_STAGED, .EPC_STALL_VOLLEYS, .EPC_PAUSE_HOLD, .EPC_TARGET_VN,
     .EPC_COMMIT_VN, .EPC_EPOCH_COUNT, .EPC_PARKED, .EPC_COMMITS,
     .EPC_BUSY_VOLLEYS, .EPC_PAUSES, .EPC_PAUSE_ABANDONED]

/-- The registers of class 4, in the order of the offset tables. -/
def Reg.listOf4 : List Reg :=
  [.TBL_AGE_STN, .TBL_AGE_FLOW, .TBL_AGE_NOW, .TBL_NOTICE_CFG,
     .TBL_FLOW_CFG, .TBL_FLOW_BASE, .TBL_SHADOW_BASE, .TBL_SHADOW_CTL,
     .TBL_SHADOW_STATUS, .TBL_PARITY_LOG, .TBL_FROZEN_LOG, .TBL_STN_ENTRIES,
     .TBL_FLOW_ENTRIES, .TBL_STN_RELOCATIONS, .TBL_STN_INSERT_FULL, .TBL_LEARN_QUEUE_DROP,
     .TBL_NOTICE_DROP, .TBL_AGED_STN, .TBL_AGED_FLOW, .TBL_PARITY_MISS,
     .TBL_PARITY_PURGED, .TBL_ISOLATION_SUSPECT, .TBL_SHADOW_SWEEPS, .TBL_SHADOW_FAIL] ++
  [.TBL_CMD_FOREIGN, .TBL_NH_INVALID, .TBL_LEARN_CFG, .TBL_CMD_CTL,
     .TBL_CMD_INDEX, .TBL_CMD_STATUS, .TBL_CMD_MODE, .TBL_CMD_DATA,
     .TBL_PORT_LEARNS, .TBL_PORT_MOVES, .TBL_PORT_VIOLATIONS, .TBL_PORT_RATE_DROP]

/-- The registers of class 5, in the order of the offset tables. -/
def Reg.listOf5 : List Reg :=
  [.SWB_HASH_CTL, .SWB_HASH_RANGE, .SWB_PATH_MAP, .SWB_POOL_HEADROOM,
     .SWB_POOL_RESERVED, .SWB_POOL_SHARED, .SWB_SHARED_USED, .SWB_CLUSTER_CTL,
     .SWB_CLUSTER_STATUS, .SWB_RSQ_SKIP, .SWB_RSQ_STALL, .SWB_MC_ACC_CTL,
     .SWB_MC_ACC_DATA, .SWB_BPROF, .SWB_SPILL, .SWB_MIRROR,
     .SWB_PORT_CFG, .SWB_PORT_PFC, .SWB_PORT_STATUS, .SWB_WRED,
     .SWB_WRED_CTL, .SWB_QCFG, .SWB_REPIN_HELD, .SWB_SPILL_RATE_DROP] ++
  [.SWB_CELL_CRC_DROP, .SWB_MC_EMPTY, .SWB_MC_PRUNED, .SWB_MC_BAD_WRITE,
     .SWB_RSQ_LATE, .SWB_RSQ_SLOT_OVER, .SWB_RSQ_FULL_VOLLEYS, .SWB_PUNT_NO_CLUSTER,
     .SWB_PATH_FULL_DROP, .SWB_MIRROR_DROP, .SWB_CT_FALLBACK, .SWB_CT_STOMPED,
     .SWB_FLUSH_LINKDOWN, .SWB_PORT_DOWN_DROP, .SWB_TX_ABORTED, .SWB_HEADROOM_DROP,
     .SWB_PFC_XOFF_SENT, .SWB_MC_PARTIAL, .SWB_Q_TAIL_DROP, .SWB_Q_WRED_DROP,
     .SWB_Q_ECN_MARKED, .SWB_Q_SPILLED]

/-- The registers of class 6, in the order of the offset tables. -/
def Reg.listOf6 : List Reg :=
  [.SCH_SHP_ACC_CTL, .SCH_SHP_ACC_STATUS, .SCH_SHP_ACC_DATA0, .SCH_SHP_ACC_DATA1,
     .SCH_POL_ACC_CTL, .SCH_POL_ACC_STATUS, .SCH_POL_ACC_DATA, .SCH_COLOR_SEL,
     .SCH_PCP_MAP, .SCH_DSCP_MAP, .SCH_REMARK, .SCH_PORT_ARB,
     .SCH_GATE_ADMIN_CFG, .SCH_GATE_CTL, .SCH_GATE_STATUS, .SCH_GATE_STATE,
     .SCH_GATE_ADMIN_BASE, .SCH_GATE_ADMIN_CYCLE, .SCH_GATE_CHANGE_VN, .SCH_GATE_OPER_BASE,
     .SCH_GATE_OPER_CYCLE, .SCH_GATE_OVERSIZE, .SCH_GUARD_WAITS, .SCH_GATE_SWAPS] ++
  [.SCH_POL_DROPS, .SCH_POL_CHAIN_CUT, .SCH_GATE_ADMIN, .SCH_GATE_OPER]

/-- The registers of class 7, in the order of the offset tables. -/
def Reg.listOf7 : List Reg :=
  [.DOR_SUP_CFG, .DOR_BUF_CFG, .DOR_PUNT_CORES, .DOR_STALL_VOLLEYS,
     .DOR_CLU_CTL, .DOR_CLU_STATUS, .DOR_CLU_FRAMES, .DOR_SUP_ACT,
     .DOR_SUP_STATUS, .DOR_SUP_PC, .DOR_SUP_ARG, .DOR_FQ_HEAD,
     .DOR_FQ_STATUS, .DOR_FQ_POP, .DOR_NQ_HEAD, .DOR_NQ_STATUS,
     .DOR_NQ_POP, .DOR_PUNTS_RX, .DOR_FAULTS, .DOR_FQ_OVERFLOW,
     .DOR_CORE_STOPS, .DOR_EVENT_STALLS, .DOR_STEPS_COMMITTED, .DOR_STEPS_ABORTED] ++
  [.DOR_STEPS_RESTARTED, .DOR_FORK_FAILS, .DOR_BUF_FAILS, .DOR_DISCARDED_FRAMES,
     .DOR_ACT_FOREIGN, .DOR_SEV_LOST, .DOR_RESET_DROPS, .DOR_CORE_CTL,
     .DOR_CORE_STATUS, .DOR_SLOT, .DOR_CORE_IDLE_SLOTS, .DOR_CTX_CFG,
     .DOR_CTX_STATE, .DOR_CTX_SHARE, .DOR_CTX_ISSUED]

/-- The registers of class 8, in the order of the offset tables. -/
def Reg.listOf8 : List Reg :=
  [.HIF_ALIVE, .HIF_WIN_ACC_CTL, .HIF_WIN_ACC_DATA0, .HIF_WIN_ACC_DATA1,
     .HIF_WIN_COMMIT, .HIF_WIN_STATUS, .HIF_WIN_INFLIGHT, .HIF_PMAP_ACC_CTL,
     .HIF_PMAP_ACC_DATA, .HIF_PMAP_STATUS, .PIT_CTL, .PIT_STATUS,
     .PIT_IMAGE_LEN, .PIT_IMAGE_ADDR, .PIT_IMAGE_OUT, .PIT_DRAIN_LIMIT,
     .PIT_FREEZE_LIMIT, .PIT_MIGKEY_STATUS, .HIF_LINK_STATUS, .HIF_LPM,
     .HIF_CPL_TMO, .HIF_WIN_MISS, .HIF_WIN_PERM, .HIF_CPL_TIMEOUTS] ++
  [.HIF_UNEXPECTED_CPL, .HIF_TAG_WAIT_VOLLEYS, .HIF_DB_FOREIGN, .HIF_BAD_ACCESS,
     .HIF_L1_ENTRIES, .HIF_L0P_CHANGES, .HIF_GONE_EVENTS, .HIF_MSIX_ADDR, .HIF_MSIX_CTL, .HIF_MSIX_PBA, .PIT_STATE,
     .PIT_QUOTA, .PIT_USE, .PIT_ITEMS_ACCEPTED, .PIT_ITEMS_COMPLETED,
     .PIT_ITEMS_ABORTED, .PIT_ITEMS_LOST, .PIT_RX_FRAMES, .PIT_RX_BYTES,
     .PIT_TAIL_DROP, .PIT_WRED_DROP, .PIT_ECN_MARKED, .PIT_QUOTA_DROP,
     .PIT_DB_DROPPED, .PIT_RESETS, .PIT_DRAIN_TIMEOUTS]

/-- The registers of class 9, in the order of the offset tables. -/
def Reg.listOf9 : List Reg :=
  [.RNG_RING_ACC_CTL, .RNG_RING_ACC_STATUS, .RNG_RING_ACC_DATA, .RNG_ADMIN_WORK_DB,
     .RNG_ADMIN_CQ_DB, .RNG_FW_WORK_DB, .RNG_FW_CQ_DB, .RNG_FW_DONE,
     .RNG_ERR_LOG, .RNG_DB_FOREIGN, .RNG_DB_DISABLED, .RNG_DB_NO_CREDIT,
     .RNG_CQ_DB_BAD, .RNG_LA_USED, .RNG_LA_REFETCH, .RNG_RX_NO_RING,
     .RNG_RX_NO_BUF, .RNG_RX_TRUNCATED, .RNG_FW_DONE_BAD, .RNG_ACC_FOREIGN,
     .RNG_CTX_MISSES, .RNG_IRQ_SENT]

/-- The registers of class 10, in the order of the offset tables. -/
def Reg.listOf10 : List Reg :=
  [.DMA_OWNER_HALT_LIMIT, .DMA_HALT_LOG, .DMA_OWNER_HALTS, .DMA_RECLAIMS,
     .DMA_SH_SRC, .DMA_SH_DST, .DMA_SH_LEN, .DMA_SH_CFG,
     .DMA_CH_CTL, .DMA_CH_STATUS, .DMA_CH_OWNER, .DMA_ACT_SRC,
     .DMA_ACT_DST, .DMA_ACT_LEN, .DMA_ACT_CFG, .DMA_ACT_REMAIN,
     .DMA_CH_TRANSFERS, .DMA_CH_BYTES, .DMA_CH_ERRORS, .DMA_CH_LATE_ARMS,
     .DMA_CH_SHADOW_LOCKED, .DMA_CH_FOREIGN]

/-- The registers of class 11, in the order of the offset tables. -/
def Reg.listOf11 : List Reg :=
  [.CRY_KEYPORT_LOCK, .CRY_KEYPORT_STATUS, .CRY_KEYPORT_CTL, .CRY_KEYPORT_DATA,
     .CRY_SA_ACC_CTL, .CRY_SA_ACC_STATUS, .CRY_SA_ACC_DATA, .CRY_ALARM_STATUS,
     .CRY_ALARM_VN, .CRY_KEK_STATUS, .CRY_SA_LIMIT_LOG, .CRY_LANE_STATUS,
     .CRY_AUTH_FAIL, .CRY_REPLAY_DROP, .CRY_FORMAT_DROP, .CRY_SA_MISMATCH,
     .CRY_SA_INVALID_DROP, .CRY_SA_FOREIGN_DROP, .CRY_KEY_EMPTY_DROP, .CRY_PN_EXHAUSTED,
     .CRY_TLS_SEQ_DROP, .CRY_CHECK_RETRIES, .CRY_CHECK_DROP, .CRY_KEYPORT_LOADS] ++
  [.CRY_KEYPORT_DENIED, .CRY_KEYPORT_TIMEOUTS, .CRY_KEYPORT_FOREIGN, .CRY_SA_FOREIGN_WRITE,
     .CRY_KEYINFO]

/-- The registers of class 12, in the order of the offset tables. -/
def Reg.listOf12 : List Reg :=
  [.STX_ACC_CTL, .STX_ACC_STATUS, .STX_ACC_DATA, .STX_CONN_LOG,
     .STX_PDU_TX, .STX_PDU_RX, .STX_PLACED_BYTES, .STX_HDGST_ERR,
     .STX_DDGST_ERR, .STX_STALE_PDU, .STX_TCP_OOO_DROP, .STX_TCP_RETX,
     .STX_TCP_RTO, .STX_TCP_BAD_SEG, .STX_ROCE_RETX, .STX_ROCE_NAK_SENT,
     .STX_ROCE_NAK_RCVD, .STX_ROCE_CNP_SENT, .STX_ROCE_CNP_RCVD, .STX_ICRC_DROP,
     .STX_CONN_ERRORS, .STX_CONN_MISSES, .STX_ACC_FOREIGN]

/-- The registers of class 13, in the order of the offset tables. -/
def Reg.listOf13 : List Reg :=
  [.MEM_KEY_EMPTY]

/-- The registers of class 14, in the order of the offset tables. -/
def Reg.listOf14 : List Reg :=
  [.BCP_STATUS, .BCP_WDT, .BCP_BOOT_CONFIRM, .BCP_ESC_CFG,
     .BCP_SMB_ADDR, .BCP_DOM_CFG, .BCP_LOG_WIDX, .BCP_EVENT_LOG,
     .BCP_EVENT_VEC, .BCP_CAPSULES, .BCP_CAPSULES_REFUSED, .BCP_REBOOTS,
     .BCP_LOG_TORN, .BCP_EVENTS_LOST, .BCP_SENSOR, .BCP_SENSOR_WARN,
     .BCP_SENSOR_CRIT]

/-- The registers of class 18, in the order of the offset tables. -/
def Reg.listOf18 : List Reg :=
  [.PWR_MODE, .PWR_WAKE_STATUS, .PWR_STATUS, .PWR_DORMANT_ENTRIES,
     .PWR_WAKE_RACES]

/-- The registers of class 15, in the order of the offset tables. -/
def Reg.listOf15 : List Reg :=
  [.REF_STATUS, .REF_CLEAR, .REF_PHYS_QUERY, .REF_PHYS_STATE,
     .REF_LOG_WIDX, .REF_WHISTLES, .REF_WHISTLE_LOST, .REF_FENCED_TALK,
     .REF_FENCED_ACCESS, .REF_WIN_OVERFLOW, .REF_LASTING, .REF_SUBSTITUTIONS,
     .REF_REPAIRS, .REF_FENCE_DROPS, .REF_READMITS, .REF_KIND_CFG,
     .REF_MAP, .REF_CAUSE, .REF_WIN, .REF_LOG]

/-- The registers of class 16, in the order of the offset tables. -/
def Reg.listOf16 : List Reg :=
  [.JNL_STATUS, .JNL_CTL, .JNL_CKPT_VN, .JNL_RESTORE_VN,
     .JNL_REPLAY_RELEASED, .JNL_REPLAY_EXECUTED, .JNL_RETRIES, .JNL_LOST_ITEMS,
     .JNL_DISCARDED, .JNL_FULL_VOLLEYS, .JNL_EXT_WAIT, .JNL_RESET_DROPS]

/-- The registers of class 100, in the order of the offset tables. -/
def Reg.listOf100 : List Reg :=
  [.SCH_SHP_ENTRY, .SCH_POL_ENTRY, .SWB_MC_GROUP, .SWB_MC_REPLICA,
     .HIF_PMAP_ENTRY, .HIF_WIN_ENTRY, .HIF_CFG, .CRY_SA_ENTRY]

/-- The registers of a class, for address decoding. -/
def Reg.ofClass : Nat → List Reg
  | 99 => Reg.listOf99
  | 0 => Reg.listOf0
  | 17 => Reg.listOf17
  | 1 => Reg.listOf1
  | 2 => Reg.listOf2
  | 3 => Reg.listOf3
  | 4 => Reg.listOf4
  | 5 => Reg.listOf5
  | 6 => Reg.listOf6
  | 7 => Reg.listOf7
  | 8 => Reg.listOf8
  | 9 => Reg.listOf9
  | 10 => Reg.listOf10
  | 11 => Reg.listOf11
  | 12 => Reg.listOf12
  | 13 => Reg.listOf13
  | 14 => Reg.listOf14
  | 18 => Reg.listOf18
  | 15 => Reg.listOf15
  | 16 => Reg.listOf16
  | 100 => Reg.listOf100
  | _ => []

end Sys2Proof.Machine
end

