-- ==== Sys2Proof/Machine/State.lean ====
section
/-! DEFINITION. The state of the device as plain data: the register file, the structured state of every block, the
frames inside, and the queue of the commands that wait. -/

namespace Sys2Proof.Machine

/-- CLK (R15 to R18, R31): the volley number, the length in ns of the volley now running and of the 32 before it, the newest first, a CLK_TIME_LOAD that waits
for its boundary (value, ns elapsed since the write at that boundary), the boundaries since the last CLK_ADJ write, and
the level of the TIME_OUT ball. -/
structure Clk where
  vn : Nat
  volleyNs : Nat
  lens : List Nat
  timeLoad : Option (Nat × Nat)
  sinceAdj : Nat
  timeOut : Bool
  /-- per unit: overrun volleys in its present 25,000-volley period and that period's start (R21) -/
  overruns : Sparse (Nat × Nat)
  /-- the units that do not finish their boundary work in this volley (R20, R21) -/
  late : List Nat
  deriving DecidableEq, Repr

/-- The Logbook (R523): priority and ordinary records raised and not yet taken, records sealed whose acknowledgement is
outstanding, the records of the Journal Store, the number of the next record raised, the next SEQ, the priority and the ordinary
records taken since the last boundary, and the numbers of those records. -/
structure Log where
  prio : List LogEntry
  ord : List LogEntry
  taken : List LogEntry
  store : List LogRec
  nextId : Nat
  nextSeq : Nat
  took : Nat × Nat
  fresh : List Nat
  deriving DecidableEq, Repr

/-- WIRE (R39 to R53): the ports by number and the lanes by number. -/
structure Wire where
  ports : Sparse WirePort
  lanes : Sparse WireLane
  deriving DecidableEq, Repr

/-- PARSE and PIPE: the number of the configuration in force, the earlier configurations that frames still use (R61), and the headers
each ingress pipeline has admitted in this volley (R20). -/
structure Prs where
  ver : Nat
  olds : List (Nat × List (Nat × Word))
  admitted : Sparse Nat
  deriving DecidableEq, Repr

/-- The epoch machinery (R95 to R117). Epochs are counted from 0 without wrapping; the stamp is the count modulo 256.
`cur` and `oldest` are the current and the oldest live epoch; `waited` counts the boundaries a due commit has waited;
`pauseFrom` is V+1 of a pause that holds admission and `applyFrom` its D. `retirable` counts the epochs that retire at the present
boundary, `drained` says that the pipelines and lanes were empty at it, and `busy` is the oldest epoch last reported as COMMIT_BUSY. -/
structure Epc where
  cur : Nat
  oldest : Nat
  closed : Option Commit
  heldC : Option Commit
  waited : Nat
  pauseFrom : Option Nat
  applyFrom : Option Nat
  retirable : Nat
  drained : Bool
  busy : Option Nat
  deriving DecidableEq, Repr

/-- TBL (R123 to R162): the entries by table code and index, the outstanding command of each port, the learning queue
and the aging queue, the learn tokens of each port, the shadow records, the two log FIFOs, the counter pairs of the
last snapshot (R137), and the VN at which a running sweep started. -/
structure Tbl where
  entries : Sparse TblEntry
  cmds : Sparse TblCmd
  learnQ : List LearnReq
  ageQ : List AgeReq
  tokens : Sparse Nat
  iso : Sparse IsoMark
  parityLog : List Nat
  frozenLog : List Nat
  snapPairs : Sparse Nat
  sweep : Option Nat
  deriving DecidableEq, Repr

/-- SWB (R163 to R196): the average depth of each queue in 1/256 cells and the VN since which it is empty (R180), the
sample counts of the mirror sessions, the port-classes in XOFF with the VN of the last frame sent, the holds by port
with the VN they expire, the buckets behind a drain barrier with their old path (R169), the cluster barrier raised by an
EN change (old EN, and the clusters and order queues that were busy at it) and that raised by an apply of group 0 (slots and
queued frames it waits for), the reorder slots, the numbers of skipped slots whose frame is still out (R192), and the spill bytes
written and read beyond the budget of the volleys before. -/
structure Swb where
  avg : Sparse (Nat × Nat)
  mirrorCount : Sparse Nat
  xoff : Sparse Nat
  hold : Sparse Nat
  barrier : Sparse Nat
  enBarrier : Option (Nat × List (Nat × Nat))
  cluBarrier : Option (List Nat × List Nat)
  slots : Sparse Slot
  skipped : List Nat
  spillWrite : Nat
  spillRead : Nat
  deriving DecidableEq, Repr

/-- SCH (R198 to R228): the pending gate changes by port, the buckets of the shaper nodes in 2^-32 bytes, the deficits
and the child now served of the round robin (R200), the buckets and the VN of the last charge of the policers (R219),
the VN in which a port last counted a guard wait, the VN at which a port last left a hold (R208), the refills deferred, those made
at this boundary, and the deferred ones that a node set by a rewrite does not take (R215 to R217). -/
structure Sch where
  change : Sparse GateChange
  bucket : Sparse Int
  deficit : Sparse Int
  turn : Sparse Nat
  pol : Sparse (Nat × Nat × Nat)
  guardVn : Sparse Nat
  afterHold : Sparse Nat
  owed : Nat
  given : Nat
  forgiven : Sparse Nat
  deriving DecidableEq, Repr

/-- REF (R461 to R482): the fences in force, those decided, the substitutions under way, the units under test with the
volley their test began, those that passed it, the units under repair with the whistle kind, every cause with its order, the identity epochs of
the units of classes without bench units (R473), the fenced units whose first dropped talk has been logged (R477), the
volley at which a unit's last repair completed (R472), the copies of pseudo-channels under way (from, to), the
sequence number last seen of each source at the collector (R464), and the lasting faults of LOCKDOWN whose action is still
to be taken (R469). -/
structure Ref where
  fenced : List Nat
  due : List FenceDue
  subst : List Subst
  testing : List (Nat × Nat)
  passed : List FenceDue
  repairing : List (Nat × Nat)
  causes : List Cause
  epochs : Sparse Nat
  talked : List Nat
  lastRepair : Sparse Nat
  copies : List (Nat × Nat)
  seen : Sparse Nat
  deferred : List (Nat × Nat)
  deriving DecidableEq, Repr

/-- HIF (R293 to R316): the host requests outstanding and the tags quarantined with the VN that releases them (keyed
16384 × link + tag), the pending Window cells written since the last GO or DISCARD and whether PENDING is set, the Window commit that
waits (TAG, snapshot, from BAR0 or an OPERATOR capsule), the BAR4 requests in progress (the mapping each uses, the VN at which it
ends), the number of the mapping in force, the links whose partner supports L0p, the lanes each link trained to, and the VN of the
last request or completion sent or received on it (R312). -/
structure Hif where
  reqs : Sparse Req
  quarantine : Sparse Nat
  pend : Sparse Word
  dirty : Bool
  waiting : Option (Nat × List (Nat × Word) × Bool)
  inflight : List (Nat × Nat)
  mapping : Nat
  l0p : List Nat
  full : Sparse Nat
  lastUse : Sparse Nat
  deriving DecidableEq, Repr

/-- RNG and JNL (R317 to R359, R483 to R508): rings, completion rings and items by number (items keyed 2^32 × ring +
index), the round and position of every arbiter level, the error log, the pitch and RXMAP entries, the data movements
that wait for a QUEUE channel, the data read for items by item key, and the RESET or DISABLE that waits for its drain
(CTL value, ring). -/
structure Rng where
  rings : Sparse Ring
  cqs : Sparse Cq
  items : Sparse Item
  turn : Sparse (Nat × Nat)
  errLog : List Nat
  pitch : Sparse Nat
  rxmap : Sparse Nat
  work : List Work
  bufs : Sparse (List Byte)
  accBusy : Option (Nat × Nat)
  deriving DecidableEq, Repr

/-- DMA (R360 to R377): the channels (keyed 128 × instance + unit), the channel each arbiter served last (keyed by link,
4 for the internal mover), the bursts it has issued in the present volley (R365), and the halt logs (keyed by instance). -/
structure Dma where
  chans : Sparse Chan
  turn : Sparse Nat
  bursts : Sparse Nat
  haltLog : Sparse (List Nat)
  deriving DecidableEq, Repr

/-- The memories (R125, R229, R401 to R403, R501): HBM by internal address with the key each 64-byte line is encrypted
under and the lines whose code is known bad (R475), cluster shared memory keyed 2^23 × cluster + offset, core local memory keyed 2^18 × (34 × cluster + core) +
offset, and Basecamp's SRAM. -/
structure Mem where
  hbm : List Host.Cell
  hbmKey : Sparse Nat
  bad : List Nat
  shared : List Host.Cell
  loc : List Host.Cell
  sram : List Host.Cell
  deriving DecidableEq, Repr

/-- The keys and the Key Port (R394 to R400, R405, R450): the 64-byte slots as numbers, the KEK, the migration key, the
no-pitch and the spill key, the Key Port's holder and the VN its timeout ends, a Key Port operation that runs (its CTL
value and whether its wrapped image unwraps), whether a release waits for it, the SAs that have logged a limit since their
last write, whether the device regions have been zeroed (R402), whether an alarm's erase runs (R405), the frames and
items in the lanes in dispatch order, and the frames that have reached the complex and wait for a lane, in order (R379). -/
structure Cry where
  slots : Sparse Nat
  kek : Option Nat
  migKey : Option Nat
  noPitch : Option Nat
  spill : Option Nat
  holder : Option (Origin × Nat)
  op : Option (Nat × Origin)
  relDue : Bool
  limited : List Nat
  limitLog : List Nat
  zeroing : Option Nat
  erasing : Bool
  jobs : List Job
  arrived : List Nat
  deriving DecidableEq, Repr

/-- STX (R411 to R434): the connections, the namespace entries, the connection log, and a REMOVE that waits for its items
(TAG, connection), with whether what arrived before it is still being processed. -/
structure Stx where
  conns : Sparse Conn
  nss : Sparse Nat
  log : List Nat
  removing : Option (Nat × Nat)
  draining : Bool
  deriving DecidableEq, Repr

/-- DOR (R229 to R263): the contexts keyed 256 × cluster + thread, with Basecamp's core at 2048; the fault and the
notice queue of each cluster; the core that last received a punt; the boundaries each core has been in event stall, and
since the 0x50 record of a core was queued; the FORKW waiters in order; the sleeping clusters, with whether a wake
is due; the core clock cycles of each cluster, and of Basecamp (8), since its
reset; the instructions each core (and Basecamp, 256) has issued in this volley, the cycles of it that have passed and the context
that took its last filler cycle (R234); the buffer blocks in use, by frame: its cluster and its chain of blocks; the committed steps
not yet released; the cores to restart after a substitution; the slot words in force before the last apply that changed them,
and the cycle of each cluster from which the new ones are (R237); the local-memory part of the image loaded into each cluster; and
the stalled cores whose supervisor's core was in event stall at the same boundary (R246). -/
structure Dor where
  ctxs : Sparse Ctx
  fq : Sparse (List Nat)
  nq : Sparse (List Nat)
  spray : Sparse Nat
  stall : Sparse Nat
  stallRec : Sparse Nat
  forkq : List Nat
  asleep : Sparse Bool
  cycles : Sparse Nat
  issued : Sparse Nat
  cyc : Sparse Nat
  fill : Sparse Nat
  blocks : Sparse (Nat × List Nat)
  releases : List (Nat × StepRec)
  restarts : List Nat
  slotOld : Sparse Nat
  slotFrom : Sparse Nat
  images : Sparse (List Byte)
  stallBoth : List Nat
  deriving DecidableEq, Repr

/-- PIT (R435 to R459): the operation that runs, and the pitch last thawed with the VN of its THAW, whose acceptance opens at
the boundary after it (R455). -/
structure Pit where
  op : Option PitOp
  thawed : Option (Nat × Nat)
  deriving DecidableEq, Repr

/-- JNL (R483 to R508) beside the items: the flush image slots A (0) and B (1); the stage of the power-fail sequence (0 none, 1
latched, 2 stopped at V0, 3 flushing from V1, 4 flushed) and the VN of V0 or V1; the slot a flush image is being written
into; the checkpoint images by slot with their VN, the one being written (slot, VN, counters), and whether one is late
(R20); whether the restore of R505 has ended, the work rings and completion rings it restored; the resets that run, and the
work rings whose replay has not ended (R496). -/
structure Jnl where
  slots : Sparse FlushImg
  fail : Nat
  failVn : Nat
  flushing : Option Nat
  ckpts : Sparse (Nat × Sparse Word)
  ckptRun : Option (Nat × Nat × Sparse Word)
  ckptLate : Bool
  restored : Bool
  restRings : List Nat
  restCqs : List Nat
  resets : List ResetRun
  replay : List Nat
  deriving DecidableEq, Repr

/-- BCP and PWR (R509 to R544): the VN of the last restart of the watchdog and of the present firmware's start, the active
slot of the boot record and the slot to return to while a trial runs (R535), the digests of the key record (R533), the
fused minimum SVN, the update under way, the SPI NOR flash, the crossings reported of each sensor limit with the samples
inside since (keyed 4 × sensor + limit, R529), the entry to DORMANT under way (its stage, the VN it began and its origin, R537), the
VN at which the PLLs were enabled (R540), the capsules in progress (R514), the Trim Set as loaded (R55) and whether its load has been done since the last reset, the digests of the
running Basecamp image (0) and of the image of cluster c (1 + c) (R408), the ports whose PERST#
is asserted, whether the wake latches are armed (R538), whether the rails are down (R506), and the NC-SI package ID that the
straps give (R562). -/
structure Bcp where
  wdtAt : Nat
  started : Nat
  active : Nat
  trialBack : Option Nat
  keys : List (List Byte)
  minSvn : Nat
  upd : Option Upd
  flash : List Host.Cell
  crossed : Sparse Nat
  dormant : Option (Nat × Nat × Origin)
  pll : Option Nat
  caps : List CapRun
  trim : Option (List Byte)
  trimDone : Bool
  images : Sparse (List Byte)
  perst : List Nat
  armed : Bool
  off : Bool
  pkg : Nat
  deriving DecidableEq, Repr

/-- The reasons a step can stop with a fault. -/
inductive Fault where
  /-- a command names a port, lane, ring, table or other object outside the device's numbers; raised by the meanings
  that take such an operand. Safe: the spec gives the device no such object. -/
  | noSuchObject
  deriving DecidableEq, Repr

/-- The reasons a step can be refused. -/
inductive Refusal where
  /-- the row has no meaning in this model yet; raised by exec's arm. Safe. -/
  | notModelled (mnemonic : String)
  deriving DecidableEq, Repr

/-- Everything the spec gives the WSH1680: its registers, memories, queues and pins. -/
structure Dev where
  /-- the registers in force: every listed cell differs from its reset value -/
  regs : Sparse Word
  /-- the pending copies of RWS cells (R22) -/
  pend : Sparse Word
  /-- the WAITING applies (R23) -/
  waits : List ApplyWait
  /-- the counters latched at the last counter snapshot of their block (R20), its VN by block, and the blocks whose snapshot is late -/
  snap : Sparse Word
  snapVn : Sparse Nat
  snapLate : List Nat
  clk : Clk
  log : Log
  /-- whistles sent and not yet at the collector (R464), and the sequence counter of each source -/
  whistles : List WhistleMsg
  whistleSeq : Sparse Nat
  wire : Wire
  prs : Prs
  epc : Epc
  tbl : Tbl
  swb : Swb
  sch : Sch
  ref : Ref
  hif : Hif
  rng : Rng
  dma : Dma
  mem : Mem
  cry : Cry
  stx : Stx
  pit : Pit
  jnl : Jnl
  dor : Dor
  bcp : Bcp
  /-- mode changes that wait for their boundary (R33) -/
  modeReqs : List ModeReq
  /-- Basecamp's event FIFO (R530) -/
  events : List Nat
  out : List Out
  frames : Sparse Frame
  /-- the next frame number, and the next place in an order -/
  nextFrame : Nat
  nextOrd : Nat
  /-- the MODEL's own counter of free values drawn: the spec has no such state -/
  free : Nat
  deriving DecidableEq, Repr

/-- The state of the machine: the device, and the commands that wait, first in, first out. -/
structure State where
  dev : Dev
  pending : List Instr
  deriving DecidableEq, Repr

/-- The state with this device and the same queue. -/
def State.withDev (s : State) (d : Dev) : State := { s with dev := d }

/-- The effect of a command on the device: it leaves the queue as it is. -/
def State.act (s : State) (f : Dev → Host.Outcome Dev Fault Refusal) : Host.Outcome State Fault Refusal :=
  match f s.dev with
  | .next d => .next (s.withDev d)
  | .fault e => .fault e
  | .refused r => .refused r

/-- The MODE record of the power-up (R36, R524): SITE unit 0xFF, DEVICE rights and path, the new SITE_MODE. -/
def powerUpRec : LogRec :=
  { typ := 5, object := 0xFF, addr := 0, old := 0, oldValid := false, new := 0x512, truncated := false, op := 0, rights := 4, path := 8
    link := 0, originId := 0, seq := 0, vn := 0, torn := false }

/-- The device right after power-on reset (R13, R32, R564): BRINGUP with CAUSE 0x05 and PREV 0x1, volley 0, Basecamp booting, every
register at its reset value, every memory blank, nothing inside, and the MODE record of the power-up waiting for the Logbook
writer. -/
def Dev.reset : Dev :=
  { regs := [], pend := [], waits := [], snap := [], snapVn := [], snapLate := []
    clk := { vn := 0, volleyNs := 40, lens := [], timeLoad := none, sinceAdj := 0, timeOut := false, overruns := [], late := [] }
    log := { prio := [⟨0, powerUpRec, none⟩], ord := [], taken := [], store := [], nextId := 1, nextSeq := 1, took := (0, 0)
             fresh := [] }
    whistles := [], whistleSeq := []
    wire := { ports := [], lanes := [] }
    prs := { ver := 0, olds := [], admitted := [] }
    epc := { cur := 0, oldest := 0, closed := none, heldC := none, waited := 0, pauseFrom := none, applyFrom := none
             retirable := 0, drained := true, busy := none }
    tbl := { entries := [], cmds := [], learnQ := [], ageQ := [], tokens := [], iso := [], parityLog := [], frozenLog := []
             snapPairs := [], sweep := none }
    swb := { avg := [], mirrorCount := [], xoff := [], hold := [], barrier := [], enBarrier := none, cluBarrier := none, slots := [], skipped := []
             spillWrite := 0, spillRead := 0 }
    sch := { change := [], bucket := [], deficit := [], turn := [], pol := [], guardVn := [], afterHold := [], owed := 0, given := 0
             forgiven := [] }
    ref := { fenced := [], due := [], subst := [], testing := [], passed := [], repairing := [], causes := [], epochs := []
             talked := [], lastRepair := [], copies := [], seen := [], deferred := [] }
    hif := { reqs := [], quarantine := [], pend := [], dirty := false, waiting := none, inflight := [], mapping := 0, l0p := []
             full := [], lastUse := [] }
    rng := { rings := [], cqs := [], items := [], turn := [], errLog := [], pitch := [], rxmap := [], work := [], bufs := []
             accBusy := none }
    dma := { chans := [], turn := [], bursts := [], haltLog := [] }
    mem := { hbm := [], hbmKey := [], bad := [], shared := [], loc := [], sram := [] }
    cry := { slots := [], kek := none, migKey := none, noPitch := none, spill := none, holder := none, op := none, relDue := false
             limited := [], limitLog := [], zeroing := none, erasing := false, jobs := [], arrived := [] }
    stx := { conns := [], nss := [], log := [], removing := none, draining := false }
    pit := { op := none, thawed := none }
    jnl := { slots := [], fail := 0, failVn := 0, flushing := none, ckpts := [], ckptRun := none, ckptLate := false, restored := false
             restRings := [], restCqs := [], resets := [], replay := [] }
    dor := { ctxs := [], fq := [], nq := [], spray := [], stall := [], stallRec := [], forkq := [], asleep := [], cycles := []
             issued := [], cyc := [], fill := [], blocks := [], releases := [], restarts := [], slotOld := [], slotFrom := []
             images := [], stallBoth := [] }
    bcp := { wdtAt := 0, started := 0, active := 0, trialBack := none, keys := [], minSvn := 0, upd := none, flash := [], crossed := []
             dormant := none, pll := none, caps := [], trim := none, trimDone := false, images := [], perst := [], armed := false, off := false, pkg := 0 }
    modeReqs := [], events := [], out := [], frames := [], nextFrame := 0, nextOrd := 0, free := 0 }

/-- The machine right after power-on reset: the device as `Dev.reset` has it, and no command waiting. -/
def State.reset : State := { dev := Dev.reset, pending := [] }

end Sys2Proof.Machine
end

