-- ==== Sys2Proof/Machine/RegFile.lean ====
section
/-! DEFINITION. Reading and writing the register file: the keys of its cells, the reset values (R13), the fields, the
blocks of the address map (R549) and the apply groups' blocks. Every read and write of a register goes through here. -/

namespace Sys2Proof.Machine

/-- The key of element `i` of a register. -/
def Reg.key (r : Reg) (i : Nat) : Nat := r.ctorIdx * 2 ^ 24 + i

/-- The register of a key. -/
def Reg.ofKey (k : Nat) : Reg := Reg.ofNat (k / 2 ^ 24)

/-- The element number of a key. -/
def Reg.ixOf (k : Nat) : Nat := k % 2 ^ 24

/-- The default REF_KIND_CFG of a whistle kind (R466): window in ms, threshold, action. -/
def kindDefault : Nat → Nat × Nat × Nat
  | 0x01 => (1000, 1000, 0) | 0x03 => (1000, 2, 2) | 0x04 => (1000, 16, 0) | 0x0C => (1000, 4, 1)
  | 0x0F => (0, 0, 1) | 0x11 => (1000, 64, 0) | 0x12 => (1000, 16, 1) | 0x13 => (0, 0, 1)
  | 0x14 => (1000, 16, 0) | 0x15 => (1000, 4, 1) | 0x16 => (1000, 1, 0) | 0x17 => (1000, 4, 1)
  | 0x18 => (1000, 2, 2) | 0x19 => (1000, 2, 2) | 0x1A => (1000, 4, 1)
  | _ => (0, 0, 0)

/-- The severity of a whistle kind (R466, R463): 0 INFO, 1 COUNTED, 2 LASTING, 3 CRITICAL. -/
def kindSeverity : Nat → Nat
  | 0x01 => 1 | 0x02 => 0 | 0x03 => 1 | 0x04 => 1 | 0x05 => 3 | 0x06 => 3 | 0x07 => 3 | 0x08 => 0 | 0x09 => 3
  | 0x0A => 3 | 0x0B => 3 | 0x0C => 1 | 0x0D => 0 | 0x0E => 3 | 0x0F => 2 | 0x10 => 3 | 0x11 => 1 | 0x12 => 1
  | 0x13 => 2 | 0x14 => 1 | 0x15 => 1 | 0x16 => 1 | 0x17 => 1 | 0x18 => 1 | 0x19 => 1 | 0x1A => 1 | 0x1B => 3
  | 0x1C => 3 | _ => 0

/-- The blocks in the order of the Site Map (R549): class and instance of block number `b`, 0 to 39. -/
def blkClass (b : Nat) : Nat × Nat :=
  if b = 0 then (0x00, 0)
  else if b < 5 then (0x01, b - 1)
  else if b < 10 then (b - 3, 0)
  else if b < 18 then (0x07, b - 10)
  else if b < 20 then (b - 10, 0)
  else if b < 29 then (0x0A, b - 20)
  else if b < 31 then (b - 18, 0)
  else if b < 35 then (0x0D, b - 31)
  else (b - 21, 0)

/-- The number of the block of a class and an instance. -/
def blkOf (c i : Nat) : Nat :=
  if c = 0x00 then 0 else if c = 0x01 then 1 + i else if c < 0x07 then c + 3 else if c = 0x07 then 10 + i
  else if c < 0x0A then c + 10 else if c = 0x0A then 20 + i else if c < 0x0D then c + 18
  else if c = 0x0D then 31 + i else c + 21

/-- The 24-bit identifier of a unit (R4). -/
def unitId (c i u : Nat) : Nat := c * 2 ^ 16 + i * 2 ^ 8 + u

/-- The identifier of a block as a whole (R5). -/
def blkId (b : Nat) : Nat := unitId (blkClass b).1 (blkClass b).2 0xFF

/-- The logical unit number of REF_MAP entry `n`, its reset value (R473). -/
def refMapUnit (n : Nat) : Nat :=
  if n < 0x100 then n % 32 else if n < 0x108 then n - 0x100 else if n < 0x120 then n - 0x110 else (n - 0x120) % 15

/-- The reset value of PIT_QUOTA (R439): BUF_CELLS, STN_MAX, FLOW_MAX, QCH_MAX. -/
def quotaReset : Nat := 655360 + 1048576 * 2 ^ 20 + 134217728 * 2 ^ 41 + 4 * 2 ^ 69

/-- Two's complement of a limit in 24 bits, with the upper limit in bits [55:32] (R543). -/
def limitPair (hi lo : Int) : Nat := unsigned 24 hi * 2 ^ 32 + unsigned 24 lo

/-- The reset value of element `i` of a register (R13): the table's value, but for the arrays whose elements differ and
the values that the straps or the board record give. The limits of the voltage sensors come from the board record and
are the widest pair here (DESIGN CHOICE, log entry 14); both host ports are strapped x16 (DESIGN CHOICE, log entry 13). -/
def Reg.resetAt (r : Reg) (i : Nat) : Nat :=
  match r with
  | .BLK_ID => blkId i
  | .SWB_PATH_MAP => 0x76543210
  | .SCH_SHP_ENTRY => if i % 2 = 1 then 2 ^ 25 else 0
  | .DOR_CORE_STATUS => i % 32 * 2 ^ 16
  | .REF_MAP => refMapUnit i
  | .REF_KIND_CFG => (kindDefault i).1 + (kindDefault i).2.1 * 2 ^ 32 + (kindDefault i).2.2 * 2 ^ 48
  | .CRY_LANE_STATUS => if i < 16 then i * 2 ^ 8 + 1 else 0x1F00
  | .CRY_KEYINFO => if 0x3F000 ≤ i then 2 ^ 21 else 0
  | .CLK_SRC => if i = 0x00 ∨ i = 0x0E ∨ i = 0x11 ∨ i = 0x12 then 1 else 0
  | .PIT_QUOTA => if i % 2 = 0 then quotaReset % 2 ^ 64 else quotaReset / 2 ^ 64
  | .HIF_CFG => cfgReset (i / 1024) (i % 1024)
  | .HIF_LINK_STATUS => 0x100 + (if i = 0 ∨ i = 2 then 1 else 0)
  | .BCP_SENSOR_WARN =>
    if i < 64 then limitPair 6400 (-2240) else limitPair 0x7FFFFF (-0x800000)
  | .BCP_SENSOR_CRIT =>
    if i < 64 then limitPair 6720 (-2560) else limitPair 0x7FFFFF (-0x800000)
  | _ => (Reg.info r).reset

/-- What an unlisted key of the register file reads as: the register's reset value. -/
def Reg.dflt (k : Nat) : Word := BitVec.ofNat 64 (Reg.resetAt (Reg.ofKey k) (Reg.ixOf k))

/-- Element `i` of a register, in force. -/
def Dev.reg (s : Dev) (r : Reg) (i : Nat) : Word := Sparse.get Reg.dflt s.regs (r.key i)

/-- Element `i` of a register as a number. -/
def Dev.rd (s : Dev) (r : Reg) (i : Nat) : Nat := (s.reg r i).toNat

/-- Set element `i` of a register to a value. -/
def Dev.setReg (s : Dev) (r : Reg) (i : Nat) (v : Word) : Dev :=
  { s with regs := Sparse.set Reg.dflt s.regs (r.key i) v }

/-- Set element `i` of a register to a number. -/
def Dev.wr (s : Dev) (r : Reg) (i v : Nat) : Dev := s.setReg r i (BitVec.ofNat 64 v)

/-- Field [hi:lo] of element `i` of a register. -/
def Dev.fld (s : Dev) (r : Reg) (i hi lo : Nat) : Nat := bits (s.rd r i) hi lo

/-- Set field [hi:lo] of element `i` of a register. -/
def Dev.setFld (s : Dev) (r : Reg) (i hi lo v : Nat) : Dev := s.wr r i (putBits (s.rd r i) hi lo v)

/-- Add `n` to a 64-bit counter; it wraps (R9). -/
def Dev.add (s : Dev) (r : Reg) (i n : Nat) : Dev := s.setReg r i (s.reg r i + BitVec.ofNat 64 n)

/-- Count one. -/
def Dev.bump (s : Dev) (r : Reg) (i : Nat) : Dev := s.add r i 1

/-- The mode of SITE_MODE (R32). A value not used names no mode; no step writes one. -/
def Dev.mode (s : Dev) : Mode := (Mode.ofCode (s.fld .SITE_MODE 0 3 0)).getD .bringup

/-- The volley number (R7). -/
def Dev.vn (s : Dev) : Nat := s.clk.vn

/-- The modes that carry tenant traffic (R38). -/
def Mode.traffic : Mode → Bool
  | .service => true | .maintenance => true | .degraded => true | _ => false

/-- Apply a function to a state once per element of a list, left to right. -/
def forEach {α : Type} (l : List α) (s : Dev) (f : Dev → α → Dev) : Dev := l.foldl f s

/-- Draw a free value: a number nothing constrains. -/
def Dev.draw (s : Dev) : Nat × Dev := (Config.freeNat s.free, { s with free := s.free + 1 })

end Sys2Proof.Machine
end

