-- ==== Sys2Proof/Machine/Ops.lean ====
section
/-! DEFINITION. The operations every block shares: Logbook records, whistles, Basecamp events, MSI-X messages, the
record of outputs, and the places and order of the frames inside. -/

namespace Sys2Proof.Machine

/-- Boundary of the next volley. -/
def Dev.next (s : Dev) : Nat := s.vn + 1

/-- The boundary an untimed action received in this volley takes effect at (R24): the next one when it is received at
least 20 ns before the volley ends, else the one after. -/
def Dev.untimedDue (s : Dev) (early : Bool) : Nat := if early then s.vn + 1 else s.vn + 2

/-- A request so many ns before the volley ends comes at least 20 ns before it (R24). -/
def inTime (left : Nat) : Bool := decide (20 ≤ left)

/-- Send something to the outside. -/
def Dev.emit (s : Dev) (o : Out) : Dev := { s with out := s.out ++ [o] }

/-! ### The Logbook (R523 to R525) -/

/-- RIGHTS of an origin (R524). -/
def Origin.rights : Origin → Nat
  | .cmdRing .. => 1 | .bar2 .. => 1 | .thread .. => 2 | .referee => 3 | .device => 4 | _ => 0

/-- PATH of an origin (R524). -/
def Origin.path : Origin → Nat
  | .bar0 _ => 0 | .bar2 .. => 0 | .adminRing _ => 1 | .cmdRing .. => 2 | .mctpSmbus _ => 3 | .mctpVdm .. => 4
  | .ncsi _ => 5 | .thread .. => 6 | .basecamp => 7 | .referee => 8 | .device => 8

/-- LINK of an origin (R524). -/
def Origin.link : Origin → Nat
  | .bar0 l => l | .bar2 l _ => l | .adminRing l => l | .cmdRing l _ _ => l | .mctpVdm l _ => l | _ => 0

/-- ORIGIN_ID of an origin (R524). -/
def Origin.id : Origin → Nat
  | .cmdRing _ _ p => p | .mctpSmbus e => e | .mctpVdm _ e => e | .ncsi c => c | .thread c t => c * 2 ^ 8 + t | _ => 0

/-- A record of an origin, not yet taken (R524). NEW and OLD hold at most 16 bytes; a longer value is cut and marked. -/
def mkRec (o : Origin) (typ object addr : Nat) (old : Option Nat) (new op : Nat) : LogRec :=
  { typ, object, addr, op
    old := (old.getD 0) % 2 ^ 128, oldValid := old.isSome
    new := new % 2 ^ 128, truncated := decide (2 ^ 128 ≤ new)
    rights := o.rights, path := o.path, link := o.link, originId := o.id, seq := 0, vn := 0, torn := false }

/-- Raise a priority record (R523). -/
def Dev.logPrio (s : Dev) (r : LogRec) : Dev :=
  { s with log := { s.log with prio := s.log.prio ++ [⟨s.log.nextId, r, none⟩], nextId := s.log.nextId + 1 } }

/-- Raise an ordinary record, with the write that waits for it, if any (R523). -/
def Dev.logOrd (s : Dev) (r : LogRec) (held : Option HeldWrite) : Dev :=
  { s with log := { s.log with ord := s.log.ord ++ [⟨s.log.nextId, r, held⟩], nextId := s.log.nextId + 1 } }

/-- The record of this number has been taken and sealed. -/
def Dev.isSealed (s : Dev) (n : Nat) : Bool :=
  !(s.log.prio.any (fun e => e.id = n) || s.log.ord.any (fun e => e.id = n))

/-- The record of this number was sealed before the present volley began: its action may take effect at this boundary (R523). -/
def Dev.sealedBefore (s : Dev) (n : Nat) : Bool := s.isSealed n && !s.log.fresh.contains n

/-- How many priority and ordinary records the writer still takes in a volley in which it has taken `tp` and `tn` (R523): four in
all, priority first, but at least two ordinary ones while they wait. -/
def takeCounts (tp tn np no : Nat) : Nat × Nat :=
  let room := 4 - tp - tn
  let p := min np (room - min (2 - tn) no)
  (p, min no (room - p))

/-- Give the records taken their SEQ and VN, in order. -/
def stampRecs (vn : Nat) : Nat → List LogEntry → List LogEntry
  | _, [] => []
  | q, e :: es => { e with body := { e.body with seq := q, vn := vn } } :: stampRecs vn (q + 1) es

/-- The number of record slots of the Logbook (R526). -/
def logSlots : Nat := 2097152

/-- The Logbook writer takes `np` priority and `no` ordinary records, gives them SEQ and VN and seals them (R523). -/
def Dev.logTake (s : Dev) (np no : Nat) : Dev :=
  let got := stampRecs s.vn s.log.nextSeq (s.log.prio.take np ++ s.log.ord.take no)
  let after := s.log.nextSeq + got.length
  let st := s.log.store.filter (fun r => r.seq < s.log.nextSeq) ++ got.map (·.body) ++ s.log.store.filter (fun r => after ≤ r.seq)
  if got.isEmpty then s else
  { s with log := { s.log with
      prio := s.log.prio.drop np, ord := s.log.ord.drop no, taken := s.log.taken ++ got
      store := st.drop (st.length - logSlots), nextSeq := s.log.nextSeq + got.length
      took := (s.log.took.1 + np, s.log.took.2 + no), fresh := s.log.fresh ++ got.map (fun (e : LogEntry) => e.id) } }.wr
    .BCP_LOG_WIDX 0 (s.log.nextSeq + got.length - 1)

/-- How many records of each queue the writer still takes in this volley. -/
def Dev.toTake (s : Dev) : Nat × Nat := takeCounts s.log.took.1 s.log.took.2 s.log.prio.length s.log.ord.length

/-- The writer's work of a volley ends with it (R523): what it still takes is taken, and every record sealed stands before the
boundary. -/
def Dev.logEnd (s : Dev) : Dev :=
  let s := s.logTake s.toTake.1 s.toTake.2
  { s with log := { s.log with took := (0, 0), fresh := [] } }

/-- The writer takes its next record within the volley, while the volley has room (R523). -/
def Dev.logNext (s : Dev) : Dev :=
  if 0 < s.toTake.1 then s.logTake 1 0 else if 0 < s.toTake.2 then s.logTake 0 1 else s

/-! ### Whistles (R462 to R465) -/

/-- The REF_MAP position a unit of a class with bench units serves, if any (R473). -/
def servedPos (s : Dev) (unit : Nat) : Option Nat :=
  let c := bits unit 23 16; let i := bits unit 15 8; let u := bits unit 7 0
  let range : List Nat :=
    if c = 0x07 ∧ u < 0x22 then (List.range 32).map (32 * i + ·)
    else if c = 0x03 ∧ u < 0x0A then (List.range 8).map (0x100 + ·)
    else if c = 0x0B ∧ u < 18 then (List.range 16).map (0x110 + ·)
    else if c = 0x0D ∧ u < 16 then (List.range 15).map (0x120 + 15 * i + ·)
    else []
  range.find? (fun n => s.fld .REF_MAP n 7 0 = u && s.fld .REF_MAP n 17 17 = 0)

/-- The class of a unit has bench units (R470). -/
def hasBench (unit : Nat) : Bool :=
  let c := bits unit 23 16; let u := bits unit 7 0
  (c = 0x07 && u < 0x22) || (c = 0x03 && u < 0x0A) || (c = 0x0B && u < 18) || (c = 0x0D && u < 16)

/-- The identity epoch a unit sends with (R473, R474). -/
def identityEpoch (s : Dev) (unit : Nat) : Nat :=
  match servedPos s unit with
  | some n => s.fld .REF_MAP n 15 8
  | none => Sparse.get (fun _ => 0) s.ref.epochs unit

/-- Put a whistle into its block's queue of 16 (R464): a LASTING or CRITICAL whistle replaces the newest queued whistle
of lower severity when the queue is full; any other is not sent. -/
def queueWhistle (q : List WhistleMsg) (w : WhistleMsg) : List WhistleMsg :=
  let mine := fun (x : WhistleMsg) => x.source / 2 ^ 8 = w.source / 2 ^ 8
  if (q.filter mine).length < 16 then q ++ [w]
  else if w.severity < 2 then q
  else match q.reverse.findIdx? (fun x => mine x && x.severity < 2) with
    | some k => (q.reverse.eraseIdx k).reverse ++ [w]
    | none => q

/-- A unit raises a whistle (R462, R464). Its sequence counter advances whether or not it is sent. In DORMANT none is
generated (R465). -/
def Dev.whistle (s : Dev) (kind source addr detail : Nat) : Dev :=
  if s.mode = .dormant then s else
  let n := (Sparse.get (fun _ => 0) s.whistleSeq source + 1) % 2 ^ 16
  let w : WhistleMsg :=
    { vn := s.vn, source, kind, idEpoch := identityEpoch s source, severity := kindSeverity kind
      addr := addr % 2 ^ 48, detail := detail % 2 ^ 32, seq := n }
  { s with whistleSeq := Sparse.set (fun _ => 0) s.whistleSeq source n, whistles := queueWhistle s.whistles w }

/-! ### The links in use (R293, R312) -/

/-- A link exists (R293). -/
def Dev.linkPresent (s : Dev) (k : Nat) : Bool := s.fld .HIF_LINK_STATUS k 0 0 = 1

/-- PSTATE of a link (R294). -/
def Dev.pstate (s : Dev) (k : Nat) : Nat := s.fld .HIF_LINK_STATUS k 11 8

/-- A link in L1 leaves it when anything is to be sent on it (R312). -/
def Dev.wakeLink (s : Dev) (k : Nat) : Dev :=
  if s.pstate k = 4 ∨ s.pstate k = 5 then s.setFld .HIF_LINK_STATUS k 11 8 2 else s

/-- A request or completion is sent or received on a link (R312): it is awake, and its idle time begins anew. -/
def Dev.useLink (s : Dev) (k : Nat) : Dev :=
  let s := s.wakeLink k
  { s with hif := { s.hif with lastUse := Sparse.set (fun _ => 0) s.hif.lastUse k s.vn } }

/-- Send a request or a completion on a link. -/
def Dev.sendOnLink (s : Dev) (k : Nat) (o : Out) : Dev := (s.useLink k).emit o

/-! ### MSI-X and Basecamp events (R313, R530) -/

/-- The MSI-X vectors of a link (R313). -/
def Dev.vectors (s : Dev) (k : Nat) : Nat := if s.fld .HIF_LINK_STATUS k 1 1 = 1 then 4096 else 8192

/-- A vector of a link is masked (R313): by its mask bit, by Function Mask, or while MSI-X is not enabled. Both masks are what PCI
Express gives after reset (PRESUMED, log entry 15). -/
def Dev.msixMasked (s : Dev) (link vector : Nat) : Bool :=
  let ctl := s.rd .HIF_CFG (1024 * link + 36)
  !bit ctl 31 || bit ctl 30 || bit (s.rd .HIF_MSIX_CTL (8192 * link + vector)) 32

/-- Set or clear the pending bit of a vector. -/
def Dev.setMsixPend (s : Dev) (link vector v : Nat) : Dev :=
  s.setFld .HIF_MSIX_PBA (128 * link + vector / 64) (vector % 64) (vector % 64) v

/-- The pending bit of a vector. -/
def Dev.msixPending (s : Dev) (link vector : Nat) : Bool := bit (s.rd .HIF_MSIX_PBA (128 * link + vector / 64)) (vector % 64)

/-- Send an MSI-X vector of a link, or set its pending bit while it is masked (R313). -/
def Dev.msix (s : Dev) (link vector : Nat) : Dev :=
  if s.vectors link ≤ vector then s
  else if s.msixMasked link vector then s.setMsixPend link vector 1
  else s.sendOnLink link (.msix link vector)

/-- A pending vector that is no longer masked sends its message (R313). -/
def Dev.msixOpen (s : Dev) (link vector : Nat) : Dev :=
  if s.msixPending link vector ∧ s.msixMasked link vector = false then (s.setMsixPend link vector 0).msix link vector else s

/-- Function Mask or the enable of a link's MSI-X has changed: every pending vector that it unmasks sends its message. -/
def Dev.msixOpenAll (s : Dev) (link : Nat) : Dev :=
  forEach (s.regs.filter (fun e => Reg.ofKey e.1 = .HIF_MSIX_PBA && decide (Reg.ixOf e.1 / 128 = link))) s (fun s e =>
    forEach (List.range 64) s (fun s b => s.msixOpen link (64 * (Reg.ixOf e.1 % 128) + b)))

/-- Place an event in BCP_EVENT_LOG, or count it lost, and send each link's event vector (R530). -/
def Dev.event (s : Dev) (typ detail : Nat) : Dev :=
  let s := if s.events.length < 64 then
      { s with events := s.events ++ [s.vn % 2 ^ 32 * 2 ^ 32 + 2 ^ 31 + typ * 2 ^ 24 + detail % 2 ^ 24] }
    else s.bump .BCP_EVENTS_LOST 0
  forEach (List.range 4) s (fun s k =>
    if s.fld .BCP_EVENT_VEC k 13 13 = 1 then s.msix k (s.fld .BCP_EVENT_VEC k 12 0) else s)

/-! ### Frames -/

/-- The frame of a number. -/
def Dev.frame (s : Dev) (f : Nat) : Option Frame := Sparse.get? s.frames f

/-- Store a frame under its number. -/
def Dev.setFrame (s : Dev) (f : Nat) (x : Frame) : Dev := { s with frames := Sparse.put s.frames f (some x) }

/-- A frame is charged to its egress queue: it lies in it, or in the crypto complex on its way back to it (R171, R380). -/
def Frame.inQueue (f : Frame) : Bool := f.loc = .queue f.queue || (f.loc = .crypto && f.queue / 8 ≠ 40)

/-- A frame takes cells of the buffer: from the entry of the switch core until its last copy has left its queue (R168, R169, R171). -/
def Frame.inBuffer (f : Frame) : Bool :=
  f.inQueue || f.loc = .held || (match f.loc with | .path _ => true | _ => false)

/-- The queue that a frame lies in loses it now: the idle time of an empty queue counts from here (R180). -/
def Dev.leaveQueue (s : Dev) (f : Nat) : Dev :=
  match s.frame f with
  | some x =>
    if x.inQueue then
      let a := (Sparse.get (fun _ => (0, 0)) s.swb.avg x.queue).1
      { s with swb := { s.swb with avg := Sparse.set (fun _ => (0, 0)) s.swb.avg x.queue (a, s.vn) } }
    else s
  | none => s

/-- Put a frame at the end of the order of a new place. -/
def Dev.moveFrame (s : Dev) (f : Nat) (x : Frame) (loc : FrameLoc) : Dev :=
  let s := s.leaveQueue f
  { s with frames := Sparse.put s.frames f (some { x with loc := loc, ord := s.nextOrd }), nextOrd := s.nextOrd + 1 }

/-- A frame leaves the device, at whatever point (R110). -/
def Dev.dropFrame (s : Dev) (f : Nat) : Dev :=
  let s := s.leaveQueue f
  { s with frames := Sparse.put s.frames f none }

/-- A new frame takes the next number; the caller finds it at the old `nextFrame`. -/
def Dev.newFrame (s : Dev) (x : Frame) (loc : FrameLoc) : Dev :=
  { (s.moveFrame s.nextFrame x loc) with nextFrame := s.nextFrame + 1 }

/-- The frames that satisfy `p`, with their numbers. -/
def Dev.framesIf (s : Dev) (p : Frame → Bool) : List (Nat × Frame) := s.frames.filter (fun e => p e.2)

/-- The earlier of two frames in the order of a place. -/
def earlier (a b : Nat × Frame) : Nat × Frame := if b.2.ord < a.2.ord then b else a

/-- The first, in their order, of the frames that satisfy `p`. -/
def Dev.firstIf (s : Dev) (p : Frame → Bool) : Option (Nat × Frame) :=
  match s.framesIf p with
  | [] => none
  | x :: xs => some (xs.foldl earlier x)

/-- Insert a frame into a list kept in the order of the places. -/
def insertOrd (x : Nat × Frame) : List (Nat × Frame) → List (Nat × Frame)
  | [] => [x]
  | y :: ys => if x.2.ord < y.2.ord then x :: y :: ys else y :: insertOrd x ys

/-- The frames that satisfy `p`, in the order of their places. -/
def Dev.inOrder (s : Dev) (p : Frame → Bool) : List (Nat × Frame) :=
  (s.framesIf p).foldl (fun l x => insertOrd x l) []

/-- A frame with nothing known of it but its bytes and its port of entry. -/
def Frame.fresh (bytes : List Byte) (inPort : Nat) : Frame :=
  { bytes, inPort, rxTime := 0, pitch := none, kv := 0, steps := [], malformed := 0, cfgVer := 0, stamped := false
    epoch := 0, action := 0, carried := false, color := 0, remark := [], tcam := 0, ready := false, ecnMark := false, cls := 0, hash := 0
    kind := .original, orig := none, inCls := 0, session := 0, missed := false, item := none, rxRing := none, cells := 0, queue := 0, spilled := false, region := 0
    lossless := false, headroom := false, cut := false, charge := none, bad := false, slot := none
    encrypted := false, tag := 0, loc := .frontEnd, ord := 0 }

/-! ### Fences, and the power-fail sequence -/

/-- The stages are frozen, or halted, in the power-fail sequence (R502, V1). -/
def Dev.frozen (s : Dev) : Bool := decide (3 ≤ s.jnl.fail)

/-- A unit is fenced (R470). -/
def Dev.isFenced (s : Dev) (unit : Nat) : Bool := s.ref.fenced.contains unit

end Sys2Proof.Machine
end

