-- ==== Sys2Proof/Machine/Items.lean ====
section
/-! DEFINITION. The journal records of accepted items (R483 to R489): finding, storing and releasing them, and what the
end of a frame means for the SEND item it came from (R185, R340, R485). -/

namespace Sys2Proof.Machine

/-- The key of an item. -/
def itemKey (ring index : Nat) : Nat := ring * 2 ^ 32 + index % 2 ^ 32

/-- An item. -/
def Dev.item (s : Dev) (r : ItemRef) : Option Item := Sparse.get? s.rng.items (itemKey r.ring r.index)

/-- Store an item, or free its record. -/
def Dev.setItem (s : Dev) (r : ItemRef) (x : Option Item) : Dev :=
  { s with rng := { s.rng with items := Sparse.put s.rng.items (itemKey r.ring r.index) x } }

/-- A 32-byte completion entry of R339. -/
def cqEntry (widx ring status user items errs errWidx detail extra : Nat) : Nat :=
  widx % 2 ^ 32 + ring * 2 ^ 32 + status * 2 ^ 48 + user * 2 ^ 64 + items * 2 ^ 96 + errs * 2 ^ 112
    + errWidx % 2 ^ 32 * 2 ^ 128 + detail % 2 ^ 32 * 2 ^ 160 + extra % 2 ^ 64 * 2 ^ 192

/-- A 32-byte status reply of R513 with LOG_SEQ and RESULT 0. -/
def replyEntry (word index ring status detail : Nat) : Nat :=
  status + bits word 15 0 * 2 ^ 16 + bits word 63 32 * 2 ^ 32 + index % 2 ^ 32 * 2 ^ 64 + ring % 2 ^ 16 * 2 ^ 96
    + detail % 2 ^ 16 * 2 ^ 112

/-- The entry an item alone produces for a status (R339). A RECV item that no frame fills has the layout of R341, and a capsule that
ends before it begins the status reply (R342). -/
def itemEntry (x : Item) (status detail extra : Nat) : Nat :=
  match x.kind with
  | 1 => x.index % 2 ^ 32 + x.ring * 2 ^ 32 + status * 2 ^ 48 + x.user * 2 ^ 64
  | 2 => replyEntry (leNat x.desc) x.index x.ring status detail
  | _ => cqEntry x.index x.ring status x.user 1 (b2n (status ≠ 0)) x.index detail extra

/-- Release an item with the entry it produces (R485): its record becomes RELEASED; once only. -/
def Dev.release (s : Dev) (r : ItemRef) (entry : Nat) : Dev :=
  match s.item r with
  | some x => if x.stage = 1 then s.setItem r (some { x with stage := 2, result := entry }) else s
  | none => s

/-- Release an item with a status, DETAIL and EXTRA. -/
def Dev.releaseWith (s : Dev) (r : ItemRef) (status detail extra : Nat) : Dev :=
  match s.item r with
  | some x => s.release r (itemEntry x status detail extra)
  | none => s

/-- STATUS PARTIAL (R517). -/
def statusPartial : Nat := 0x0302

/-- The entry of a SEND item whose frames have all ended (R340): PARTIAL with the mask of refused replicas, or OK with the
transmit time of a capture item whose frame went to exactly one MAC port. -/
def sendEntry (x : Item) : Nat :=
  let mask := bits x.result 255 192
  if mask ≠ 0 then itemEntry x statusPartial 1 mask
  else if bit (leNat x.desc) 176 && x.sentMac = 1 then itemEntry x 0 2 x.sentTime
  else itemEntry x 0 0 0

/-- A SEND item is released once no frame of it remains to be resolved (R185, R485). -/
def Dev.settleItem (s : Dev) : Option ItemRef → Dev
  | none => s
  | some r =>
    if s.frames.any (fun e => e.2.item = some r) then s
    else match s.item r with
      | some x => s.release r (sendEntry x)
      | none => s

/-- Set the extension bit of a replica that is handed over or refused (R489); a refused one marks its destination. -/
def Dev.markReplica (s : Dev) (r : Option ItemRef) (n : Nat) (refused : Option Nat) : Dev :=
  match r with
  | none => s
  | some r =>
    match s.item r with
    | none => s
    | some x =>
      let res := match refused with
        | some d => x.result ||| 2 ^ (192 + d)
        | none => x.result
      s.setItem r (some { x with ext := some (x.ext.getD 0 ||| 2 ^ n), result := res })
/-- A frame leaves the device at whatever point (R110), and the item it came from, if any, may be released. -/
def Dev.loseFrame (s : Dev) (f : Nat) : Dev :=
  match s.frame f with
  | none => s
  | some x =>
    let s := match x.kind with
      | .replica n _ => s.markReplica x.item n none
      | _ => s
    (s.dropFrame f).settleItem x.item

/-- The side effect of a frame's item has taken place, and the frame goes on (R485). -/
def Dev.freeItem (s : Dev) (f : Nat) : Dev :=
  match s.frame f with
  | none => s
  | some x => (s.setFrame f { x with item := none }).settleItem x.item

end Sys2Proof.Machine
end

