-- ==== Sys2Proof/Machine/Groups.lean ====
section
/-! DEFINITION. Where registers lie (R29, R549) and the staged configuration every block shares (R22 to R30): pending
copies, group membership, GROUP_STATUS, and the Logbook records of register writes (R28, R523, R525). -/

namespace Sys2Proof.Machine

/-- The window of a block in BAR0: its base and size (R549). -/
def blkWindow (b : Nat) : Nat × Nat :=
  let c := (blkClass b).1; let i := (blkClass b).2
  let size := if c = 0x01 ∨ c = 0x0D then 0x80000 else if c = 0x07 then 0x40000 else if c = 0x0A then 0x20000 else 0x200000
  (c * 0x200000 + i * size, size)

/-- The product of the counts of a list of dimensions. -/
def dimCount (d : List (Nat × Nat)) : Nat := d.foldl (fun a x => a * x.1) 1

/-- The address offset of flat element `i` under dimensions `d`. -/
def dimOffset : List (Nat × Nat) → Nat → Nat
  | [], _ => 0
  | (_, st) :: d, i => i / dimCount d * st + dimOffset d (i % dimCount d)

/-- The BAR0 offset of element `i` of a register. -/
def Reg.bar0 (r : Reg) (i : Nat) : Nat :=
  let x := r.info
  if x.cls = 99 then (blkWindow i).1 + x.base else x.base + dimOffset x.dims i

/-- The block of element `i` of a register. -/
def Reg.blk (r : Reg) (i : Nat) : Nat :=
  let x := r.info
  if x.cls = 99 then i
  else if x.cls = 0x01 ∨ x.cls = 0x07 ∨ x.cls = 0x0A then blkOf x.cls (i / dimCount (x.dims.drop 1))
  else if x.cls = 100 then (match r with
    | .SCH_SHP_ENTRY => 9 | .SCH_POL_ENTRY => 9 | .SWB_MC_GROUP => 8 | .SWB_MC_REPLICA => 8 | .CRY_SA_ENTRY => 29
    | _ => 18)
  else blkOf x.cls 0

/-- The apply group of an RWS register element: its group number in its block (R31, R40, R46, R70, R74, R78, R89, R155,
R161, R167, R179, R187, R194, R195, R198, R250, R468). -/
def Reg.group (r : Reg) (i : Nat) : Option Nat :=
  match r with
  | .CLK_TOUT_PERIOD => some 0 | .CLK_TOUT_WIDTH => some 0
  | .WIRE_PG_MAP => some 0 | .WIRE_PORT_CFG => some (1 + i % 8)
  | .PRS_DEPTH => some 0 | .PRS_NODE_LEN => some 0 | .PRS_NODE_NEXT => some 0 | .PRS_NODE_CHK => some 0
  | .PRS_NODE_XT => some 0 | .PRS_TRANS => some 0 | .PRS_PORT_CFG => some 1 | .PRS_MALFORMED_ACTION => some 2
  | .PRS_KSEL_EN => some 3 | .PRS_KSEL_RANGE => some 3
  | .TBL_AGE_STN => some 0 | .TBL_AGE_FLOW => some 1 | .TBL_LEARN_CFG => some 2 | .TBL_NOTICE_CFG => some 3
  | .TBL_FLOW_CFG => some 4 | .TBL_FLOW_BASE => some 4 | .TBL_SHADOW_BASE => some 5 | .TBL_SHADOW_CTL => some 5
  | .SWB_HASH_RANGE => some 0 | .SWB_HASH_CTL => some 0 | .SWB_PATH_MAP => some 1
  | .SWB_POOL_HEADROOM => some 2 | .SWB_BPROF => some 2 | .SWB_QCFG => some 2 | .SWB_PORT_CFG => some 2
  | .SWB_PORT_PFC => some 2 | .SWB_WRED => some 3 | .SWB_WRED_CTL => some 3 | .SWB_SPILL => some 4
  | .SWB_MIRROR => some 5 | .SWB_CLUSTER_CTL => some 6
  | .SCH_SHP_ENTRY => some 0 | .SCH_POL_ENTRY => some 1 | .SCH_COLOR_SEL => some 2 | .SCH_PCP_MAP => some 2
  | .SCH_DSCP_MAP => some 2 | .SCH_REMARK => some 2 | .SCH_PORT_ARB => some 2
  | .DOR_SLOT => some 0 | .DOR_CTX_CFG => some 0 | .DOR_CTX_SHARE => some 0 | .DOR_SUP_CFG => some 0
  | .DOR_BUF_CFG => some 0 | .DOR_PUNT_CORES => some 0
  | .REF_KIND_CFG => some 0
  | _ => none

/-- The number of apply groups a block defines, from 0 up (R26). -/
def blkGroups (b : Nat) : Nat :=
  match (blkClass b).1 with
  | 0x01 => 9 | 0x02 => 4 | 0x04 => 6 | 0x05 => 7 | 0x06 => 3 | 0x07 => 1 | 0x0F => 1 | 0x11 => 1 | _ => 0

/-- The classes whose applies LOCKDOWN refuses (R26). -/
def lockdownClass (c : Nat) : Bool := (0x02 ≤ c && c ≤ 0x0D)

/-- A register cell's block and group, from its key. -/
def keyGroup (k : Nat) : Option (Nat × Nat) :=
  (Reg.group (Reg.ofKey k) (Reg.ixOf k)).map (fun g => (Reg.blk (Reg.ofKey k) (Reg.ixOf k), g))

/-- The pending cells of a group. -/
def Dev.pendOf (s : Dev) (b g : Nat) : List (Nat × Word) :=
  s.pend.filter (fun e => keyGroup e.1 = some (b, g))

/-- The WAITING apply of a group. -/
def Dev.waitOf (s : Dev) (b g : Nat) : Option ApplyWait := s.waits.find? (fun w => w.blk = b && w.group = g)

/-- What a pending copy of a cell starts from (R22, R25): the pending value, else the value of a WAITING snapshot, else
the value in force. -/
def Dev.pendBase (s : Dev) (k : Nat) : Word :=
  match Sparse.get? s.pend k with
  | some v => v
  | none =>
    match s.waits.findSome? (fun w => Sparse.get? w.snap k) with
    | some v => v
    | none => Sparse.get Reg.dflt s.regs k

/-- Write the RWS bits of a cell into the pending copy (R22). -/
def Dev.pendWrite (s : Dev) (r : Reg) (i v : Nat) : Dev :=
  let m := r.info.rws
  let k := r.key i
  let w := ((s.pendBase k).toNat &&& (2 ^ 64 - 1 - m)) ||| (v &&& m)
  { s with pend := Sparse.put s.pend k (some (BitVec.ofNat 64 w)) }

/-- The snapshot of a group as its checks see it (R23): pending cells where written, else the value in force. -/
def Dev.view (s : Dev) (r : Reg) (i : Nat) : Nat := ((Sparse.get? s.pend (r.key i)).getD (s.reg r i)).toNat

/-- A field of the snapshot view. -/
def Dev.viewFld (s : Dev) (r : Reg) (i hi lo : Nat) : Nat := bits (s.view r i) hi lo

/-- Report an event of a block's apply machinery in GROUP_STATUS (R30). -/
def Dev.groupStatus (s : Dev) (b tag detail group result : Nat) : Dev :=
  s.wr .GROUP_STATUS b (tag % 2 ^ 16 * 2 ^ 16 + detail * 2 ^ 8 + group * 2 ^ 3 + result)

/-- The number of the first check that fails, or 0. -/
def firstFail (l : List Bool) : Nat :=
  match l.findIdx? (fun b => !b) with
  | some k => k + 1
  | none => 0

/-- A write of a register waits for a Logbook record (R28, R442, R523): from BAR0 always, and from any origin for an RWS field, GROUP_APPLY
or PIT_CTL. -/
def Origin.recorded (o : Origin) (r : Reg) : Bool :=
  match o with
  | .bar0 _ => true
  | _ => decide (r.info.rws ≠ 0) || decide (r = .GROUP_APPLY) || decide (r = .PIT_CTL)

/-- The REGISTER record of a write of `width` bytes (R525): the register before, and the value written. -/
def Dev.regRec (s : Dev) (o : Origin) (r : Reg) (i width v : Nat) : LogRec :=
  mkRec o 1 (blkId (r.blk i)) (r.bar0 i - (blkWindow (r.blk i)).1) (some (s.rd r i)) v width

/-- A request of an origin arrives on its link, if it has one (R312). -/
def Dev.heardFrom (s : Dev) (o : Origin) : Dev :=
  match o with
  | .bar0 l => s.useLink l
  | .bar2 l _ => s.useLink l
  | _ => s

/-- A write of the bits `m` of a register is held until the seal of its record is acknowledged (R523). -/
def Dev.holdWrite (s : Dev) (o : Origin) (r : Reg) (i width v m : Nat) : Dev :=
  (s.heardFrom o).logOrd (s.regRec o r i width v) (some ⟨o, r.key i, v, m, none⟩)

/-- Every bit of a register. -/
def Reg.ones (r : Reg) : Nat := 2 ^ r.info.width - 1

/-- The device hears an origin: it is powered (R32, R506), no power failure has halted it, and from V0 of a power failure BAR0 writes are dropped (R502). -/
def Dev.hears (s : Dev) (o : Origin) : Bool :=
  !s.bcp.off && decide (s.mode ≠ .dormant) && decide (s.jnl.fail < 3) && (match o with
    | .bar0 l => decide (s.jnl.fail < 2) && s.linkPresent l
    | .bar2 l _ => s.linkPresent l
    | _ => true)

/-- The class of a block runs on a clock (R540). -/
def Dev.clocked (s : Dev) (cls : Nat) : Bool := decide (s.rd .CLK_SRC cls ≠ 0)

/-- The unit whose fence cuts a register off (R470): a port for its registers and counters, a lane for its own. The channels,
cores and crypto lanes report their fence in their registers, which stay in reach (DEDUCED, log entry 33). -/
def regUnit (r : Reg) (i : Nat) : Option Nat :=
  if r.info.cls ≠ 1 then none
  else match r with
    | .WIRE_PG_MAP | .WIRE_LANE_DEGRADE_LIMIT => none
    | .WIRE_LANE_CTL | .WIRE_LANE_FEC_SYMBOLS => some (unitId 1 (i / 8) (i % 8))
    | _ => some (unitId 1 (i / 8) (16 + i % 8))

/-- An access to the registers of a fenced unit (R470). -/
def Dev.regFenced (s : Dev) (r : Reg) (i : Nat) : Bool := (regUnit r i).any s.isFenced

/-- A write that reaches a register has its effect `body` (R470, R540), unless the unit is fenced or its class is OFF. -/
def Dev.reach (s : Dev) (r : Reg) (i : Nat) (body : Dev → Dev) : Dev :=
  if s.regFenced r i then s.bump .REF_FENCED_ACCESS 0
  else if s.clocked (blkClass (r.blk i)).1 then body s else s

/-- A register write by an origin (R298, R523): held behind its REGISTER record where it needs one, its effect then being that of
SEAL_ACK; else its effect `body` at once. -/
def Dev.regWrite (s : Dev) (o : Origin) (r : Reg) (i width v : Nat) (body : Dev → Dev) : Dev :=
  if s.hears o = false then s
  else if o.recorded r then s.holdWrite o r i width v r.ones
  else s.reach r i body

/-- The APPLY record of an action on a boundary (R525): block, ADDR, TAG or new CURRENT, what became of it (0 due, 1
cancelled, 2 refused), and the boundary. -/
def applyRec (o : Origin) (b addr old new what vn : Nat) : LogRec :=
  mkRec o 3 (blkId b) addr (some old) (new % 2 ^ 16 + what * 2 ^ 16 + vn % 2 ^ 64 * 2 ^ 64) 0

/-- Refuse every WAITING apply of the classes of R26 on the entry to LOCKDOWN: the snapshot returns to the pending copy,
where a later write keeps its value. -/
def Dev.refuseWaits (s : Dev) : Dev :=
  forEach (s.waits.filter (fun w => lockdownClass (blkClass w.blk).1)) s (fun s w =>
    let pend := w.snap.foldl (fun m e => if (Sparse.get? m e.1).isSome then m else Sparse.put m e.1 (some e.2)) s.pend
    let s := { s with pend := pend, waits := s.waits.filter (fun x => !(x.blk = w.blk && x.group = w.group)) }
    (s.logPrio (applyRec .device w.blk w.group 0 w.tag 2 s.vn)).groupStatus w.blk w.tag 0xFD w.group 7)

/-- A reset that reaches a block clears its pending copies, cancels its WAITING applies, each with its record (R525), and returns
its header to reset (R27). -/
def Dev.resetHeader (s : Dev) (b : Nat) : Dev :=
  let s := forEach (s.waits.filter (fun w => w.blk = b)) s (fun s w => s.logPrio (applyRec .device b w.group 0 w.tag 1 s.vn))
  let s := { s with pend := s.pend.filter (fun e => !decide ((keyGroup e.1).map Prod.fst = some b))
                    waits := s.waits.filter (fun w => !(w.blk = b)) }
  (((s.wr .GROUP_STATUS b 0).wr .GROUP_TARGET_VN b 0).wr .GROUP_APPLY_VN b 0)

end Sys2Proof.Machine
end

