-- ==== Sys2Proof/Machine/Mem.lean ====
section
/-! DEFINITION. The memories of the device: HBM under its encryption keys (R125, R401 to R403), cluster shared memory and
core local memory (R229, R266), and the internal address map (R548). What a byte that nothing has written reads as is
given here once: 0 in every memory but HBM and the flash (DESIGN CHOICE, log entry 16), in HBM a free value (R403), and in the
flash what the part was shipped with. -/

namespace Sys2Proof.Machine

/-- What an unlisted byte of a memory holds. -/
def Memory.blank (_ : Nat) : Byte := 0

/-- The canonical form of a memory: addresses strictly rising, and no entry equal to what an unlisted address reads as. -/
def Memory.wf (m : List Host.Cell) : Bool := Sparse.wf Memory.blank m

/-- One byte of a memory. -/
def Memory.read (m : List Host.Cell) (a : Nat) : Byte := Sparse.get Memory.blank m a

/-- Store one byte. -/
def Memory.write (m : List Host.Cell) (a : Nat) (b : Byte) : List Host.Cell := Sparse.set Memory.blank m a b

/-- The `n` bytes from address `a` on. -/
def Memory.readN (m : List Host.Cell) (a : Nat) : Nat → List Byte
  | 0 => []
  | n + 1 => Memory.read m a :: Memory.readN m (a + 1) n

/-- Store bytes from address `a` on. -/
def Memory.writeN (m : List Host.Cell) (a : Nat) : List Byte → List Host.Cell
  | [] => m
  | b :: bs => Memory.writeN (Memory.write m a b) (a + 1) bs

/-! ### The SPI NOR flash (R531) -/

/-- The `n` bytes of the flash from address `a` on; what nothing has written is as shipped. -/
def Flash.readN (m : List Host.Cell) (a n : Nat) : List Byte := (List.range n).map (fun i => Sparse.get Config.factoryFlash m (a + i))

/-- Store bytes in the flash from address `a` on. -/
def Flash.writeN (m : List Host.Cell) (a : Nat) : List Byte → List Host.Cell
  | [] => m
  | b :: bs => Flash.writeN (Sparse.set Config.factoryFlash m a b) (a + 1) bs

/-- Read the flash. -/
def Dev.flashRead (s : Dev) (a n : Nat) : List Byte := Flash.readN s.bcp.flash a n

/-- Write the flash. -/
def Dev.flashWrite (s : Dev) (a : Nat) (bs : List Byte) : Dev := { s with bcp := { s.bcp with flash := Flash.writeN s.bcp.flash a bs } }

/-- A firmware update that a reset or a loss of power cuts off is over, and from its download on it leaves the inactive slot invalid
(R534): the MAGIC of its image is cleared. -/
def Dev.dropUpdate (s : Dev) : Dev :=
  let late := match s.bcp.upd with
    | some u => decide (3 ≤ u.stage)
    | none => false
  let s := if late then s.flashWrite (0x100000 + (1 - s.bcp.active) * 0x1000000) (leBytes 4 0) else s
  { s with bcp := { s.bcp with upd := none } }

/-- The size of the addressable HBM, 60 GiB (R266), and the base of the device area (R125). -/
def hbmSize : Nat := 0xF00000000
/-- The base of the device area (R125). -/
def deviceArea : Nat := 0xEE0000000

/-- HBM addresses wholly within the addressable HBM and outside the device area. -/
def hbmOk (a n : Nat) : Bool := a + n ≤ deviceArea

/-! ### HBM (R401 to R403) -/

/-- What a byte of a line gives under key `k` (the key value plus one): the stored byte under the line's own key, and an
unrelated byte under any other. -/
def hbmByte (s : Dev) (k a : Nat) : Byte :=
  let lk := Sparse.get (fun _ => 0) s.mem.hbmKey (a / 64)
  let b := Memory.read s.mem.hbm a
  if lk = k then b else Config.unrelated k lk a b

/-- The bytes that a read of HBM under a key value returns. -/
def Dev.hbmRead (s : Dev) (key a n : Nat) : List Byte := (List.range n).map (fun j => hbmByte s (key + 1) (a + j))

/-- Re-encrypt a line under key `k` before part of it is written: a write of less than a line is a read, merge and write
of the whole line (R401). -/
def hbmRekey (s : Dev) (k line : Nat) : Dev :=
  if Sparse.get (fun _ => 0) s.mem.hbmKey line = k then s else
  { s with mem := { s.mem with
      hbm := Memory.writeN s.mem.hbm (64 * line) ((List.range 64).map (fun j => hbmByte s k (64 * line + j)))
      hbmKey := Sparse.set (fun _ => 0) s.mem.hbmKey line k } }

/-- Write bytes to HBM under a key value. -/
def Dev.hbmWrite (s : Dev) (key a : Nat) (bs : List Byte) : Dev :=
  if bs.isEmpty then s else
  let first := a / 64
  let s := (List.range ((a + bs.length - 1) / 64 + 1 - first)).foldl (fun s j => hbmRekey s (key + 1) (first + j)) s
  let bad := s.mem.bad.filter (fun l => !(first ≤ l && l ≤ (a + bs.length - 1) / 64))
  { s with mem := { s.mem with hbm := Memory.writeN s.mem.hbm a bs, bad := bad } }

/-- The key value of a request to HBM (R402): the memory key of a pitch, or the no-pitch key; nothing when it is EMPTY
(R403). -/
def Dev.memKey (s : Dev) : Option Nat → Option Nat
  | some p =>
    if s.fld .CRY_KEYINFO (0x3F000 + p) 7 0 = 0 then none
    else some (Sparse.get (fun _ => 0) s.cry.slots (0x3F000 + p))
  | none => s.cry.noPitch

/-- The logical pseudo-channel of an HBM address (R546). -/
def pseudoChannel (a : Nat) : Nat := a / 4096 % 60

/-- The stack of an HBM address (R546). -/
def hbmStack (a : Nat) : Nat := pseudoChannel a / 15

/-- Every pseudo-channel of a range of HBM is served (R470, R473): none of its 4 KiB blocks lies at a position with no unit or
with a fenced one. -/
def Dev.hbmServed (s : Dev) (a n : Nat) : Bool :=
  (List.range (min 60 ((a + n - 1) / 4096 + 1 - a / 4096))).all (fun k =>
    let pc := (a / 4096 + k) % 60
    s.fld .REF_MAP (0x120 + pc) 17 17 = 0 && !s.isFenced (unitId 0x0D (pc / 15) (s.fld .REF_MAP (0x120 + pc) 7 0)))

/-- No line of a range of HBM fails its code (R471, R475). -/
def Dev.hbmSound (s : Dev) (a n : Nat) : Bool := s.mem.bad.all (fun l => !(a / 64 ≤ l && l ≤ (a + n - 1) / 64))

/-- A read of a range of HBM that meets a line which fails its code raises HBM_CODE from the pseudo-channel (R471). -/
def Dev.badLine (s : Dev) (a n : Nat) : Dev :=
  match s.mem.bad.find? (fun l => a / 64 ≤ l && l ≤ (a + n - 1) / 64) with
  | some l =>
    let pc := pseudoChannel (64 * l)
    s.whistle 0x12 (unitId 0x0D (pc / 15) (s.fld .REF_MAP (0x120 + pc) 7 0)) (64 * l) 2
  | none => s

/-- Count a request whose memory key is EMPTY (R403). -/
def Dev.keyEmpty (s : Dev) (a : Nat) : Dev := s.bump .MEM_KEY_EMPTY (hbmStack a)

/-! ### Cluster shared memory and core local memory (R229, R266) -/

/-- The place of a byte of a cluster's shared memory. -/
def sharedAt (c off : Nat) : Nat := c * 2 ^ 23 + off

/-- Bytes of a cluster's shared memory. -/
def Dev.sharedRead (s : Dev) (c off n : Nat) : List Byte := Memory.readN s.mem.shared (sharedAt c off) n

/-- Store bytes to a cluster's shared memory. -/
def Dev.sharedWrite (s : Dev) (c off : Nat) (bs : List Byte) : Dev :=
  { s with mem := { s.mem with shared := Memory.writeN s.mem.shared (sharedAt c off) bs } }

/-- The place of a byte of the local memory of a physical core. -/
def localAt (c core off : Nat) : Nat := (34 * c + core) * 2 ^ 18 + off

/-- Bytes of a core's local memory. -/
def Dev.localRead (s : Dev) (c core off n : Nat) : List Byte := Memory.readN s.mem.loc (localAt c core off) n

/-- Store bytes to a core's local memory. -/
def Dev.localWrite (s : Dev) (c core off : Nat) (bs : List Byte) : Dev :=
  { s with mem := { s.mem with loc := Memory.writeN s.mem.loc (localAt c core off) bs } }

end Sys2Proof.Machine
end

