-- ==== Sys2Proof/Machine/DorBase.lean ====
section
/-! DEFINITION. Dorut contexts and events (R229 to R241, R249, R251): reading and writing a context, setting an event,
ending a wait, the fault and notice queues. Contexts are keyed 256 × cluster + thread; key 2048 is Basecamp's core, which
runs the same instructions (R292). -/

namespace Sys2Proof.Machine

/-- A FREE context (R264). -/
def Ctx.blank : Ctx :=
  { st := 0, regs := [], pc := 0, f := false, kv := 0, kvEpoch := 0, kvValid := false, timer := none, events := 0
    wait := none, res := none, parent := none, detached := false, exitVal := 0, was := 0, haltDue := false
    byQuiesce := false, step := none, credits := 0, armed := 0, notBefore := 0, again := none }

/-- The key of a thread of a cluster. -/
def ctxKey (c t : Nat) : Nat := 256 * c + t

/-- The context of a key. -/
def Dev.ctx (s : Dev) (k : Nat) : Ctx := Sparse.get (fun _ => Ctx.blank) s.dor.ctxs k

/-- The core of a context, by the number its counters are kept under; 256 is Basecamp's. -/
def coreNo (k : Nat) : Nat := 32 * (k / 256) + k % 256 / 8

/-- Store a context. A thread that leaves EVENT_WAIT starts the stall count of its core again (R245). -/
def Dev.setCtx (s : Dev) (k : Nat) (x : Ctx) : Dev :=
  { s with dor := { s.dor with
      ctxs := Sparse.set (fun _ => Ctx.blank) s.dor.ctxs k x
      stall := if (s.ctx k).st = 3 ∧ x.st ≠ 3 then Sparse.put s.dor.stall (coreNo k) none else s.dor.stall } }

/-- Register g`n` of a context: g0 reads 0 (R264). -/
def Ctx.reg (x : Ctx) (n : Nat) : Word := if n = 0 then 0 else Sparse.get (fun _ => (0 : Word)) x.regs n

/-- Write register g`n`; writes to g0 are discarded (R264). -/
def Ctx.setReg (x : Ctx) (n : Nat) (v : Word) : Ctx :=
  if n = 0 then x else { x with regs := Sparse.set (fun _ => (0 : Word)) x.regs n v }

/-- A thread is live (R231). -/
def Ctx.live (x : Ctx) : Bool := x.st = 1 || x.st = 2 || x.st = 3

/-- The supervisor thread of a cluster (R251). -/
def Dev.supervisor (s : Dev) (c : Nat) : Nat := s.fld .DOR_SUP_CFG c 7 0

/-- The physical core that serves a logical core (R230, R473). -/
def Dev.physCore (s : Dev) (c l : Nat) : Nat := s.fld .REF_MAP (32 * c + l) 7 0

/-- A core is stopped (R252). -/
def Dev.coreStopped (s : Dev) (c l : Nat) : Bool := s.fld .DOR_CORE_STATUS (32 * c + l) 8 8 = 1

/-! ### Cycles and slots (R232 to R237) -/

/-- The core cycles of this volley (R15). -/
def Dev.volleyCycles (s : Dev) : Nat := 3 * s.clk.volleyNs

/-- The cycles of a cluster's cores before this volley, since their reset. -/
def Dev.cyclesBefore (s : Dev) (c : Nat) : Nat := Sparse.get (fun _ => 0) s.dor.cycles c

/-- The next cycle of this volley that a core has not passed. -/
def Dev.cycNow (s : Dev) (n : Nat) : Nat := Sparse.get (fun _ => 0) s.dor.cyc n

/-- The slot of a core at a cycle (R232, R237): VALID in bit 3, CTX below it. Up to the rotation that begins with or after an
apply, the word before it counts. -/
def Dev.slotAt (s : Dev) (n q : Nat) : Nat :=
  let i := 4 * n + q % 32 / 8
  let now := s.rd .DOR_SLOT i
  let w := if q < Sparse.get (fun _ => 0) s.dor.slotFrom (n / 32) then Sparse.get (fun _ => now) s.dor.slotOld i else now
  bits w (4 * (q % 8) + 3) (4 * (q % 8))

/-- A context is READY to issue at a cycle (R231, R235). -/
def Dev.canTake (s : Dev) (k q : Nat) : Bool := (s.ctx k).st = 1 && decide ((s.ctx k).notBefore ≤ q)

/-- The slot of a core at a cycle is VALID and its context READY: it issues there (R234). -/
def Dev.ownSlot (s : Dev) (n q : Nat) : Option Nat :=
  let w := s.slotAt n q
  if 8 ≤ w ∧ s.canTake (256 * (n / 32) + 8 * (n % 32) + w % 8) q then some (w % 8) else none

/-- The context of a core that issues at a cycle (R234): that of the slot, or the next READY untimed one in round-robin order after the
context that took the last filler cycle. -/
def Dev.issuer (s : Dev) (n q : Nat) : Option Nat :=
  match s.ownSlot n q with
  | some t => some t
  | none =>
    let base := 256 * (n / 32) + 8 * (n % 32)
    let last := Sparse.get (fun _ => 7) s.dor.fill n
    ((List.range 8).map (fun j => (last + 1 + j) % 8)).find? (fun t =>
      s.canTake (base + t) q && decide (s.fld .DOR_CTX_CFG (base + t) 18 18 = 0))

/-- The next cycle of this volley in which a core issues, with the context that does; the cycles before it are idle. -/
def Dev.nextIssue (s : Dev) (n : Nat) : Option (Nat × Nat) :=
  ((List.range (s.volleyCycles - s.cycNow n)).map (s.cycNow n + ·)).findSome? (fun j =>
    (s.issuer n (s.cyclesBefore (n / 32) + j)).map (fun t => (j, t)))

/-- A core has passed the first `j` cycles of this volley. -/
def Dev.setCyc (s : Dev) (n j : Nat) : Dev :=
  { s with dor := { s.dor with cyc := Sparse.put s.dor.cyc n (some j) } }

/-- The result or the event of a context arrives (R235): it issues again 2 cycles later at the earliest. The cycle is the next
one of the core, or any one up to the next in which the core issues: it is a free value; the timer's is that of the boundary. -/
def Dev.arrive (s : Dev) (k : Nat) (exact : Bool) : Dev :=
  if k = 2048 then s
  else
    let n := coreNo k
    let c := s.cycNow n
    let gap := (match s.nextIssue n with | some (j, _) => j | none => s.volleyCycles) - c
    let (j, s) := if exact || decide (gap = 0) then (c, s) else (c + s.draw.1 % (gap + 1), s.draw.2)
    (s.setCyc n j).setCtx k { s.ctx k with notBefore := s.cyclesBefore (k / 256) + j + 2 }

/-- The wait mask in force: for the supervisor, bits 8 and 9 are always part of it (R239). -/
def Dev.waitMask (s : Dev) (k mask : Nat) : Nat :=
  if k / 256 < 8 ∧ s.supervisor (k / 256) = k % 256 then mask ||| 0x300 else mask

/-- A waiting thread goes on after its instruction, RD written, under R235. -/
def Dev.goOn (s : Dev) (k rd : Nat) (v : Word) (exact : Bool) : Dev :=
  let s := s.arrive k exact
  s.setCtx k { ((s.ctx k).setReg rd v) with wait := none, st := 1, pc := (s.ctx k).pc + 4 }

/-- A thread in a WFE whose mask holds a pending event ends its wait: the bits are returned and cleared, and it goes on
after the WFE (R239). `exact` tells that the event comes with the boundary. -/
def Dev.endWait (s : Dev) (k : Nat) (exact : Bool) : Dev :=
  let x := s.ctx k
  match x.st, x.wait with
  | 3, some (.event rd mask) =>
    let got := x.events &&& s.waitMask k mask
    if got = 0 then s
    else
      let s := s.goOn k rd (BitVec.ofNat 64 got) exact
      s.setCtx k { s.ctx k with events := x.events &&& (0xFFFF - got) }
  | _, _ => s

/-- STALL ends any wait of the supervisor (R245). One for a JOIN or a FORKW, which the spec leaves without a result, goes on with a
free value in RD (DESIGN CHOICE, log entry 130). -/
def Dev.endAnyWait (s : Dev) (k : Nat) : Dev :=
  let free := fun (rd : Nat) => s.draw.2.goOn k rd (BitVec.ofNat 64 s.draw.1) true
  match (s.ctx k).st, (s.ctx k).wait with
  | 3, some (.join rd _) => free rd
  | 3, some (.fork rd ..) =>
    let s := free rd
    { s with dor := { s.dor with forkq := s.dor.forkq.filter (fun j => !decide (j = k)) } }
  | _, _ => s

/-- A sleeping cluster has met a wake source (R286). -/
def Dev.wakeDue (s : Dev) (c : Nat) : Dev :=
  if (Sparse.get? s.dor.asleep c).isSome then
    { s with dor := { s.dor with asleep := Sparse.put s.dor.asleep c (some true) } }
  else s

/-- Set an event bit of a context (R238); a sleeping cluster is to wake (R286). A FREE or EXITED context latches none. -/
def Dev.setEvent (s : Dev) (k bitNo : Nat) : Dev :=
  let x := s.ctx k
  if x.st = 0 ∨ x.st = 5 then s
  else
    let s := s.setCtx k { x with events := x.events ||| 2 ^ bitNo }
    if (Sparse.get? s.dor.asleep (k / 256)).isSome then s.wakeDue (k / 256) else s.endWait k (decide (bitNo = 1))

/-- The notice queue of a cluster. -/
def Dev.nq (s : Dev) (c : Nat) : List Nat := Sparse.get (fun _ => []) s.dor.nq c

/-- Place a notice in a cluster's notice queue of 256 and set bit 7 of the supervisor (R249); nothing when it is full. -/
def Dev.pushNotice (s : Dev) (c r : Nat) : Option Dev :=
  if 256 ≤ (s.nq c).length then none
  else
    let q := s.nq c ++ [r]
    let s := { s with dor := { s.dor with nq := Sparse.set (fun _ => []) s.dor.nq c q } }
    some (s.setEvent (ctxKey c (s.supervisor c)) 7)

/-- The slot pointer of a cluster's cores at the start of the volley: free-running, one step a cycle from reset (R232). -/
def Dev.slotPhase (s : Dev) (c : Nat) : Nat := s.cyclesBefore c % 32

/-- DOR_STALL_VOLLEYS in force. -/
def Dev.stallLimit (s : Dev) (c : Nat) : Nat := max 16 (s.rd .DOR_STALL_VOLLEYS c)

/-- A timer fires at this boundary (R241): its target has come, and it was not armed within this volley. -/
def Ctx.timerDue (x : Ctx) (vn : Nat) : Bool := x.timer.any (fun v => decide (v ≤ vn)) && decide (x.armed ≠ vn)

/-- The fault queue of a cluster. -/
def Dev.fq (s : Dev) (c : Nat) : List Nat := Sparse.get (fun _ => []) s.dor.fq c

/-- EVENT_STALL is due for a core (R245): the count is met, and the stall has not been told. -/
def Dev.stallMet (s : Dev) (n : Nat) : Bool :=
  decide (s.stallLimit (n / 32) ≤ Sparse.get (fun _ => 0) s.dor.stall n) && (Sparse.get? s.dor.stallRec n).isNone

/-- The 0x50 record of a core is in the fault queue. -/
def Dev.stallQueued (s : Dev) (n : Nat) : Bool :=
  (s.fq (n / 32)).any (fun r => decide (bits r 79 72 = 0x50) && decide (bits r 71 64 / 8 = n % 32))

/-- The cluster escalates the stall of a core (R246): it has been told, and the supervisor's own core is in event stall at the same
boundary, or the 0x50 record is still queued after as many boundaries again. -/
def Dev.escalates (s : Dev) (n : Nat) : Bool :=
  match Sparse.get? s.dor.stallRec n with
  | none => false
  | some m => s.dor.stallBoth.contains n || (s.stallQueued n && decide (s.stallLimit (n / 32) ≤ m))

/-- What DOR does at a boundary has taken place: timers have fired, stalls are told and escalated. -/
def Dev.dorDone (s : Dev) : Bool :=
  s.dor.ctxs.all (fun e => !e.2.timerDue s.vn) && s.dor.stall.all (fun e => !s.stallMet e.1)
    && s.dor.stallRec.all (fun e => !s.escalates e.1)

/-- Set the fault queue of a cluster. -/
def Dev.setFq (s : Dev) (c : Nat) (q : List Nat) : Dev :=
  { s with dor := { s.dor with fq := Sparse.set (fun _ => []) s.dor.fq c q } }

/-- A fault record (R251). -/
def faultRec (vn pc addr detail thread cause inStep : Nat) : Nat :=
  vn % 2 ^ 64 + thread % 2 ^ 8 * 2 ^ 64 + cause * 2 ^ 72 + inStep * 2 ^ 80 + pc % 2 ^ 64 * 2 ^ 96
    + addr % 2 ^ 48 * 2 ^ 160 + detail % 2 ^ 32 * 2 ^ 224

/-- The fault queue of a cluster receives a record (R238, R251). -/
def Dev.pushFault (s : Dev) (c r : Nat) : Dev := (s.setFq c (s.fq c ++ [r])).setEvent (ctxKey c (s.supervisor c)) 8

/-- Stop a core (R252): its contexts other than FREE become STOPPED, and the cluster raises DOR_CORE_STOP. -/
def Dev.stopCore (s : Dev) (c l cause : Nat) : Dev :=
  if s.coreStopped c l then s else
  let s := forEach (List.range 8) s (fun s t =>
    let k := ctxKey c (8 * l + t)
    let x := s.ctx k
    if x.st = 0 then s else s.setCtx k { x with was := (if x.st = 4 ∨ x.st = 6 then x.was else x.st), st := 7 })
  let s := (s.setFld .DOR_CORE_STATUS (32 * c + l) 11 9 cause).setFld .DOR_CORE_STATUS (32 * c + l) 8 8 1
  (s.bump .DOR_CORE_STOPS c).whistle 0x0B (unitId 0x07 c (s.physCore c l)) 0 (l + cause * 2 ^ 8)

/-- A thread faults (R251, R252): its record is queued and it becomes FAULTED, or, for the supervisor or a full queue,
its core stops. Nothing else of the faulting instruction takes place (R291). Every fault counts in DOR_FAULTS
(DEDUCED, log entry 17). -/
def Dev.threadFault (s : Dev) (k cause addr detail : Nat) : Dev :=
  let c := k / 256
  let t := k % 256
  let x := s.ctx k
  let s := (s.setCtx k { x with st := 4, was := x.st, wait := none, res := none }).bump .DOR_FAULTS c
  if s.supervisor c = t then s.stopCore c (t / 8) 2
  else if 16 ≤ (s.fq c).length then s.stopCore c (t / 8) 1
  else s.pushFault c (faultRec s.vn x.pc addr detail t cause (b2n x.step.isSome))

/-! ### Basecamp reboot (R511) -/

/-- Return registers to their reset values: the cells in force and pending that satisfy `p`. -/
def Dev.resetCells (s : Dev) (p : Reg → Nat → Bool) : Dev :=
  { s with regs := s.regs.filter (fun e => !p (Reg.ofKey e.1) (Reg.ixOf e.1))
           pend := s.pend.filter (fun e => !p (Reg.ofKey e.1) (Reg.ixOf e.1)) }

/-- A Basecamp reboot begins (R511): its BOOT record is raised, its cores stop, and a reset reaches the BCP block. The
event FIFO and what the Logbook writer holds are kept; a capsule in progress that is not released is carried out again (R494). -/
def Dev.bcpReboot (s : Dev) (cause : Nat) : Dev :=
  let s := s.dropUpdate
  let old := s.rd .BCP_STATUS 0
  let new := bits old 3 2 * 2 ^ 2 + cause * 2 ^ 8 + 2
  let s := s.logPrio (mkRec .device 9 (unitId 0x0E 0 0xFF) cause (some old) new 0)
  let s := s.resetCells (fun r _ => r.info.cls = 0x0E && !r.info.counter && decide (r ≠ .BCP_LOG_WIDX))
  let s := (s.resetHeader (blkOf 0x0E 0)).wr .BCP_STATUS 0 new
  ({ s with bcp := { s.bcp with crossed := [], caps := [], dormant := none }
            dor := { s.dor with cycles := Sparse.put s.dor.cycles 8 none, issued := Sparse.put s.dor.issued 256 none } }.setCtx 2048 Ctx.blank).bump .BCP_REBOOTS 0

/-- An exception (R251, R290): a thread faults; in Basecamp it causes a reboot (R510). -/
def Dev.raise (s : Dev) (k cause addr detail : Nat) : Dev :=
  if k = 2048 then s.bcpReboot 6 else s.threadFault k cause addr detail

end Sys2Proof.Machine
end

