-- ==== Sys2Proof/Machine/Hif.lean ====
section
/-! DEFINITION. Host links (R293 to R316): the Pitch Map, outbound requests and their tags, the Window table and its
commits, link power and surprise detection of tags; the meanings of the HIF commands that need no other block. -/

namespace Sys2Proof.Machine

open Host

/-! ### Isolation entries (R159) -/

/-- The key of an entry of an isolation table: TENANT 0x6, the Pitch Map 0x9, the Window table 0xA. -/
def isoKey (table i : Nat) : Nat := table * 2 ^ 32 + i

/-- An entry of an isolation table is frozen (R159). -/
def Dev.isFrozen (s : Dev) (table i : Nat) : Bool :=
  match Sparse.get? s.tbl.iso (isoKey table i) with
  | some m => m.frozen
  | none => false

/-- A refused lookup or transaction of a frozen entry (R159). -/
def Dev.suspect (s : Dev) : Dev := s.bump .TBL_ISOLATION_SUSPECT 0

/-- TBL_SHADOW_STATUS counts the frozen and the pending entries (R161). -/
def Dev.isoStatus (s : Dev) : Dev :=
  let fr := (s.tbl.iso.filter (fun e => e.2.frozen)).length
  let pe := (s.tbl.iso.filter (fun e => e.2.pending.isSome)).length
  (s.setFld .TBL_SHADOW_STATUS 0 31 16 fr).setFld .TBL_SHADOW_STATUS 0 15 1 pe

/-- Set or clear the marks of an entry. -/
def Dev.setIso (s : Dev) (table i : Nat) (m : Option IsoMark) : Dev :=
  { s with tbl := { s.tbl with iso := Sparse.put s.tbl.iso (isoKey table i) m } }.isoStatus

/-- Clear the frozen mark of an entry that has been rewritten (R159, R303, R308). -/
def Dev.thawIso (s : Dev) (table i : Nat) : Dev := if s.isFrozen table i then s.setIso table i none else s

/-! ### The Pitch Map (R301 to R303) -/

/-- Pitch Map entry `p`. -/
def Dev.pmap (s : Dev) (p : Nat) : Nat := s.rd .HIF_PMAP_ENTRY p

/-- The entry of a pitch is VALID. -/
def pmapValid (e : Nat) : Bool := bit e 22

/-- LINK of a Pitch Map entry. -/
def pmapLink (e : Nat) : Nat := bits e 21 20

/-- PASID of a Pitch Map entry. -/
def pmapPasid (e : Nat) : Nat := bits e 19 0

/-- The pitch that an inbound request of PASID `x` on a link belongs to (R302). -/
def Dev.pitchOf (s : Dev) (link : Nat) (pasid : Option Nat) : Option Nat :=
  match pasid with
  | none => none
  | some x => (List.range 4096).find? (fun p =>
      let e := s.pmap p
      pmapValid e && pmapLink e = link && pmapPasid e = x && !s.isFrozen 0x9 p)

/-- Why a request for a pitch, or for host admin, is not issued (R302, R314): the code of R371, if it is not. -/
def Dev.outboundBar (s : Dev) (p : Option Nat) (link : Nat) : Option Nat :=
  match p with
  | some p =>
    if s.isFrozen 0x9 p then some 4
    else if !pmapValid (s.pmap p) then some 5
    else if s.fld .HIF_LINK_STATUS (pmapLink (s.pmap p)) 11 8 < 2 then some 2 else none
  | none => if s.fld .HIF_LINK_STATUS link 11 8 < 2 then some 2 else none

/-- Count a request that is not issued because its pitch's entry is frozen (R302). -/
def Dev.countBar (s : Dev) (code : Nat) : Dev := if code = 4 then s.suspect else s

/-- The link and PASID a request for a pitch carries, or those of host admin on a link (R302). -/
def Dev.outLink (s : Dev) (p : Option Nat) (link : Nat) : Nat × Option Nat :=
  match p with
  | some p => (pmapLink (s.pmap p), some (pmapPasid (s.pmap p)))
  | none => (link, none)

/-- Write bytes to host memory for a pitch or host admin (R309, in order). Nothing is sent when the request is barred. -/
def Dev.hostWrite (s : Dev) (p : Option Nat) (link addr : Nat) (bs : List Byte) : Dev :=
  match s.outboundBar p link with
  | some c => s.countBar c
  | none =>
    let (l, x) := s.outLink p link
    s.sendOnLink l (.hostWrite l x addr bs)

/-- The state of a pitch (R435). -/
def Dev.pitState (s : Dev) (p : Nat) : Nat := s.fld .PIT_STATE p 3 0

/-- A change of a pitch's state writes its Logbook record, and takes place with the seal of it (R442). -/
def Dev.setPit (s : Dev) (o : Origin) (p st : Nat) : Dev :=
  let old := s.rd .PIT_STATE p
  s.logOrd (mkRec o 1 (blkId 18) (0x8000 + 4 * p) (some old) (putBits old 3 0 st) 4)
    (some ⟨.device, Reg.PIT_STATE.key p, st, 0xF, none⟩)

/-- Finish an access to the Pitch Map with a RESULT (R303). -/
def Dev.pmapStatus (s : Dev) (tag result : Nat) : Dev := s.wr .HIF_PMAP_STATUS 0 (tag * 2 ^ 16 + result)

/-- The origins that may write the Pitch Map (R303). -/
def Origin.pmapWriter : Origin → Bool
  | .bar0 _ => true | .basecamp => true | .adminRing _ => true | .mctpSmbus _ => true | .mctpVdm .. => true
  | .ncsi _ => true | _ => false

/-- The outcome of a Pitch Map write: REFUSED in LOCKDOWN or for a bound pitch (R437), DUPLICATE, or accepted. -/
def Dev.pmapWrite (s : Dev) (p tag : Nat) : Dev :=
  let v := s.rd .HIF_PMAP_ACC_DATA 0
  let st := s.rd .PIT_STATE p
  let keeps := pmapValid v && pmapLink v = bits st 29 28 && pmapPasid v = bits st 27 8
  let dup := pmapValid v && (List.range 4096).any (fun q =>
    q ≠ p && pmapValid (s.pmap q) && pmapLink (s.pmap q) = pmapLink v && pmapPasid (s.pmap q) = pmapPasid v)
  if s.mode = .lockdown then s.pmapStatus tag 2
  else if s.pitState p ≠ 0 ∧ keeps = false then s.pmapStatus tag 2
  else if dup then s.pmapStatus tag 1
  else ((s.wr .HIF_PMAP_ENTRY p (bits v 22 0)).thawIso 0x9 p).pmapStatus tag 0

/-- PMAP_READ (R303): a write of HIF_PMAP_ACC_CTL with OP read. -/
def execPmapRead (o : Origin) (tag index : Nat) (s : State) : Outcome State Fault Refusal := s.act fun s =>
  .next (s.regWrite o .HIF_PMAP_ACC_CTL 0 4 (tag % 2 ^ 16 * 2 ^ 16 + 2 ^ 12 + index % 4096) fun s =>
    (s.wr .HIF_PMAP_ACC_DATA 0 (s.pmap (index % 4096))).pmapStatus (tag % 2 ^ 16) 0)

/-- PMAP_WRITE (R303, R437): from BAR0 or Basecamp; from any other origin it is dropped and counted. -/
def execPmapWrite (o : Origin) (tag index : Nat) (s : State) : Outcome State Fault Refusal := s.act fun s =>
  .next (s.regWrite o .HIF_PMAP_ACC_CTL 0 4 (tag % 2 ^ 16 * 2 ^ 16 + 2 ^ 13 + index % 4096) fun s =>
    if o.pmapWriter then s.pmapWrite (index % 4096) (tag % 2 ^ 16) else s.bump .TBL_CMD_FOREIGN 0)

/-! ### The Window table (R304 to R308) -/

/-- A Window entry as a 128-bit number, in force. -/
def Dev.win (s : Dev) (w : Nat) : Nat := s.rd .HIF_WIN_ENTRY (2 * w) + s.rd .HIF_WIN_ENTRY (2 * w + 1) * 2 ^ 64

/-- A word of the pending copy of the Window table (R25, R307): written, else of the snapshot that waits, else in force. -/
def Dev.winPendWord (s : Dev) (i : Nat) : Nat :=
  let snap := match s.hif.waiting with
    | some (_, m, _) => Sparse.get? m i
    | none => none
  (((Sparse.get? s.hif.pend i).orElse (fun _ => snap)).getD (s.reg .HIF_WIN_ENTRY i)).toNat

/-- A Window entry in the pending copy. -/
def Dev.winPend (s : Dev) (w : Nat) : Nat := s.winPendWord (2 * w) + s.winPendWord (2 * w + 1) * 2 ^ 64

/-- The reserved bits of a Window entry read 0 (R304). -/
def winMask (v : Nat) : Nat := bits v 83 0

/-- HIF_WIN_STATUS echoes the TAG of an access (R308; DEDUCED, log entry 139). -/
def Dev.winTag (s : Dev) (tag : Nat) : Dev := s.setFld .HIF_WIN_STATUS 0 31 16 tag

/-- The effect of a write access to entry `w` of the pending Window table (R307). -/
def Dev.winPut (s : Dev) (w tag : Nat) : Dev :=
  let s := s.winTag tag
  let v := winMask (s.rd .HIF_WIN_ACC_DATA0 0 + s.rd .HIF_WIN_ACC_DATA1 0 * 2 ^ 64)
  let put := fun (m : Sparse Word) i x => Sparse.put m i (some (BitVec.ofNat 64 x))
  { s with hif := { s.hif with pend := put (put s.hif.pend (2 * w) v) (2 * w + 1) (v / 2 ^ 64), dirty := true } }.setFld
    .HIF_WIN_STATUS 0 3 3 1

/-- WIN_WRITE_PENDING (R307). -/
def execWinWritePending (o : Origin) (tag index : Nat) (s : State) : Outcome State Fault Refusal := s.act fun s =>
  let w := index % 256
  .next (s.regWrite o .HIF_WIN_ACC_CTL 0 4 (tag % 2 ^ 16 * 2 ^ 16 + 2 ^ 9 + w) fun s => s.winPut w (tag % 2 ^ 16))

/-- Place a Window image in DATA0 and DATA1. -/
def Dev.winData (s : Dev) (v tag : Nat) : Dev :=
  ((s.wr .HIF_WIN_ACC_DATA0 0 v).wr .HIF_WIN_ACC_DATA1 0 (v / 2 ^ 64)).winTag tag

/-- WIN_READ (R307). -/
def execWinRead (o : Origin) (tag index : Nat) (s : State) : Outcome State Fault Refusal := s.act fun s =>
  .next (s.regWrite o .HIF_WIN_ACC_CTL 0 4 (tag % 2 ^ 16 * 2 ^ 16 + 2 ^ 8 + index % 256) fun s =>
    s.winData (s.win (index % 256)) (tag % 2 ^ 16))

/-- WIN_READ_PENDING (R307). -/
def execWinReadPending (o : Origin) (tag index : Nat) (s : State) : Outcome State Fault Refusal := s.act fun s =>
  .next (s.regWrite o .HIF_WIN_ACC_CTL 0 4 (tag % 2 ^ 16 * 2 ^ 16 + 3 * 2 ^ 8 + index % 256) fun s =>
    s.winData (s.winPend (index % 256)) (tag % 2 ^ 16))

/-- The first BAR4 address and the size of a window. -/
def winSpan (v : Nat) : Nat × Nat := (bits v 23 0 * 4096, 2 ^ bits v 29 24)

/-- Check 3 of R307: the target is aligned and lies in HBM outside the device area or in one cluster's shared memory. -/
def winTargetOk (v : Nat) : Bool :=
  let a := bits v 67 32 * 4096
  let n := (winSpan v).2
  a % n = 0 && (hbmOk a n || (0x10000000000 ≤ a && a + n ≤ 0x10004000000 && a / 2 ^ 23 = (a + n - 1) / 2 ^ 23))

/-- The checks of a Window commit, in order (R307). -/
def Dev.winChecks (s : Dev) : List Bool :=
  let es := (List.range 256).map s.winPend
  let val := es.filter (fun v => bit v 83)
  let apart := fun (a b : Nat) =>
    bits a 31 30 ≠ bits b 31 30 || decide ((winSpan a).1 + (winSpan a).2 ≤ (winSpan b).1)
      || decide ((winSpan b).1 + (winSpan b).2 ≤ (winSpan a).1)
  [ val.all (fun v => 12 ≤ bits v 29 24 && bits v 29 24 ≤ 36),
    val.all (fun v => (winSpan v).1 % (winSpan v).2 = 0 && (winSpan v).1 + (winSpan v).2 ≤ 2 ^ 36),
    val.all winTargetOk,
    (List.range 256).all (fun i => !bit (es.getD i 0) 83 || (List.range i).all (fun j =>
      !bit (es.getD j 0) 83 || apart (es.getD i 0) (es.getD j 0))),
    val.all (fun v => !bit v 82 ||
      (pmapValid (s.pmap (bits v 79 68)) && pmapLink (s.pmap (bits v 79 68)) = bits v 31 30)) ]

/-- Report an event in HIF_WIN_STATUS (R308). -/
def Dev.winStatus (s : Dev) (tag detail result : Nat) : Dev :=
  s.wr .HIF_WIN_STATUS 0 (tag * 2 ^ 16 + detail * 2 ^ 8 + b2n s.hif.dirty * 2 ^ 3 + result)

/-- The outcome of a Window commit (R307), in the order of R26. A BAR0 or Basecamp commit clears frozen entries that it
rewrites, and PENDING stays until the commit point (R308). -/
def Dev.winCommit (s : Dev) (o : Origin) (tag : Nat) : Dev :=
  if s.mode = .lockdown then s.winStatus tag 0xFD 7
  else if s.hif.waiting.isSome then s.winStatus tag 0 6
  else if s.hif.dirty = false then s.winStatus tag 0 4
  else
    match firstFail s.winChecks with
    | 0 =>
      let s := s.logPrio (applyRec o 18 0x101 0 tag 0 s.vn)
      let s := { s with hif := { s.hif with waiting := some (tag, s.hif.pend, o.pmapWriter), pend := [] } }
      s.winStatus tag 0 1
    | k => s.winStatus tag k 3

/-- WIN_COMMIT (R307). -/
def execWinCommit (o : Origin) (tag : Nat) (s : State) : Outcome State Fault Refusal := s.act fun s =>
  let tag := tag % 2 ^ 16
  .next (s.regWrite o .HIF_WIN_COMMIT 0 4 (tag * 2 ^ 16 + 1) fun s => s.winCommit o tag)

/-- The effect of DISCARD (R307): a WAITING commit is not cancelled; the pending copy is the entries in force (after the commit that
waits, as R26 has it: DEDUCED, log entry 139). -/
def Dev.winDiscard (s : Dev) (tag : Nat) : Dev :=
  { s with hif := { s.hif with pend := [], dirty := false } }.winStatus tag 0 5

/-- WIN_DISCARD (R307). -/
def execWinDiscard (o : Origin) (tag : Nat) (s : State) : Outcome State Fault Refusal := s.act fun s =>
  let tag := tag % 2 ^ 16
  .next (s.regWrite o .HIF_WIN_COMMIT 0 4 (tag * 2 ^ 16 + 2) fun s => s.winDiscard tag)

/-- WIN_COMMIT_POINT (R308): within 32 ns of its GO, every entry of the snapshot takes effect together, and requests in
progress are from now on under an older mapping. -/
def execWinCommitPoint (s : State) : Outcome State Fault Refusal := s.act fun s =>
  match s.hif.waiting with
  | none => .next s
  | some (tag, snap, clears) =>
    let s := forEach snap s (fun s e =>
      let s := s.setReg .HIF_WIN_ENTRY e.1 e.2
      if clears then s.thawIso 0xA (e.1 / 2) else s)
    .next ({ s with hif := { s.hif with waiting := none, mapping := s.hif.mapping + 1, dirty := !s.hif.pend.isEmpty } }.winStatus tag 0 2)

/-- The requests in progress under older mappings (R308). -/
def Dev.winInflight (s : Dev) : Nat :=
  (s.hif.inflight.filter (fun e => decide (e.1 < s.hif.mapping) && decide (s.vn < e.2))).length % 2 ^ 16

/-- A request that is translated now stays in progress for `span` volleys (R308): until its last byte is written or its last
completion sent. -/
def Dev.inProgress (s : Dev) (span : Nat) : Dev :=
  if span = 0 then s
  else { s with hif := { s.hif with
    inflight := s.hif.inflight.filter (fun e => decide (s.vn < e.2)) ++ [(s.hif.mapping, s.vn + span)] } }

/-! ### Configuration space and errors (R295, R296) -/

/-- Set bits of word `dw` of a link's configuration space. -/
def Dev.cfgSet (s : Dev) (k dw m : Nat) : Dev := s.wr .HIF_CFG (1024 * k + dw) (s.rd .HIF_CFG (1024 * k + dw) ||| m)

/-- AER logs an advisory non-fatal error of bit `b` of the Uncorrectable Error Status (R296, R306, R311). -/
def Dev.aerAdvisory (s : Dev) (k b : Nat) : Dev := ((s.cfgSet k 65 (2 ^ b)).cfgSet k 68 (2 ^ 13)).cfgSet k 22 (2 ^ 16)

/-- AER logs an Unsupported Request (R306). -/
def Dev.aerUR (s : Dev) (k : Nat) : Dev := (s.aerAdvisory k 20).cfgSet k 22 (2 ^ 19)

/-- AER logs a Completion Timeout (R310). -/
def Dev.aerTimeout (s : Dev) (k : Nat) : Dev := (s.cfgSet k 65 (2 ^ 14)).cfgSet k 22 (2 ^ 17)

/-- A request to a link completes with Unsupported Request, logged in AER. -/
def Dev.unsupported (s : Dev) (k : Nat) : Dev := (s.aerUR k).sendOnLink k (.hostCpl k false [])

/-- The window a BAR4 request hits (R305). -/
def Dev.winHit (s : Dev) (link a : Nat) : Option Nat :=
  (List.range 256).find? (fun w =>
    let v := s.win w
    bit v 83 && bits v 31 30 = link && (winSpan v).1 ≤ a && a < (winSpan v).1 + (winSpan v).2)

/-- Why a BAR4 request to window `w` is refused (R306), if it is: the counter. -/
def Dev.winRefuse (s : Dev) (w link : Nat) (pasid : Option Nat) (write : Bool) : Option Reg :=
  let v := s.win w
  if s.isFrozen 0xA w then some .TBL_ISOLATION_SUSPECT
  else if write ∧ bit v 81 = false then some .HIF_WIN_PERM
  else if write = false ∧ bit v 80 = false then some .HIF_WIN_PERM
  else if bit v 82 ∧ s.pitchOf link pasid ≠ some (bits v 79 68) then some .HIF_WIN_PERM
  else none

/-- A request of window `w` with PASID_CHK names the PASID of a frozen Pitch Map entry. -/
def Dev.winFrozenPasid (s : Dev) (w link : Nat) (pasid : Option Nat) : Bool :=
  bit (s.win w) 82 && (List.range 4096).any (fun p =>
    let e := s.pmap p
    pmapValid e && decide (pmapLink e = link) && decide (some (pmapPasid e) = pasid) && s.isFrozen 0x9 p)

/-- A refused request (R306): a read completes with Unsupported Request, a posted write is discarded; both are logged in AER. -/
def Dev.barUR (s : Dev) (link : Nat) (write : Bool) : Dev := if write then s.aerUR link else s.unsupported link

/-- A request to BAR4 that hits window `w` and may pass (R305, R403): the internal access. -/
def Dev.winAccess (s : Dev) (link w addr len : Nat) (write : Bool) (data : List Byte) : Dev :=
  let v := s.win w
  let a := bits v 67 32 * 4096 + (addr - (winSpan v).1)
  if 0x10000000000 ≤ a then
    let c := (a - 0x10000000000) / 2 ^ 23
    let off := a % 2 ^ 23
    if write then s.sharedWrite c off data else s.sendOnLink link (.hostCpl link true (s.sharedRead c off len))
  else
    match s.memKey (some (bits v 79 68)) with
    | none => (s.keyEmpty a).barUR link write
    | some key =>
      if s.hbmServed a (max 1 (if write then data.length else len)) = false then s.barUR link write
      else if write then s.hbmWrite key a data
      else if s.hbmSound a len = false then (s.badLine a len).barUR link write
      else s.sendOnLink link (.hostCpl link true (s.hbmRead key a len))

/-- A request to BAR4 (R298, R305, R306). One that names a PASID of a frozen Pitch Map entry belongs to no pitch, and is a refused
lookup of that entry where its window asks for OWNER (R159). -/
def Dev.winRequest (s : Dev) (link addr len : Nat) (pasid : Option Nat) (write atomic : Bool) (data : List Byte) (span : Nat) : Dev :=
  if atomic then (s.bump .HIF_BAD_ACCESS link).unsupported link
  else
    match s.winHit link addr with
    | none => (s.bump .HIF_WIN_MISS link).barUR link write
    | some w =>
      match s.winRefuse w link pasid write with
      | some r =>
        let s := s.bump r (if r = .HIF_WIN_PERM then link else 0)
        let s := if r = .HIF_WIN_PERM ∧ s.winFrozenPasid w link pasid then s.suspect else s
        s.barUR link write
      | none => (s.inProgress span).winAccess link w addr len write data

/-! ### Requests and tags (R310, R311) -/

/-- What the configuration space of a link sets (R296, R310, R312): Device Control, Link Control, Device Control 2 and the L1 PM
Substates control. -/
def Dev.linkCfg (s : Dev) (k : Nat) : LinkCfg :=
  let w := fun dw => s.rd .HIF_CFG (1024 * k + dw)
  { cplTmo := bits (w 30) 3 0, tag10 := bit (w 30) 12, mps := 128 * 2 ^ bits (w 22) 7 5, mrrs := 128 * 2 ^ bits (w 22) 14 12
    aspm := bit (w 24) 1, l1ss := bit (w 162) 2 && bit (w 30) 10, l0p := s.hif.l0p.contains k }

/-- The completion timeout in force on a link, in volleys of 40 ns (R310). -/
def Dev.cplTimeout (s : Dev) (k : Nat) : Nat :=
  if s.fld .HIF_CPL_TMO k 0 0 = 1 then 25 * max 50 (min 64000 (s.fld .HIF_CPL_TMO k 31 16))
  else match (s.linkCfg k).cplTmo with
    | 1 => 2500 | 2 => 250000 | _ => 1250000

/-- The tags a link has (R310). -/
def Dev.tagCount (s : Dev) (k : Nat) : Nat :=
  if s.fld .HIF_LINK_STATUS k 2 2 = 1 then 4096 else if (s.linkCfg k).tag10 then 768 else 256

/-- The key of a tag of a link. -/
def tagKey (k t : Nat) : Nat := 16384 * k + t

/-- The lowest free tag of a link (R311). -/
def Dev.freeTag (s : Dev) (k : Nat) : Option Nat :=
  (List.range (s.tagCount k)).find? (fun t =>
    (Sparse.get? s.hif.reqs (tagKey k t)).isNone && (Sparse.get? s.hif.quarantine (tagKey k t)).isNone)

/-- Issue a non-posted request on a link with a tag: it is outstanding. -/
def Dev.issue (s : Dev) (k t : Nat) (r : Req) : Dev :=
  { s with hif := { s.hif with reqs := Sparse.put s.hif.reqs (tagKey k t) (some r) } }

/-- A request ends: its tag is free. -/
def Dev.endReq (s : Dev) (k t : Nat) : Dev :=
  { s with hif := { s.hif with reqs := Sparse.put s.hif.reqs (tagKey k t) none } }

/-- Quarantine the tag of an outstanding request (R310, R311): released at twice the timeout after its issue. -/
def Dev.quarantineTag (s : Dev) (k t : Nat) (r : Req) : Dev :=
  { s with hif := { s.hif with
      reqs := Sparse.put s.hif.reqs (tagKey k t) none
      quarantine := Sparse.put s.hif.quarantine (tagKey k t) (some (r.issued + 2 * s.cplTimeout k)) } }

/-- A request of a link times out (R310): it counts, and AER logs it. -/
def Dev.countTimeout (s : Dev) (k : Nat) : Dev := (s.bump .HIF_CPL_TIMEOUTS k).aerTimeout k

/-- A host read that a command answers (R310, R311) has used tag `t` of its link: a request that timed out counts and leaves its tag
quarantined. -/
def Dev.answered (s : Dev) (k t : Nat) : Fetch → Dev
  | .fail 1 => { s with hif := { s.hif with
      quarantine := Sparse.put s.hif.quarantine (tagKey k t) (some (s.vn + s.cplTimeout k)) } }.countTimeout k
  | _ => s.useLink k

/-- TAG_RELEASE (R311): twice the timeout has passed since the issue of a quarantined tag's request. -/
def execTagRelease (link tag : Nat) (s : State) : Outcome State Fault Refusal := s.act fun s =>
  match Sparse.get? s.hif.quarantine (tagKey link tag) with
  | some due =>
    if due ≤ s.vn then
      .next { s with hif := { s.hif with quarantine := Sparse.put s.hif.quarantine (tagKey link tag) none } }
    else .next s
  | none => .next s

/-! ### Link training and power (R294, R312, R313) -/

/-- PCIE_LINK_UP (R294, R314): the link trains to a speed code, a width and FLIT mode or not, at a partner that supports L0p or not;
PSTATE leaves DOWN, and GONE stays. -/
def execPcieLinkUp (link speed width : Nat) (flit l0p : Bool) (s : State) : Outcome State Fault Refusal := s.act fun s =>
  if 4 ≤ link then .fault .noSuchObject
  else if s.linkPresent link = false ∨ s.pstate link ≠ 1 then .next s
  else
    let most := if s.fld .HIF_LINK_STATUS link 1 1 = 1 then 8 else 16
    let v := s.rd .HIF_LINK_STATUS link
    let v := putBits (putBits (putBits v 16 12 (min width most)) 11 8 2) 7 4 (min speed 6)
    let v := putBits v 2 2 (b2n (flit || decide (6 ≤ speed)))
    let others := s.hif.l0p.filter (fun k => decide (k ≠ link))
    .next { ((s.wr .HIF_LINK_STATUS link v).useLink link) with hif := { (s.useLink link).hif with
      l0p := if l0p then link :: others else others, full := Sparse.set (fun _ => 0) s.hif.full link (min width most) } }

/-- A link has nothing outstanding that keeps it out of L1 (R312): no request, no active or armed channel, and no
accepted item of a pitch bound to it. -/
def Dev.linkQuiet (s : Dev) (k : Nat) : Bool :=
  (s.hif.reqs.all (fun e => e.1 / 16384 ≠ k))
    && (List.range 1024).all (fun n =>
        n / 512 ≠ k / 2
          || !((s.fld .DMA_CH_STATUS n 9 8 = 1 && s.fld .DMA_ACT_CFG n 15 14 = k)
            || (s.fld .DMA_CH_STATUS n 1 1 = 1 && s.fld .DMA_SH_CFG n 15 14 = k)))
    && s.rng.items.all (fun e =>
        match Sparse.get? s.rng.rings e.2.ring with
        | some r => !(bits r.ctx 73 72 = 0 && pmapLink (s.pmap (bits r.ctx 91 80)) = k)
        | none => true)

/-- A link has sent and received no request or completion for `us` µs, of 25 volleys each (R312). -/
def Dev.linkIdle (s : Dev) (k us : Nat) : Bool := decide (Sparse.get (fun _ => 0) s.hif.lastUse k + 25 * us ≤ s.vn)

/-- L1_ENTRY (R312): the link has been idle for L1_IDLE µs. -/
def execL1Entry (link : Nat) (s : State) : Outcome State Fault Refusal := s.act fun s =>
  if 4 ≤ link then .fault .noSuchObject
  else
    let c := s.linkCfg link
    if (s.pstate link = 2 ∨ s.pstate link = 3) ∧ c.aspm ∧ s.fld .HIF_LPM link 31 16 ≠ 0
        ∧ s.linkIdle link (s.fld .HIF_LPM link 31 16) ∧ s.linkQuiet link then
      .next ((s.setFld .HIF_LINK_STATUS link 11 8 (if c.l1ss then 5 else 4)).bump .HIF_L1_ENTRIES link)
    else .next s

/-- The lanes that L0P_WIDTH names (R312); x8 on x16 links only. -/
def Dev.l0pWidth (s : Dev) (k : Nat) : Nat :=
  match s.fld .HIF_LPM k 7 6 with
  | 1 => 4
  | 2 => if s.fld .HIF_LINK_STATUS k 1 1 = 0 then 8 else 0
  | 3 => 2
  | _ => 0

/-- L0P_REDUCE (R312): the traffic in each direction has stayed below half of the reduced width's capacity for `low` µs, which
are at least L0P_IDLE. -/
def execL0pReduce (link low : Nat) (s : State) : Outcome State Fault Refusal := s.act fun s =>
  if 4 ≤ link then .fault .noSuchObject
  else
    let w := s.l0pWidth link
    if s.pstate link = 2 ∧ s.fld .HIF_LINK_STATUS link 2 2 = 1 ∧ (s.linkCfg link).l0p ∧ w ≠ 0 ∧ s.fld .HIF_LPM link 15 8 ≤ low
        ∧ w < s.fld .HIF_LINK_STATUS link 16 12 then
      .next (((s.setFld .HIF_LINK_STATUS link 16 12 w).setFld .HIF_LINK_STATUS link 11 8 3).bump .HIF_L0P_CHANGES link)
    else .next s

/-- L0P_RESTORE (R312): back to full width, the lanes the link trained to; the outbound queue has stayed above the reduced capacity,
or the partner asks. -/
def execL0pRestore (link : Nat) (s : State) : Outcome State Fault Refusal := s.act fun s =>
  if 4 ≤ link then .fault .noSuchObject
  else if s.pstate link = 3 then
    .next (((s.setFld .HIF_LINK_STATUS link 16 12 (Sparse.get (fun _ => 0) s.hif.full link)).setFld .HIF_LINK_STATUS link 11 8 2).bump .HIF_L0P_CHANGES link)
  else .next s

end Sys2Proof.Machine
end

