-- ==== Sys2Proof/Machine/Caps.lean ====
section
/-! DEFINITION. Capsules in progress and their replies (R512 to R514): what every operation that a capsule starts needs to end
it. -/

namespace Sys2Proof.Machine

/-- OPCODE of a capsule. -/
def CapRun.opcode (c : CapRun) : Nat := bits c.word 15 0

/-- CAPSULE_ID of a capsule. -/
def CapRun.id (c : CapRun) : Nat := bits c.word 63 32

/-- PARAM byte `k` and those after it, `n` bytes as a number (R557). -/
def CapRun.param (c : CapRun) (k n : Nat) : Nat := bits c.word (127 + 8 * k + 8 * n) (128 + 8 * k)

/-- The 32-byte status reply of a capsule (R513). -/
def CapRun.entry (c : CapRun) (status detail result : Nat) : Nat :=
  let r := c.item.getD ⟨0, 0⟩
  status % 2 ^ 16 + c.opcode * 2 ^ 16 + c.id * 2 ^ 32 + r.index % 2 ^ 32 * 2 ^ 64 + r.ring % 2 ^ 16 * 2 ^ 96
    + detail % 2 ^ 16 * 2 ^ 112 + c.logSeq.getD 0 % 2 ^ 64 * 2 ^ 128 + result % 2 ^ 64 * 2 ^ 192

/-- The pitch and the link whose host memory holds the buffer of a capsule from a ring (R512). -/
def CapRun.buffer (c : CapRun) : Option Nat × Nat :=
  match c.o with
  | .cmdRing l p _ => (some p, l)
  | o => (none, o.link)

/-- A capsule ends with a status (R513, R543): `data` goes to its buffer, its item is released or its reply is sent, and it is
counted. -/
def Dev.capReply (s : Dev) (c : CapRun) (status detail result : Nat) (data : List Byte) : Dev :=
  let s := { s with bcp := { s.bcp with caps := s.bcp.caps.filter (fun x => decide (x ≠ c)) } }
  let e := c.entry status detail result
  let s := match c.item with
    | some r =>
      let s := if data.isEmpty then s else s.hostWrite c.buffer.1 c.buffer.2 (c.param 0 8) data
      s.release r e
    | none => s.emit (.reply status (e :: data.map (fun (b : Byte) => b.toNat)))
  s.bump .BCP_CAPSULES 0

/-- The operation that a capsule runs has ended: the first capsule in progress that satisfies `p` ends. -/
def Dev.capEnd (s : Dev) (p : CapRun → Bool) (status detail result : Nat) (data : List Byte) : Dev :=
  match s.bcp.caps.find? (fun c => c.stage = 1 && p c) with
  | some c => s.capReply c status detail result data
  | none => s

/-- Record how far a capsule has come. -/
def Dev.setCap (s : Dev) (c c' : CapRun) : Dev :=
  { s with bcp := { s.bcp with caps := s.bcp.caps.map (fun x => if x = c then c' else x) } }

/-- The seal of a record is acknowledged: the capsule that waits for it learns its SEQ (R523). -/
def Dev.capSealed (s : Dev) (recNo seq : Nat) : Dev :=
  { s with bcp := { s.bcp with caps := s.bcp.caps.map (fun x =>
      if x.recNo = recNo ∧ x.logSeq = none then { x with logSeq := some seq } else x) } }

end Sys2Proof.Machine
end

