-- ==== Sys2Proof/Machine/Rng.lean ====
section
/-! DEFINITION. Work rings and completion rings (R317 to R359) and the journal stages of their items (R483 to R489):
contexts, doorbells, acceptance, batches, completions, receive delivery into items, ring errors and operations. -/

namespace Sys2Proof.Machine

open Host

/-! ### Status codes (R517) -/

/-- The device-wide status of a DMA or host failure code of R371. -/
def hostStatus : Nat → Nat
  | 0 => 0x0000 | 1 => 0x0200 | 2 => 0x0201 | 3 => 0x0202 | 4 => 0x0204 | 5 => 0x0205 | 6 => 0x0206 | _ => 0x0207

/-! ### Contexts (R353, R355) -/

/-- A DISABLED ring with a blank context. -/
def Ring.blank : Ring :=
  { ctx := 0, p := 0, c := 0, f := 0, done := 0, st := 0, cqFull := false, errSlot := false, la := [], errCode := 0
    errIndex := 0, errDue := false, owed := [], accepted := 0, stalls := 0, refetch := 0, batch := 0, lastVn := 0, toDisable := false }

/-- A disabled completion ring with a blank context. -/
def Cq.blank : Cq := { ctx := 0, pcq := 0, ccq := 0, resv := 0, armed := false, u := 0, enabled := false, firstVn := 0 }

/-- Work ring `r`. -/
def Dev.ring (s : Dev) (r : Nat) : Ring := Sparse.get (fun _ => Ring.blank) s.rng.rings r

/-- Store work ring `r`. -/
def Dev.setRing (s : Dev) (r : Nat) (x : Ring) : Dev :=
  { s with rng := { s.rng with rings := Sparse.set (fun _ => Ring.blank) s.rng.rings r x } }

/-- Completion ring `q`. -/
def Dev.cq (s : Dev) (q : Nat) : Cq := Sparse.get (fun _ => Cq.blank) s.rng.cqs q

/-- Store completion ring `q`. -/
def Dev.setCq (s : Dev) (q : Nat) (x : Cq) : Dev :=
  { s with rng := { s.rng with cqs := Sparse.set (fun _ => Cq.blank) s.rng.cqs q x } }

/-- The fields of a work-ring context (R353). -/
def Ring.size (x : Ring) : Nat := 2 ^ bits x.ctx 67 64
/-- KIND (R318). -/
def Ring.kind (x : Ring) : Nat := bits x.ctx 71 68
/-- LOC (R319): 0 PITCH, 1 ADMIN, 2 CLUSTER. -/
def Ring.loc (x : Ring) : Nat := bits x.ctx 73 72
/-- LINK of a ring of LOC ADMIN. -/
def Ring.link (x : Ring) : Nat := bits x.ctx 75 74
/-- PITCH. -/
def Ring.pitch (x : Ring) : Nat := bits x.ctx 91 80
/-- CQ. -/
def Ring.cqNo (x : Ring) : Nat := bits x.ctx 125 112
/-- BASE. -/
def Ring.base (x : Ring) : Nat := bits x.ctx 63 0
/-- INIT_INDEX. -/
def Ring.init (x : Ring) : Nat := bits x.ctx 159 128
/-- BATCHING. -/
def Ring.batching (x : Ring) : Bool := bit x.ctx 77
/-- STAMPED. -/
def Ring.stamped (x : Ring) : Bool := bit x.ctx 76
/-- The producer of a ring of LOC CLUSTER, as a context key. -/
def Ring.producer (x : Ring) : Nat := ctxKey (bits x.ctx 197 195) (bits x.ctx 191 184)
/-- The server thread of a FIRMWARE ring, as a context key. -/
def Ring.server (x : Ring) : Nat := ctxKey (bits x.ctx 194 192) (bits x.ctx 183 176)
/-- The pitch of a ring, if its LOC is PITCH. -/
def Ring.owner (x : Ring) : Option Nat := if x.loc = 0 then some x.pitch else none

/-- The fields of a completion-ring context (R355). -/
def Cq.size (x : Cq) : Nat := 2 ^ bits x.ctx 67 64
/-- LOC. -/
def Cq.loc (x : Cq) : Nat := bits x.ctx 69 68
/-- LINK. -/
def Cq.link (x : Cq) : Nat := bits x.ctx 71 70
/-- PITCH. -/
def Cq.pitch (x : Cq) : Nat := bits x.ctx 83 72
/-- The thread that receives QUEUE, as a context key. -/
def Cq.thread (x : Cq) : Nat := ctxKey (bits x.ctx 86 84) (bits x.ctx 95 88)
/-- The pitch of a completion ring, if its LOC is PITCH. -/
def Cq.owner (x : Cq) : Option Nat := if x.loc = 0 then some x.pitch else none

/-- Index arithmetic is modulo 2^32 (R320). -/
def ixSub (a b : Nat) : Nat := (a + 2 ^ 32 - b % 2 ^ 32) % 2 ^ 32

/-- The index after. -/
def ixNext (a : Nat) : Nat := (a + 1) % 2 ^ 32

/-- The free count of a completion ring (R336). -/
def Cq.free (x : Cq) : Nat := x.size - ixSub x.pcq x.ccq - x.resv

/-- The link a ring's requests use. -/
def Dev.ringLink (s : Dev) (x : Ring) : Nat := if x.loc = 0 then pmapLink (s.pmap x.pitch) else x.link

/-- A pitch is stopped in every state other than ACTIVE (R435), but for an ACTIVE pitch whose operation begins only at the next
boundary (R444, R449); one just thawed is stopped until the boundary after (R455). -/
def Dev.pitStopped (s : Dev) (p : Nat) : Bool :=
  let opens := match s.pit.op with
    | some op => op.pitch = p && op.phase = 0 && op.start = 1
    | none => false
  let shut := match s.pit.thawed with
    | some (q, v) => q = p && s.vn ≤ v
    | none => false
  (s.pitState p ≠ 1 && !opens) || shut

/-- A ring's items are of host admin or a cluster, or of a pitch that is not stopped. -/
def Dev.ringLive (s : Dev) (x : Ring) : Bool := if x.loc = 0 then !s.pitStopped x.pitch else true

/-! ### Items (R483 to R489) -/

/-- The data read for an item. -/
def Dev.buf (s : Dev) (r : ItemRef) : List Byte := Sparse.get (fun _ => []) s.rng.bufs (itemKey r.ring r.index)

/-- Store the data read for an item. -/
def Dev.setBuf (s : Dev) (r : ItemRef) (bs : List Byte) : Dev :=
  { s with rng := { s.rng with bufs := Sparse.set (fun _ => []) s.rng.bufs (itemKey r.ring r.index) bs } }

/-- A field of a descriptor (R324). -/
def descBits (d : List Byte) (hi lo : Nat) : Nat := bits (leNat d) hi lo

/-- STATUS of an entry. -/
def entryStatus (kind e : Nat) : Nat := if kind = 2 then bits e 15 0 else bits e 63 48

/-- The records in use, and JNL_STATUS.FULL (R487, R507). -/
def journalSlots : Nat := 28672

/-- The accepted items of a ring, in index order from DONE. -/
def Dev.itemsOf (s : Dev) (ring : Nat) : List Item :=
  let x := s.ring ring
  (List.range (ixSub x.c x.done)).filterMap (fun j => s.item ⟨ring, (x.done + j) % 2 ^ 32⟩)

/-- Close the open batch of a ring at its last accepted item (R335). -/
def Dev.closeBatch (s : Dev) (ring : Nat) : Dev :=
  let x := s.ring ring
  if x.batch = 0 then s
  else
    let ref : ItemRef := ⟨ring, ixSub x.c 1⟩
    let s := s.setRing ring { x with batch := 0 }
    match s.item ref with
    | some y => s.setItem ref (some { y with last := true })
    | none => s

/-- A ring stops in ERROR (R348): its lookahead copies are discarded, its batch is closed, the error entry is due in its error slot
(a ring whose error entry has been posted holds none: R336), and RNG_ERR_LOG gets a record. -/
def Dev.ringError (s : Dev) (ring code index : Nat) : Dev :=
  let s := s.closeBatch ring
  let x := s.ring ring
  let s := s.setRing ring { x with st := 2, la := [], errCode := code, errIndex := index, errDue := x.errSlot }
  let e := index % 2 ^ 32 + ring * 2 ^ 32 + code * 2 ^ 48 + 2 ^ 63
  { s with rng := { s.rng with errLog := if s.rng.errLog.length < 64 then s.rng.errLog ++ [e] else s.rng.errLog } }

/-! ### Doorbells (R298, R321 to R323, R351) -/

/-- Judge a doorbell value at a ring (R321); a rejected doorbell discards the lookahead copies (R329). -/
def Dev.judgeDoorbell (s : Dev) (ring p' : Nat) : Dev :=
  let x := s.ring ring
  let a := ixSub p' x.p
  if x.st = 0 ∨ x.st = 3 then s.bump .RNG_DB_DISABLED 0
  else if a = 0 then s
  else if a ≤ x.size - ixSub x.p x.c then
    let s := s.setRing ring { x with p := p' % 2 ^ 32 }
    if x.kind = 5 then s.setEvent x.server 3 else s
  else s.ringError ring 1 (p' % 2 ^ 32)

/-- The shared and the reserved credits of a cluster (R247): a thread may take `n` more. -/
def Dev.creditOk (s : Dev) (k n : Nat) : Bool :=
  let c := k / 256
  let sh := fun (t : Nat) => s.rd .DOR_CTX_SHARE (256 * c + t)
  let held := (s.ctx k).credits
  let past := fun (t used : Nat) => used - bits (sh t) 13 0
  let sumMin := sumNat ((List.range 256).map (fun t => bits (sh t) 13 0))
  let sharedUsed := sumNat ((List.range 256).map (fun t =>
    past t ((s.ctx (ctxKey c t)).credits + (if t = k % 256 then n else 0))))
  decide (held + n ≤ bits (sh (k % 256)) 29 16) && decide (sharedUsed ≤ 8192 - sumMin)

/-- A doorbell from a thread that advances P by n takes n ring credits (R323). -/
def Dev.threadDoorbell (s : Dev) (k ring p' : Nat) : Dev :=
  let x := s.ring ring
  let a := ixSub p' x.p
  if (x.st = 1 ∨ x.st = 2) ∧ a ≠ 0 ∧ a ≤ x.size - ixSub x.p x.c then
    if s.creditOk k a then
      let c := s.ctx k
      (s.setCtx k { c with credits := c.credits + a }).judgeDoorbell ring p'
    else s.bump .RNG_DB_NO_CREDIT 0
  else s.judgeDoorbell ring p'

/-- The pitch page of a BAR2 write acts (R298): its entry is VALID with the arriving link and not frozen; the counter
otherwise. -/
def Dev.pageBar (s : Dev) (link page : Nat) : Option (Reg × Nat) :=
  if pmapValid (s.pmap page) ∧ s.isFrozen 0x9 page then some (.TBL_ISOLATION_SUSPECT, 0)
  else if pmapValid (s.pmap page) ∧ pmapLink (s.pmap page) = link then none
  else some (.HIF_DB_FOREIGN, link)

/-- A pitch's doorbells are dropped during its reset (R444). -/
def Dev.pageDrops (s : Dev) (page : Nat) : Bool :=
  match s.pit.op with
  | some op => op.pitch = page && decide (1 ≤ op.phase) && (op.op = 2 || op.op = 3 || op.op = 8)
  | none => false

/-- A write to doorbell page `page` from a link (R298): of the right offset and width or not, naming a ring of the page's pitch or
not; it then acts. -/
def Dev.pageDoor (s : Dev) (link page : Nat) (form own : Bool) (act : Dev → Dev) : Dev :=
  if s.hears (.bar2 link page) = false ∨ s.clocked 9 = false then s
  else
    let s := s.useLink link
    match s.pageBar link page with
    | some (r, i) => s.bump r i
    | none =>
      if form = false then s.bump .HIF_BAD_ACCESS link
      else if s.pageDrops page then s.bump .PIT_DB_DROPPED page
      else if own then act s else s.bump .RNG_DB_FOREIGN 0

/-- A work doorbell in page `page` of BAR2 (R298, R321, R322). -/
def Dev.pageWork (s : Dev) (link page off width v : Nat) : Dev :=
  let x := s.ring (bits v 47 32)
  s.pageDoor link page (off = 0 && width = 8) (x.loc = 0 && x.pitch = page) (fun s => s.judgeDoorbell (bits v 47 32) (bits v 31 0))

/-- WORK_DOORBELL (R298, R321 to R323): a write of `v` at offset `off` of a doorbell page, or to the admin or the firmware
doorbell register; `width` in bytes. -/
def execWorkDoorbell (o : Origin) (off width v : Nat) (s : State) : Outcome State Fault Refusal := s.act fun s =>
  let ring := bits v 47 32
  let x := s.ring ring
  match o with
  | .bar2 link page =>
    if 4096 ≤ page then .fault .noSuchObject
    else .next (s.pageWork link page off width v)
  | .bar0 _ =>
    .next (s.regWrite o .RNG_ADMIN_WORK_DB 0 width v fun s =>
      if x.loc = 1 then s.judgeDoorbell ring (bits v 31 0) else s.bump .RNG_DB_FOREIGN 0)
  | .thread c t =>
    if x.loc = 2 ∧ x.producer = ctxKey c t then .next (s.threadDoorbell (ctxKey c t) ring (bits v 31 0))
    else .next (s.bump .RNG_DB_FOREIGN 0)
  | _ => .next (s.bump .RNG_DB_FOREIGN 0)

/-- Send the interrupt of a completion ring (R350). -/
def Dev.sendIrq (s : Dev) (q : Nat) : Dev :=
  let x := s.cq q
  let link := if x.loc = 0 then pmapLink (s.pmap x.pitch) else x.link
  ((s.setCq q { x with armed := false, u := 0 }).bump .RNG_IRQ_SENT 0).msix link (bits x.ctx 108 96)

/-- IRQ_EN of a completion ring that signals by MSI-X. -/
def Cq.irq (x : Cq) : Bool := x.loc ≠ 2 && bit x.ctx 87

/-- Accept or drop a completion doorbell (R351, R350): it frees entries, clears CQ_FULL of the rings that wait for it
(R337), and may arm the interrupt or send it. -/
def Dev.judgeCqDoorbell (s : Dev) (q c' : Nat) (arm : Bool) : Dev :=
  let x := s.cq q
  if x.enabled = false ∨ ¬ ixSub c' x.ccq ≤ ixSub x.pcq x.ccq then s.bump .RNG_CQ_DB_BAD 0
  else
    let s := s.setCq q { x with ccq := c' % 2 ^ 32, armed := x.armed || (arm && x.irq && decide (x.pcq = c' % 2 ^ 32)) }
    let s := forEach s.rng.rings s (fun s e =>
      if e.2.cqNo = q ∧ e.2.cqFull ∧ (s.cq q).free ≠ 0 then s.setRing e.1 { e.2 with cqFull := false } else s)
    if arm ∧ x.irq ∧ x.pcq ≠ c' % 2 ^ 32 then s.sendIrq q else s

/-- A completion doorbell in page `page` of BAR2 (R298, R351). -/
def Dev.pageCpl (s : Dev) (link page off width v : Nat) : Dev :=
  let x := s.cq (bits v 45 32)
  s.pageDoor link page (off = 8 && width = 8) (x.loc = 0 && x.pitch = page)
    (fun s => s.judgeCqDoorbell (bits v 45 32) (bits v 31 0) (bit v 47))

/-- COMPLETION_DOORBELL (R322, R323, R351). -/
def execCompletionDoorbell (o : Origin) (off width v : Nat) (s : State) : Outcome State Fault Refusal := s.act fun s =>
  let q := bits v 45 32
  let x := s.cq q
  let act := fun (s : Dev) => s.judgeCqDoorbell q (bits v 31 0) (bit v 47)
  match o with
  | .bar2 link page =>
    if 4096 ≤ page then .fault .noSuchObject
    else .next (s.pageCpl link page off width v)
  | .bar0 _ =>
    .next (s.regWrite o .RNG_ADMIN_CQ_DB 0 width v fun s =>
      if x.loc = 1 then act s else s.bump .RNG_DB_FOREIGN 0)
  | .thread c t =>
    if x.loc = 2 ∧ x.thread = ctxKey c t then .next (act s) else .next (s.bump .RNG_DB_FOREIGN 0)
  | _ => .next (s.bump .RNG_DB_FOREIGN 0)

/-! ### Reading descriptors (R326 to R330) -/

/-- The internal bytes at an internal address of shared memory or HBM, for a ring of LOC CLUSTER. -/
def Dev.intRead (s : Dev) (a n : Nat) : Option (List Byte) :=
  if 0x10000000000 ≤ a ∧ a + n ≤ 0x10004000000 then
    some (s.sharedRead ((a - 0x10000000000) / 2 ^ 23) (a % 2 ^ 23) n)
  else if hbmOk a n then (s.cry.noPitch).map (fun k => s.hbmRead k a n) else none

/-- Write at an internal address of shared memory or HBM. -/
def Dev.intWrite (s : Dev) (a : Nat) (bs : List Byte) : Dev :=
  if 0x10000000000 ≤ a ∧ a + bs.length ≤ 0x10004000000 then
    s.sharedWrite ((a - 0x10000000000) / 2 ^ 23) (a % 2 ^ 23) bs
  else if hbmOk a bs.length then
    match s.cry.noPitch with
    | some k => s.hbmWrite k a bs
    | none => s.keyEmpty a
  else s

/-- One read for a ring of LOC PITCH or ADMIN takes the next answer of the host, with the lowest free tag of its link (R310, R311);
one for LOC CLUSTER reads the device's own memory. The remaining answers and the device after it are returned; nothing where the
answer has not come or no tag is free. A read that the Pitch Map bars counts (R302). -/
def Dev.fetch (s : Dev) (x : Ring) (a n : Nat) (answers : List Fetch) : Option (Fetch × List Fetch × Dev) :=
  if x.loc = 2 then
    match s.intRead a n with
    | some bs => some (.ok bs, answers, s)
    | none => some (.fail 6, answers, s)
  else match s.outboundBar x.owner x.link with
    | some c => some (.fail c, answers, s.countBar c)
    | none =>
      let link := (s.outLink x.owner x.link).1
      match s.freeTag link, answers with
      | none, _ => none
      | some _, [] => none
      | some t, f :: fs => some (f, fs, s.answered link t f)

/-- The slot address of an index. -/
def Ring.slot (x : Ring) (i : Nat) : Nat := x.base + 64 * (i % x.size)

/-- The stamp that index `i` carries (R328). -/
def Ring.lap (x : Ring) (i : Nat) : Nat := i / x.size % 256

/-- A descriptor's STAMP matches. -/
def Ring.stampOk (x : Ring) (i : Nat) (d : List Byte) : Bool := !x.stamped || descBits d 511 504 = x.lap i

/-- The entries of a fragment table (R326). -/
def fragEntries (n : Nat) (bs : List Byte) : List Nat :=
  (List.range n).map (fun k => leNat ((bs.drop (16 * k)).take 16))

/-- The length of a buffer given by fragments. -/
def fragLen (fs : List Nat) : Nat := sumNat (fs.map (fun f => bits f 87 64))

/-- A namespace entry (R416). -/
def Dev.ns (s : Dev) (i : Nat) : Nat := Sparse.get (fun _ => 0) s.stx.nss i

/-- The opcode is defined for the KIND (R325, R390), as NVME_OP is for STORE (R420, R421). FIRMWARE defines every opcode. -/
def opcodeOk (kind : Nat) (d : List Byte) : Bool :=
  let op := bits (leNat d) 7 0
  match kind with
  | 0 => op = 1 | 1 => op = 1 | 3 => 1 ≤ op && op ≤ 6
  | 4 => op = 2 || (op = 1 && [0x00, 0x01, 0x02, 0x08].contains (bits (leNat d) 199 192))
  | _ => true

/-- The reserved bits of a descriptor are 0, with FRAGS and LEN as INDIRECT asks (R324, R325, R390, R420). An NVME_IO item names a VALID
namespace entry, and SQE_ADDR of an NVME_RAW item is aligned (R421; DEDUCED, log entry 141). -/
def Dev.fieldsOk (s : Dev) (kind : Nat) (d : List Byte) (stamped : Bool) : Bool :=
  let v := leNat d
  let ind := bit v 9
  bits v 15 10 = 0 && bits v 31 25 = 0 && (ind || bits v 24 16 = 0) && (!ind || bits v 159 128 = 0)
    && (stamped || bits v 511 504 = 0)
    && (match kind with
      | 0 => bits v 503 177 = 0
      | 1 => bits v 503 160 = 0
      | 3 => bits v 255 242 = 0 && bits v 503 401 = 0
      | 4 => bits v 191 188 = 0 && bits v 255 202 = 0 && bits v 383 336 = 0 && bits v 503 448 = 0
          && (if bits v 7 0 = 1 then bit (s.ns (bits v 187 176)) 53 else decide (bits v 447 384 % 64 = 0))
      | _ => true)

/-- The range of lengths of an item (R325, R391, R421). -/
def Dev.lengthOk (s : Dev) (kind : Nat) (d : List Byte) (len : Nat) : Bool :=
  let v := leNat d
  match kind with
  | 0 => 14 ≤ len && len ≤ 8996
  | 1 => 64 ≤ len && len ≤ 16777215
  | 3 =>
    let aad := bits v 396 384
    let du := 512 * 2 ^ bits v 399 397
    (match bits v 7 0 with
      | 1 => aad + 1 ≤ len && len ≤ 16777216
      | 2 => aad + 17 ≤ len && len ≤ 16777232
      | 5 => 1 ≤ len && len ≤ 16385
      | 6 => 22 ≤ len && len ≤ 16661
      | _ => len % du = 0 && len ≤ 16777216)
  | 4 =>
    if bits v 7 0 = 2 then len ≤ 16777216
    else if bits v 199 192 = 1 ∨ bits v 199 192 = 2 then
      len = (bits v 335 320 + 1) * 2 ^ bits (s.ns (bits v 187 176)) 51 48 && len ≤ 16777216
    else len = 0 && !bit v 9
  | _ => true

/-- The fragment table is good (R327): 1 to 256 entries, each with a length and no reserved bit. -/
def fragsOk (n : Nat) (fs : List Nat) : Bool :=
  1 ≤ n && n ≤ 256 && fs.all (fun f => bits f 87 64 ≠ 0 && bits f 95 88 = 0 && bits f 127 97 = 0)

/-- Validate a descriptor before its fragment table is read: the code of the first failing check (R327), or 0. -/
def Dev.preCheck (s : Dev) (x : Ring) (d : List Byte) : Nat :=
  let v := leNat d
  if x.kind = 2 then 0
  else if !opcodeOk x.kind d then 2
  else if !s.fieldsOk x.kind d x.stamped then 3
  else if bit v 9 ∧ bits v 127 64 % 16 ≠ 0 then 7
  else if bit v 9 = false ∧ s.lengthOk x.kind d (bits v 159 128) = false then 4
  else 0

/-- What reading and validating descriptor `i` gives: the descriptor and its fragments, an error code, or that the answer
has not come; with the device after the reads. `used` says that its lookahead copy was used. -/
inductive Read where
  | good (desc : List Byte) (frags : List Nat) (rest : List Fetch) (used refetched : Bool) (after : Dev)
  | bad (code : Nat) (refetched : Bool) (after : Dev)
  | wait

/-- Read one slot below P, with the refetch of R330. -/
def readSlot (s : Dev) (x : Ring) (i : Nat) (answers : List Fetch) : Option (Except Nat (List Byte) × List Fetch × Dev) :=
  match s.fetch x (x.slot i) 64 answers with
  | none => none
  | some (.fail _, rest, s) => some (.error 8, rest, s)
  | some (.ok d, rest, s) =>
    if x.stampOk i d then some (.ok d, rest, s)
    else match s.fetch x (x.slot i) 64 rest with
      | none => none
      | some (.fail _, rest, s) => some (.error 8, rest, s)
      | some (.ok d, rest, s) => if x.stampOk i d then some (.ok d, rest, s) else some (.error 6, rest, s)

/-- Read and validate descriptor `i` (R326 to R330). -/
def readDesc (s : Dev) (x : Ring) (i : Nat) (answers : List Fetch) : Read :=
  let copy := (x.la.find? (fun e => e.1 = i)).map Prod.snd
  let use := match copy with
    | some d => x.stampOk i d
    | none => false
  let got : Option (Except Nat (List Byte) × List Fetch × Dev) :=
    if use then some (.ok (copy.getD []), answers, s) else readSlot s x i answers
  let again := copy.isSome && !use
  match got with
  | none => .wait
  | some (.error c, _, s) => .bad c again s
  | some (.ok d, rest, s) =>
    match s.preCheck x d with
    | 0 =>
      let v := leNat d
      let n := bits v 24 16
      if x.kind ≠ 2 ∧ bit v 9 then
        match (if n = 0 then some (.ok [], rest, s) else s.fetch x (bits v 127 64) (16 * n) rest) with
        | none => .wait
        | some (.fail _, _, s) => .bad 8 again s
        | some (.ok tb, rest, s) =>
          let fs := fragEntries n tb
          if !s.lengthOk x.kind d (fragLen fs) then .bad 4 again s
          else if !fragsOk n fs then .bad 5 again s
          else .good d fs rest use again s
      else .good d [] rest use again s
    | c => .bad c again s

/-! ### Acceptance (R334 to R337) -/

/-- The segments of an item's buffer: address, length, ZERO. -/
def Item.segs (x : Item) : List (Nat × Nat × Bool) :=
  let v := leNat x.desc
  if bit v 9 then x.frags.map (fun f => (bits f 63 0, bits f 87 64, bit f 96))
  else [(bits v 127 64, bits v 159 128, false)]

/-- The bytes of an item's buffer. -/
def Item.len (x : Item) : Nat := sumNat (x.segs.map (fun g => g.2.1))

/-- A data movement of an item waits for a QUEUE channel. -/
def Dev.queueWork (s : Dev) (r : ItemRef) (write : Bool) (segs : List (Nat × Nat × Bool)) (data : List Byte) : Dev :=
  let x := s.ring r.ring
  { s with rng := { s.rng with work := s.rng.work ++
      [{ item := r, pitch := x.owner, link := x.link, write := write, segs := segs, data := data }] } }

/-- Gather the bytes of segments in the device's own memory (LOC CLUSTER). -/
def Dev.gather (s : Dev) (segs : List (Nat × Nat × Bool)) : Option (List Byte) :=
  segs.foldl (fun a g => match a with
    | none => none
    | some bs => if g.2.2 then some (bs ++ List.replicate g.2.1 0) else (s.intRead g.1 g.2.1).map (bs ++ ·)) (some [])

/-- What acceptance starts: the data of a SEND or XFORM item is read, and a FIRMWARE descriptor is copied into its
delivery area with the QUEUE event of the server set (R347). A ring of LOC CLUSTER reads the device's own memory at
once. STORE and CMD items wait for their engine. -/
def Dev.startItem (s : Dev) (r : ItemRef) : Dev :=
  match s.item r with
  | none => s
  | some x =>
    let g := s.ring r.ring
    match x.kind with
    | 0 => s.queueWork r false x.segs []
    | 3 =>
      if g.loc = 2 then
        match s.gather x.segs with
        | some bs => (s.setBuf r bs).setItem r (some { x with busy := true })
        | none => s.releaseWith r 0x0206 0 0
      else s.queueWork r false x.segs []
    | 5 =>
      let a := 64 * bits g.ctx 214 198 + 64 * (x.index % g.size)
      (s.sharedWrite (g.server / 256) a x.desc).setEvent g.server 4
    | _ => s

/-- Accept descriptor C of a ring (R334): its record is written and C advances. -/
def Dev.acceptItem (s : Dev) (ring : Nat) (d : List Byte) (frags : List Nat) : Dev :=
  let x := s.ring ring
  let v := leNat d
  let capture := decide (x.kind = 0) && bit v 176
  let opens := !x.batching || decide (x.batch = 0) || capture
  let last := !x.batching || bit v 8 || decide (x.batch = 255) || capture
  let y : Item := { ring, index := x.c, kind := x.kind, stage := 1, desc := d, frags, acceptVn := s.vn
                    user := bits v 63 32
                    first := opens, last, result := 0, retries := 0, ext := none, busy := false, filled := false
                    ord := s.nextOrd, sentMac := 0, sentTime := 0 }
  let s := { s with nextOrd := s.nextOrd + 1 }
  let s := s.setRing ring { x with c := ixNext x.c, f := ixNext x.c, accepted := x.accepted + 1, lastVn := s.vn
                                   batch := if last then 0 else x.batch + 1
                                   la := x.la.filter (fun e => e.1 ≠ x.c) }
  let q := s.cq x.cqNo
  let s := if opens then s.setCq x.cqNo { q with resv := q.resv + 1 } else s
  let s := s.setItem ⟨ring, x.c⟩ (some y)
  let s := match x.owner with
    | some p => s.bump .PIT_ITEMS_ACCEPTED p
    | none => s
  s.startItem ⟨ring, x.c⟩

/-- A descriptor whose acceptance would open a batch finds no free slot (R337). -/
def Dev.cqStall (s : Dev) (ring : Nat) : Dev :=
  let x := s.ring ring
  s.setRing ring { x with cqFull := true, stalls := x.stalls + 1, f := x.c }

/-- The lookahead copy of descriptor C is discarded for its stale stamp, and the slot has been read again (R330). -/
def Dev.refetched (s : Dev) (ring : Nat) : Dev :=
  let x := s.ring ring
  (s.bump .RNG_LA_REFETCH 0).setRing ring { x with refetch := x.refetch + 1, la := x.la.filter (fun e => e.1 ≠ x.c) }

/-- One turn of a ring: up to `n` descriptors (R333). A copy that is used counts as its descriptor is accepted (R330). -/
def Dev.ringTurn (s : Dev) (ring : Nat) : Nat → List Fetch → Dev
  | 0, _ => s
  | n + 1, answers =>
    let x := s.ring ring
    if x.st ≠ 1 ∨ x.c = x.p then s
    else if journalSlots ≤ s.rng.items.length then s
    else
      match readDesc s x x.c answers with
      | .wait => s
      | .bad c again s =>
        let s := if again then s.refetched ring else s
        s.ringError ring c x.c
      | .good d fs rest used again s =>
        let s := if again then s.refetched ring else s
        let capture := decide (x.kind = 0) && bit (leNat d) 176
        let s := if capture then s.closeBatch ring else s
        let opens := !x.batching || decide (x.batch = 0) || capture
        if opens ∧ (s.cq x.cqNo).free = 0 then s.cqStall ring
        else
          let s := if used then s.bump .RNG_LA_USED 0 else s
          (s.acceptItem ring d fs).ringTurn ring n rest

/-! ### Arbitration (R331 to R333) -/

/-- A ring is eligible (R331). In LOCKDOWN only CMD rings of LOC ADMIN accept (R358), and in BRINGUP too (R38, DEDUCED: log
entry 34). -/
def Dev.ringEligible (s : Dev) (x : Ring) : Bool :=
  x.st = 1 && x.c ≠ x.p && !x.cqFull && s.ringLive x
    && (s.mode.traffic || (x.kind = 2 && x.loc = 1 && s.mode ≠ .dormant))

/-- Acceptance on a ring is held: from V0 of a power failure (R502), from V of a reset whose scope it is in (R495) until its
replay has ended (R496), and during an entry to DORMANT (R537). -/
def Dev.ringHeld (s : Dev) (r : Nat) (x : Ring) : Bool :=
  decide (2 ≤ s.jnl.fail) || s.bcp.dormant.isSome || s.jnl.replay.contains r
    || s.jnl.resets.any (fun z => match z.link with | none => true | some k => decide (s.ringLink x = k ∧ x.loc ≠ 2))

/-- The next member of a level (R332): the members with their weights in ascending order, the round and the member served
last. -/
def nextMember (ms : List (Nat × Nat)) (round : Nat) (last : Option Nat) : Option (Nat × Nat) :=
  let after := fun (m : Nat × Nat) => match last with
    | some l => decide (l < m.1)
    | none => true
  match ms.find? (fun m => after m && decide (round ≤ m.2)) with
  | some m => some (m.1, round)
  | none =>
    let r := if ms.any (fun m => decide (round + 1 ≤ m.2)) then round + 1 else 1
    (ms.find? (fun m => decide (r ≤ m.2))).map (fun m => (m.1, r))

/-- The position of a level: its round and one plus the member served last, 0 for none. -/
def Dev.turnOf (s : Dev) (k : Nat) : Nat × Nat := Sparse.get (fun _ => (1, 0)) s.rng.turn k

/-- Choose the next member of level `k` and move its position on. -/
def Dev.takeTurn (s : Dev) (k : Nat) (ms : List (Nat × Nat)) : Option (Nat × Dev) :=
  let (round, l) := s.turnOf k
  (nextMember ms round (if l = 0 then none else some (l - 1))).map (fun (m, r) =>
    (m, { s with rng := { s.rng with turn := Sparse.set (fun _ => (1, 0)) s.rng.turn k (r, m + 1) } }))

/-- The WEIGHT of a pitch entry: reset 0 acts as 1 (R357). -/
def Dev.pitchWeight (s : Dev) (n : Nat) : Nat := max 1 (bits (Sparse.get (fun _ => 0) s.rng.pitch n) 7 0)

/-- The eligible rings of a participant, with their weights: a pitch p, host admin of link k as 4,096 + k, or cluster c as
4,104 + c. -/
def Dev.memberRings (s : Dev) (m : Nat) : List (Nat × Nat) :=
  (s.rng.rings.filter (fun e =>
    s.ringEligible e.2 && !s.ringHeld e.1 e.2
      && (if m < 4096 then decide (e.2.loc = 0 ∧ e.2.pitch = m)
          else if m < 4100 then decide (e.2.loc = 1 ∧ e.2.link = m - 4096)
          else decide (e.2.loc = 2 ∧ e.2.producer / 256 = m - 4104)))).map (fun e => (e.1, bits e.2.ctx 103 96))

/-- The eligible participants of a link arbiter, in order, with their weights (R331). -/
def Dev.participants (s : Dev) (k : Nat) : List (Nat × Nat) :=
  let ps := (List.range 4096).filter (fun p =>
    pmapValid (s.pmap p) && pmapLink (s.pmap p) = k && !(s.memberRings p).isEmpty)
  let ps := if (s.memberRings (4096 + k)).isEmpty then ps else ps ++ [4096 + k]
  ps.map (fun m => (m, s.pitchWeight m))

/-- A context that a turn needs may not be in the context cache, and is then read from HBM and counted (R317): how the cache replaces
its contexts is open, so whether it misses is a free value (log entry 89). -/
def Dev.useContext (s : Dev) : Dev := (s.draw).2.add .RNG_CTX_MISSES 0 ((s.draw).1 % 2)

/-- The turn of an arbiter (R331, R332): of a link (0 to 3) or of a cluster (8 to 15). `answers` are what the host returns to the reads
of descriptors and fragment tables, in order; a turn whose next answer has not come ends there. -/
def Dev.arbiterTurn (s : Dev) (arbiter : Nat) (answers : List Fetch) : Dev :=
  let turn := fun (s : Dev) (m : Nat) =>
    match s.takeTurn (16 + m) (s.memberRings m) with
    | some (r, s) => (s.ringTurn r (bits (s.ring r).ctx 110 104) answers).useContext
    | none => s
  if arbiter < 4 then
    match s.takeTurn arbiter (s.participants arbiter) with
    | some (m, s) => turn s m
    | none => s
  else turn s (4096 + arbiter)

/-- LOOKAHEAD_READ (R329): a stamped ring whose F has reached P keeps copies of the slots from P on, at most 8, stopping
short of C + SIZE. -/
def execLookaheadRead (ring : Nat) (answers : List Fetch) (s : State) : Outcome State Fault Refusal := s.act fun s =>
  let x := s.ring ring
  if x.st ≠ 1 ∨ x.stamped = false ∨ x.c ≠ x.p then .next s
  else
    let n := min 8 (x.size - ixSub x.p x.c)
    let got := (List.range n).foldl (fun (a : List (Nat × List Byte) × List Fetch × Dev) j =>
      match a.2.2.fetch x (x.slot (x.p + j)) 64 a.2.1 with
      | some (.ok d, rest, s) => (a.1 ++ [((x.p + j) % 2 ^ 32, d)], rest, s)
      | some (.fail _, rest, s) => (a.1, rest, s)
      | none => a) ([], answers, s)
    .next (got.2.2.setRing ring { x with la := got.1 })

/-- IDLE_CLOSE (R335). -/
def execIdleClose (ring : Nat) (s : State) : Outcome State Fault Refusal := s.act fun s =>
  let x := s.ring ring
  let n := bits x.ctx 175 160
  if x.batch ≠ 0 ∧ n ≠ 0 ∧ x.lastVn + n ≤ s.vn then .next (s.closeBatch ring) else .next s

/-! ### Completions (R338 to R343, R348, R350) -/

/-- The batch at the head of a ring: its items from DONE to the first that closed a batch, when all are there and
released (R338). -/
def Dev.headBatch (s : Dev) (ring : Nat) : Option (List Item) :=
  let x := s.ring ring
  let rec go : Nat → Nat → List Item → Option (List Item)
    | 0, _, _ => none
    | n + 1, i, acc =>
      match s.item ⟨ring, i⟩ with
      | none => none
      | some y =>
        if y.stage ≠ 2 then none
        else if y.last then some (acc ++ [y]) else go n (ixNext i) (acc ++ [y])
  go (min 256 (ixSub x.c x.done)) x.done []

/-- Merge the entries of a batch (R339, R340, R488). -/
def mergeEntries (l : List Item) : Nat :=
  match l with
  | [x] => x.result
  | _ =>
    let lastItem := l.getLast?
    let widx := (lastItem.map (·.index)).getD 0
    let ring := (lastItem.map (·.ring)).getD 0
    let user := (lastItem.map (·.user)).getD 0
    let bad := l.filter (fun x => entryStatus x.kind x.result ≠ 0)
    let firstBad := bad.head?
    let status := (firstBad.map (fun x => bits x.result 63 48)).getD 0
    let errWidx := (firstBad.map (·.index)).getD widx
    let mask := l.foldl (fun a x => if bit x.result 160 then a ||| bits x.result 255 192 else a) 0
    let anyMask := l.any (fun x => bit x.result 160)
    let kind : Nat := (lastItem.map (·.kind)).getD 0
    let detail := if kind = 0 then b2n anyMask else (lastItem.map (fun x => bits x.result 191 160)).getD 0
    let extra := if kind = 0 then (if anyMask then mask else 0) else (lastItem.map (fun x => bits x.result 255 192)).getD 0
    cqEntry widx ring status user l.length bad.length errWidx detail extra

/-- The error entry of a ring (R348, R513). -/
def errorEntry (kind ring index code : Nat) : Nat :=
  if kind = 2 then replyEntry 0 index ring 0x0300 code
  else cqEntry index ring 0x0300 0 0 0 index code 0

/-- Write an entry and the write-back of P_cq, and the interrupt or QUEUE event that follows (R343, R350). -/
def Dev.postEntry (s : Dev) (q entry : Nat) (isError : Bool) : Dev :=
  let x := s.cq q
  let a := bits x.ctx 63 0 + 32 * (x.pcq % x.size)
  let p := ixNext x.pcq
  let wb := bits x.ctx 191 128
  let s := if x.loc = 2 then (s.intWrite a (leBytes 32 entry)).intWrite wb (leBytes 4 p)
    else (s.hostWrite x.owner x.link a (leBytes 32 entry)).hostWrite x.owner x.link wb (leBytes 4 p)
  let x := { x with pcq := p, resv := x.resv - 1, u := x.u + 1, firstVn := if x.u = 0 then s.vn else x.firstVn }
  let s := s.setCq q x
  if x.loc = 2 then s.setEvent x.thread 4
  else if x.irq ∧ x.armed ∧ (isError ∨ bits x.ctx 116 109 ≤ x.u) then s.sendIrq q else s

/-- Completions wait while their requests are barred; a request that a frozen Pitch Map entry holds back counts (R302, R458). -/
def Dev.cqHeld (s : Dev) (q : Nat) : Dev :=
  let x := s.cq q
  match s.outboundBar x.owner x.link with
  | some c => s.countBar c
  | none => s

/-- Completions can be posted: the requests of the completion ring are not barred (R302, R458). -/
def Dev.cqOpen (s : Dev) (q : Nat) : Bool :=
  let x := s.cq q
  x.loc = 2 || (s.outboundBar x.owner x.link).isNone

/-- The items of a batch complete: their records are free (R486), and the counters and credits follow. -/
def Dev.completeItems (s : Dev) (ring : Nat) (l : List Item) : Dev :=
  let x := s.ring ring
  let s := forEach l s (fun s y =>
    let s := (s.setItem ⟨ring, y.index⟩ none).setBuf ⟨ring, y.index⟩ []
    let s := match x.owner with
      | some p =>
        let s := s.bump .PIT_ITEMS_COMPLETED p
        if entryStatus y.kind y.result = 0x0304 then s.bump .PIT_ITEMS_ABORTED p else s
      | none => s
    if x.loc = 2 then
      let c := s.ctx x.producer
      s.setCtx x.producer { c with credits := c.credits - 1 }
    else s)
  s.setRing ring { s.ring ring with done := (x.done + l.length) % 2 ^ 32 }

/-- The error entry that a ring posts next (R348), if every item before it has completed: one that an earlier RESUME left, else its
own. The ring after it, the index and the code. -/
def Ring.nextError (x : Ring) : Option (Ring × Nat × Nat) :=
  match x.owed with
  | (code, index, pos) :: rest => if x.done = pos then some ({ x with owed := rest }, index, code) else none
  | [] =>
    if (x.st = 2 ∨ x.st = 3) ∧ x.errDue ∧ x.done = x.c then some ({ x with errDue := false, errSlot := false }, x.errIndex, x.errCode)
    else none

/-- Post the next completion of a ring (R338), or its error entry after every item before it (R348). -/
def Dev.postNext (s : Dev) (ring : Nat) : Dev :=
  let x := s.ring ring
  match x.nextError, s.headBatch ring with
  | some (y, index, code), _ =>
    if s.cqOpen x.cqNo then (s.setRing ring y).postEntry x.cqNo (errorEntry x.kind ring index code) true else s.cqHeld x.cqNo
  | none, some l =>
    if s.cqOpen x.cqNo then (s.completeItems ring l).postEntry x.cqNo (mergeEntries l) false else s.cqHeld x.cqNo
  | none, none => s

/-- POST_COMPLETION (R338, R343, R486); none is posted once the stages are frozen (R502). -/
def execPostCompletion (ring : Nat) (s : State) : Outcome State Fault Refusal := s.act fun s => .next (if s.frozen then s else s.postNext ring)

/-- MOD_TIME_EXPIRY (R350). -/
def execModTimeExpiry (cq : Nat) (s : State) : Outcome State Fault Refusal := s.act fun s =>
  let x := s.cq cq
  let t := bits x.ctx 126 117
  if x.irq ∧ x.armed ∧ x.u ≠ 0 ∧ t ≠ 0 ∧ x.firstVn + 25 * t ≤ s.vn then .next (s.sendIrq cq) else .next s

/-! ### Receive delivery (R344 to R346) -/

/-- The next accepted RECV item of a ring that has not been filled. -/
def Dev.nextRecv (s : Dev) (ring : Nat) : Option Item :=
  (s.itemsOf ring).find? (fun x => x.stage = 1 && !x.filled)

/-- The completion entry of a notice that fills a receive item (R346). -/
def recvNotice (ring : Nat) (y : Item) (r : Nat) : Nat := y.index + ring * 2 ^ 32 + y.user * 2 ^ 64 + 2 ^ 96 + r % 2 ^ 128 * 2 ^ 128

/-- Place a notice in a host receive ring (R346): the next unfilled item completes as a NOTICE entry; nothing when there
is none. -/
def Dev.ringNotice (s : Dev) (ring r : Nat) : Option Dev :=
  let x := s.ring ring
  if x.kind ≠ 1 ∨ x.st ≠ 1 then none
  else match s.nextRecv ring with
    | none => none
    | some y =>
      let s := s.setItem ⟨ring, y.index⟩ (some { y with filled := true, stage := 2, result := recvNotice ring y r })
      some (match x.owner with
        | some p => s.bump .PIT_RX_FRAMES p
        | none => s)

/-- A 16-byte notice (R151). -/
def noticeRec (vn typ mac fid index newPort oldPort : Nat) : Nat :=
  typ + oldPort * 2 ^ 4 + newPort * 2 ^ 10 + index % 2 ^ 20 * 2 ^ 16 + fid * 2 ^ 36 + mac * 2 ^ 48 + vn % 2 ^ 32 * 2 ^ 96

/-- Send a 16-byte notice to the destination in TBL_NOTICE_CFG (R151, R249, R346). -/
def Dev.notice (s : Dev) (typ mac fid index newPort oldPort : Nat) : Dev :=
  let cfg := s.rd .TBL_NOTICE_CFG 0
  let r := noticeRec s.vn typ mac fid index newPort oldPort
  if bit (bits cfg 20 16) (typ - 1) = false then s
  else
    let sent := match bits cfg 31 30 with
      | 1 => s.pushNotice (bits cfg 2 0) r
      | 2 => s.ringNotice (bits cfg 15 0) r
      | _ => some s
    match sent with
    | some s => s
    | none => s.bump .TBL_NOTICE_DROP 0

end Sys2Proof.Machine
end

