-- ==== Sys2Proof/Machine/Dma.lean ====
section
/-! DEFINITION. DMA channels and shadow registers (R360 to R377), the host requests they issue (R310, R311), and the
movement of the data of accepted items on QUEUE channels (R361, R375). A channel is numbered 128 × instance + unit. -/

namespace Sys2Proof.Machine

open Host

/-! ### Channels -/

/-- A channel with nothing under way. -/
def Chan.blank : Chan :=
  { outst := 0, flush := 0, failed := none, resetting := false, lastWrite := 0, halt := 0, work := none, got := [], hold := [], wrote := 0 }

/-- The running state of channel `n`. -/
def Dev.chan (s : Dev) (n : Nat) : Chan := Sparse.get (fun _ => Chan.blank) s.dma.chans n

/-- Store the running state of channel `n`. -/
def Dev.setChan (s : Dev) (n : Nat) (x : Chan) : Dev :=
  { s with dma := { s.dma with chans := Sparse.set (fun _ => Chan.blank) s.dma.chans n x } }

/-- The channel exists: 128 units of instances 0 to 7, 64 of instance 8 (R360). -/
def chanOk (inst unit : Nat) : Bool := (inst < 8 && unit < 128) || (inst = 8 && unit < 64)

/-- STATE of a channel: 0 IDLE, 1 RUNNING, 2 ERROR, 3 RESETTING (R376). -/
def Dev.chState (s : Dev) (n : Nat) : Nat := s.fld .DMA_CH_STATUS n 9 8

/-- Set a field of DMA_CH_STATUS. -/
def Dev.chSet (s : Dev) (n hi lo v : Nat) : Dev := s.setFld .DMA_CH_STATUS n hi lo v

/-- ARMED. -/
def Dev.armed (s : Dev) (n : Nat) : Bool := s.fld .DMA_CH_STATUS n 1 1 = 1

/-- The owner word of a channel, and its KIND. -/
def Dev.chOwner (s : Dev) (n : Nat) : Nat := s.rd .DMA_CH_OWNER n
/-- KIND of the owner: 0 NONE, 1 HOST_ADMIN, 2 THREAD, 3 QUEUE (R361). -/
def ownerKind (w : Nat) : Nat := bits w 1 0
/-- The context key of a THREAD owner. -/
def ownerThread (w : Nat) : Nat := ctxKey (bits w 18 16) (bits w 15 8)
/-- The pitch of a QUEUE owner, or none with ADMIN 1. -/
def ownerPitch (w : Nat) : Option Nat := if bit w 19 then none else some (bits w 31 20)

/-- The origin is the channel's owner (R361). -/
def Dev.isOwner (s : Dev) (o : Origin) (n : Nat) : Bool :=
  let w := s.chOwner n
  match o with
  | .bar0 l => ownerKind w = 1 && bits w 3 2 = l
  | .thread c t => ownerKind w = 2 && ownerThread w = ctxKey c t
  | _ => false

/-- The unit identifier of a channel. -/
def chanUnit (n : Nat) : Nat := unitId 0x0A (n / 128) (n % 128)

/-- Return the shadow set to its reset values, unarmed and clean (R362, R374). -/
def Dev.clearShadow (s : Dev) (n : Nat) : Dev :=
  let s := (((s.wr .DMA_SH_SRC n 0).wr .DMA_SH_DST n 0).wr .DMA_SH_LEN n 0).wr .DMA_SH_CFG n 0
  (s.chSet n 1 1 0).chSet n 2 2 0

/-- Start the shadow set as the active transfer (R369). -/
def Dev.handOver (s : Dev) (n : Nat) : Dev :=
  let s := (((s.wr .DMA_ACT_SRC n (s.rd .DMA_SH_SRC n)).wr .DMA_ACT_DST n (s.rd .DMA_SH_DST n)).wr
    .DMA_ACT_LEN n (s.rd .DMA_SH_LEN n)).wr .DMA_ACT_CFG n (s.rd .DMA_SH_CFG n)
  let s := s.wr .DMA_ACT_REMAIN n (s.rd .DMA_SH_LEN n)
  let s := ((s.chSet n 1 1 0).chSet n 2 2 0).chSet n 9 8 1
  s.setChan n { Chan.blank with halt := 0 }

/-- Tell the owner of a transfer's end (R368). -/
def Dev.tellOwner (s : Dev) (n : Nat) : Dev :=
  let w := s.chOwner n
  match ownerKind w with
  | 1 => if bit w 45 then s.msix (bits w 3 2) (bits w 44 32) else s
  | 2 => s.setEvent (ownerThread w) 5
  | _ => s

/-! ### QUEUE channels and the work of items (R361, R375, R440) -/

/-- An idle QUEUE channel that serves a pitch, or host admin's rings on a link. -/
def Dev.idleQueue (s : Dev) (p : Option Nat) (link : Nat) : Option Nat :=
  (s.regs.filter (fun e => decide (Reg.ofKey e.1 = .DMA_CH_OWNER))).findSome? (fun e =>
    let n := Reg.ixOf e.1
    let w := e.2.toNat
    let serves : Bool := match p with
      | some _ => decide (ownerPitch w = p)
      | none => bit w 19 && bits w 3 2 = link
    if ownerKind w = 3 ∧ serves ∧ s.chState n = 0 ∧ s.isFenced (chanUnit n) = false then some n else none)

/-- The bytes of a list of segments. -/
def segsLen (l : List (Nat × Nat × Bool)) : Nat := sumNat (l.map (fun g => g.2.1))

/-- Begin a piece of work on a QUEUE channel. -/
def Dev.beginWork (s : Dev) (n : Nat) (w : Work) : Dev :=
  let first := (w.segs.head?.map Prod.fst).getD 0
  let len := segsLen w.segs
  let o := s.chOwner n
  let cfg := (if w.write then 1 else 2 ^ 2) + bits o 6 4 * 2 ^ 4 + bits o 3 2 * 2 ^ 14
    + (match w.pitch with
      | some p => p * 2 ^ 16 + 2 ^ 28
      | none => 0)
  let s := ((s.wr .DMA_ACT_SRC n (if w.write then 0 else first)).wr .DMA_ACT_DST n (if w.write then first else 0)).wr
    .DMA_ACT_LEN n len
  let s := ((s.wr .DMA_ACT_CFG n cfg).wr .DMA_ACT_REMAIN n len).chSet n 9 8 1
  s.setChan n { Chan.blank with work := some w }

/-- Give waiting work to idle QUEUE channels, in order. -/
def Dev.queueAssign (s : Dev) : Dev :=
  forEach s.rng.work { s with rng := { s.rng with work := [] } } (fun s w =>
    match s.idleQueue w.pitch w.link with
    | some n => s.beginWork n w
    | none => { s with rng := { s.rng with work := s.rng.work ++ [w] } })

/-- The frame of a SEND item enters its parser front end (R325): IN_PORT of the ring's link and PITCH of the ring. -/
def Dev.sendFrame (s : Dev) (r : ItemRef) (bs : List Byte) : Dev :=
  let x := s.ring r.ring
  let link := s.ringLink x
  let f := { Frame.fresh bs (0x20 + link) with pitch := x.owner, item := some r, rxTime := s.vn * 40 * 2 ^ 16 }
  s.newFrame f .frontEnd

/-- Insert an item into a list kept in the order of acceptance. -/
def insertItem (x : Item) : List Item → List Item
  | [] => [x]
  | y :: ys => if x.ord < y.ord then x :: y :: ys else y :: insertItem x ys

/-- The SEND items of the pitch or host admin of a ring that have not entered the parser, in the order of acceptance (R333). -/
def Dev.sendsWaiting (s : Dev) (ring : Nat) : List Item :=
  let x := s.ring ring
  ((s.rng.items.map (fun e => e.2)).filter (fun y => decide (y.kind = 0) && decide (y.stage = 1) && !y.busy
    && decide ((s.ring y.ring).owner = x.owner) && decide (s.ringLink (s.ring y.ring) = s.ringLink x))).foldl
      (fun l y => insertItem y l) []

/-- The SEND items whose data has been read enter the parser in the order of acceptance, per pitch (R333; DEDUCED, log entry 143): one
whose data has not come holds back those after it. -/
def Dev.sendReady (s : Dev) (ring : Nat) : Dev :=
  forEach ((s.sendsWaiting ring).takeWhile (fun y => y.filled)) s (fun s y =>
    let r : ItemRef := ⟨y.ring, y.index⟩
    ((s.setItem r (some { y with busy := true })).sendFrame r (s.buf r)).setBuf r [])

/-- A read of an item's data has ended: a SEND frame enters the parser in its turn, an XFORM source is ready for a lane. -/
def Dev.itemRead (s : Dev) (r : ItemRef) (bs : List Byte) : Dev :=
  match s.item r with
  | none => s
  | some x =>
    if x.kind = 0 then ((s.setItem r (some { x with filled := true })).setBuf r bs).sendReady r.ring
    else (s.setItem r (some { x with busy := true })).setBuf r bs

/-- A connection of the storage engine in state FREE (R413). -/
def Conn.blank : Conn :=
  { img := 0, una := 0, flight := [], sendq := [], rx := [], waiting := [], cmds := [], gens := [], cwnd := 0, ssthresh := 0
    srtt := none, rto := 0, timer := none, tries := 0, dups := 0, unacked := 0, ackDue := none, recover := 0, ece := false
    rnrUsed := 0, msn := 0, sinceAck := 0, cnpAt := none, place := none, rnrEnd := none
    again := none, cwr := false, fin := false, reread := none }

/-- A connection. -/
def Dev.conn (s : Dev) (c : Nat) : Conn := Sparse.get (fun _ => Conn.blank) s.stx.conns c

/-- Store a connection. -/
def Dev.setConn (s : Dev) (c : Nat) (x : Conn) : Dev :=
  { s with stx := { s.stx with conns := Sparse.set (fun _ => Conn.blank) s.stx.conns c x } }

/-- CONN of a STORE item (R420). -/
def Item.conn (x : Item) : Nat := descBits x.desc 175 160

/-- The items of a connection that have started and are not released. -/
def Dev.connItems (s : Dev) (c : Nat) : List Item :=
  (s.rng.items.filter (fun e => e.2.kind = 4 && e.2.stage = 1 && e.2.busy && decide (e.2.conn = c))).map Prod.snd

/-- Report an operation of STX_ACC_CTL (R433). -/
def Dev.stxStatus (s : Dev) (tag detail result busy : Nat) : Dev :=
  s.wr .STX_ACC_STATUS 0 (tag % 2 ^ 16 * 2 ^ 16 + detail * 2 ^ 8 + busy * 2 ^ 4 + result)

/-- A connection's image as READ and REMOVE return it, with OUTSTANDING (R413). -/
def Conn.image (x : Conn) : Nat := putBits x.img 671 656 x.cmds.length

/-- Place an image in STX_ACC_DATA. -/
def Dev.putStxData (s : Dev) (v : Nat) : Dev :=
  forEach (List.range 12) s (fun s w => s.wr .STX_ACC_DATA w (bits v (64 * w + 63) (64 * w)))

/-- A REMOVE ends once the connection's last outstanding item has completed (R414, R433): its image is in DATA and it is
FREE. -/
def Dev.stxRemoved (s : Dev) : Dev :=
  match s.stx.removing with
  | none => s
  | some (tag, c) =>
    if s.stx.draining = false ∧ (s.connItems c).isEmpty then
      let img := leBytes 96 (s.conn c).image
      let s := (s.putStxData (s.conn c).image).setConn c Conn.blank
      ({ s with stx := { s.stx with removing := none } }.stxStatus tag 0 0 0).capEnd (fun c => c.opcode = 0x0C02) 0 0 0 img
    else s

/-- A REMOVE of this connection has been accepted and has not ended (R414). -/
def Dev.removingConn (s : Dev) (c : Nat) : Bool :=
  match s.stx.removing with
  | some (_, d) => decide (d = c)
  | none => false

/-- The data movements of an item that write to the host and have not ended. -/
def Dev.writesLeft (s : Dev) (r : ItemRef) : Nat :=
  (s.rng.work.filter (fun w => w.write && decide (w.item = r))).length
    + (s.dma.chans.filter (fun e => match e.2.work with | some w => w.write && decide (w.item = r) | none => false)).length

/-- The part of a list of segments that covers bytes [off, off + len) of the buffer. -/
def segSlice : List (Nat × Nat × Bool) → Nat → Nat → List (Nat × Nat × Bool)
  | [], _, _ => []
  | (a, n, z) :: l, off, len =>
    if len = 0 then []
    else if n ≤ off then segSlice l (off - n) len
    else (a + off, min (n - off) len, z) :: segSlice l 0 (len - min (n - off) len)

/-- Write bytes to segments in the device's own memory (LOC CLUSTER). -/
def Dev.scatter (s : Dev) : List (Nat × Nat × Bool) → List Byte → Dev
  | [], _ => s
  | (a, n, z) :: l, bs => Dev.scatter (if z then s else s.intWrite a (bs.take n)) l (bs.drop n)

/-- Write bytes of an item's buffer from offset `off` on. -/
def Dev.itemWrite (s : Dev) (r : ItemRef) (x : Item) (off : Nat) (bs : List Byte) : Dev :=
  let g := segSlice x.segs off bs.length
  if bs.isEmpty then s else if (s.ring r.ring).loc = 2 then s.scatter g bs else (s.queueWork r true g bs).queueAssign

/-- A STORE item whose command has ended and whose last `left` placement writes end now (R423, R427): a digest failure first
overwrites the whole buffer with zeros; then the item is released. -/
def Dev.storeSettle (s : Dev) (r : ItemRef) (left : Nat) : Dev :=
  match s.item r with
  | none => s
  | some x =>
    if x.filled = false ∨ left < s.writesLeft r then s
    else if bits x.result 63 48 = 0x501 ∧ x.ext = none ∧ x.len ≠ 0 then
      let s := (s.setItem r (some { x with ext := some 1 })).itemWrite r x 0 (List.replicate x.len 0)
      if (s.ring r.ring).loc = 2 then (s.release r x.result).stxRemoved else s
    else (s.release r x.result).stxRemoved

/-- A write of an item's data has been proved arrived: the item is released with the entry it holds (R345, R485); a STORE item
when its command has ended too. -/
def Dev.itemWritten (s : Dev) (r : ItemRef) : Dev :=
  match s.item r with
  | some x => if x.kind = 4 then s.storeSettle r 1 else s.release r x.result
  | none => s

/-- The work of a QUEUE channel has ended at its completion point. -/
def Dev.workDone (s : Dev) (n : Nat) (w : Work) : Dev :=
  let bs := (List.range (segsLen w.segs)).map (fun j => Sparse.get (fun _ => (0 : Byte)) (s.chan n).got j)
  if w.write then s.itemWritten w.item else s.itemRead w.item bs

/-! ### Bursts (R365 to R367) -/

/-- The ends of the active transfer: source and destination space. -/
def Dev.actSpaces (s : Dev) (n : Nat) : Nat × Nat := (s.fld .DMA_ACT_CFG n 1 0, s.fld .DMA_ACT_CFG n 3 2)

/-- The pitch whose PASID and memory key an active transfer uses (R362). -/
def Dev.actPitch (s : Dev) (n : Nat) : Option Nat :=
  if s.fld .DMA_ACT_CFG n 28 28 = 1 then some (s.fld .DMA_ACT_CFG n 27 16) else none

/-- The arbiter of a channel: its link, or 4 for the internal mover. -/
def Dev.chArb (s : Dev) (n : Nat) : Nat := if 1024 ≤ n then 4 else s.fld .DMA_ACT_CFG n 15 14

/-- The priority of a running channel (R365). -/
def Dev.chPrio (s : Dev) (n : Nat) : Nat :=
  if ownerKind (s.chOwner n) = 3 then bits (s.chOwner n) 6 4 else s.fld .DMA_ACT_CFG n 6 4

/-- The transfer needs a flush read: its destination is HOST, its bursts are all issued and the flush is not (R367). -/
def Dev.needsFlush (s : Dev) (n : Nat) : Bool :=
  (s.actSpaces n).2 = 0 && s.rd .DMA_ACT_REMAIN n = 0 && (s.chan n).flush = 0

/-- A RUNNING channel has a burst or its flush read to issue. -/
def Dev.canIssue (s : Dev) (n : Nat) : Bool :=
  !s.frozen && s.chState n = 1 && (s.chan n).failed.isNone && (s.rd .DMA_ACT_REMAIN n ≠ 0 || s.needsFlush n)
    && ((s.actSpaces n).1 ≠ 0 && !s.needsFlush n || s.chArb n = 4 || (s.freeTag (s.chArb n)).isSome)

/-- The place of offset `off` in a list of segments: address, bytes left in the segment, ZERO. -/
def segAt : List (Nat × Nat × Bool) → Nat → Nat × Nat × Bool
  | [], _ => (0, 0, true)
  | (a, n, z) :: l, off => if off < n then (a + off, n - off, z) else segAt l (off - n)

/-- A transfer fails with the code of its first failure (R371). -/
def Dev.chFail (s : Dev) (n code : Nat) : Dev :=
  let x := s.chan n
  s.setChan n { x with failed := some (x.failed.getD code) }

/-- Read the source of a transfer in HBM or shared memory. -/
def Dev.readEnd (s : Dev) (n space cluster a len : Nat) : Except Nat (List Byte) :=
  if space = 2 then .ok (s.sharedRead cluster a len)
  else if s.hbmServed a len = false ∨ s.hbmSound a len = false then .error 6
  else match s.memKey (s.actPitch n) with
    | some k => .ok (s.hbmRead k a len)
    | none => .error 6

/-- Write the destination of a transfer in HBM or shared memory; a write under an EMPTY key is discarded and counted
(R403). -/
def Dev.writeEnd (s : Dev) (n space cluster a : Nat) (bs : List Byte) : Dev :=
  if space = 2 then s.sharedWrite cluster a bs
  else if s.hbmServed a (max 1 bs.length) = false then s.chFail n 6
  else match s.memKey (s.actPitch n) with
    | some k => s.hbmWrite k a bs
    | none => s.keyEmpty a

/-- Note a failed read of HBM: under an EMPTY key (R403), or of a line that fails its code (R471). -/
def Dev.failedRead (s : Dev) (n space a len : Nat) : Dev :=
  if space ≠ 1 then s
  else if (s.memKey (s.actPitch n)).isNone then s.keyEmpty a
  else if s.hbmServed a len then s.badLine a len else s

/-- Issue the next burst, or the flush read, of a channel. -/
def Dev.burst (s : Dev) (n : Nat) : Dev :=
  let x := s.chan n
  let (src, dst) := s.actSpaces n
  let link := s.chArb n
  let pitch := s.actPitch n
  if s.needsFlush n then
    match s.outboundBar pitch link, s.freeTag link with
    | some c, _ => (s.countBar c).chFail n c
    | none, none => s
    | none, some t =>
      let (l, pasid) := s.outLink pitch link
      let s := s.sendOnLink l (.hostRead l pasid x.lastWrite 0 t)
      (s.issue link t ⟨n / 128, n % 128, 0, 0, true, s.vn, []⟩).setChan n { x with flush := 1, outst := x.outst + 1 }
  else
    let remain := s.rd .DMA_ACT_REMAIN n
    let off := s.rd .DMA_ACT_LEN n - remain
    let hostEnd : Nat × Nat × Bool := match x.work with
      | some w => segAt w.segs off
      | none => ((if src = 0 then s.rd .DMA_ACT_SRC n else s.rd .DMA_ACT_DST n) + off, remain, false)
    let (ha, left, zero) := hostEnd
    let cfg := s.linkCfg link
    let cap := if src = 0 then min 512 cfg.mrrs else if dst = 0 then min 512 cfg.mps else 512
    let len := if zero then min remain left
      else min (min remain left) (if src = 0 ∨ dst = 0 then min cap (4096 - ha % 4096) else 512)
    let s := s.wr .DMA_ACT_REMAIN n (remain - len)
    if zero then s
    else if src = 0 then
      match s.outboundBar pitch link, s.freeTag link with
      | some c, _ => (s.countBar c).chFail n c
      | none, none => s.wr .DMA_ACT_REMAIN n remain
      | none, some t =>
        let (l, pasid) := s.outLink pitch link
        let s := s.sendOnLink l (.hostRead l pasid ha len t)
        (s.issue link t ⟨n / 128, n % 128, off, len, false, s.vn, []⟩).setChan n { x with outst := x.outst + 1 }
    else
      let sa := s.rd .DMA_ACT_SRC n + off
      let data : Except Nat (List Byte) := match x.work with
        | some w => .ok ((w.data.drop off).take len)
        | none => s.readEnd n src (s.fld .DMA_ACT_CFG n 10 8) sa len
      match data with
      | .error c => (s.failedRead n src sa len).chFail n c
      | .ok bs =>
        if dst = 0 then
          match s.outboundBar pitch link with
          | some c => (s.countBar c).chFail n c
          | none => (s.hostWrite pitch link ha bs).setChan n { x with lastWrite := (ha + len - 1) / 4 * 4 }
        else s.writeEnd n dst (s.fld .DMA_ACT_CFG n 13 11) (s.rd .DMA_ACT_DST n + off) bs

/-- The channel an arbiter serves next: of the highest PRIO that can issue, the first in round robin after the channel it
served last (R365). -/
def Dev.pickChannel (s : Dev) (arb : Nat) : Option Nat :=
  let all := (s.regs.filter (fun e => decide (Reg.ofKey e.1 = .DMA_CH_STATUS))).map (fun e => Reg.ixOf e.1)
  let mine := all.filter (fun n =>
    decide (s.chArb n = arb) && (arb = 4 || decide (n / 512 = arb / 2)) && !s.isFenced (chanUnit n) && s.canIssue n)
  let top := mine.foldl (fun a n => max a (s.chPrio n)) 0
  let cand := mine.filter (fun n => s.chPrio n = top)
  let last := Sparse.get (fun _ => 2047) s.dma.turn arb
  match cand.find? (fun n => decide (last < n)) with
  | some n => some n
  | none => cand.head?

/-- DMA_BURST_ISSUE (R365): one engine cycle of 1 ns of the arbiter of a link (0 to 3) or of the internal mover (4); a volley has as
many as ns. -/
def execDmaBurstIssue (arbiter : Nat) (s : State) : Outcome State Fault Refusal := s.act fun s =>
  if 5 ≤ arbiter then .fault .noSuchObject
  else
    let used := Sparse.get (fun _ => 0) s.dma.bursts arbiter
    match s.pickChannel arbiter with
    | some n =>
      if s.clk.volleyNs ≤ used then .next s
      else
        let s := { s with dma := { s.dma with turn := Sparse.set (fun _ => 2047) s.dma.turn arbiter n
                                              bursts := Sparse.set (fun _ => 0) s.dma.bursts arbiter (used + 1) } }
        .next (s.burst n)
    | none => .next s

/-! ### Completions of host requests (R310, R311) -/

/-- The data of a transfer's reads is written in address order, as far as it has come without a gap (R366). -/
def Dev.placeReads (n : Nat) : Nat → Dev → Dev
  | 0, s => s
  | k + 1, s =>
    let x := s.chan n
    match Sparse.get? x.hold x.wrote with
    | none => s
    | some (len, bs) =>
      let s := s.setChan n { x with hold := Sparse.put x.hold x.wrote none, wrote := x.wrote + len }
      Dev.placeReads n k (s.writeEnd n (s.actSpaces n).2 (s.fld .DMA_ACT_CFG n 13 11) (s.rd .DMA_ACT_DST n + x.wrote) bs)

/-- Data of a host read reaches its place: the destination of the transfer, or the data of the item (R366). Data of a
failed or resetting transfer is discarded. -/
def Dev.readData (s : Dev) (r : Req) (bs : List Byte) : Dev :=
  let n := 128 * r.inst + r.unit
  let x := s.chan n
  if x.failed.isSome ∨ x.resetting then s
  else match x.work with
    | some _ =>
      let got := (List.range bs.length).foldl (fun m j => Sparse.set (fun _ => (0 : Byte)) m (r.off + j) (bs.getD j 0)) x.got
      s.setChan n { x with got := got }
    | none =>
      let hold := Sparse.put x.hold r.off (some (r.len, bs))
      Dev.placeReads n hold.length (s.setChan n { x with hold := hold })

/-- A request of a channel has settled. -/
def Dev.settle (s : Dev) (r : Req) (failed : Option Nat) : Dev :=
  let n := 128 * r.inst + r.unit
  let x := s.chan n
  let x := { x with outst := x.outst - 1, flush := if r.flush ∧ failed.isNone then 2 else x.flush }
  s.setChan n (match failed with
    | some c => { x with failed := some (x.failed.getD c) }
    | none => x)

/-- A completion that belongs to no outstanding request is discarded, counted and logged (R311). -/
def Dev.unexpectedCpl (s : Dev) (k : Nat) : Dev := (s.bump .HIF_UNEXPECTED_CPL k).aerAdvisory k 16

/-- COMPLETION_RECEIVED (R309, R311, R371): a completion with a tag on a link: Successful or not, its data, and whether
it ends the request. The data reaches its place with the last one: a request that fails discards what has come (R310). -/
def execCompletionReceived (link tag : Nat) (ok last : Bool) (data : List Byte) (s : State) :
    Outcome State Fault Refusal := s.act fun s =>
  let k := tagKey link tag
  let s := s.useLink link
  match Sparse.get? s.hif.reqs k with
  | some r =>
    if !ok then .next ((s.endReq link tag).settle r (some 3))
    else
      let r := { r with got := r.got ++ data }
      if last then
        let s := if r.flush then s else s.readData r r.got
        .next ((s.endReq link tag).settle r none)
      else .next (s.issue link tag r)
  | none =>
    let s := s.unexpectedCpl link
    if (Sparse.get? s.hif.quarantine k).isSome ∧ (last ∨ ok = false) then
      .next { s with hif := { s.hif with quarantine := Sparse.put s.hif.quarantine k none } }
    else .next s

/-- COMPLETION_TIMEOUT (R310): the timeout in force has passed since the request's issue. -/
def execCompletionTimeout (link tag : Nat) (s : State) : Outcome State Fault Refusal := s.act fun s =>
  match Sparse.get? s.hif.reqs (tagKey link tag) with
  | some r =>
    if r.issued + s.cplTimeout link ≤ s.vn then
      .next (((s.quarantineTag link tag r).countTimeout link).settle r (some 1))
    else .next s
  | none => .next s

/-! ### The end of a transfer (R367 to R372) -/

/-- A transfer has ended: DONE_COUNT advances and LAST_STATUS takes its code. -/
def Dev.transferEnd (s : Dev) (n code : Nat) : Dev :=
  (s.chSet n 47 32 (s.fld .DMA_CH_STATUS n 47 32 + 1)).chSet n 23 16 code

/-- The completion point of a channel has been reached (R367). -/
def Dev.atPoint (s : Dev) (n : Nat) : Bool :=
  let x := s.chan n
  s.chState n = 1 && x.failed.isNone && s.rd .DMA_ACT_REMAIN n = 0 && x.outst = 0
    && ((s.actSpaces n).2 ≠ 0 || x.flush = 2)

/-- COMPLETION_POINT (R367 to R369). -/
def execCompletionPoint (inst unit : Nat) (s : State) : Outcome State Fault Refusal := s.act fun s =>
  let n := 128 * inst + unit
  if chanOk inst unit = false then .fault .noSuchObject
  else if s.atPoint n = false then .next s
  else
    let s := ((s.bump .DMA_CH_TRANSFERS n).add .DMA_CH_BYTES n (s.rd .DMA_ACT_LEN n)).transferEnd n 0
    match (s.chan n).work with
    | some w =>
      let s := s.workDone n w
      .next (((s.chSet n 9 8 0).setChan n Chan.blank).queueAssign)
    | none =>
      let s := if s.armed n then s.handOver n else (s.chSet n 9 8 0).setChan n { Chan.blank with halt := (s.chan n).halt }
      .next (s.tellOwner n)

/-- TRANSFER_FAILED (R371, R372): every outstanding request of a failed transfer has settled. -/
def execTransferFailed (inst unit : Nat) (s : State) : Outcome State Fault Refusal := s.act fun s =>
  let n := 128 * inst + unit
  if chanOk inst unit = false then .fault .noSuchObject
  else match s.chState n, (s.chan n).failed, (s.chan n).outst with
    | 1, some code, 0 =>
      let s := (s.bump .DMA_CH_ERRORS n).transferEnd n code
      match (s.chan n).work with
      | some w =>
        let s := ((s.releaseWith w.item (hostStatus code) 0 0).sendReady w.item.ring).stxRemoved
        .next (((s.chSet n 9 8 0).setChan n Chan.blank).queueAssign)
      | none => .next (((s.chSet n 9 8 2).setChan n { Chan.blank with halt := (s.chan n).halt }).tellOwner n)
    | _, _, _ => .next s

/-! ### Shadow, ARM and the other operations (R364, R370, R374) -/

/-- The shadow registers by number: SRC, DST, LEN, CFG. -/
def shadowReg : Nat → Reg
  | 0 => .DMA_SH_SRC | 1 => .DMA_SH_DST | 2 => .DMA_SH_LEN | _ => .DMA_SH_CFG

/-- A write to an owner's shadow or ARM while ARMED (R370). -/
def Dev.shadowLocked (s : Dev) (n : Nat) : Dev := (s.bump .DMA_CH_SHADOW_LOCKED n).chSet n 3 3 1

/-- The effect of a write to a shadow register. -/
def Dev.shadowWrite (s : Dev) (o : Origin) (n which v : Nat) : Dev :=
  if s.isOwner o n = false then s.bump .DMA_CH_FOREIGN n
  else if s.armed n then s.shadowLocked n
  else
    let r := shadowReg which
    let m := r.info.rw
    (s.wr r n ((s.rd r n &&& (2 ^ 64 - 1 - m)) ||| (v &&& m))).chSet n 2 2 1

/-- SHADOW_WRITE (R361, R370): `which` names SRC, DST, LEN or CFG. -/
def execShadowWrite (o : Origin) (inst unit which v : Nat) (s : State) : Outcome State Fault Refusal := s.act fun s =>
  let n := 128 * inst + unit
  if chanOk inst unit = false ∨ 4 ≤ which then .fault .noSuchObject
  else .next (s.regWrite o (shadowReg which) n (if which < 2 then 8 else 4) v fun s => s.shadowWrite o n which v)

/-- One end of a transfer lies where check 3 of R364 asks. -/
def endOk (space a len : Nat) : Bool :=
  match space with
  | 1 => hbmOk a len
  | 2 => a + len ≤ 2 ^ 23
  | _ => true

/-- The checks of ARM, in order (R364). -/
def Dev.armChecks (s : Dev) (n : Nat) : List Bool :=
  let cfg := s.rd .DMA_SH_CFG n
  let (src, dst) := (bits cfg 1 0, bits cfg 3 2)
  let len := s.rd .DMA_SH_LEN n
  let link := bits cfg 15 14
  let host := decide (n < 1024)
  [ decide (len ≠ 0),
    src ≠ 3 && dst ≠ 3 && (if host then decide ((src = 0) ≠ (dst = 0)) else decide (src ≠ 0 ∧ dst ≠ 0)),
    endOk src (s.rd .DMA_SH_SRC n) len && endOk dst (s.rd .DMA_SH_DST n) len,
    !(host && (src = 0 || dst = 0)) || (decide (link / 2 = n / 512) && s.linkPresent link) ]

/-- Report an ARM (R376). -/
def Dev.armResult (s : Dev) (n tag result detail : Nat) : Dev :=
  ((s.chSet n 63 48 tag).chSet n 7 6 result).chSet n 31 24 detail

/-- The effect of a write of ARM by an origin (R361, R364, R369, R370). An ARM on a channel that is IDLE since a transfer
of its own completed is the late arm of R369; on a channel that has run none since its reset it is not counted (DEDUCED,
log entry 18). -/
def Dev.arm (s : Dev) (o : Origin) (n tag : Nat) : Dev :=
  if s.isOwner o n = false then s.bump .DMA_CH_FOREIGN n
  else if s.armed n then (s.shadowLocked n).chSet n 63 48 tag
  else if s.mode = .lockdown then s.armResult n tag 3 0xFD
  else if s.isFenced (chanUnit n) then s.armResult n tag 3 0xFC
  else match firstFail (s.armChecks n) with
    | 0 =>
      let s := (s.armResult n tag 1 0).chSet n 1 1 1
      if s.chState n = 0 then
        let late := decide (s.rd .DMA_ACT_LEN n ≠ 0 ∧ s.fld .DMA_CH_STATUS n 23 16 = 0)
        let s := s.handOver n
        if late then s.bump .DMA_CH_LATE_ARMS n else s
      else s
    | k => s.armResult n tag 2 k

/-- ARM (R364). -/
def execArm (o : Origin) (inst unit tag : Nat) (s : State) : Outcome State Fault Refusal := s.act fun s =>
  let n := 128 * inst + unit
  if chanOk inst unit = false then .fault .noSuchObject
  else .next (s.regWrite o .DMA_CH_CTL n 4 (tag % 2 ^ 16 * 2 ^ 16 + 1) fun s => s.arm o n (tag % 2 ^ 16))

/-- The supervisor of the owner's cluster writes, or Basecamp (R374). -/
def Dev.mayReclaim (s : Dev) (o : Origin) (n : Nat) : Bool :=
  let w := s.chOwner n
  match o with
  | .basecamp => true
  | .thread c t => ownerKind w = 2 && bits w 18 16 = c && t = s.supervisor c
  | _ => false

/-- The effect of RECLAIM (R374). -/
def Dev.reclaim (s : Dev) (o : Origin) (n tag : Nat) : Dev :=
  if s.mayReclaim o n = false then s
  else
    let c := bits (s.chOwner n) 18 16
    let s := ((s.clearShadow n).chSet n 4 4 0).chSet n 63 48 tag
    let owner := match o with
      | .basecamp => 0
      | _ => 2 + s.supervisor c * 2 ^ 8 + c * 2 ^ 16
    ((s.wr .DMA_CH_OWNER n owner).setChan n { s.chan n with halt := 0 }).bump .DMA_RECLAIMS (n / 128)

/-- RECLAIM (R374). -/
def execReclaim (o : Origin) (inst unit tag : Nat) (s : State) : Outcome State Fault Refusal := s.act fun s =>
  let n := 128 * inst + unit
  if chanOk inst unit = false then .fault .noSuchObject
  else .next (s.regWrite o .DMA_CH_CTL n 4 (tag % 2 ^ 16 * 2 ^ 16 + 2) fun s => s.reclaim o n (tag % 2 ^ 16))

/-- A channel begins its reset (R374, R375): no further burst; the shadow set returns to its reset values. A QUEUE
channel's item stays accepted, and its work waits for the next idle channel. -/
def Dev.resetChannel (s : Dev) (n : Nat) : Dev :=
  let x := s.chan n
  let ran := decide (s.chState n = 1)
  let s := s.clearShadow n
  let s := match x.work with
    | some w => { s with rng := { s.rng with work := w :: s.rng.work } }
    | none => s
  let s := if ran then (s.bump .DMA_CH_ERRORS n).transferEnd n 7 else s
  let s := (s.chSet n 9 8 3).setChan n { x with resetting := true, work := none, failed := some 7 }
  if ran ∧ x.work.isNone then s.tellOwner n else s

/-- The origins that may reset a channel (R374). -/
def Dev.mayReset (s : Dev) (o : Origin) (n : Nat) : Bool :=
  match o with
  | .bar0 _ => true | .basecamp => true | .referee => true | _ => s.isOwner o n

/-- CHANNEL_RESET (R374). -/
def execChannelReset (o : Origin) (inst unit tag : Nat) (s : State) : Outcome State Fault Refusal := s.act fun s =>
  let n := 128 * inst + unit
  if chanOk inst unit = false then .fault .noSuchObject
  else .next (s.regWrite o .DMA_CH_CTL n 4 (tag % 2 ^ 16 * 2 ^ 16 + 4) fun s =>
    if s.mayReset o n then (s.chSet n 63 48 (tag % 2 ^ 16)).resetChannel n else s)

/-- The effect of RESUME (R372). -/
def Dev.resumeChannel (s : Dev) (n : Nat) : Dev :=
  if s.chState n = 2 then (if s.armed n then s.handOver n else s.chSet n 9 8 0) else s

/-- CHANNEL_RESUME (R372, R374): by the owner; no effect outside ERROR. -/
def execChannelResume (o : Origin) (inst unit tag : Nat) (s : State) : Outcome State Fault Refusal := s.act fun s =>
  let n := 128 * inst + unit
  if chanOk inst unit = false then .fault .noSuchObject
  else .next (s.regWrite o .DMA_CH_CTL n 4 (tag % 2 ^ 16 * 2 ^ 16 + 8) fun s =>
    if s.isOwner o n then (s.chSet n 63 48 (tag % 2 ^ 16)).resumeChannel n else s)

/-- CHANNEL_RESET_DONE (R374): every outstanding request has settled. -/
def execChannelResetDone (inst unit : Nat) (s : State) : Outcome State Fault Refusal := s.act fun s =>
  let n := 128 * inst + unit
  if chanOk inst unit = false then .fault .noSuchObject
  else if s.chState n = 3 ∧ (s.chan n).outst = 0 then
    .next (((s.chSet n 9 8 0).setChan n Chan.blank).queueAssign)
  else .next s

/-! ### The owner table (R362, R440) -/

/-- The QUEUE channels that a pitch holds, beside channel `n`. -/
def Dev.queueChannels (s : Dev) (p n : Nat) : Nat :=
  (s.regs.filter (fun e => decide (Reg.ofKey e.1 = .DMA_CH_OWNER) && decide (Reg.ixOf e.1 ≠ n)
    && decide (ownerKind e.2.toNat = 3) && decide (ownerPitch e.2.toNat = some p))).length

/-- A quota field of a pitch (R439). -/
def Dev.quota (s : Dev) (p hi lo : Nat) : Nat :=
  bits (s.rd .PIT_QUOTA (2 * p) + s.rd .PIT_QUOTA (2 * p + 1) * 2 ^ 64) hi lo

/-- The origin may name this owner for the channel (R362). -/
def Dev.mayOwn (s : Dev) (o : Origin) (n v : Nat) : Bool :=
  match o with
  | .bar0 _ => true
  | .basecamp => true
  | .thread c t =>
    t = s.supervisor c && ownerKind (s.chOwner n) = 2 && bits (s.chOwner n) 18 16 = c
      && ownerKind v = 2 && bits v 18 16 = c
  | _ => false

/-- The effect of a write of DMA_CH_OWNER. -/
def Dev.ownerWrite (s : Dev) (o : Origin) (n v : Nat) : Dev :=
  let m := Reg.DMA_CH_OWNER.info.rw
  let v := v &&& m
  let past := ownerKind v = 3 && bit v 19 = false
    && decide (s.quota (bits v 31 20) 78 69 < s.queueChannels (bits v 31 20) n + 1)
  if s.mayOwn o n v = false ∨ s.chState n ≠ 0 ∨ s.armed n ∨ past then s.chSet n 5 5 1
  else ((s.wr .DMA_CH_OWNER n v).clearShadow n).queueAssign

/-- OWNER_WRITE (R362, R440). -/
def execOwnerWrite (o : Origin) (inst unit v : Nat) (s : State) : Outcome State Fault Refusal := s.act fun s =>
  let n := 128 * inst + unit
  if chanOk inst unit = false then .fault .noSuchObject
  else .next (s.regWrite o .DMA_CH_OWNER n 8 v fun s => s.ownerWrite o n v)

/-! ### Halted owners (R373) -/

/-- A channel's owner is a thread that is FAULTED, HALTED or STOPPED, with a dirty, unarmed shadow. -/
def Dev.ownerHalted (s : Dev) (n : Nat) : Bool :=
  let w := s.chOwner n
  let st := (s.ctx (ownerThread w)).st
  ownerKind w = 2 && (st = 4 || st = 6 || st = 7) && s.fld .DMA_CH_STATUS n 2 2 = 1 && !s.armed n

/-- The boundaries of the halt counted at one boundary. -/
def Dev.countHalts (s : Dev) : Dev :=
  let all := (s.regs.filter (fun e => decide (Reg.ofKey e.1 = .DMA_CH_OWNER))).map (fun e => Reg.ixOf e.1)
  forEach all s (fun s n =>
    if s.ownerHalted n then s.setChan n { s.chan n with halt := (s.chan n).halt + 1 }
    else if (s.chan n).halt ≠ 0 then (s.setChan n { s.chan n with halt := 0 }).chSet n 4 4 0
    else s)

/-- DMA_OWNER_HALT (R373): once per halt, at DMA_OWNER_HALT_LIMIT boundaries. -/
def execDmaOwnerHalt (inst unit : Nat) (s : State) : Outcome State Fault Refusal := s.act fun s =>
  let n := 128 * inst + unit
  if chanOk inst unit = false then .fault .noSuchObject
  else if s.ownerHalted n ∧ s.fld .DMA_CH_STATUS n 4 4 = 0 ∧ max 250 (s.rd .DMA_OWNER_HALT_LIMIT inst) ≤ (s.chan n).halt then
    let w := s.chOwner n
    let c := bits w 18 16
    let t := bits w 15 8
    let e := unit + c * 2 ^ 15 + t * 2 ^ 18 + 2 ^ 31 + s.vn % 2 ^ 32 * 2 ^ 32
    let q := Sparse.get (fun _ => []) s.dma.haltLog inst
    let q := if q.length < 64 then q ++ [e] else q
    let s := { (s.chSet n 4 4 1) with dma := { s.dma with haltLog := Sparse.set (fun _ => []) s.dma.haltLog inst q } }
    let sup := decide (s.supervisor c = t)
    let s := (s.bump .DMA_OWNER_HALTS inst).whistle 0x0D (chanUnit n) 0 (unit + t * 2 ^ 8 + b2n sup * 2 ^ 31)
    .next (s.setEvent (ctxKey c (s.supervisor c)) 5)
  else .next s

end Sys2Proof.Machine
end

