-- ==== Sys2Proof/Machine/RngOps.lean ====
section
/-! DEFINITION. The operations on rings (R347 to R359): RNG_RING_ACC_CTL READ, WRITE, STATE, ENABLE, DISABLE, RESUME and
RESET, the end of a drain, FIRMWARE items ended by their server, and the error log. -/

namespace Sys2Proof.Machine

open Host

/-! ### Turns (R331 to R334) -/

/-- RING_TURN (R331 to R334): the arbiter gives the next ring its turn; what it accepts queues at its engine at once (R333). -/
def execRingTurn (arbiter : Nat) (answers : List Fetch) (s : State) : Outcome State Fault Refusal := s.act fun s =>
  if arbiter < 4 ∨ 8 ≤ arbiter ∧ arbiter < 16 then .next (s.arbiterTurn arbiter answers).queueAssign
  else .fault .noSuchObject

/-! ### Operations (R347 to R356) -/

/-- The status of a ring operation (R352). -/
def Dev.rngStatus (s : Dev) (tag result detail : Nat) (busy : Bool) : Dev :=
  s.wr .RNG_RING_ACC_STATUS 0 (tag * 2 ^ 16 + detail * 2 ^ 8 + b2n busy * 2 ^ 4 + result)

/-- DATA[w] of the ring access (R352). -/
def Dev.rngData (s : Dev) (w v : Nat) : Dev := s.wr .RNG_RING_ACC_DATA w v

/-- A 256-bit context from DATA[0] to DATA[3]. -/
def Dev.rngCtx (s : Dev) : Nat :=
  s.rd .RNG_RING_ACC_DATA 0 + s.rd .RNG_RING_ACC_DATA 1 * 2 ^ 64 + s.rd .RNG_RING_ACC_DATA 2 * 2 ^ 128
    + s.rd .RNG_RING_ACC_DATA 3 * 2 ^ 192

/-- Place a 256-bit context in DATA[0] to DATA[3]. -/
def Dev.putRngCtx (s : Dev) (v : Nat) : Dev :=
  (((s.rngData 0 v).rngData 1 (v / 2 ^ 64)).rngData 2 (v / 2 ^ 128)).rngData 3 (v / 2 ^ 192)

/-- The reserved bits of a work-ring context read 0 (R353). -/
def ringMask (v : Nat) : Nat :=
  bits v 77 0 + bits v 91 80 * 2 ^ 80 + bits v 110 96 * 2 ^ 96 + bits v 125 112 * 2 ^ 112 + bits v 214 128 * 2 ^ 128

/-- The reserved bits of a completion-ring context read 0 (R355). -/
def cqMask (v : Nat) : Nat := bits v 126 0 + bits v 191 128 * 2 ^ 128

/-- The size of each table reached through RNG_RING_ACC_CTL (R352, R357). -/
def rngTableSize : Nat → Nat
  | 0 => 65536 | 1 => 16384 | 2 => 4100 | _ => 32768

/-- Whether an origin may use RNG_RING_ACC_CTL for an entry (R352): BAR0, Basecamp, and a cluster supervisor for rings of
LOC CLUSTER of its own cluster. -/
def Dev.rngOrigin (s : Dev) (o : Origin) (table index : Nat) (write : Bool) : Bool :=
  match o with
  | .thread c t =>
    t = s.supervisor c
      && (match table with
        | 0 =>
          let x := if write then s.rngCtx else (s.ring index).ctx
          bits x 73 72 = 2 && bits x 197 195 = c
        | 1 =>
          let x := if write then s.rngCtx else (s.cq index).ctx
          bits x 69 68 = 2 && bits x 86 84 = c
        | _ => false)
  | .bar0 _ => true
  | .basecamp => true
  | .adminRing _ => true | .mctpSmbus _ => true | .mctpVdm .. => true | .ncsi _ => true
  | _ => false

/-- The common start of a ring operation: dropped from a foreign origin, BUSY while one runs. -/
def Dev.ringBody (s : Dev) (o : Origin) (table index tag : Nat) (write : Bool) (act : Dev → Dev) : Dev :=
  if s.rngOrigin o table index write = false then s.bump .RNG_ACC_FOREIGN 0
  else if s.rng.accBusy.isSome then s.setFld .RNG_RING_ACC_STATUS 0 3 0 1
  else if rngTableSize table ≤ index then s.rngStatus (tag % 2 ^ 16) 2 0 false
  else act s

/-- The same as a write of RNG_RING_ACC_CTL, with its REGISTER record. -/
def Dev.ringOp (s : Dev) (o : Origin) (op table index tag : Nat) (skip write : Bool) (act : Dev → Dev) : Dev :=
  let v := index % 2 ^ 16 + table % 4 * 2 ^ 16 + op * 2 ^ 18 + b2n skip * 2 ^ 21 + tag % 2 ^ 16 * 2 ^ 32
  s.regWrite o .RNG_RING_ACC_CTL 0 8 v fun s => s.ringBody o table index tag write act

/-- LOCKDOWN refuses an operation but on CMD rings of LOC ADMIN and their completion rings (R352). -/
def Dev.ringLocked (s : Dev) (table index ctx : Nat) : Bool :=
  let admin := match table with
    | 0 => bits ctx 71 68 = 2 && bits ctx 73 72 = 1
    | 1 => s.rng.rings.any (fun e => e.2.cqNo = index && e.2.kind = 2 && e.2.loc = 1) && bits ctx 69 68 = 1
    | _ => false
  s.mode = .lockdown && !admin

/-- An operation on a ring of a pitch that is not ACTIVE gives BAD_STATE (R458). -/
def Dev.ringPitchBad (s : Dev) (table index : Nat) : Bool :=
  match table with
  | 0 => (s.ring index).loc = 0 && (s.ring index).ctx ≠ 0 && s.pitStopped (s.ring index).pitch
  | 1 => (s.cq index).loc = 0 && (s.cq index).ctx ≠ 0 && s.pitStopped (s.cq index).pitch
  | _ => false

/-- What an accepted READ does. -/
def Dev.ringActRead (s : Dev) (table index tag : Nat) : Dev :=
  let s := s.rngStatus (tag % 2 ^ 16) 0 0 false
  match table with
  | 0 => s.putRngCtx (s.ring index).ctx
  | 1 => s.putRngCtx (s.cq index).ctx
  | 2 => s.rngData 0 (Sparse.get (fun _ => 0) s.rng.pitch index)
  | _ => s.rngData 0 (Sparse.get (fun _ => 0) s.rng.rxmap index)

/-- RING_READ (R352): returns a context or an entry. -/
def execRingRead (o : Origin) (table index tag : Nat) (s : State) : Outcome State Fault Refusal := s.act fun s =>
  .next (s.ringOp o 1 table index tag false false (fun s => s.ringActRead table index tag))

/-- The effect of WRITE (R352, R357). -/
def Dev.ringWrite (s : Dev) (table index tag : Nat) : Dev :=
  let d := s.rd .RNG_RING_ACC_DATA 0
  match table with
  | 0 =>
    if (s.ring index).st ≠ 0 then s.rngStatus tag 3 0 false
    else (s.setRing index { Ring.blank with ctx := ringMask s.rngCtx, accepted := (s.ring index).accepted
                                            stalls := (s.ring index).stalls, refetch := (s.ring index).refetch }).rngStatus tag 0 0 false
  | 1 =>
    if (s.cq index).enabled then s.rngStatus tag 3 0 false
    else (s.setCq index { Cq.blank with ctx := cqMask s.rngCtx }).rngStatus tag 0 0 false
  | 2 =>
    let v := if 4096 ≤ index then bits d 8 0 else bits d 7 0
    { s with rng := { s.rng with pitch := Sparse.set (fun _ => 0) s.rng.pitch index v } }.rngStatus tag 0 0 false
  | _ =>
    if 6 < bits d 18 16 ∨ 65536 < bits d 15 0 + 2 ^ bits d 18 16 then s.rngStatus tag 4 1 false
    else { s with rng := { s.rng with rxmap := Sparse.set (fun _ => 0) s.rng.rxmap index (bits d 20 0) } }.rngStatus tag 0 0 false

/-- What an accepted WRITE does. -/
def Dev.ringActWrite (s : Dev) (table index tag : Nat) : Dev :=
  if s.ringLocked table index s.rngCtx then s.rngStatus (tag % 2 ^ 16) 5 0 false
  else if s.ringPitchBad table index then s.rngStatus (tag % 2 ^ 16) 3 0 false
  else s.ringWrite table index (tag % 2 ^ 16)

/-- RING_WRITE (R352). -/
def execRingWrite (o : Origin) (table index tag : Nat) (s : State) : Outcome State Fault Refusal := s.act fun s =>
  .next (s.ringOp o 2 table index tag false true (fun s => s.ringActWrite table index tag))

/-- What an accepted STATE does. -/
def Dev.ringActState (s : Dev) (table index tag : Nat) : Dev :=
  match table with
  | 0 =>
    let x := s.ring index
    let w2 := x.st + b2n x.cqFull * 2 ^ 4 + b2n x.errSlot * 2 ^ 5 + x.la.length * 2 ^ 6 + x.errCode * 2 ^ 16
      + x.batch % 256 * 2 ^ 24 + x.errIndex * 2 ^ 32
    let s := (s.rngData 0 (x.p + x.c * 2 ^ 32)).rngData 1 (x.f + x.done * 2 ^ 32)
    let s := ((s.rngData 2 w2).rngData 3 x.accepted).rngData 4 x.stalls
    (s.rngData 5 x.refetch).rngStatus (tag % 2 ^ 16) 0 0 false
  | 1 =>
    let x := s.cq index
    let s := (s.rngData 0 (x.pcq + x.ccq * 2 ^ 32)).rngData 1 (x.resv % 2 ^ 16 + b2n x.armed * 2 ^ 16 + x.u % 2 ^ 16 * 2 ^ 32)
    let s := ((s.rngData 2 (b2n x.enabled)).rngData 3 0).rngData 4 0
    (s.rngData 5 0).rngStatus (tag % 2 ^ 16) 0 0 false
  | _ => s.rngStatus (tag % 2 ^ 16) 3 0 false

/-- RING_STATE (R356). -/
def execRingState (o : Origin) (table index tag : Nat) (s : State) : Outcome State Fault Refusal := s.act fun s =>
  .next (s.ringOp o 3 table index tag false false (fun s => s.ringActState table index tag))

/-- A range lies within the shared memory of a cluster, at its internal address (R354, R547). -/
def inShared (c a n : Nat) : Bool :=
  0x10000000000 + c * 2 ^ 23 ≤ a && a + n ≤ 0x10000000000 + (c + 1) * 2 ^ 23

/-- The checks of ENABLE of a work ring, in order (R354). -/
def Dev.ringChecks (s : Dev) (index : Nat) : List Bool :=
  let x := s.ring index
  let q := s.cq x.cqNo
  let w := bits x.ctx 103 96
  let b := bits x.ctx 110 104
  [ 6 ≤ bits x.ctx 67 64 && bits x.ctx 67 64 ≤ 15 && x.kind ≤ 5 && x.loc ≤ 2,
    (if x.loc = 2 then x.base % 64 = 0 && inShared (x.producer / 256) x.base (64 * x.size) else decide (x.base % 4096 = 0)),
    x.loc ≠ 0 || pmapValid (s.pmap x.pitch),
    1 ≤ w && 1 ≤ b && b ≤ 64,
    q.enabled && q.loc = x.loc
      && (match x.loc with
        | 0 => decide (q.pitch = x.pitch)
        | 1 => decide (q.link = x.link)
        | _ => decide (q.thread / 256 = x.producer / 256)),
    !((x.kind = 1 || x.kind = 2) && x.batching) && !(x.kind = 2 && x.stamped) && !(x.kind ≤ 2 && x.loc = 2),
    x.kind ≠ 5 || 64 * bits x.ctx 214 198 + 64 * x.size ≤ 2 ^ 23,
    !(x.kind = 2 && x.loc = 1) || s.rng.rings.all (fun e =>
      e.1 = index || e.2.st = 0 || !(e.2.kind = 2 && e.2.loc = 1 && e.2.link = x.link)),
    q.free ≠ 0 ]

/-- The checks of ENABLE of a completion ring, in order (R355). -/
def Dev.cqChecks (s : Dev) (index : Nat) : List Bool :=
  let x := s.cq index
  let link := if x.loc = 0 then pmapLink (s.pmap x.pitch) else x.link
  [ 6 ≤ bits x.ctx 67 64 && bits x.ctx 67 64 ≤ 15 && x.loc ≤ 2,
    decide (bits x.ctx 63 0 % (if x.loc = 2 then 64 else 4096) = 0) && bits x.ctx 191 128 % 8 = 0,
    x.loc ≠ 0 || pmapValid (s.pmap x.pitch),
    x.loc = 2 || bits x.ctx 108 96 < s.vectors link,
    bits x.ctx 116 109 ≠ 0 ]

/-- The indices of a ring return to INIT_INDEX, its error slot is reserved and it is ACTIVE (R349, R354, R447). -/
def Dev.ringStart (s : Dev) (index : Nat) : Dev :=
  let x := s.ring index
  let q := s.cq x.cqNo
  let s := if x.errSlot then s else s.setCq x.cqNo { q with resv := q.resv + 1 }
  s.setRing index { x with p := x.init, c := x.init, f := x.init, done := x.init, st := 1, cqFull := false
                           errSlot := true, la := [], errCode := 0, errIndex := 0, errDue := false, batch := 0 }

/-- The effect of ENABLE (R354, R355). -/
def Dev.ringEnable (s : Dev) (table index tag : Nat) : Dev :=
  match table with
  | 0 =>
    if (s.ring index).st ≠ 0 then s.rngStatus tag 3 0 false
    else match firstFail (s.ringChecks index) with
      | 0 => (s.ringStart index).rngStatus tag 0 0 false
      | k => s.rngStatus tag 4 k false
  | 1 =>
    let x := s.cq index
    if x.enabled then s.rngStatus tag 3 0 false
    else match firstFail (s.cqChecks index) with
      | 0 => (s.setCq index { Cq.blank with ctx := x.ctx, enabled := true }).rngStatus tag 0 0 false
      | k => s.rngStatus tag 4 k false
  | _ => s.rngStatus tag 3 0 false

/-- What an accepted ENABLE does. -/
def Dev.ringActEnable (s : Dev) (table index tag : Nat) : Dev :=
  let ctx := if table = 0 then (s.ring index).ctx else (s.cq index).ctx
  if s.ringLocked table index ctx then s.rngStatus (tag % 2 ^ 16) 5 0 false
  else if s.ringPitchBad table index then s.rngStatus (tag % 2 ^ 16) 3 0 false
  else s.ringEnable table index (tag % 2 ^ 16)

/-- RING_ENABLE (R354, R355). -/
def execRingEnable (o : Origin) (table index tag : Nat) (s : State) : Outcome State Fault Refusal := s.act fun s =>
  .next (s.ringOp o 4 table index tag false false (fun s => s.ringActEnable table index tag))

/-- Free the error slot a ring holds. -/
def Dev.freeErrSlot (s : Dev) (index : Nat) : Dev :=
  let x := s.ring index
  if x.errSlot then
    let q := s.cq x.cqNo
    (s.setCq x.cqNo { q with resv := q.resv - 1 }).setRing index { x with errSlot := false }
  else s

/-- Begin the drain of RESET or DISABLE (R349): nothing more is accepted and the open batch closes. -/
def Dev.ringDrain (s : Dev) (index ctl tag : Nat) (disable : Bool) : Dev :=
  let s := s.closeBatch index
  let x := s.ring index
  let s := s.setRing index { x with st := 3, la := [], toDisable := disable }
  { s with rng := { s.rng with accBusy := some (ctl, index) } }.rngStatus tag 0 0 true

/-- The effect of DISABLE (R349, R352). -/
def Dev.ringDisable (s : Dev) (table index tag : Nat) : Dev :=
  match table with
  | 0 =>
    if (s.ring index).st = 1 ∨ (s.ring index).st = 2 then s.ringDrain index 5 tag true else s.rngStatus tag 3 0 false
  | 1 =>
    let x := s.cq index
    if x.enabled = false ∨ s.rng.rings.any (fun e => e.2.st ≠ 0 && e.2.cqNo = index) then s.rngStatus tag 3 0 false
    else (s.setCq index { x with enabled := false }).rngStatus tag 0 0 false
  | _ => s.rngStatus tag 3 0 false

/-- What an accepted DISABLE does. -/
def Dev.ringActDisable (s : Dev) (table index tag : Nat) : Dev :=
  if s.ringPitchBad table index then s.rngStatus (tag % 2 ^ 16) 3 0 false
  else s.ringDisable table index (tag % 2 ^ 16)

/-- RING_DISABLE (R349). -/
def execRingDisable (o : Origin) (table index tag : Nat) (s : State) : Outcome State Fault Refusal := s.act fun s =>
  .next (s.ringOp o 5 table index tag false false (fun s => s.ringActDisable table index tag))

/-- With SKIP, descriptor C is accepted as an item with no effect that completes with BAD_DESCRIPTOR (R349), where a descriptor is posted
and a slot is free for it (DESIGN CHOICE, log entry 142). -/
def Dev.skipItem (s : Dev) (index : Nat) : Dev :=
  let y := s.ring index
  let q := s.cq y.cqNo
  if y.c = y.p ∨ q.free = 0 then s
  else
    let it : Item := { ring := index, index := y.c, kind := y.kind, stage := 2, desc := [], frags := [], acceptVn := s.vn, user := 0
                       first := true, last := true, result := 0, retries := 0, ext := none, busy := true, filled := true, ord := s.nextOrd
                       sentMac := 0, sentTime := 0 }
    let s := (s.setCq y.cqNo { q with resv := q.resv + 1 }).setItem ⟨index, y.c⟩ (some { it with result := itemEntry it 0x0301 0 0 })
    let s := match y.owner with
      | some p => s.bump .PIT_ITEMS_ACCEPTED p
      | none => s
    s.setRing index { y with c := ixNext y.c, f := ixNext y.c, accepted := y.accepted + 1, lastVn := s.vn }

/-- The effect of RESUME (R349): a new error slot, ACTIVE, indices kept. An OVERRUN is cleared without any skip. An error entry not yet
posted keeps its own slot and its place after the items before it (R348). -/
def Dev.ringResume (s : Dev) (table index tag : Nat) (skip : Bool) : Dev :=
  let x := s.ring index
  if table ≠ 0 ∨ x.st ≠ 2 then s.rngStatus tag 3 0 false
  else if (s.cq x.cqNo).free = 0 then s.rngStatus tag 6 0 false
  else
    let q := s.cq x.cqNo
    let s := s.setCq x.cqNo { q with resv := q.resv + 1 }
    let s := s.setRing index { x with st := 1, errSlot := true, errDue := false, errCode := 0, errIndex := 0, f := x.c
                                      owed := if x.errDue then x.owed ++ [(x.errCode, x.errIndex, x.c)] else x.owed }
    let s := if skip ∧ x.errCode ≠ 1 then s.skipItem index else s
    s.rngStatus tag 0 0 false

/-- What an accepted RESUME does. -/
def Dev.ringActResume (s : Dev) (table index tag : Nat) (skip : Bool) : Dev :=
  if s.ringLocked table index (s.ring index).ctx then s.rngStatus (tag % 2 ^ 16) 5 0 false
  else if s.ringPitchBad table index then s.rngStatus (tag % 2 ^ 16) 3 0 false
  else s.ringResume table index (tag % 2 ^ 16) skip

/-- RING_RESUME (R349). -/
def execRingResume (o : Origin) (table index tag : Nat) (skip : Bool) (s : State) : Outcome State Fault Refusal := s.act fun s =>
  .next (s.ringOp o 6 table index tag skip false (fun s => s.ringActResume table index tag skip))

/-- What an accepted RESET does. -/
def Dev.ringActReset (s : Dev) (table index tag : Nat) : Dev :=
  let x := s.ring index
  if s.ringLocked table index x.ctx then s.rngStatus (tag % 2 ^ 16) 5 0 false
  else if s.ringPitchBad table index ∨ table ≠ 0 ∨ ¬ (x.st = 1 ∨ x.st = 2) then s.rngStatus (tag % 2 ^ 16) 3 0 false
  else s.ringDrain index 7 (tag % 2 ^ 16) false

/-- RING_RESET (R349): the drain begins. -/
def execRingReset (o : Origin) (table index tag : Nat) (s : State) : Outcome State Fault Refusal := s.act fun s =>
  .next (s.ringOp o 7 table index tag false false (fun s => s.ringActReset table index tag))

/-- The effect of a write of RNG_RING_ACC_CTL (R352). -/
def Dev.ringCtl (s : Dev) (o : Origin) (v : Nat) : Dev :=
  let table := bits v 17 16
  let index := bits v 15 0
  let tag := bits v 47 32
  let run := fun (write : Bool) (act : Dev → Dev) => s.ringBody o table index tag write act
  match bits v 20 18 with
  | 1 => run false (fun s => s.ringActRead table index tag)
  | 2 => run true (fun s => s.ringActWrite table index tag)
  | 3 => run false (fun s => s.ringActState table index tag)
  | 4 => run false (fun s => s.ringActEnable table index tag)
  | 5 => run false (fun s => s.ringActDisable table index tag)
  | 6 => run false (fun s => s.ringActResume table index tag (bit v 21))
  | 7 => run false (fun s => s.ringActReset table index tag)
  | _ => s

/-- RING_DRAIN_END (R349): the last accepted item has completed, and an error entry still due has been posted; a RESET
ends with a new error slot, or NO_SLOT and DISABLED, and a DISABLE frees it. -/
def execRingDrainEnd (ring : Nat) (s : State) : Outcome State Fault Refusal := s.act fun s =>
  let x := s.ring ring
  match s.rng.accBusy with
  | some (op, r) =>
    if r ≠ ring ∨ x.st ≠ 3 ∨ x.done ≠ x.c ∨ x.errDue ∨ x.owed ≠ [] then .next s
    else
      let tag := s.fld .RNG_RING_ACC_STATUS 0 31 16
      let s := { s with rng := { s.rng with accBusy := none } }
      if op = 5 then
        let s := s.freeErrSlot ring
        .next ((s.setRing ring { s.ring ring with st := 0 }).rngStatus tag 0 0 false)
      else if x.errSlot = false ∧ (s.cq x.cqNo).free = 0 then
        .next ((s.setRing ring { x with st := 0 }).rngStatus tag 6 0 false)
      else .next ((s.ringStart ring).rngStatus tag 0 0 false)
  | none => .next s

/-- The effect of a write of RNG_FW_DONE by the server thread (R347): the item's release. -/
def Dev.fwDone (s : Dev) (k v : Nat) : Dev :=
  let ref : ItemRef := ⟨bits v 47 32, bits v 31 0⟩
  let x := s.ring ref.ring
  match s.item ref with
  | some y =>
    if x.kind = 5 ∧ x.server = k ∧ y.stage = 1 then s.releaseWith ref (bits v 63 48) 0 0
    else s.bump .RNG_FW_DONE_BAD 0
  | none => s.bump .RNG_FW_DONE_BAD 0

/-- FW_DONE (R347): a write of RNG_FW_DONE; from any origin but the server it is dropped and counted. -/
def execFwDone (o : Origin) (index ring status : Nat) (s : State) : Outcome State Fault Refusal := s.act fun s =>
  let v := index % 2 ^ 32 + ring % 2 ^ 16 * 2 ^ 32 + status % 2 ^ 16 * 2 ^ 48
  .next (s.regWrite o .RNG_FW_DONE 0 8 v fun s =>
    match o with
    | .thread c t => s.fwDone (ctxKey c t) v
    | _ => s.bump .RNG_FW_DONE_BAD 0)

end Sys2Proof.Machine
end

