-- ==== Sys2Proof/Machine/Epoch.lean ====
section
/-! DEFINITION. Rule epochs and traffic pause (R95 to R122): the images of the versioned tables' entries, frames per epoch,
commits, retirement, pauses. Epochs are counted from 0 without wrapping; the number in a register or a stamp is the
count modulo 256. -/

namespace Sys2Proof.Machine

open Host

/-! ### Entries and images (R99 to R103, R123) -/

/-- An entry that nothing has written. -/
def TblEntry.blank : TblEntry := { images := [], staged := none, closed := none, age := 0, bad := false }

/-- The key of entry `i` of a table. -/
def entKey (code i : Nat) : Nat := code * 2 ^ 32 + i

/-- Entry `i` of a table. -/
def Dev.entry (s : Dev) (code i : Nat) : TblEntry := Sparse.get (fun _ => TblEntry.blank) s.tbl.entries (entKey code i)

/-- An entry with one all-zero image holds what an unwritten one holds. -/
def TblEntry.norm (e : TblEntry) : TblEntry :=
  match e.images with
  | [(_, 0)] => { e with images := [] }
  | _ => e

/-- Store entry `i` of a table. -/
def Dev.setEntry (s : Dev) (code i : Nat) (e : TblEntry) : Dev :=
  { s with tbl := { s.tbl with entries := Sparse.set (fun _ => TblEntry.blank) s.tbl.entries (entKey code i) e.norm } }

/-- The image an epoch reads: the newest made in it or before (R97). -/
def TblEntry.at (e : TblEntry) (epoch : Nat) : Nat := ((e.images.find? (fun x => decide (x.1 ≤ epoch))).map Prod.snd).getD 0

/-- The image a VERSIONED port reads: the staged one, else the current epoch's (R101). -/
def TblEntry.view (e : TblEntry) (cur : Nat) (direct : Bool) : Nat :=
  if direct then e.at cur else e.staged.getD (e.at cur)

/-- Every image an entry holds, live, closed and staged. -/
def TblEntry.all (e : TblEntry) : List Nat := e.images.map Prod.snd ++ e.closed.toList ++ e.staged.toList

/-- The slots of the open staging set in use (R100). -/
def Dev.stagedCount (s : Dev) : Nat := (s.tbl.entries.filter (fun e => e.2.staged.isSome)).length

/-- The entries of the closed set. -/
def Dev.closedCount (s : Dev) : Nat := (s.tbl.entries.filter (fun e => e.2.closed.isSome)).length

/-- Change every entry. -/
def Dev.mapEntries (s : Dev) (f : TblEntry → TblEntry) : Dev :=
  { s with tbl := { s.tbl with entries :=
      (s.tbl.entries.map (fun e => (e.1, (f e.2).norm))).filter (fun e => !decide (e.2 = TblEntry.blank)) } }

/-- Free the images that only epochs older than `oldest` could read (R111). -/
def pruneImages (oldest : Nat) : List (Nat × Nat) → List (Nat × Nat)
  | [] => []
  | (e, v) :: l => if e ≤ oldest then [(e, v)] else (e, v) :: pruneImages oldest l

/-! ### Frames of an epoch (R110, R112) -/

/-- The frames inside of an epoch (R110). -/
def Dev.epochFrames (s : Dev) (e : Nat) : Nat := (s.framesIf (fun f => f.stamped && f.epoch = e)).length

/-- The cluster that holds a frame, if one does. -/
def FrameLoc.cluster : FrameLoc → Option Nat
  | .puntQueue c _ => some c | .thread c _ => some c | .stepHeld c _ => some c | _ => none

/-- EPC_PARKED[c]: frames of the oldest live epoch in cluster `c` (R112). -/
def Dev.parked (s : Dev) (c : Nat) : Nat :=
  (s.framesIf (fun f => f.stamped && f.epoch = s.epc.oldest && f.loc.cluster = some c)).length

/-- Live epochs (R96). -/
def Dev.liveEpochs (s : Dev) : Nat := s.epc.cur + 1 - s.epc.oldest

/-- The oldest live epoch retires when no frame of it remains and it is not the current one (R111). -/
def Dev.canRetire (s : Dev) : Bool := s.epc.oldest < s.epc.cur && s.epochFrames s.epc.oldest = 0

/-- Retire epochs in age order, at most `n` (R111). -/
def Dev.retire (s : Dev) : Nat → Dev
  | 0 => s
  | n + 1 =>
    if s.canRetire then
      let o := s.epc.oldest + 1
      (({ s with epc := { s.epc with oldest := o } }.mapEntries (fun e => { e with images := pruneImages o e.images }))).retire n
    else s

/-- Admission and egress hand-over are held by a pause (R115). -/
def Dev.held (s : Dev) : Bool := s.epc.pauseFrom.isSome

/-! ### EPC_STATUS (R121, R122) -/

/-- EPC_STATUS with PAUSED and HELD as they stand. -/
def Dev.epcFlags (s : Dev) (v : Nat) : Nat := putBits v 3 2 (b2n s.epc.pauseFrom.isSome * 2 + b2n s.epc.heldC.isSome)

/-- PAUSED and HELD follow the epoch machinery between its events. -/
def Dev.epcRefresh (s : Dev) : Dev := s.wr .EPC_STATUS 0 (s.epcFlags (s.rd .EPC_STATUS 0))

/-- Report an event of the epoch machinery. -/
def Dev.epcStatus (s : Dev) (tag detail result : Nat) : Dev :=
  s.wr .EPC_STATUS 0 (s.epcFlags (tag * 2 ^ 16 + detail * 2 ^ 8 + result * 2 ^ 4 + bits (s.rd .EPC_STATUS 0) 1 0))

/-- The volleys that the apply of a pause of `n` entries lasts (R114). -/
def pauseLen (n : Nat) : Nat := (n + 4095) / 4096

/-- The record of a commit (R120, R525): the PIPE block, old and new CURRENT (which a pause and an empty set leave as it is, R108,
R115), what became of it, the number of entries in NEW bytes 4 to 7 (DESIGN CHOICE, log entry 19), and the boundary. The record of
an abandonment carries 2, a refusal, in NEW byte 2, of which R525 says nothing (DESIGN CHOICE, log entry 112). -/
def Dev.epcRec (s : Dev) (o : Origin) (pause : Bool) (n what vn : Nat) : LogRec :=
  let new := (if pause ∨ n = 0 then s.epc.cur else s.epc.cur + 1) % 256
  mkRec o 3 (blkId 6) 0x100 (some (s.epc.cur % 256)) (new + what * 2 ^ 16 + n % 2 ^ 32 * 2 ^ 32 + vn % 2 ^ 64 * 2 ^ 64) 0

/-- Close the open staging set as a commit (R104). -/
def Dev.closeSet (s : Dev) (c : Commit) : Dev :=
  let n := s.stagedCount
  let id := s.log.nextId
  let s := s.logPrio (s.epcRec c.o c.pause n 0 c.due)
  let s := s.mapEntries (fun e => { e with closed := e.staged, staged := none })
  { s with epc := { s.epc with closed := some { c with recNo := id, count := n }, waited := 0, busy := none } }

/-- The closed set returns to being the open set, with the changes of the newer open set merged after it (R109, R116). -/
def Dev.reopen (s : Dev) : Dev :=
  { (s.mapEntries (fun e => { e with staged := e.staged.orElse (fun _ => e.closed), closed := none })) with
    epc := { s.epc with closed := none } }

/-- A held commit closes the open set at the boundary at which the waiting one ends, and applies no earlier than the next
boundary (R105). After an abandonment it closes the merged open set at once (DESIGN CHOICE, log entry 113). A PAUSE commit whose set
has meanwhile grown beyond R114 is refused here (DESIGN CHOICE, log entry 114). -/
def Dev.promote (s : Dev) : Dev :=
  match s.epc.heldC with
  | none => s
  | some h =>
    let s := { s with epc := { s.epc with heldC := none } }
    if h.pause ∧ 496 < pauseLen s.stagedCount then s.epcStatus h.tag 1 5
    else (s.closeSet { h with due := max h.due (s.vn + 1) }).epcRefresh

/-- EPC_COMMIT (R104 to R106, R109, R114, R122): a write with GO; the first refusal in the order of R122 is reported. -/
def Dev.epcCommit (s : Dev) (o : Origin) (tag : Nat) (timed early : Bool) : Dev :=
  let pause := decide (s.fld .EPC_MODE 0 0 0 = 1)
  let target := s.rd .EPC_TARGET_VN 0
  let due := if timed then target else s.untimedDue early
  let busy := s.epc.closed.isSome
  if s.mode = .lockdown then s.epcStatus tag 0xFD 5
  else if s.epc.heldC.isSome then s.epcStatus tag 3 5
  else if timed ∧ target < s.untimedDue early then s.epcStatus tag 0xFE 5
  else if timed ∧ s.vn + 2 ^ 32 < target then s.epcStatus tag 0xFF 5
  else if pause ∧ 496 < pauseLen s.stagedCount then s.epcStatus tag 1 5
  else
    let c : Commit := { o, tag, timed, target := due, due, pause, recNo := 0, count := 0 }
    if busy then { s with epc := { s.epc with heldC := some c } }.epcStatus tag 0 1
    else (s.closeSet c).epcStatus tag 0 1

/-- EPC_COMMIT (R104): `early` tells that it was received at least 20 ns before the volley ends. -/
def execEpcCommit (o : Origin) (tag : Nat) (timed early : Bool) (s : State) : Outcome State Fault Refusal := s.act fun s =>
  let tag := tag % 2 ^ 16
  .next (s.regWrite o .EPC_COMMIT 0 4 (tag * 2 ^ 16 + b2n timed * 2 + 1) fun s => s.epcCommit o tag timed early)

/-- The effect of a write to EPC_MODE (R113). -/
def Dev.epcMode (s : Dev) (v : Nat) : Dev :=
  if s.stagedCount = 0 ∧ s.epc.closed.isNone ∧ s.epc.heldC.isNone ∧ s.epc.pauseFrom.isNone then s.wr .EPC_MODE 0 (bits v 0 0)
  else s.setFld .EPC_STATUS 0 0 0 1

/-- EPC_MODE_WRITE (R113). -/
def execEpcModeWrite (o : Origin) (v : Nat) (s : State) : Outcome State Fault Refusal := s.act fun s =>
  .next (s.regWrite o .EPC_MODE 0 4 v fun s => s.epcMode v)

/-- The rewrite of frozen TENANT entries that clear when it becomes visible (R159). -/
def Dev.clearRewritten (s : Dev) : Dev :=
  forEach s.tbl.iso s (fun s e =>
    if e.2.clearing ∧ (s.entry (e.1 / 2 ^ 32) (e.1 % 2 ^ 32)).closed.isSome then
      s.setIso (e.1 / 2 ^ 32) (e.1 % 2 ^ 32) none
    else s)

/-- A commit that took effect at boundary `v` completes: the status, LATE of a timed one that missed its target (R106, R523), and the
held one, if any, closes the open set. -/
def Dev.commitDone (s : Dev) (c : Commit) (result v : Nat) : Dev :=
  let s := { s with epc := { s.epc with closed := none, waited := 0, busy := none } }.epcStatus c.tag 0 result
  (if c.timed && decide (c.target < v) then s.setFld .EPC_STATUS 0 1 1 1 else s).promote

/-- A commit that is due, sealed, and either empty or not a pause (R104, R108). -/
def Dev.commitDue (s : Dev) : Option Commit :=
  s.epc.closed.filter (fun c => (!c.pause || decide (c.count = 0)) && decide (c.due ≤ s.vn) && s.sealedBefore c.recNo)

/-- The commit that applies at this boundary: an empty one, or one for which fewer than four epochs are live after the retirements
(R107, R108). -/
def Dev.commitNow (s : Dev) : Option Commit := s.commitDue.filter (fun c => c.count = 0 || decide (s.liveEpochs - s.epc.retirable < 4))

/-- The retirements of this boundary (R111), in age order. -/
def Dev.retireNow (s : Dev) : Dev :=
  let t := s.retire s.epc.retirable
  { t with epc := { t.epc with retirable := 0 } }

/-- The closed set becomes the image of a new epoch (R104). -/
def Dev.newEpoch (s : Dev) : Dev :=
  let e := s.epc.cur + 1
  let s := s.clearRewritten
  let s := s.mapEntries (fun x => match x.closed with
    | some v => { x with images := (e, v) :: x.images, closed := none, bad := false }
    | none => x)
  { s with epc := { s.epc with cur := e } }

/-- COMMIT_APPLIES (R104, R107, R108, R111): at a boundary, after the retirements due at it. With four epochs live the
commit goes on waiting. -/
def execCommitApplies (s : State) : Outcome State Fault Refusal := s.act fun s =>
  match s.commitNow with
  | none => .next s
  | some c =>
    let s := s.retireNow
    if c.count = 0 then .next (s.commitDone c 4 s.vn)
    else .next (((s.newEpoch.wr .EPC_COMMIT_VN 0 s.vn).bump .EPC_COMMITS 0).commitDone c 3 s.vn)

/-- The waiting of a due commit at a boundary (R107): four epochs live and none to retire. The event is its beginning, and each
change of the oldest epoch (R122). -/
def Dev.commitBusy (s : Dev) : Dev :=
  match s.commitDue with
  | some c =>
    if s.commitNow.isNone then
      let s := s.bump .EPC_BUSY_VOLLEYS 0
      let old := s.epc.oldest % 256
      let s := if s.epc.busy = some old then s else s.epcStatus c.tag old 2
      { s with epc := { s.epc with waited := s.epc.waited + 1, busy := some old } }
    else s
  | none => s

/-- How many epochs retire in turn from the oldest on (R111), of at most `n`. -/
def Dev.retireCount (s : Dev) : Nat → Nat
  | 0 => 0
  | n + 1 =>
    if s.epc.oldest + n < s.epc.cur && (List.range (n + 1)).all (fun j => s.epochFrames (s.epc.oldest + j) = 0) then n + 1
    else s.retireCount n

/-- RETIREMENT (R111): at a boundary; epochs retire in age order, several in turn. -/
def execRetirement (s : State) : Outcome State Fault Refusal := s.act fun s => .next s.retireNow

/-- The cluster with the largest EPC_PARKED, the lowest on a tie (R112). -/
def Dev.mostParked (s : Dev) : Nat :=
  (List.range 8).foldl (fun b c => if s.parked b < s.parked c then c else b) 0

/-- A commit has waited EPC_STALL_VOLLEYS boundaries since it began or since the last whistle (R112). -/
def Dev.stallDue (s : Dev) : Bool := decide (max 25000 (s.rd .EPC_STALL_VOLLEYS 0) ≤ s.epc.waited)

/-- EPOCH_STALL (R112): raised by the PIPE block after every EPC_STALL_VOLLEYS boundaries of waiting. -/
def execEpochStall (s : State) : Outcome State Fault Refusal := s.act fun s =>
  if s.stallDue then
    .next ({ s with epc := { s.epc with waited := 0 } }.whistle 0x07 (blkId 6) 0 (s.epc.oldest % 256 + s.mostParked * 2 ^ 8))
  else .next s

/-! ### Traffic pause (R113 to R118) -/

/-- A pause that is due holds admission from this boundary on (R115). -/
def Dev.holdDue (s : Dev) : Bool :=
  s.epc.closed.any (fun c => c.pause && decide (c.count ≠ 0) && decide (c.due ≤ s.vn) && s.sealedBefore c.recNo) && s.epc.pauseFrom.isNone

/-- The first boundary by which a pause must have drained: V+1+500−A (R116). -/
def Dev.pauseEnd (s : Dev) : Nat := s.epc.pauseFrom.getD 0 + 500 - pauseLen ((s.epc.closed.map (fun c => c.count)).getD 0)

/-- A pause is in its drain. -/
def Dev.draining (s : Dev) : Bool := s.epc.closed.isSome && s.epc.pauseFrom.isSome && s.epc.applyFrom.isNone

/-- The drain of a pause has ended by this boundary, in time (R115). -/
def Dev.applyDrained (s : Dev) : Bool := s.draining && s.epc.drained && decide (s.vn ≤ s.pauseEnd)

/-- The drain of a pause has not ended in time (R116). -/
def Dev.abandonDue (s : Dev) : Bool := s.draining && !s.applyDrained && decide (s.pauseEnd ≤ s.vn)

/-- The apply of a pause ends at this boundary (R115). -/
def Dev.resumeDue (s : Dev) : Bool :=
  match s.epc.closed, s.epc.pauseFrom, s.epc.applyFrom with
  | some c, some _, some d => decide (d + pauseLen c.count ≤ s.vn)
  | _, _, _ => false

/-- PAUSE_HOLD (R115): at V+1 of an accepted PAUSE commit. -/
def execPauseHold (s : State) : Outcome State Fault Refusal := s.act fun s =>
  match s.epc.closed with
  | some c =>
    if s.holdDue then .next (({ s with epc := { s.epc with pauseFrom := some s.vn } }.bump .EPC_PAUSES 0).epcStatus c.tag 0 6)
    else .next s
  | none => .next s

/-- Every ingress pipeline, egress pipeline and crypto lane is empty (R115): no frame is in one, and no item in a lane. The egress
pipelines carry out a frame in one step. -/
def Dev.pipesEmpty (s : Dev) : Bool :=
  (s.framesIf (fun f => decide (f.loc = .flowMiss ∨ f.loc = .crypto))).isEmpty && s.cry.jobs.isEmpty

/-- What the boundary finds: the epochs that retire at it (R111), and whether a drain has ended (R115). -/
def Dev.epochScan (s : Dev) : Dev := { s with epc := { s.epc with retirable := s.retireCount 4, drained := s.pipesEmpty } }

/-- PAUSE_APPLY (R115): the drain has ended, in time; D is this boundary. -/
def execPauseApply (s : State) : Outcome State Fault Refusal := s.act fun s =>
  if s.applyDrained then .next { s with epc := { s.epc with applyFrom := some s.vn } } else .next s

/-- Every staged image of a pause replaces the entry's image in every live epoch (R115). -/
def Dev.pauseImages (s : Dev) : Dev :=
  s.clearRewritten.mapEntries (fun x => match x.closed with
    | some i => { x with images := [(0, i)], closed := none, bad := false }
    | none => x)

/-- PAUSE_RESUME (R115): A volleys after D, every staged image has replaced the entry's image in every live epoch. -/
def execPauseResume (s : State) : Outcome State Fault Refusal := s.act fun s =>
  match s.epc.closed, s.epc.pauseFrom with
  | some c, some v =>
    if s.resumeDue then
      let s := s.pauseImages
      let s := { s with epc := { s.epc with pauseFrom := none, applyFrom := none } }
      .next ((((s.wr .EPC_PAUSE_HOLD 0 (s.vn - v)).wr .EPC_COMMIT_VN 0 s.vn).bump .EPC_COMMITS 0).commitDone c 3 v)
    else .next s
  | _, _ => .next s

/-- PAUSE_ABANDONED (R116): the drain has not ended by V+1+500−A. -/
def execPauseAbandoned (s : State) : Outcome State Fault Refusal := s.act fun s =>
  match s.epc.closed with
  | some c =>
    if s.abandonDue then
      let s := s.logPrio (s.epcRec .device true c.count 2 s.vn)
      let s := s.reopen
      let s := { s with epc := { s.epc with pauseFrom := none } }
      let s := ((s.bump .EPC_PAUSE_ABANDONED 0).epcStatus c.tag 2 7).whistle 0x08 (blkId 6) 0 1
      .next s.promote
    else .next s
  | none => .next s

/-- On entry to LOCKDOWN a commit that waits or is held, and a pause still in its drain, are refused at once (R109). -/
def Dev.refuseCommits (s : Dev) : Dev :=
  match s.epc.closed, s.epc.applyFrom with
  | some c, none =>
    let s := s.logPrio (s.epcRec .device c.pause c.count 2 s.vn)
    let s := s.reopen
    let h := s.epc.heldC
    let s := { s with epc := { s.epc with pauseFrom := none, heldC := none } }.epcStatus c.tag 0xFD 5
    (match h with
      | some h => s.epcStatus h.tag 0xFD 5
      | none => s)
  | _, _ =>
    match s.epc.heldC with
    | some h => { s with epc := { s.epc with heldC := none } }.epcStatus h.tag 0xFD 5
    | none => s

/-- A reset that reaches the PIPE or TBL block (R119): the sets and any held commit are discarded, the current epoch is
the one live epoch, and EPC_STATUS returns to reset. -/
def Dev.resetEpochs (s : Dev) : Dev :=
  let cur := s.epc.cur
  let s := s.mapEntries (fun e => { e with staged := none, closed := none, images := pruneImages cur e.images })
  let s := { s with epc := { Dev.reset.epc with cur := cur, oldest := cur } }
  s.wr .EPC_STATUS 0 0

end Sys2Proof.Machine
end

