-- ==== Sys2Proof/Machine/Due.lean ====
section
/-! DEFINITION. What is due at the present boundary (R7, R20): the actions that take place on volley boundaries, each with the test
that its row makes, and the order they impose on the boundary after and on the datapath. -/

namespace Sys2Proof.Machine

open Host

/-! ### Gate lists (R202 to R208) -/

/-- DURATION of a gate-list entry (R202). -/
def gateDur (e : Nat) : Nat := bits e 23 0

/-- GATES of a gate-list entry (R202). -/
def gateBits (e : Nat) : Nat := bits e 31 24

/-- The start offset and the gates of each entry of a list, from offset `t` on. -/
def gateStarts : List Nat → Nat → List (Nat × Nat)
  | [], _ => []
  | e :: es, t => (t, gateBits e) :: gateStarts es (t + gateDur e)

/-- The cycle of a list in volleys. -/
def gateCycle (es : List Nat) : Nat := sumNat (es.map gateDur)

/-- The entry of a list that runs at an offset in the cycle. -/
def gateEntry (es : List Nat) (off : Nat) : Nat := ((gateStarts es 0).filter (fun x => decide (x.1 ≤ off))).length - 1

/-- The volley of the next boundary after `v` at which the gate of class `c` closes, under a list of base volley `b`. -/
def gateClose (es : List Nat) (b c v : Nat) : Option Nat :=
  let cyc := gateCycle es
  let off := (v - b) % cyc
  ((gateStarts (es ++ es) 0).find? (fun x => decide (off < x.1) && !bit x.2 c)).map (fun x => v - off + x.1)

/-- The longest span in volleys during which the gate of class `c` stays open, counted across the end of the cycle;
nothing when it never closes (R207). -/
def gateSpan (es : List Nat) (c : Nat) : Option Nat :=
  if es.all (fun e => bit (gateBits e) c) then none
  else some ((es ++ es).foldl (fun (r : Nat × Nat) e =>
    let cur := if bit (gateBits e) c then r.1 + gateDur e else 0
    (cur, max r.2 cur)) (0, 0)).2

/-- An operational list is in force at a port (R209). -/
def Dev.gated (s : Dev) (p : Nat) : Bool := s.fld .SCH_GATE_STATUS p 3 3 = 1

/-- The operational list of a port. -/
def Dev.gateList (s : Dev) (p : Nat) : List Nat :=
  (List.range (s.fld .SCH_GATE_STATE p 20 10)).map (fun i => s.rd .SCH_GATE_OPER (1024 * p + i))

/-- The base volley of the operational list. -/
def Dev.gateBase (s : Dev) (p : Nat) : Nat := s.rd .SCH_GATE_OPER_BASE p / 40

/-- The gate of class `c` of a port is open now (R203). -/
def Dev.gateOpen (s : Dev) (p c : Nat) : Bool := bit (s.fld .SCH_GATE_STATE p 28 21) c

/-- The pending change of a port. -/
def Dev.gateChange (s : Dev) (p : Nat) : Option GateChange := Sparse.get? s.sch.change p

/-- GATE_TRANSITION is due (R203): the operational list runs, and another entry of it than the one shown. -/
def Dev.gateStale (s : Dev) (p : Nat) : Bool :=
  s.gated p && decide (s.gateBase p ≤ s.vn) &&
    (let es := s.gateList p
     let i := gateEntry es ((s.vn - s.gateBase p) % gateCycle es)
     decide (s.fld .SCH_GATE_STATE p 9 0 ≠ i) || decide (s.fld .SCH_GATE_STATE p 28 21 ≠ gateBits (es.getD i 0)))

/-- A pending gate change is due (R205): its volley X is reached and its record sealed (R523). -/
def Dev.gateDue (s : Dev) (p : Nat) : Bool := (s.gateChange p).any (fun g => decide (g.x ≤ s.vn) && s.sealedBefore g.recNo)

/-! ### Applies, changes of mode and resets -/

/-- A WAITING apply is due: its boundary is reached and its record sealed (R23, R523). -/
def Dev.waitDue (s : Dev) (w : ApplyWait) : Bool := w.due ≤ s.vn && s.sealedBefore w.recNo

/-- The order in which triggers of one boundary are taken (R35): fences, the clear, then commands. -/
def modeRank (r : ModeReq) : Nat := if r.cause = 2 then 0 else if r.cause = 3 then 1 else 2

/-- Requests in the order of R35. -/
def inModeOrder (l : List ModeReq) : List ModeReq :=
  l.filter (fun r => modeRank r = 0) ++ l.filter (fun r => modeRank r = 1) ++ l.filter (fun r => modeRank r = 2)

/-- The request that is taken next at this boundary: due, with its record sealed (R36). -/
def Dev.modeNext (s : Dev) : Option ModeReq :=
  (inModeOrder (s.modeReqs.filter (fun r => r.due ≤ s.vn && s.sealedBefore r.recNo))).head?

/-- The device is powered and takes resets. -/
def Dev.awake (s : Dev) : Bool := !s.bcp.off && s.mode != .dormant

/-- The reset whose boundary has come: a volley after it was taken, with its record sealed and the committed steps released
(R495). -/
def Dev.resetNext (s : Dev) : Option ResetRun :=
  s.jnl.resets.find? (fun z => z.v < s.vn && s.sealedBefore z.recNo && s.dor.releases.isEmpty)

/-! ### The Referee (R467, R475, R479) -/

/-- The fence that takes force at this boundary: decided before it, its record sealed (R475). -/
def Dev.fenceNext (s : Dev) : Option FenceDue :=
  (s.ref.due.filter (fun d => d.d < s.vn && s.sealedBefore d.recNo)).foldl (fun best d => match best with
    | none => some d
    | some b => if (servedPos s d.unit).getD 0 < (servedPos s b.unit).getD 0 then some d else best) none

/-- The readmission of this boundary: the test passed before it, its record sealed (R479). -/
def Dev.readmitNext (s : Dev) : Option FenceDue := s.ref.passed.find? (fun d => d.d < s.vn && s.sealedBefore d.recNo)

/-- The substitutions due at this boundary, the lowest position first. -/
def Dev.substNext (s : Dev) : Option Subst :=
  let l := s.ref.subst.filter (fun x => x.d + 2 ≤ s.vn && x.recNo.all (fun n => s.sealedBefore n))
  l.foldl (fun best x => match best with
    | none => some x
    | some b => if x.pos.getD 0 < b.pos.getD 0 then some x else best) none

/-- The window entries in use, ascending. -/
def Dev.winUsed (s : Dev) : List Nat :=
  ((s.regs.filter (fun e => Reg.ofKey e.1 = .REF_WIN && Reg.ixOf e.1 % 2 = 0)).map (fun e => Reg.ixOf e.1 / 2)).filter
    (fun i => s.fld .REF_WIN (2 * i) 63 63 = 1)

/-- A unit of a class does not finish its boundary work in this volley (R20, R21). -/
def Dev.lateClass (s : Dev) (c : Nat) : Bool := s.clk.late.any (fun u => bits u 23 16 = c)

/-- A unit is found not to finish its boundary work in this volley: the volley counts at its end (R21). -/
def Dev.lateUnit (s : Dev) (u : Nat) : Dev :=
  if s.clk.late.contains u then s else { s with clk := { s.clk with late := s.clk.late ++ [u] } }

/-- The window of an entry has ended (R467), unless the ticks of this boundary are deferred to the next (R20). -/
def Dev.winDue (s : Dev) (i : Nat) : Bool :=
  decide (s.fld .REF_WIN (2 * i) 63 63 = 1) && !s.lateClass 0x0F &&
    decide (s.rd .REF_WIN (2 * i + 1) + 25000 * s.fld .REF_KIND_CFG (s.fld .REF_WIN (2 * i) 31 24) 21 0 ≤ s.vn)

/-! ### Checkpoints (R500) -/

/-- A checkpoint image starts at this boundary, or the one before is late (R20, R500). -/
def Dev.ckptDue (s : Dev) : Bool :=
  s.awake && decide (s.jnl.fail = 0) && decide (s.vn % 25000 = 0) && decide (s.vn ≠ 0) && decide (s.rd .JNL_CKPT_VN 0 ≠ s.vn) &&
    (match s.jnl.ckptRun with
     | some (_, v, _) => decide (v ≠ s.vn) && !s.jnl.ckptLate
     | none => true)

/-! ### The boundary as a whole -/

/-- A power failure takes hold at this boundary (R502, V0). -/
def Dev.failDue (s : Dev) : Bool := decide (s.jnl.fail = 1) && decide (s.jnl.failVn ≤ s.vn)

/-- Every action due at this boundary has taken place. The boundary after waits for it, and so does the datapath (R7, R217; DESIGN
CHOICE, log entry 6). -/
def Dev.boundaryDone (s : Dev) : Bool :=
  !s.waits.any s.waitDue && (List.range 32).all (fun p => !s.gateDue p && !s.gateStale p)
    && s.commitNow.isNone && decide (s.epc.retirable = 0) && !s.stallDue && !s.holdDue && !s.applyDrained && !s.resumeDue && !s.abandonDue
    && s.modeNext.isNone && s.resetNext.isNone && s.fenceNext.isNone && s.readmitNext.isNone && s.substNext.isNone
    && s.winUsed.all (fun i => !s.winDue i) && !s.ckptDue && !s.failDue && s.dorDone && s.swb.hold.all (fun e => decide (s.vn < e.2))

/-- The datapath runs: the boundary's actions have taken place, and neither the mode nor a power failure stops it (R33, R38, R502). -/
def Dev.pathOpen (s : Dev) : Bool :=
  s.boundaryDone && s.awake && !s.frozen && decide (s.mode ≠ .lockdown)

end Sys2Proof.Machine
end

