-- ==== Sys2Proof/Machine/Tables.lean ====
section
/-! DEFINITION. The tables of the TBL block (R123 to R162): image layouts, hashes, lookups, the command ports, cuckoo
insertion, learning, aging, parity and the shadow sweep. -/

namespace Sys2Proof.Machine

open Host

/-! ### Tables and images (R123, R127 to R134) -/

/-- The image width of a table in bits (R123); 0 for a code not used. -/
def tblBits : Nat → Nat
  | 0 => 512 | 1 => 1472 | 2 => 384 | 3 => 256 | 4 => 512 | 5 => 128 | 6 => 128 | 7 => 1024 | _ => 0

/-- The number of entries of a table (R123, R129). -/
def Dev.tblSize (s : Dev) : Nat → Nat
  | 0 => 1048576 | 1 => 32768 | 2 => 2097152 | 3 => 262144 | 4 => 8 * 2 ^ s.fld .TBL_FLOW_CFG 0 4 0
  | 5 => 4194304 | 6 => 16384 | 7 => 16384 | _ => 0

/-- The tables that have an image per epoch (R99). -/
def tblVersioned (code : Nat) : Bool := code ≤ 4 || code = 6

/-- The bits of an image that a write keeps: reserved bits and the read-only AGE and route VALID read their own values. -/
def tblMask (code v : Nat) : Nat :=
  match code with
  | 0 => putBits (bits v 235 0) 199 192 0
  | 1 => bits v 1431 0
  | 2 => bits v 299 0 + 2 ^ 300
  | 3 => bits v 195 0
  | 4 => bits v 485 0
  | 5 => bits v 127 0
  | 6 => bits v 36 0
  | _ => bits v 936 0 + b2n (bit v 944) * 2 ^ 944

/-- The VALID bit of an image. -/
def tblValidBit : Nat → Nat
  | 0 => 188 | 1 => 1408 | 2 => 300 | 3 => 195 | 4 => 471 | 6 => 36 | _ => 944

/-- An image is VALID. -/
def tblValid (code v : Nat) : Bool := bit v (tblValidBit code)

/-- The key fields of an image: FID and MAC, VNI, the FLOW key, or AF, VRF, LEN and PREFIX of a route. -/
def tblKey (code v : Nat) : Nat :=
  match code with
  | 0 => bits v 187 128
  | 2 => bits v 275 128 + b2n (bit v 299) * 2 ^ 148
  | 4 => bits v 319 0
  | _ => bits v 23 0

/-- The current age stamp of a table (R152). -/
def Dev.ageNow (s : Dev) (code : Nat) : Nat :=
  if code = 4 then s.fld .TBL_AGE_NOW 0 15 8 else s.fld .TBL_AGE_NOW 0 7 0

/-- An image as a read returns it, with the entry's age stamp in place (R127, R129). -/
def tblRead (code v age : Nat) : Nat :=
  match code with
  | 0 => putBits v 199 192 age
  | 4 => putBits v 493 486 age
  | _ => v

/-- The listed entries of a table with their indices. -/
def Dev.tblList (s : Dev) (code : Nat) : List (Nat × TblEntry) :=
  (s.tbl.entries.filter (fun e => e.1 / 2 ^ 32 = code)).map (fun e => (e.1 % 2 ^ 32, e.2))

/-- A slot is free when no image it holds is VALID (R145). -/
def slotFree (code : Nat) (e : TblEntry) : Bool := e.all.all (fun v => !tblValid code v)

/-- The pitch an image is charged to (R440). -/
def tblOwner (code v : Nat) : Option Nat :=
  match code with
  | 0 => if bit v 188 && bit v 235 then some (bits v 234 223) else none
  | 4 => if bit v 471 && bit v 485 then some (bits v 484 473) else none
  | _ => none

/-- The slots charged to a pitch by their newest image (R440). -/
def Dev.pitchSlots (s : Dev) (code p : Nat) : Nat :=
  ((s.tblList code).filter (fun e => tblOwner code (e.2.view s.epc.cur false) = some p)).length

/-- A write of image `v` to an entry would raise a pitch above its limit (R440). -/
def Dev.quotaBar (s : Dev) (code : Nat) (e : TblEntry) (v : Nat) (direct : Bool) : Bool :=
  match tblOwner code (if direct then e.staged.getD v else v) with
  | none => false
  | some p =>
    tblOwner code (e.view s.epc.cur false) ≠ some p &&
      decide ((if code = 0 then s.quota p 40 20 else s.quota p 68 41) ≤ s.pitchSlots code p)

/-- A write would need a staging slot beyond the limit: 65,536 in VERSIONED mode (R100), and in PAUSE mode the 2,097,152 entries of
the device area (R125), which end a command STAGE_FULL as well (DESIGN CHOICE, log entry 5). -/
def Dev.stageBar (s : Dev) (code : Nat) (e : TblEntry) (direct : Bool) : Bool :=
  tblVersioned code && !direct && e.staged.isNone &&
    decide ((if s.fld .EPC_MODE 0 0 0 = 1 then 2097152 else 65536) ≤ s.stagedCount)

/-- The identifier of the engine of a table (R123). -/
def tblUnit (code : Nat) : Nat := unitId 0x04 0 (0x10 + code)

/-- Store an image: staged, with its Logbook record (R100, R120), or in every live epoch (R103). `stamp` refreshes the
age stamp (R152). A write replaces a bad image (R157). -/
def Dev.putImage (s : Dev) (o : Origin) (code i v : Nat) (direct stamp : Bool) : Dev :=
  let e := s.entry code i
  let e := if stamp then { e with age := s.ageNow code } else e
  if direct || !tblVersioned code then s.setEntry code i { e with images := [(0, v)], bad := false }
  else
    let old := e.view s.epc.cur false
    (s.logOrd (mkRec o 6 (tblUnit code) i (some old) (v % 2 ^ 128) 0) none).setEntry code i { e with staged := some v }

/-! ### Counter pairs (R134, R137, R279) -/

/-- The value of a counter pair: PACKETS in the low, BYTES in the high half. -/
def Dev.pair (s : Dev) (i : Nat) : Nat := (s.entry 5 i).at 0

/-- Add to a counter pair; both halves wrap. -/
def Dev.ctrAdd (s : Dev) (i packets bytes : Nat) : Dev :=
  let v := s.pair i
  let n := (bits v 63 0 + packets) % 2 ^ 64 + (bits v 127 64 + bytes) % 2 ^ 64 * 2 ^ 64
  s.setEntry 5 i { s.entry 5 i with images := [(0, n)] }

/-! ### Hashes and lookups (R126, R127 to R131, R135) -/

/-- The byte string a key is hashed over (R126). -/
def tblHashBytes (code k : Nat) : List Nat :=
  match code with
  | 0 => [k / 2 ^ 56 % 16, k / 2 ^ 48 % 256] ++ beVals 6 (k % 2 ^ 48)
  | 6 => 0 :: beVals 3 k
  | _ => beVals 40 k

/-- The number of index bits of a table's hash. -/
def Dev.bucketBits (s : Dev) : Nat → Nat
  | 0 => 18 | 6 => 12 | _ => s.fld .TBL_FLOW_CFG 0 4 0

/-- H0 of a key (R126). -/
def Dev.bucket0 (s : Dev) (code k : Nat) : Nat := crc32c 0xFFFFFFFF (tblHashBytes code k) % 2 ^ s.bucketBits code

/-- H1 of a key; when it equals H0 it is H0 XOR 1 (R126). -/
def Dev.bucket1 (s : Dev) (code k : Nat) : Nat :=
  let h := crc32c 0x1680E7A5 (tblHashBytes code k) % 2 ^ s.bucketBits code
  if h = s.bucket0 code k then Nat.xor h 1 else h

/-- The slots of a bucket. -/
def bucketSlots (code b : Nat) : List Nat :=
  if code = 4 then (List.range 8).map (8 * b + ·) else (List.range 4).map (4 * b + ·)

/-- The slots a key may lie in, those of H0 first. -/
def Dev.keySlots (s : Dev) (code k : Nat) : List Nat :=
  if code = 4 then bucketSlots 4 (s.bucket0 4 k)
  else bucketSlots code (s.bucket0 code k) ++ bucketSlots code (s.bucket1 code k)

/-- The slot whose image, chosen by `img`, is VALID with the key. -/
def Dev.findKey (s : Dev) (code k : Nat) (img : TblEntry → Nat) : Option Nat :=
  if code = 2 then
    ((s.tblList 2).find? (fun e => tblValid 2 (img e.2) && tblKey 2 (img e.2) = k)).map Prod.fst
  else (s.keySlots code k).find? (fun i =>
    let v := img (s.entry code i)
    tblValid code v && tblKey code v = k)

/-- An entry holds a VALID image of the key in any epoch or set. -/
def TblEntry.holds (code k : Nat) (e : TblEntry) : Bool := e.all.any (fun v => tblValid code v && tblKey code v = k)

/-- The slot that holds the key in any image. -/
def Dev.findAny (s : Dev) (code k : Nat) : Option Nat :=
  if code = 2 then ((s.tblList 2).find? (fun e => e.2.holds 2 k)).map Prod.fst
  else (s.keySlots code k).find? (fun i => (s.entry code i).holds code k)

/-- A lookup by key in an epoch: index and image; a bad entry is still named, with its mark (R156). -/
def Dev.lookKey (s : Dev) (code k epoch : Nat) : Option (Nat × Nat × Bool) :=
  (s.findKey code k (fun e => e.at epoch)).map (fun i => (i, (s.entry code i).at epoch, (s.entry code i).bad))

/-- The first LEN bits of an address equal a prefix (R131). -/
def prefixHit (af addr v : Nat) : Bool :=
  let w := if af = 1 then 128 else 32
  let len := bits v 263 256
  addr % 2 ^ w / 2 ^ (w - len) = bits v 255 128 / 2 ^ (w - len)

/-- The longest match of an address in a VRF, over the images that `img` chooses (R131). -/
def Dev.lookRoute (s : Dev) (af vrf addr : Nat) (img : TblEntry → Nat) : Option (Nat × Nat × Bool) :=
  (s.tblList 2).foldl (fun best e =>
    let v := img e.2
    if tblValid 2 v && b2n (bit v 299) = af && bits v 275 264 = vrf && prefixHit af addr v then
      match best with
      | some (_, w, _) => if bits w 263 256 < bits v 263 256 then some (e.1, v, e.2.bad) else best
      | none => some (e.1, v, e.2.bad)
    else best) none

/-- A TCAM image matches a key vector (R130). -/
def tcamHit (kv v : Nat) : Bool := tblValid 1 v && Nat.land (Nat.xor (bits v 639 0) kv) (bits v 1279 640) = 0

/-- The lowest matching TCAM entry (R123, R130). -/
def Dev.lookTcam (s : Dev) (kv : Nat) (img : TblEntry → Nat) : Option (Nat × Nat × Bool) :=
  ((s.tblList 1).find? (fun e => tcamHit kv (img e.2))).map (fun e => (e.1, img e.2, e.2.bad))

/-- Write the current stamp into an entry (R152). -/
def Dev.touch (s : Dev) (code i : Nat) : Dev :=
  s.setEntry code i { s.entry code i with age := s.ageNow code }

/-! ### Logs, freezing and parity (R156 to R161) -/

/-- A log word of R161, placed in a FIFO of 64; an event that finds it full is lost. -/
def Dev.tblLog (q : List Nat) (vn table i : Nat) : List Nat :=
  if q.length < 64 then q ++ [vn % 2 ^ 32 * 2 ^ 32 + table * 2 ^ 28 + 2 ^ 27 + i % 2 ^ 27] else q

/-- Freeze an isolation-table entry (R159). -/
def Dev.freeze (s : Dev) (table i : Nat) : Dev :=
  if s.isFrozen table i then s else
  let s := s.setIso table i (some { pending := none, frozen := true, clearing := false })
  let s := { s with tbl := { s.tbl with frozenLog := Dev.tblLog s.tbl.frozenLog s.vn table i } }
  s.whistle 0x05 (blkId 7) i table

/-- A deletion of a STATION or FLOW entry from every live epoch (R103); a staged image stays. -/
def Dev.purge (s : Dev) (code i : Nat) : Dev :=
  s.setEntry code i { s.entry code i with images := [], bad := false, age := 0 }

/-- The MAC port an action record forwards to, or 0x3F (R151). -/
def actionPort (a : Nat) : Nat := if bits a 2 0 = 2 ∧ bits a 4 3 = 0 then bits a 22 5 % 64 else 0x3F

/-- A lookup finds a persistent parity error in an entry (R156, R157, R159); one of an isolation table freezes it. `port` is the port
of the frame. The whistle's SOURCE is the block, which R156 says raises it; R466 names the engine (DESIGN CHOICE, log entry 126). -/
def Dev.markBad (s : Dev) (code i port : Nat) : Dev :=
  if code = 6 ∨ code = 9 ∨ code = 10 then s.freeze code i
  else if (s.entry code i).bad then s
  else
    let s := s.setEntry code i { s.entry code i with bad := true }
    let s := { s with tbl := { s.tbl with parityLog := Dev.tblLog s.tbl.parityLog s.vn code i } }
    let s := s.whistle 0x04 (blkId 7) i code
    let v := (s.entry code i).at s.epc.cur
    if code = 0 ∧ bit v 190 then
      ((s.purge 0 i).bump .TBL_PARITY_PURGED 0).notice 5 (bits v 175 128) (bits v 187 176) i port (actionPort v)
    else s

/-! ### Cuckoo insertion (R145 to R147) -/

/-- The one key that every VALID image of an entry carries, if they agree (R146); an image with VALID 0 counts as carrying none
(DESIGN CHOICE, log entry 127). -/
def TblEntry.soleKey (code : Nat) (e : TblEntry) : Option Nat :=
  match (e.all.filter (fun v => tblValid code v)).map (tblKey code) with
  | [] => none
  | k :: ks => if ks.all (fun x => x = k) then some k else none

/-- The lowest free slot of a bucket. -/
def Dev.freeSlot (s : Dev) (code b : Nat) : Option Nat :=
  (bucketSlots code b).find? (fun i => slotFree code (s.entry code i))

/-- The alternate bucket of an entry of slot `i` with a key (R126). -/
def Dev.altBucket (s : Dev) (code i k : Nat) : Nat :=
  if i / 4 = s.bucket0 code k then s.bucket1 code k else s.bucket0 code k

/-- The search of R146 from bucket `x` at depth `d`, with `n` depths left: the slots of the path, and the free slot at
its end. Where slot (d - 1) mod 4 is on the path, the slots after it follow cyclically: the next in the order 0 to 3 may also mean the
first of them (DESIGN CHOICE, log entry 128). -/
def Dev.searchPath (s : Dev) (code : Nat) : Nat → Nat → Nat → List Nat → Option (List Nat × Nat)
  | 0, _, _, _ => none
  | n + 1, d, x, path =>
    let alt := fun (i : Nat) =>
      if path.contains i then none else ((s.entry code i).soleKey code).map (s.altBucket code i)
    match (bucketSlots code x).findSome? (fun i =>
        match alt i with
        | some b => (s.freeSlot code b).map (fun f => (path ++ [i], f))
        | none => none) with
    | some r => some r
    | none =>
      match (List.range 4).findSome? (fun j =>
          let i := 4 * x + (d - 1 + j) % 4
          (alt i).map (fun b => (i, b))) with
      | some (i, b) => s.searchPath code n (d + 1) b (path ++ [i])
      | none => none

/-- Move an entry with every image and its age stamp to a free slot (R102, R147); a TENANT entry's marks go with it. -/
def Dev.moveEntry (s : Dev) (code a b : Nat) : Dev :=
  let e := s.entry code a
  let s := ((s.setEntry code b e).setEntry code a TblEntry.blank).bump .TBL_STN_RELOCATIONS 0
  if code = 6 then
    let m := Sparse.get? s.tbl.iso (isoKey 6 a)
    (s.setIso 6 b m).setIso 6 a none
  else s

/-- Carry out a path from its far end (R147). -/
def Dev.movePath (s : Dev) (code : Nat) (path : List Nat) (free : Nat) : Dev :=
  forEach ((path.zip (path.drop 1 ++ [free])).reverse) s (fun s m => s.moveEntry code m.1 m.2)

/-- Where an absent key is placed: a free slot of H0, of H1, or the slot a path frees. -/
def Dev.roomFor (s : Dev) (code k : Nat) : Option (Dev × Nat) :=
  match s.freeSlot code (s.bucket0 code k) with
  | some i => some (s, i)
  | none =>
    if code = 4 then none else
    match s.freeSlot code (s.bucket1 code k) with
    | some i => some (s, i)
    | none =>
      match (s.searchPath code 8 1 (s.bucket0 code k) []).orElse
          (fun _ => s.searchPath code 8 1 (s.bucket1 code k) []) with
      | some (path, f) => some (s.movePath code path f, path.headD f)
      | none => none

/-! ### Frozen TENANT entries (R159) -/

/-- A TENANT entry is frozen and the writer may not clear it. -/
def Dev.frozenBar (s : Dev) (code i : Nat) (clears : Bool) : Bool := code = 6 && s.isFrozen 6 i && !clears

/-- A rewrite of a frozen TENANT entry clears it when it becomes visible. -/
def Dev.noteRewrite (s : Dev) (code i : Nat) (direct : Bool) : Dev :=
  if code = 6 ∧ s.isFrozen 6 i then
    (if direct then s.setIso 6 i none
     else s.setIso 6 i (some { pending := none, frozen := true, clearing := true }))
  else s

/-! ### Operations (R139, R140, R143) -/

/-- The outcome of an operation: the tables after, RESULT, INDEX and the image read, if one was. -/
structure TblOut where
  s : Dev
  result : Nat
  index : Nat
  image : Option Nat

/-- An operation that changed nothing. -/
def TblOut.no (s : Dev) (result index : Nat) : TblOut := ⟨s, result, index, none⟩

/-- A write of an image to a known entry: FROZEN, QUOTA, STAGE_FULL or OK. -/
def Dev.writeAt (s : Dev) (o : Origin) (code i v : Nat) (direct clears stamp : Bool) : TblOut :=
  let e := s.entry code i
  if s.frozenBar code i clears then .no s 0x09 i
  else if s.quotaBar code e v direct then .no s 0x0A i
  else if s.stageBar code e direct then .no s 0x04 i
  else ⟨(s.putImage o code i v direct stamp).noteRewrite code i direct, 0, i, none⟩

/-- INSERT of a VALID image by key (R139, R145, R146). -/
def Dev.insertKey (s : Dev) (o : Origin) (code v : Nat) (direct clears : Bool) (index : Nat) : TblOut :=
  let k := tblKey code v
  match s.findKey code k (fun e => e.view s.epc.cur direct) with
  | some _ => .no s 0x02 index
  | none =>
    match s.findAny code k with
    | some i => s.writeAt o code i v direct clears true
    | none =>
      if s.quotaBar code TblEntry.blank v direct then .no s 0x0A index
      else if s.stageBar code TblEntry.blank direct then .no s 0x04 index
      else
        match s.roomFor code k with
        | none => .no s 0x03 index
        | some (s', i) =>
          if s'.frozenBar code i clears then .no s 0x09 index else s'.writeAt o code i v direct clears true

/-- The units of a route (R124). -/
def routeUnits (v : Nat) : Nat := if bit v 299 then 4 else 1

/-- The units of every route that any image holds (R124). -/
def Dev.routeTotal (s : Dev) : Nat :=
  sumNat ((s.tblList 2).map (fun e => match e.2.all.find? (fun v => tblValid 2 v) with
    | some v => routeUnits v
    | none => 0))

/-- The image checks of a route (R131). -/
def routeOk (v : Nat) : Bool :=
  let len := bits v 263 256
  let w := if bit v 299 then 128 else 32
  len ≤ w && bits v 255 128 % 2 ^ (w - len) = 0 && bits v 255 128 < 2 ^ w

/-- The lowest unused handle (DESIGN CHOICE, log entry 20). -/
def Dev.freeHandle (s : Dev) : Nat :=
  ((s.tblList 2).foldl (fun h e => if e.1 = h then h + 1 else h) 0)

/-- INSERT of a route (R124, R131). -/
def Dev.insertRoute (s : Dev) (o : Origin) (v : Nat) (direct : Bool) (index : Nat) : TblOut :=
  let k := tblKey 2 v
  if routeOk v = false then .no s 0x07 index
  else match s.findKey 2 k (fun e => e.view s.epc.cur direct) with
    | some _ => .no s 0x02 index
    | none =>
      match s.findAny 2 k with
      | some i => s.writeAt o 2 i v direct false false
      | none =>
        if 2097152 < s.routeTotal + routeUnits v then .no s 0x03 index
        else s.writeAt o 2 s.freeHandle v direct false false

/-- The operation is allowed for the table (R139). -/
def opAllowed (op code : Nat) : Bool :=
  match op with
  | 1 => code ≤ 7
  | 2 => code ≤ 7 && code ≠ 2
  | 3 => code = 0 || code = 4 || code = 6 || code = 2
  | 4 => code ≤ 7 && code ≠ 5
  | 5 => code = 0 || code = 4 || code = 6 || code = 2 || code = 1
  | 6 => code = 0 || code = 4 || code = 6 || code = 2
  | _ => false

/-- A keyed table: STATION, FLOW or TENANT. -/
def tblKeyed (code : Nat) : Bool := code = 0 || code = 4 || code = 6

/-- An index a command may name (R140). -/
def Dev.indexOk (s : Dev) (code i : Nat) : Bool := i < s.tblSize code && !(code = 3 && i = 0)

/-- A read of an image (R139, R101); PARITY for a bad entry, with the stored bits (R140). -/
def Dev.readImage (s : Dev) (code i v : Nat) : TblOut :=
  let e := s.entry code i
  ⟨s, if e.bad then 0x08 else 0x00, i, some (tblRead code v e.age)⟩

/-- READ_INDEX (R139, R137). -/
def Dev.opRead (s : Dev) (c : TblCmd) : TblOut :=
  if s.indexOk c.table c.index = false then .no s 0x06 c.index
  else if c.table = 5 then
    ⟨s, 0, c.index, some (if c.snapView then Sparse.get (fun _ => 0) s.tbl.snapPairs c.index else s.pair c.index)⟩
  else s.readImage c.table c.index ((s.entry c.table c.index).view s.epc.cur c.direct)

/-- WRITE_INDEX (R139, R140). -/
def Dev.opWrite (s : Dev) (c : TblCmd) (clears : Bool) : TblOut :=
  let v := tblMask c.table c.data
  let k := tblKey c.table v
  if s.indexOk c.table c.index = false then .no s 0x06 c.index
  else if tblKeyed c.table ∧ (s.keySlots c.table k).contains c.index = false then .no s 0x06 c.index
  else if tblKeyed c.table ∧ tblValid c.table v ∧
      (s.keySlots c.table k).any (fun i => i ≠ c.index && (s.entry c.table i).holds c.table k) then .no s 0x02 c.index
  else s.writeAt c.o c.table c.index v c.direct clears true

/-- INSERT (R139). -/
def Dev.opInsert (s : Dev) (c : TblCmd) (clears : Bool) : TblOut :=
  let v := tblMask c.table c.data
  if c.table = 2 then s.insertRoute c.o v c.direct c.index
  else if tblValid c.table v = false then .no s 0x07 c.index
  else s.insertKey c.o c.table v c.direct clears c.index

/-- DELETE (R139): by key an absent image replaces the entry; by index the newest image is kept with VALID cleared. -/
def Dev.opDelete (s : Dev) (c : TblCmd) (clears : Bool) : TblOut :=
  if tblKeyed c.table ∨ c.table = 2 then
    match s.findKey c.table (tblKey c.table c.data) (fun e => e.view s.epc.cur c.direct) with
    | none => .no s 0x01 c.index
    | some i => s.writeAt c.o c.table i 0 c.direct clears false
  else if s.indexOk c.table c.index = false then .no s 0x06 c.index
  else
    let v := (s.entry c.table c.index).view s.epc.cur (c.direct || !tblVersioned c.table)
    let b := tblValidBit c.table
    s.writeAt c.o c.table c.index (putBits v b b 0) c.direct clears false

/-- SEARCH (R139): by key, by longest match, or the TCAM entry that a key vector hits. -/
def Dev.opSearch (s : Dev) (c : TblCmd) : TblOut :=
  let img := fun (e : TblEntry) => e.view s.epc.cur c.direct
  let found := match c.table with
    | 1 => (s.lookTcam (bits c.data 639 0) img).map Prod.fst
    | 2 => (s.lookRoute (b2n (bit c.data 299)) (bits c.data 275 264) (bits c.data 255 128) img).map Prod.fst
    | t => s.findKey t (tblKey t c.data) img
  match found with
  | none => .no s 0x01 c.index
  | some i => s.readImage c.table i (img (s.entry c.table i))

/-- UPDATE (R139): by key; the whole image is replaced and the age stamp refreshed. -/
def Dev.opUpdate (s : Dev) (c : TblCmd) (clears : Bool) : TblOut :=
  let v := tblMask c.table c.data
  if c.table = 2 ∧ routeOk v = false then .no s 0x07 c.index
  else if tblValid c.table v = false then .no s 0x07 c.index
  else match s.findKey c.table (tblKey c.table v) (fun e => e.view s.epc.cur c.direct) with
    | none => .no s 0x01 c.index
    | some i => s.writeAt c.o c.table i v c.direct clears true

/-- The origins that Basecamp executes an OPERATOR capsule for (R514). -/
def Origin.capsule : Origin → Bool
  | .adminRing _ => true | .mctpSmbus _ => true | .mctpVdm .. => true | .ncsi _ => true | _ => false

/-- Carry out a command (R139, R140, R143). -/
def Dev.tblRun (s : Dev) (port : Nat) (c : TblCmd) : TblOut :=
  let clears := decide (port < 4) || c.o.capsule
  if opAllowed c.op c.table = false then .no s 0x05 c.index
  else if s.mode = .lockdown ∧ c.op ≠ 1 ∧ c.op ≠ 5 then .no s 0x0B c.index
  else if c.table = 6 ∧ 4 ≤ port ∧ port < 12 ∧ c.op ≠ 1 ∧ c.op ≠ 5 then .no s 0x0B c.index
  else
    match c.op with
    | 1 => s.opRead c
    | 2 => s.opWrite c clears
    | 3 => s.opInsert c clears
    | 4 => s.opDelete c clears
    | 5 => s.opSearch c
    | _ => s.opUpdate c clears

/-! ### The command ports (R138 to R141) -/

/-- The owner of a command port (R138). -/
def Dev.ownsPort (s : Dev) (o : Origin) (n : Nat) : Bool :=
  if n < 4 then (match o with | .bar0 _ => true | _ => false)
  else if n < 12 then (match o with | .thread c t => decide (c + 4 = n) && decide (s.supervisor c = t) | _ => false)
  else (match o with | .basecamp => true | o => o.capsule)

/-- The DATA buffer of a port as a number. -/
def Dev.cmdData (s : Dev) (n : Nat) : Nat :=
  (List.range 64).foldl (fun a w => a + s.fld .TBL_CMD_DATA (64 * n + w) 31 0 * 2 ^ (32 * w)) 0

/-- Place an image in the DATA buffer of a port. -/
def Dev.putCmdData (s : Dev) (n code v : Nat) : Dev :=
  forEach (List.range (tblBits code / 32)) s (fun s w => s.wr .TBL_CMD_DATA (64 * n + w) (v / 2 ^ (32 * w) % 2 ^ 32))

/-- The outstanding command of a port. -/
def Dev.tblCmd (s : Dev) (n : Nat) : Option TblCmd := Sparse.get? s.tbl.cmds n

/-- Set or clear the outstanding command of a port. -/
def Dev.setTblCmd (s : Dev) (n : Nat) (c : Option TblCmd) : Dev :=
  { s with tbl := { s.tbl with cmds := Sparse.put s.tbl.cmds n c } }

/-- A write of TBL_CMD_CTL with GO (R138, R139): from its owner, and while no command is outstanding, it is accepted. The engine takes
the port's registers at that moment; it carries the command out when it completes (R104). -/
def Dev.tblGo (s : Dev) (o : Origin) (n op table tag : Nat) (snapView : Bool) : Dev :=
  if s.ownsPort o n = false then s.bump .TBL_CMD_FOREIGN 0
  else if (s.tblCmd n).isSome then s.setFld .TBL_CMD_STATUS n 1 1 1
  else
    let c : TblCmd := { o, op, table := table % 16, tag := tag % 2 ^ 16, snapView
                        direct := decide (s.fld .TBL_CMD_MODE n 0 0 = 1), index := s.fld .TBL_CMD_INDEX n 31 0
                        data := s.cmdData n }
    ((s.setFld .TBL_CMD_STATUS n 31 16 c.tag).setFld .TBL_CMD_STATUS n 0 0 1).setTblCmd n (some c)

/-- The record of the write (R525) and then the command. -/
def Dev.tblIssue (s : Dev) (o : Origin) (n op table tag : Nat) (snapView : Bool) : Outcome Dev Fault Refusal :=
  if 16 ≤ n then .fault .noSuchObject
  else
    let v := tag % 2 ^ 16 * 2 ^ 16 + table % 16 * 2 ^ 12 + op * 2 ^ 8 + b2n snapView * 2 + 1
    .next (s.regWrite o .TBL_CMD_CTL n 4 v fun s => s.tblGo o n op table tag snapView)

/-- READ_INDEX (R139). -/
def execReadIndex (o : Origin) (port table tag : Nat) (snapView : Bool) (s : State) : Outcome State Fault Refusal := s.act fun s =>
  s.tblIssue o port 1 table tag snapView

/-- WRITE_INDEX (R139). -/
def execWriteIndex (o : Origin) (port table tag : Nat) (s : State) : Outcome State Fault Refusal := s.act fun s =>
  s.tblIssue o port 2 table tag false

/-- INSERT (R139, R145, R146). -/
def execInsert (o : Origin) (port table tag : Nat) (s : State) : Outcome State Fault Refusal := s.act fun s =>
  s.tblIssue o port 3 table tag false

/-- DELETE (R139). -/
def execDelete (o : Origin) (port table tag : Nat) (s : State) : Outcome State Fault Refusal := s.act fun s =>
  s.tblIssue o port 4 table tag false

/-- SEARCH (R139). -/
def execSearch (o : Origin) (port table tag : Nat) (s : State) : Outcome State Fault Refusal := s.act fun s =>
  s.tblIssue o port 5 table tag false

/-- UPDATE (R139). -/
def execUpdate (o : Origin) (port table tag : Nat) (s : State) : Outcome State Fault Refusal := s.act fun s =>
  s.tblIssue o port 6 table tag false

/-- Publish the result of a command and clear BUSY (R139 to R141). -/
def Dev.tblPublish (n : Nat) (c : TblCmd) (r : TblOut) : Dev :=
  let s := (((r.s.setTblCmd n none).setFld .TBL_CMD_STATUS n 15 8 r.result).setFld .TBL_CMD_STATUS n 0 0 0)
  let s := s.wr .TBL_CMD_INDEX n r.index
  match r.image with
  | some v => s.putCmdData n c.table v
  | none => s

/-- The command writes its table. -/
def TblCmd.writes (c : TblCmd) : Bool := c.op ≠ 1 && c.op ≠ 5

/-- A port below `n` has a write of a table outstanding, which its engine serves first (R142). -/
def Dev.portsBelow (s : Dev) (n table : Nat) : Bool :=
  s.tbl.cmds.any (fun e => decide (e.1 < n) && e.2.writes && decide (e.2.table = table))

/-- TBL_CMD_COMPLETE (R139 to R142, R117): an outstanding command is carried out and completes. One that a pause holds waits on, and a
write waits for those of lower ports to the same table. -/
def execTblCmdComplete (port : Nat) (s : State) : Outcome State Fault Refusal := s.act fun s =>
  match s.tblCmd port with
  | none => .next s
  | some c =>
    if s.held ∨ (c.writes ∧ s.portsBelow port c.table) then .next s
    else .next (Dev.tblPublish port c (s.tblRun port c))

/-! ### Learning (R149 to R151) -/

/-- A STATION image's action that forwards to a MAC port. -/
def portAction (port : Nat) : Nat := 2 + port * 2 ^ 5

/-- The image that a learn inserts (R149). -/
def learnImage (q : LearnReq) : Nat :=
  portAction q.port + q.mac % 2 ^ 48 * 2 ^ 128 + q.fid % 2 ^ 12 * 2 ^ 176 + 2 ^ 188 + 2 ^ 190 + 2 ^ 191
    + (match q.owner with | some p => p % 4096 * 2 ^ 223 + 2 ^ 235 | none => 0)

/-- The key of a learning request. -/
def LearnReq.key (q : LearnReq) : Nat := q.fid % 2 ^ 12 * 2 ^ 48 + q.mac % 2 ^ 48

/-- A STATION image with its destination set to a port (R149). -/
def setDest (port v : Nat) : Nat := putBits (putBits v 22 5 port) 4 3 0

/-- Set an entry's destination to a port in the image of every live epoch that holds the key, and refresh its stamp, with notice MOVE
(R149, R103). The rest of each image stays its own (DEDUCED, log entry 125). -/
def Dev.moveStation (s : Dev) (i : Nat) (q : LearnReq) : Dev :=
  let e := s.entry 0 i
  let images := e.images.map (fun (p : Nat × Nat) =>
    (p.1, if tblValid 0 p.2 && decide (tblKey 0 p.2 = q.key) then setDest q.port p.2 else p.2))
  let s := s.setEntry 0 i { e with images := images, age := s.ageNow 0, bad := false }
  (s.bump .TBL_PORT_MOVES q.port).notice 2 q.mac q.fid i q.port (actionPort (e.at s.epc.cur))

/-- The engine takes a learn (R142, R149): a key that is present by now is refreshed or moved. -/
def Dev.learnNow (s : Dev) (q : LearnReq) : Dev :=
  match s.findKey 0 q.key (fun e => e.at s.epc.cur) with
  | some i =>
    let v := (s.entry 0 i).at s.epc.cur
    if bit v 189 ∨ actionPort v = q.port then s.touch 0 i else s.moveStation i q
  | none =>
    let r := s.insertKey .device 0 (learnImage q) true false 0
    if r.result = 0 then (r.s.bump .TBL_PORT_LEARNS q.port).notice 1 q.mac q.fid r.index q.port 0x3F
    else r.s.bump .TBL_STN_INSERT_FULL 0

/-- The engine takes a move (R149). -/
def Dev.moveNow (s : Dev) (q : LearnReq) : Dev :=
  match s.findKey 0 q.key (fun e => e.at s.epc.cur) with
  | some i => if bit ((s.entry 0 i).at s.epc.cur) 189 then s else s.moveStation i q
  | none => s

/-- Learning and aging are deferred by a pause (R117), stop in LOCKDOWN (R143), and wait for the commands that write the table
(R142). -/
def Dev.learnHeld (s : Dev) (table : Nat) : Bool := s.held || decide (s.mode = .lockdown) || s.portsBelow 16 table

/-- LEARN (R149): the engine takes the learn at the head of the learning queue. -/
def execLearn (s : State) : Outcome State Fault Refusal := s.act fun s =>
  match s.tbl.learnQ with
  | q :: rest =>
    if s.learnHeld 0 ∨ q.isMove then .next s
    else .next ({ s with tbl := { s.tbl with learnQ := rest } }.learnNow q)
  | [] => .next s

/-- MOVE (R149): the engine takes the move at the head of the learning queue. -/
def execMove (s : State) : Outcome State Fault Refusal := s.act fun s =>
  match s.tbl.learnQ with
  | q :: rest =>
    if s.learnHeld 0 ∨ q.isMove = false then .next s
    else .next ({ s with tbl := { s.tbl with learnQ := rest } }.moveNow q)
  | [] => .next s

/-- The learn tokens of a port. -/
def Dev.tokens (s : Dev) (p : Nat) : Nat := Sparse.get (fun _ => 0) s.tbl.tokens p

/-- Set the learn tokens of a port. -/
def Dev.setTokens (s : Dev) (p n : Nat) : Dev :=
  { s with tbl := { s.tbl with tokens := Sparse.set (fun _ => 0) s.tbl.tokens p n } }

/-- Queue a learn or a move, when a token and a place are there (R150). -/
def Dev.learnQueue (s : Dev) (q : LearnReq) : Dev :=
  if s.tokens q.port = 0 then s.bump .TBL_PORT_RATE_DROP q.port
  else
    let s := s.setTokens q.port (s.tokens q.port - 1)
    if 4096 ≤ s.tbl.learnQ.length then s.bump .TBL_LEARN_QUEUE_DROP 0
    else { s with tbl := { s.tbl with learnQ := s.tbl.learnQ ++ [q] } }

/-- LEARN_TOKEN_REFILL (R150): at a boundary whose VN is a multiple of 25,000. -/
def execLearnTokenRefill (s : State) : Outcome State Fault Refusal := s.act fun s =>
  if s.vn % 25000 ≠ 0 then .next s
  else .next (forEach (List.range 32) s (fun s p =>
    s.setTokens p (min (s.tokens p + s.fld .TBL_LEARN_CFG p 31 16) (s.fld .TBL_LEARN_CFG p 15 8))))

/-! ### Aging (R152 to R154) -/

/-- AGE_TICK (R152): the stamps whose TICK divides the VN step on. -/
def execAgeTick (s : State) : Outcome State Fault Refusal := s.act fun s =>
  let step := fun (r : Reg) n => if s.vn % s.fld r 0 63 32 = 0 then (n + 1) % 256 else n
  .next (s.wr .TBL_AGE_NOW 0 (step .TBL_AGE_FLOW (s.ageNow 4) * 2 ^ 8 + step .TBL_AGE_STN (s.ageNow 0)))

/-- The AGE_EN and STATIC rule of an image: it may be aged (R153). -/
def ageable (code v : Nat) : Bool :=
  if code = 0 then tblValid 0 v && bit v 191 && !bit v 189 else tblValid 4 v && bit v 472

/-- The compare-and-delete requests of the slots the scan visits in this volley (R153). -/
def Dev.ageVisit (s : Dev) (code : Nat) (slots : List Nat) : List AgeReq :=
  let r := if code = 0 then Reg.TBL_AGE_STN else Reg.TBL_AGE_FLOW
  if s.fld r 0 0 0 = 0 then [] else
  slots.filterMap (fun i =>
    let e := s.entry code i
    let v := e.at s.epc.cur
    if ageable code v && decide (s.fld r 0 15 8 ≤ (s.ageNow code + 256 - e.age) % 256) then
      some { table := code, index := i, key := tblKey code v, stamp := e.age }
    else none)

/-- AGING_SCAN (R153): 4 STATION slots and 8 FLOW buckets a volley, in index order. The scan's phase is the VN's (DESIGN
CHOICE, log entry 21). -/
def Dev.ageScan (s : Dev) : Dev :=
  if s.mode = .lockdown then s else
  let stn := (List.range 4).map (4 * (s.vn % 262144) + ·)
  let flow := (List.range 64).map (64 * (s.vn % 2 ^ (s.fld .TBL_FLOW_CFG 0 4 0 - 3)) + ·)
  let new := (s.ageVisit 0 stn ++ s.ageVisit 4 flow).filter (fun q => !s.tbl.ageQ.contains q)
  { s with tbl := { s.tbl with ageQ := s.tbl.ageQ ++ new } }

/-- The compare-and-delete that an engine takes next: the first whose table no command and, for STATION, no learn waits for (R142). -/
def Dev.ageNext (s : Dev) : Option AgeReq :=
  s.tbl.ageQ.find? (fun q => !s.learnHeld q.table && (decide (q.table ≠ 0) || s.tbl.learnQ.isEmpty))

/-- AGE_OUT (R154): the engine takes the next compare-and-delete. NEW_PORT of the notice is a free value: no frame has
one. -/
def execAgeOut (s : State) : Outcome State Fault Refusal := s.act fun s =>
  match s.ageNext with
  | none => .next s
  | some q =>
    let s := { s with tbl := { s.tbl with ageQ := s.tbl.ageQ.erase q } }
    match s.findKey q.table q.key (fun e => e.at s.epc.cur) with
    | none => .next s
    | some i =>
      let e := s.entry q.table i
      if e.age ≠ q.stamp then .next s
      else
        let v := e.at s.epc.cur
        let s := s.purge q.table i
        if q.table = 4 then .next (s.bump .TBL_AGED_FLOW 0)
        else
          let (n, s) := s.draw
          .next ((s.bump .TBL_AGED_STN 0).notice 3 (bits v 175 128) (bits v 187 176) i (n % 64) (actionPort v))

/-! ### The shadow sweep (R158 to R160) -/

/-- SHADOW_SWEEP (R159): while EN is 1, at a boundary whose VN is a multiple of 250,000. -/
def execShadowSweep (s : State) : Outcome State Fault Refusal := s.act fun s =>
  if s.fld .TBL_SHADOW_CTL 0 0 0 = 1 ∧ s.vn % 250000 = 0 ∧ s.tbl.sweep.isNone then
    .next { s with tbl := { s.tbl with sweep := some s.vn } }
  else .next s

/-- The entry of an isolation table in force (R158). -/
def Dev.isoLive (s : Dev) (table i : Nat) : Nat :=
  if table = 9 then s.pmap i else if table = 6 then (s.entry 6 i).at s.epc.cur else s.win i

/-- Compare one entry with its shadow (R159): one that differs is recorded as pending; a pending one that differs again with the same
live value is frozen, and else cleared. -/
def Dev.sweepEntry (s : Dev) (table i shadow : Nat) : Dev :=
  let v := s.isoLive table i
  match Sparse.get? s.tbl.iso (isoKey table i) with
  | some m =>
    if m.frozen then s
    else if m.pending = some v ∧ v ≠ shadow then s.freeze table i
    else s.setIso table i none
  | none =>
    if v = shadow then s
    else s.setIso table i (some { pending := some v, frozen := false, clearing := false })

/-- The entries of the isolation tables: table and index. -/
def isoEntries : List (Nat × Nat) :=
  (List.range 4096).map (fun i => (9, i)) ++ (List.range 16384).map (fun i => (6, i))
    ++ (List.range 256).map (fun i => (10, i))

/-- SHADOW_SWEEP_END (R159, R160): `shadow` is what the reads of the shadow returned, by entry, each entry not listed
being 0; none when a read failed. A sweep on a link that cannot carry its reads fails. -/
def execShadowSweepEnd (shadow : Option (Sparse Nat)) (s : State) : Outcome State Fault Refusal := s.act fun s =>
  if s.tbl.sweep.isNone then .next s
  else
    let s := { s with tbl := { s.tbl with sweep := none } }
    match shadow, s.outboundBar none (s.fld .TBL_SHADOW_CTL 0 2 1) with
    | some sh, none =>
      let s := forEach isoEntries s (fun s e => s.sweepEntry e.1 e.2 (Sparse.get (fun _ => 0) sh (isoKey e.1 e.2)))
      .next ((s.bump .TBL_SHADOW_SWEEPS 0).setFld .TBL_SHADOW_STATUS 0 0 0 1)
    | _, _ =>
      .next (((s.bump .TBL_SHADOW_FAIL 0).setFld .TBL_SHADOW_STATUS 0 0 0 0).whistle 0x06 (blkId 7) 0
        1)

/-- Clearing EN discards the pending records (R160) and ends a sweep that runs. -/
def Dev.shadowOff (s : Dev) : Dev :=
  let keep := s.tbl.iso.filter (fun e => e.2.frozen)
  { s with tbl := { s.tbl with iso := keep, sweep := none } }.isoStatus

/-! ### The reset of the block (R144) -/

/-- A reset that reaches the TBL block (R144): outstanding commands end, and the command-port registers reset. -/
def Dev.resetTbl (s : Dev) : Dev :=
  let s := { s with tbl := { s.tbl with cmds := [], learnQ := [], ageQ := [], sweep := none } }
  forEach (List.range 16) s (fun s n =>
    let s := (((s.wr .TBL_CMD_CTL n 0).wr .TBL_CMD_INDEX n 0).wr .TBL_CMD_STATUS n 0).wr .TBL_CMD_MODE n 0
    forEach (List.range 64) s (fun s w => s.wr .TBL_CMD_DATA (64 * n + w) 0))

end Sys2Proof.Machine
end

