-- ==== Sys2Proof/Machine/Gates.lean ====
section
/-! DEFINITION. Gate lists, shaper entries and policers of the SCH block (R198 to R228): gate transitions and changes,
the access registers of shapers and policers, bucket refills and rewrites, and the charge of a policer. -/

namespace Sys2Proof.Machine

open Host

/-! ### Gate lists (R202 to R208) -/

/-- The volley of the next boundary at which the gate of class `c` closes, from the operational list or from a pending
change at X (R206); the change wins at X (R208). -/
def Dev.nextClose (s : Dev) (p c : Nat) : Option Nat :=
  let old := if s.gated p then gateClose (s.gateList p) (s.gateBase p) c s.vn else none
  match s.gateChange p with
  | none => old
  | some g =>
    let before := match old with
      | some k => decide (k < g.x)
      | none => false
    if before then old
    else if g.en = false then none
    else if bit (gateBits (g.entries.headD 0)) c then gateClose g.entries g.x c g.x
    else some g.x

/-- The first cycle start of the operational list at or after a volley. -/
def Dev.cycleStart (s : Dev) (p v : Nat) : Nat :=
  let b := s.gateBase p
  let c := max 1 (gateCycle (s.gateList p))
  if v ≤ b then b else b + (v - b + c - 1) / c * c

/-- GATE_TRANSITION (R203): at a boundary, the operational list moves to the entry that runs in this volley. -/
def execGateTransition (port : Nat) (s : State) : Outcome State Fault Refusal := s.act fun s =>
  if 32 ≤ port then .fault .noSuchObject
  else if s.gated port = false ∨ s.vn < s.gateBase port then .next s
  else
    let es := s.gateList port
    let i := gateEntry es ((s.vn - s.gateBase port) % gateCycle es)
    .next ((s.setFld .SCH_GATE_STATE port 9 0 i).setFld .SCH_GATE_STATE port 28 21 (gateBits (es.getD i 0)))

/-- Report an event of a port's gate engine (R209). -/
def Dev.gateStatus (s : Dev) (p tag detail result : Nat) : Dev :=
  s.wr .SCH_GATE_STATUS p (tag % 2 ^ 16 * 2 ^ 16 + detail * 2 ^ 8 + b2n (s.gateChange p).isSome * 2 ^ 4
    + s.fld .SCH_GATE_STATUS p 3 3 * 2 ^ 3 + result)

/-- Set or clear the pending change of a port. -/
def Dev.setGateChange (s : Dev) (p : Nat) (g : Option GateChange) : Dev :=
  { s with sch := { s.sch with change := Sparse.put s.sch.change p g } }

/-- The checks of R204, of a snapshot with GATING_EN `en`. -/
def gateChecks (en : Bool) (len base cycle : Nat) (es : List Nat) : List Bool :=
  [ !en || (1 ≤ len && len ≤ 1024), !en || es.all (fun e => 1 ≤ gateDur e), base % 40 = 0 && cycle % 40 = 0,
    !en || (cycle = 40 * gateCycle es && cycle < 2 ^ 32) ]

/-- The change time X (R205). -/
def gateX (en : Bool) (base cycle due : Nat) : Nat :=
  let b := base / 40
  let c := max 1 (cycle / 40)
  if !en then due else if due ≤ b then b else b + (due - b + c - 1) / c * c

/-- A request of a gate change (R204, R205). -/
def Dev.gateRequest (s : Dev) (o : Origin) (p tag : Nat) (early : Bool) : Dev :=
  let en := decide (s.fld .SCH_GATE_ADMIN_CFG p 16 16 = 1)
  let len := s.fld .SCH_GATE_ADMIN_CFG p 10 0
  let es := (List.range (min len 1024)).map (fun i => s.rd .SCH_GATE_ADMIN (1024 * p + i))
  let base := s.rd .SCH_GATE_ADMIN_BASE p
  let cycle := s.rd .SCH_GATE_ADMIN_CYCLE p
  let x := gateX en base cycle (s.untimedDue early)
  if s.mode = .lockdown then s.gateStatus p tag 0xFD 7
  else if (s.gateChange p).isSome then s.gateStatus p tag 0 6
  else match firstFail (gateChecks en len base cycle es) with
    | 0 =>
      if s.vn + 2 ^ 32 < x then s.gateStatus p tag 0xFF 7
      else
        let id := s.log.nextId
        let s := s.logPrio (applyRec o 9 (0x200 + p) 0 tag 0 x)
        let s := (s.setGateChange p (some ⟨tag, en, base, cycle, es, x, id⟩)).wr .SCH_GATE_CHANGE_VN p x
        s.gateStatus p tag 0 1
    | k => s.gateStatus p tag k 3

/-- GATE_CHANGE (R204): a write of SCH_GATE_CTL with CHANGE. -/
def execGateChange (o : Origin) (port tag : Nat) (early : Bool) (s : State) : Outcome State Fault Refusal := s.act fun s =>
  if 32 ≤ port then .fault .noSuchObject
  else
    let tag := tag % 2 ^ 16
    .next (s.regWrite o .SCH_GATE_CTL port 4 (tag * 2 ^ 16 + 1) fun s => s.gateRequest o port tag early)

/-- Cancel a pending change whose X is at least 2 volleys away (R205). -/
def Dev.gateCancel (s : Dev) (o : Origin) (p : Nat) : Dev :=
  match s.gateChange p with
  | none => s
  | some g =>
    if g.x < s.vn + 2 then s
    else ((s.logPrio (applyRec o 9 (0x200 + p) 0 g.tag 1 s.vn)).setGateChange p none).gateStatus p g.tag 0 5

/-- GATE_CANCEL (R205): a write of SCH_GATE_CTL with CANCEL. -/
def execGateCancel (o : Origin) (port tag : Nat) (s : State) : Outcome State Fault Refusal := s.act fun s =>
  if 32 ≤ port then .fault .noSuchObject
  else .next (s.regWrite o .SCH_GATE_CTL port 4 (tag % 2 ^ 16 * 2 ^ 16 + 2) fun s => s.gateCancel o port)

/-- GATE_SWAP (R205): at the start of volley X, or at the first boundary after the seal of its record (R523). -/
def execGateSwap (port : Nat) (s : State) : Outcome State Fault Refusal := s.act fun s =>
  if 32 ≤ port then .fault .noSuchObject
  else match s.gateChange port with
    | none => .next s
    | some g =>
      if s.vn < g.x ∨ s.sealedBefore g.recNo = false then .next s
      else
        let s := s.setGateChange port none
        let n := if g.en then g.entries.length else 0
        let s := forEach (List.range 1024) s (fun s i =>
          s.wr .SCH_GATE_OPER (1024 * port + i) (if i < n then g.entries.getD i 0 else 0xFF000000))
        let s := s.wr .SCH_GATE_OPER_BASE port (if g.en then 40 * s.vn else 0)
        let s := s.wr .SCH_GATE_OPER_CYCLE port (if g.en then g.cycle else 0)
        let s := s.wr .SCH_GATE_STATE port
          ((if g.en then gateBits (g.entries.headD 0) else 0xFF) * 2 ^ 21 + n * 2 ^ 10)
        let s := s.setFld .SCH_GATE_STATUS port 3 3 (b2n g.en)
        .next ((s.gateStatus port g.tag 0 2).bump .SCH_GATE_SWAPS port)

/-- On entry to LOCKDOWN a pending change is refused at once (R228). -/
def Dev.refuseGates (s : Dev) : Dev :=
  forEach s.sch.change s (fun s e =>
    ((s.logPrio (applyRec .device 9 (0x200 + e.1) 0 e.2.tag 2 s.vn)).setGateChange e.1 none).gateStatus e.1 e.2.tag 0xFD 7)

/-! ### Shapers (R210 to R217) -/

/-- A shaper entry in force, as a 128-bit number. -/
def Dev.shaper (s : Dev) (n : Nat) : Nat := s.rd .SCH_SHP_ENTRY (2 * n) + s.rd .SCH_SHP_ENTRY (2 * n + 1) * 2 ^ 64

/-- A shaper entry as an apply of group 0 would leave it. -/
def Dev.shaperView (s : Dev) (n : Nat) : Nat :=
  s.view .SCH_SHP_ENTRY (2 * n) + s.view .SCH_SHP_ENTRY (2 * n + 1) * 2 ^ 64

/-- INC, SHAPE, FILL, OVERHEAD, BURST, WEIGHT, PARENT, VALID and LEVEL of a shaper entry (R211). -/
def shpInc (v : Nat) : Nat := bits v 47 0
/-- SHAPE (R211). -/
def shpShape (v : Nat) : Bool := bit v 48
/-- FILL: ZERO (R211). -/
def shpZero (v : Nat) : Bool := bit v 49
/-- OVERHEAD (R211). -/
def shpOverhead (v : Nat) : Int := signed 7 (bits v 56 50)
/-- BURST (R211). -/
def shpBurst (v : Nat) : Nat := bits v 88 64
/-- WEIGHT (R211). -/
def shpWeight (v : Nat) : Nat := bits v 96 89
/-- PARENT (R211). -/
def shpParent (v : Nat) : Nat := bits v 113 97
/-- VALID (R211). -/
def shpValid (v : Nat) : Bool := bit v 114
/-- LEVEL (R211). -/
def shpLevel (v : Nat) : Nat := bits v 116 115

/-- A node number that R210 uses. -/
def shpUsed (n : Nat) : Bool :=
  if n < 0x8200 then n < 368 || 512 ≤ n else if n < 0x8240 then n < 0x822E else if n < 0x8440 then n < 0x83B0
  else n < 0x20000

/-- The level number of a node (R210). -/
def Dev.shpLevelOf (s : Dev) (n : Nat) : Nat :=
  if n < 0x8200 then 4 else if n < 0x8240 then 0 else if n < 0x8440 then 1 else shpLevel (s.shaperView n)

/-- The bucket of a node, in units of 2^-32 bytes (R214). -/
def Dev.bucket (s : Dev) (n : Nat) : Int := Sparse.get (fun _ => 0) s.sch.bucket n

/-- Set the bucket of a node. -/
def Dev.setBucket (s : Dev) (n : Nat) (b : Int) : Dev :=
  { s with sch := { s.sch with bucket := Sparse.set (fun _ => 0) s.sch.bucket n b } }

/-- `k` refills of a bucket, clamped once (R214, R215). -/
def refillBucket (v k : Nat) (b : Int) : Int := if k = 0 then b else min ((shpBurst v : Int) * 2 ^ 32) (b + k * shpInc v)

/-- The nodes whose entry in force has SHAPE 1. -/
def Dev.shapedNodes (s : Dev) : List Nat :=
  (s.regs.filter (fun e => e.1 / 2 ^ 24 = Reg.SCH_SHP_ENTRY.ctorIdx && e.1 % 2 = 0 && bit e.2.toNat 48)).map
    (fun e => e.1 % 2 ^ 24 / 2)

/-- The refills that a node takes at this boundary: those deferred and the regular one (R217). -/
def Dev.refillsOf (s : Dev) (n : Nat) : Nat := s.sch.given - Sparse.get (fun _ => 0) s.sch.forgiven n

/-- Refill a node at this boundary. -/
def Dev.refillNode (s : Dev) (n : Nat) : Dev := s.setBucket n (refillBucket (s.shaper n) (s.refillsOf n) (s.bucket n))

/-- The refills of a boundary: one beside those deferred, or none while the engine defers them (R20, R215). -/
def Dev.countRefills (s : Dev) : Dev :=
  let f := if s.sch.given = 0 then s.sch.forgiven else []
  if s.lateClass 0x06 then { s with sch := { s.sch with owed := s.sch.owed + 1, given := 0, forgiven := f } }
  else { s with sch := { s.sch with owed := 0, given := s.sch.owed + 1, forgiven := f } }

/-- The refill of every shaping node at a boundary (R214), but for those whose rewrite is due at it (R217). -/
def Dev.refillShapers (s : Dev) (skip : List Nat) : Dev :=
  let s := s.countRefills
  forEach (s.shapedNodes.filter (fun n => !skip.contains n)) s Dev.refillNode

/-- A node that a rewrite sets takes no refill that is deferred (R216, R217). -/
def Dev.forgive (s : Dev) (n : Nat) : Dev :=
  { s with sch := { s.sch with forgiven := Sparse.set (fun _ => 0) s.sch.forgiven n (s.sch.owed + s.sch.given) } }

/-- The bucket of a node that an apply of group 0 rewrites, by the mode of the volley before (R216); `before` is the old
entry. -/
def Dev.rewriteShaper (s : Dev) (n before : Nat) (mode : Mode) : Dev :=
  let v := s.shaper n
  if !shpShape v then s.setBucket n 0
  else match mode with
    | .service | .degraded => s.setBucket n (if shpZero v then 0 else (shpBurst v : Int) * 2 ^ 32)
    | _ => if shpShape before then s else s.setBucket n 0

/-- The pending entries of an access-register table: the cells of `r` in the pending copy, `w` words an entry. -/
def Dev.pendEntries (s : Dev) (r : Reg) (w : Nat) : List Nat :=
  ((s.pend.filter (fun e => decide (e.1 / 2 ^ 24 = r.ctorIdx))).map (fun e => e.1 % 2 ^ 24 / w)).eraseDups

/-- Report the RESULT of an access in a status register. -/
def Dev.accResult (s : Dev) (r : Reg) (result : Nat) : Dev := s.setFld r 0 1 0 result

/-- The reserved bits of a shaper entry read 0, and PARENT of a node with a fixed parent is ignored (R211, R212). -/
def shpMask (n v : Nat) : Nat :=
  let w := putBits (bits v 116 0) 63 57 0
  if n < 368 ∨ (0x8200 ≤ n ∧ n < 0x8440) then putBits w 113 97 0 else w

/-- The effect of a write access (R213). -/
def Dev.shaperWrite (s : Dev) (n : Nat) : Dev :=
  let v := shpMask n (s.rd .SCH_SHP_ACC_DATA0 0 + s.rd .SCH_SHP_ACC_DATA1 0 * 2 ^ 64)
  let es := s.pendEntries .SCH_SHP_ENTRY 2
  if shpUsed n = false then s.accResult .SCH_SHP_ACC_STATUS 1
  else if es.contains n = false ∧ 4096 ≤ es.length then s.accResult .SCH_SHP_ACC_STATUS 2
  else (((s.pendWrite .SCH_SHP_ENTRY (2 * n) (v % 2 ^ 64)).pendWrite .SCH_SHP_ENTRY (2 * n + 1) (v / 2 ^ 64))).accResult
    .SCH_SHP_ACC_STATUS 0

/-- SHAPER_WRITE (R213). -/
def execShaperWrite (o : Origin) (index : Nat) (s : State) : Outcome State Fault Refusal := s.act fun s =>
  let n := index % 2 ^ 17
  .next (s.regWrite o .SCH_SHP_ACC_CTL 0 4 (2 * 2 ^ 17 + n) fun s => s.shaperWrite n)

/-- The effect of a read access (R213). -/
def Dev.shaperRead (s : Dev) (n : Nat) : Dev :=
  if shpUsed n = false then s.accResult .SCH_SHP_ACC_STATUS 1
  else (((s.wr .SCH_SHP_ACC_DATA0 0 (s.shaper n)).wr .SCH_SHP_ACC_DATA1 0 (s.shaper n / 2 ^ 64))).accResult
    .SCH_SHP_ACC_STATUS 0

/-- SHAPER_READ (R213). -/
def execShaperRead (o : Origin) (index : Nat) (s : State) : Outcome State Fault Refusal := s.act fun s =>
  let n := index % 2 ^ 17
  .next (s.regWrite o .SCH_SHP_ACC_CTL 0 4 (2 ^ 17 + n) fun s => s.shaperRead n)

/-- The effect of a state read (R213, R214): a signed count, and 0 for a node with SHAPE 0. -/
def Dev.shaperState (s : Dev) (n : Nat) : Dev :=
  if shpUsed n = false then s.accResult .SCH_SHP_ACC_STATUS 1
  else
    let b := if shpShape (s.shaper n) then unsigned 64 (s.bucket n) else 0
    ((s.wr .SCH_SHP_ACC_DATA0 0 b).wr .SCH_SHP_ACC_DATA1 0 0).accResult .SCH_SHP_ACC_STATUS 0

/-- SHAPER_STATE_READ (R213). -/
def execShaperStateRead (o : Origin) (index : Nat) (s : State) : Outcome State Fault Refusal := s.act fun s =>
  let n := index % 2 ^ 17
  .next (s.regWrite o .SCH_SHP_ACC_CTL 0 4 (3 * 2 ^ 17 + n) fun s => s.shaperState n)

/-! ### Policers (R218 to R225) -/

/-- A policer entry from its four words. -/
def policerOf (w : Nat → Nat) : Nat := w 0 + w 1 * 2 ^ 64 + w 2 * 2 ^ 128 + w 3 * 2 ^ 192

/-- A policer entry in force. -/
def Dev.policer (s : Dev) (n : Nat) : Nat := policerOf (fun w => s.rd .SCH_POL_ENTRY (4 * n + w))

/-- The buckets of a policer and the VN of its last charge: C, P (E) in units of 2^-32 bytes (R219). -/
def Dev.polState (s : Dev) (n : Nat) : Nat × Nat × Nat := Sparse.get (fun _ => (0, 0, 0)) s.sch.pol n

/-- Set the buckets of a policer. -/
def Dev.setPolState (s : Dev) (n : Nat) (x : Nat × Nat × Nat) : Dev :=
  { s with sch := { s.sch with pol := Sparse.set (fun _ => (0, 0, 0)) s.sch.pol n x } }

/-- The buckets after the refills of all boundaries since the last charge (R219). -/
def polRefill (v now : Nat) (x : Nat × Nat × Nat) : Nat × Nat :=
  let k := now - x.2.2
  (min (bits v 120 96 * 2 ^ 32) (x.1 + k * bits v 47 0), min (bits v 145 121 * 2 ^ 32) (x.2.1 + k * bits v 95 48))

/-- The colour of a charge of `b` bytes (units of 2^-32) and the buckets after it (R220): 0 green, 1 yellow, 2 red. -/
def polColor (v pre b c p : Nat) : Nat × Nat × Nat :=
  let aware := bit v 194
  if bit v 193 then
    if (!aware || pre = 0) && b ≤ c then (0, c - b, p)
    else if (!aware || pre ≠ 2) && b ≤ p then (1, c, p - b)
    else (2, c, p)
  else
    if (aware && pre = 2) || p < b then (2, c, p)
    else if (aware && pre = 1) || c < b then (1, c, p - b)
    else (0, c - b, p - b)

/-- The pre-colour that a map gives, through the source that PRECOLOR selects (R221, steps 3 and 4). -/
def Dev.mapColor (s : Dev) (v kv : Nat) : Nat :=
  let sel := s.rd .SCH_COLOR_SEL 0
  let m := bits v 212 209
  match bits v 196 195 with
  | 1 =>
    let lo := bits sel 9 0
    if bit kv (bits sel 19 10) then s.rd .SCH_PCP_MAP m / 4 ^ bits kv (lo + 3) lo % 4 else 0
  | 2 =>
    let lo := bits sel 29 20
    if bit kv (bits sel 39 30) then
      (s.rd .SCH_DSCP_MAP (2 * m) + s.rd .SCH_DSCP_MAP (2 * m + 1) * 2 ^ 64) / 4 ^ bits kv (lo + 5) lo % 4
    else 0
  | _ => 0

/-- What the policers charged have done to a frame: its colour, the remark profiles, and whether it is dropped. -/
structure Policed where
  s : Dev
  color : Nat
  remark : List (Nat × Nat)
  dropped : Bool

/-- Charge one policer (R219 to R224), colour-aware when `aware` or its own AWARE is set: the state after, and the
result colour. -/
def Dev.chargeOne (s : Dev) (n pre len : Nat) (aware : Bool) : Dev × Nat :=
  let v := if aware then s.policer n ||| 2 ^ 194 else s.policer n
  let b := (max 0 ((len : Int) + 4 + signed 7 (bits v 192 186))).toNat
  let (c, p) := polRefill v s.vn (s.polState n)
  let (col, c, p) := polColor v pre (b * 2 ^ 32) c p
  let s := s.setPolState n (c, p, s.vn)
  (if bit v 208 then s.ctrAdd (bits v 185 164 + col) 1 b else s, col)

/-- Charge a policer and its chain, at most 4 in all (R220 to R223). `pre` is the pre-colour that comes before the map's,
if any; a policer reached by a chain is charged colour-aware. -/
def Dev.police (s : Dev) (kv len : Nat) : Nat → Nat → Option Nat → Bool → List (Nat × Nat) → Policed
  | 0, _, pre, _, rm => ⟨s.bump .SCH_POL_CHAIN_CUT 0, pre.getD 0, rm, false⟩
  | k + 1, n, pre, chained, rm =>
    let v := s.policer n
    let (s, col) := s.chargeOne n (pre.getD (s.mapColor v kv)) len chained
    let act := if col = 0 then bits v 198 197 else if col = 1 then bits v 200 199 else bits v 202 201
    let rm := if act = 1 then rm ++ [(bits v 206 203, col)] else rm
    if act = 2 then ⟨s.bump .SCH_POL_DROPS 0, col, rm, true⟩
    else if bit v 207 then s.police kv len k (bits v 163 146) (some col) true rm
    else ⟨s, col, rm, false⟩

/-- Fill the four words of SCH_POL_ACC_DATA. -/
def Dev.polData (s : Dev) (f : Nat → Nat) : Dev :=
  forEach (List.range 4) s (fun s w => s.wr .SCH_POL_ACC_DATA w (f w))

/-- The effect of a write access (R225). -/
def Dev.policerWrite (s : Dev) (n : Nat) : Dev :=
  let v := bits (policerOf (fun w => s.rd .SCH_POL_ACC_DATA w)) 212 0
  let es := s.pendEntries .SCH_POL_ENTRY 4
  if es.contains n = false ∧ 4096 ≤ es.length then s.accResult .SCH_POL_ACC_STATUS 2
  else (forEach (List.range 4) s (fun s w => s.pendWrite .SCH_POL_ENTRY (4 * n + w) (v / 2 ^ (64 * w) % 2 ^ 64))).accResult
    .SCH_POL_ACC_STATUS 0

/-- POLICER_WRITE (R225). -/
def execPolicerWrite (o : Origin) (index : Nat) (s : State) : Outcome State Fault Refusal := s.act fun s =>
  let n := index % 2 ^ 18
  .next (s.regWrite o .SCH_POL_ACC_CTL 0 4 (2 * 2 ^ 18 + n) fun s => s.policerWrite n)

/-- The effect of a read access (R225). -/
def Dev.policerRead (s : Dev) (n : Nat) : Dev :=
  (s.polData (fun w => s.rd .SCH_POL_ENTRY (4 * n + w))).accResult .SCH_POL_ACC_STATUS 0

/-- POLICER_READ (R225). -/
def execPolicerRead (o : Origin) (index : Nat) (s : State) : Outcome State Fault Refusal := s.act fun s =>
  let n := index % 2 ^ 18
  .next (s.regWrite o .SCH_POL_ACC_CTL 0 4 (2 ^ 18 + n) fun s => s.policerRead n)

/-- The effect of a state read (R225): Tc and Tp as the last charge left them, and its VN (DEDUCED, log entry 22). -/
def Dev.policerState (s : Dev) (n : Nat) : Dev :=
  let x := s.polState n
  (s.polData (fun w => if w = 0 then x.1 else if w = 1 then x.2.1 else if w = 2 then x.2.2 else
    s.rd .SCH_POL_ACC_DATA 3)).accResult .SCH_POL_ACC_STATUS 0

/-- POLICER_STATE_READ (R225). -/
def execPolicerStateRead (o : Origin) (index : Nat) (s : State) : Outcome State Fault Refusal := s.act fun s =>
  let n := index % 2 ^ 18
  .next (s.regWrite o .SCH_POL_ACC_CTL 0 4 (3 * 2 ^ 18 + n) fun s => s.policerState n)

end Sys2Proof.Machine
end

