-- ==== Sys2Proof/Machine/Wire.lean ====
section
/-! DEFINITION. Ethernet ports, lanes and timestamps (R39 to R57): port maps, reception, flow control received, port
reset and training, lane retrain, FEC windows, the transmit-timestamp FIFO and the Trim Set. -/

namespace Sys2Proof.Machine

open Host

/-! ### Ports of the map in force (R39 to R41) -/

/-- The speed in Gb/s of the port at offset `o` of a port group whose WIRE_PG_MAP is `m`, if a port starts there (R41). -/
def mapSpeed (m o : Nat) : Option Nat :=
  if bit m 8 then (if o = 0 then some 800 else none)
  else
    let code := if o < 4 then bits m 2 0 else bits m 6 4
    match code, o % 4 with
    | 0, 0 => some 400
    | 1, 0 => some 200 | 1, 2 => some 200
    | 2, 0 => some 200 | 2, 2 => some 100 | 2, 3 => some 100
    | 3, 0 => some 100 | 3, 1 => some 100 | 3, 2 => some 200
    | 4, _ => some 100
    | _, _ => none

/-- The speed of MAC port `p` under the maps in force, if it exists. -/
def Dev.portSpeed (s : Dev) (p : Nat) : Option Nat := mapSpeed (s.rd .WIRE_PG_MAP (p / 8)) (p % 8)

/-- The port that uses lane `l` under a map: the mapped offset at or below it whose port reaches it. -/
def Dev.lanePort (s : Dev) (l : Nat) : Option Nat :=
  let g := l / 8
  (List.range 8).findSome? (fun o => match mapSpeed (s.rd .WIRE_PG_MAP g) o with
    | some sp => if o ≤ l % 8 ∧ l % 8 < o + sp / 100 then some (8 * g + o) else none
    | none => none)

/-- WIRE_PORT_STATUS.STATE of a port (R46). -/
def Dev.portState (s : Dev) (p : Nat) : Nat := s.fld .WIRE_PORT_STATUS p 7 4

/-- Set STATE and the flag bits TX_DRAIN, FEC_LOCK, ALIGN, LINK_UP of a port (R46). -/
def Dev.setPort (s : Dev) (p st drain lock align : Nat) : Dev :=
  s.wr .WIRE_PORT_STATUS p (st * 2 ^ 4 + drain * 2 ^ 3 + lock * 2 ^ 2 + align * 2 + (if st = 4 then 1 else 0))

/-- What a port with nothing recorded holds. -/
def WirePort.none : WirePort := ⟨[], 0, []⟩

/-- The state of a port beside its registers. -/
def Dev.wport (s : Dev) (p : Nat) : WirePort := Sparse.get (fun _ => WirePort.none) s.wire.ports p

/-- Store the state of a port beside its registers. -/
def Dev.setWport (s : Dev) (p : Nat) (x : WirePort) : Dev :=
  { s with wire := { s.wire with ports := Sparse.set (fun _ => WirePort.none) s.wire.ports p x } }

/-- What a lane with nothing recorded holds. -/
def WireLane.none : WireLane := ⟨.none, 0, 0, 0⟩

/-- The state of a lane beside its registers. -/
def Dev.wlane (s : Dev) (l : Nat) : WireLane := Sparse.get (fun _ => WireLane.none) s.wire.lanes l

/-- Store the state of a lane beside its registers. -/
def Dev.setWlane (s : Dev) (l : Nat) (x : WireLane) : Dev :=
  { s with wire := { s.wire with lanes := Sparse.set (fun _ => WireLane.none) s.wire.lanes l x } }

/-- The identifier of the MAC port whose lowest lane is `p`: units 0x10 to 0x17 of its port group. -/
def portUnit (p : Nat) : Nat := unitId 0x01 (p / 8) (0x10 + p % 8)

/-- The identifier of a lane. -/
def laneUnit (l : Nat) : Nat := unitId 0x01 (l / 8) (l % 8)

/-- A port is held down by a fence of its own or of one of its lanes (R470). -/
def Dev.portFenced (s : Dev) (p : Nat) : Bool :=
  s.isFenced (portUnit p) || (List.range ((s.portSpeed p).getD 0 / 100)).any (fun k => s.isFenced (laneUnit (p + k)))

/-- The ingress count of a port and class (R174): the cells in the buffer of frames received on it in that class. The copies of a frame
share its cells, which stay until the last has left (R171). -/
def Dev.ingressCells (s : Dev) (p c : Nat) : Nat :=
  ((s.framesIf (fun f => f.inPort = p && f.inCls = c && f.inBuffer)).foldl (fun (a : List Nat × Nat) e =>
    let f := e.2.orig.getD e.1
    if a.1.contains f then a else (f :: a.1, a.2 + e.2.cells)) ([], 0)).2

/-! ### Flow control sent (R174) -/

/-- A port can send a frame: it is up, and the mode lets ports send (R43, R188, R575). -/
def Dev.portSends (s : Dev) (p : Nat) : Bool := decide (s.portState p = 4) && s.mode.traffic

/-- Send a PFC or PAUSE frame of a port and class, where the port can send one. -/
def Dev.sendPfc (s : Dev) (p c quanta : Nat) : Dev :=
  if s.portSends p = false then s
  else
  let s := (s.emit (.flowControl p (if s.fld .WIRE_PORT_CFG p 5 4 = 2 then 2 ^ c else 0) quanta)).bump .WIRE_TX_FC p
  if quanta = 0 then s else s.bump .SWB_PFC_XOFF_SENT p

/-- Record the VN at which a port and class last sent XOFF, or that it has sent XON. -/
def Dev.setXoff (s : Dev) (p c : Nat) (v : Option Nat) : Dev :=
  { s with swb := { s.swb with xoff := Sparse.put s.swb.xoff (8 * p + c) v } }

/-- The ingress count of a port and class has risen: XOFF is sent when it reaches the limit. -/
def Dev.xoffCheck (s : Dev) (p c : Nat) : Dev :=
  if (Sparse.get? s.swb.xoff (8 * p + c)).isNone ∧ s.fld .SWB_PORT_PFC p 59 40 ≤ s.ingressCells p c then
    (s.sendPfc p c 0xFFFF).setXoff p c (some s.vn)
  else s

/-- PFC_XON: every paused port and class whose ingress count is down to XON sends quanta 0. -/
def Dev.xonCheck (s : Dev) : Dev :=
  forEach s.swb.xoff s (fun s e =>
    let p := e.1 / 8
    let c := e.1 % 8
    if s.ingressCells p c ≤ s.fld .SWB_PORT_PFC p 39 20 then (s.sendPfc p c 0).setXoff p c none else s)

/-- Flush every frame queued for a MAC port, one in the crypto complex on its way back included, counted FLUSH_LINKDOWN (R42,
R189). -/
def Dev.flushPort (s : Dev) (p : Nat) : Dev :=
  (forEach (s.framesIf (fun f => f.inQueue && f.queue / 8 = p)) s (fun s e =>
    (s.loseFrame e.1).bump .SWB_FLUSH_LINKDOWN p)).xonCheck

/-- The boundary of the end of a hold that starts now (R188). -/
def Dev.holdEnd (s : Dev) (p : Nat) : Nat := s.vn + 25 * s.fld .SWB_PORT_CFG p 43 28

/-- A port's hold starts (R188); HOLD = 0 flushes at once (R189). -/
def Dev.startHold (s : Dev) (p : Nat) : Dev :=
  if s.fld .SWB_PORT_CFG p 43 28 = 0 then s.flushPort p
  else { s with swb := { s.swb with hold := Sparse.put s.swb.hold p (some (s.holdEnd p)) } }

/-- Frames being transmitted on a port when it is cut are lost and counted SWB_TX_ABORTED (R188, R42). -/
def Dev.abortTx (s : Dev) (p : Nat) : Dev :=
  forEach (s.framesIf (fun f => f.loc = .mac p)) s (fun s e => (s.loseFrame e.1).bump .SWB_TX_ABORTED p)

/-- A MAC sends the bytes it has of a frame and ends them with the complement of the correct FCS (R42, R177). How many it has, and
when, is a free value. -/
def Dev.cutFrame (s : Dev) (p : Nat) (x : Frame) : Dev :=
  let (n, s) := s.draw
  let (t, s) := s.draw
  s.emit (.ethFrame p (x.bytes.take (n % (x.bytes.length + 1))) false t)

/-- The boundary row of R47, which a port reset, a lost link and a retrain that fails pass through: STATE 0x5, the MAC's
state cleared, a frame still being received cut off, a LINK_DOWN counted when it was up, and the hold started. The
transmit-timestamp FIFO is kept: R47 does not say whether it is MAC state (DESIGN CHOICE, log entry 115). -/
def Dev.portDown (s : Dev) (p : Nat) (rxBusy : Bool) : Dev :=
  let wasUp := decide (s.portState p = 4)
  let s := (s.abortTx p).setPort p 5 0 0 0
  let s := s.setWport p { s.wport p with since := s.vn, rxPause := [] }
  let s := if rxBusy then s.bump .WIRE_RX_ABORTED p else s
  let s := if wasUp then s.bump .WIRE_LINK_DOWN p else s
  s.startHold p

/-! ### Reception (R45, R46, R50, R575) -/

/-- Frames other than PAUSE and PFC pass the MAC (R575). -/
def Mode.carriesFrames (m : Mode) : Bool := m.traffic

/-- The length in ns of the volley `ago` volleys before the present one. -/
def Dev.volleyAgo (s : Dev) (ago : Nat) : Nat := (s.clk.volleyNs :: s.clk.lens).getD ago 40

/-- Device time in units of 2^-16 ns, `sub` such units of the reference after the start of the volley `ago` volleys before this one
(R16): within a volley of 39 or 41 ns it advances at 40/39 or 40/41 of the reference. -/
def Dev.timeAt (s : Dev) (ago sub : Nat) : Nat :=
  let len := s.volleyAgo ago
  (s.vn - ago) * 40 * 2 ^ 16 + min sub (len * 2 ^ 16 - 1) * 40 / len

/-- A timestamp of a moment: device time, off by a free value of at most 2 ns (R50). -/
def Dev.stampAt (s : Dev) (ago sub : Nat) : Nat × Dev :=
  ((s.timeAt ago sub + 2 * 2 ^ 16 - ((s.draw).1 % (4 * 2 ^ 16 + 1))) % 2 ^ 80, (s.draw).2)

/-- A receive timestamp with the board correction added, in units of 2^-16 ns (R50). -/
def Dev.rxStamp (s : Dev) (p raw : Nat) : Nat :=
  (((raw : Int) + signed 16 (s.fld .WIRE_TS_ADJ p 15 0) * 256) % (2 ^ 80 : Int)).toNat

/-- A transmit timestamp with the board correction added, in units of 2^-16 ns (R50). -/
def Dev.txStamp (s : Dev) (p raw : Nat) : Nat :=
  (((raw : Int) + signed 16 (s.fld .WIRE_TS_ADJ p 31 16) * 256) % (2 ^ 80 : Int)).toNat

/-- The compact format of a full timestamp (R51). -/
def compactTime (full : Nat) : Nat := bits full 71 16 * 256 + bits full 15 8

/-- Which counter a received frame of `n` bytes with FCS counts, when it is not passed on (R45). -/
def rxVerdict (n maxLen : Nat) (cut fcsOk : Bool) : Option Reg :=
  if cut then some .WIRE_RX_ABORTED
  else if n < 64 then some (if fcsOk then .WIRE_RX_UNDERSIZE else .WIRE_RX_FRAGMENT)
  else if maxLen < n then some .WIRE_RX_OVERSIZE
  else if fcsOk then none
  else some .WIRE_RX_FCS_ERR

/-- The first 512 bytes of a frame have come in, and some port of the same speed cuts through (R176): its header goes on before its end
is known to be bad. -/
def Dev.entersEarly (s : Dev) (port : Nat) (bytes : List Byte) : Bool :=
  decide (512 ≤ bytes.length) && (List.range 32).any (fun p =>
    decide (s.fld .SWB_PORT_CFG p 7 0 ≠ 0) && decide (s.portSpeed p = s.portSpeed port))

/-- A MAC receives a frame that passed its timestamp point at a full timestamp `t` (R45, R50, R575): a whole frame, or as much as
came before it was cut off. One that turns out bad is discarded and counted; where it may be cut through, it goes on as a bad frame, to
be stomped or dropped (R177; DESIGN CHOICE, log entry 56). -/
def Dev.macReceive (s : Dev) (port : Nat) (bytes : List Byte) (fcsOk cut : Bool) (t : Nat) : Dev :=
  let n := bytes.length + 4
  let max := s.fld .WIRE_PORT_CFG port 31 18
  match rxVerdict n max cut fcsOk with
  | some r =>
    let s := s.bump r port
    if n ≤ max ∧ s.mode.carriesFrames ∧ s.entersEarly port bytes then
      s.newFrame { Frame.fresh bytes port with rxTime := s.rxStamp port t, bad := true } .frontEnd
    else s
  | none =>
    if !s.mode.carriesFrames then s.bump .WIRE_RX_MODE_DROP port
    else
      let s := (s.bump .WIRE_RX_FRAMES_OK port).add .WIRE_RX_BYTES_OK port n
      s.newFrame { Frame.fresh bytes port with rxTime := s.rxStamp port t } .frontEnd

/-- The lanes of a port are in near-end loopback (R46): it acts in MAINTENANCE only. -/
def Dev.looped (s : Dev) (p : Nat) : Bool :=
  decide (s.mode = .maintenance) && (s.portSpeed p).isSome &&
    (List.range ((s.portSpeed p).getD 0 / 100)).all (fun k => decide (s.fld .WIRE_LANE_CTL (p + k) 3 3 = 1))

/-- RECEIVE_FRAME (R45, R50, R575): a frame on a port that is up, which passed its timestamp point `sub` units of 2^-16 ns into the
volley `ago` volleys before this one. A port in loopback receives what it sends and nothing from its lanes. -/
def execReceiveFrame (port : Nat) (bytes : List Byte) (fcsOk cut : Bool) (ago sub : Nat) (s : State) :
    Outcome State Fault Refusal := s.act fun s =>
  if 32 ≤ port then .fault .noSuchObject
  else if s.portState port ≠ 4 ∨ s.looped port then .next s
  else .next ((s.stampAt ago sub).2.macReceive port bytes fcsOk cut (s.stampAt ago sub).1)

/-- The volleys that a number of quanta of 512 bit times last on a port of `speed` Gb/s, rounded up (R174). -/
def quantaVolleys (quanta speed : Nat) : Nat := (quanta * 512 + 40 * speed - 1) / (40 * speed)

/-- The classes that a received frame pauses, with their quanta (R46): a PFC frame those it names, a PAUSE frame all eight; neither
any on a port whose WIRE_PORT_CFG.FC is not of its kind. -/
def Dev.pausedBy (s : Dev) (port : Nat) (pfc : Bool) (quanta : List (Nat × Nat)) : List (Nat × Nat) :=
  let fc := s.fld .WIRE_PORT_CFG port 5 4
  if pfc then (if fc = 2 then quanta else [])
  else if fc = 1 then (match quanta with
    | q :: _ => (List.range 8).map (fun c => (c, q.2))
    | [] => [])
  else []

/-- PAUSE_FRAME_RECEIVED (R46, R174, R57): a PAUSE or a PFC frame is consumed and counted, and the classes it pauses are paused for
their quanta; quanta 0 ends a pause. -/
def execPauseFrameReceived (port : Nat) (pfc : Bool) (quanta : List (Nat × Nat)) (s : State) : Outcome State Fault Refusal := s.act fun s =>
  if 32 ≤ port then .fault .noSuchObject
  else if s.portState port ≠ 4 then .next s
  else
    let w := s.wport port
    let step := fun (l : List (Nat × Nat)) (q : Nat × Nat) =>
      let l := l.filter (fun e => !(e.1 = q.1 % 8))
      if q.2 % 2 ^ 16 = 0 then l
      else l ++ [(q.1 % 8, s.vn + quantaVolleys (q.2 % 2 ^ 16) ((s.portSpeed port).getD 100))]
    .next ((s.bump .WIRE_RX_FC port).setWport port { w with rxPause := (s.pausedBy port pfc quanta).foldl step w.rxPause })

/-- PAUSE_QUANTA_EXPIRY (R174): a pause whose quanta have run out ends. -/
def execPauseQuantaExpiry (port cls : Nat) (s : State) : Outcome State Fault Refusal := s.act fun s =>
  if 32 ≤ port then .fault .noSuchObject
  else
    let w := s.wport port
    .next (s.setWport port { w with rxPause := w.rxPause.filter (fun e => !(e.1 = cls && decide (e.2 ≤ s.vn))) })

/-- Class `c` of a port is paused by a received PAUSE or PFC frame (R174, R199). -/
def Dev.rxPaused (s : Dev) (p c : Nat) : Bool := (s.wport p).rxPause.any (fun e => e.1 = c)

/-! ### Port reset and training (R47, R48) -/

/-- The effect of a write of 1 to WIRE_PORT_CTL.RESET (R47): none at an offset with no port, nor while the port is
already resetting or training. -/
def Dev.portReset (s : Dev) (p : Nat) : Dev :=
  if s.portState p = 0 ∨ s.portState p = 5 ∨ s.portState p = 2 ∨ s.fld .WIRE_PORT_STATUS p 3 3 = 1 then s
  else (s.setFld .WIRE_PORT_STATUS p 3 3 1).setWport p { s.wport p with since := s.vn }

/-- PORT_RESET (R47). -/
def execPortReset (o : Origin) (port : Nat) (s : State) : Outcome State Fault Refusal := s.act fun s =>
  if 32 ≤ port then .fault .noSuchObject
  else .next (s.regWrite o .WIRE_PORT_CTL port 4 1 fun s => s.portReset port)

/-- TX_DRAIN_END (R47): at the boundary after the frame on the wire has finished. `rxBusy`: a frame is still being
received. -/
def execTxDrainEnd (port : Nat) (rxBusy : Bool) (s : State) : Outcome State Fault Refusal := s.act fun s =>
  if 32 ≤ port then .fault .noSuchObject
  else if s.fld .WIRE_PORT_STATUS port 3 3 = 0 ∨ s.vn ≤ (s.wport port).since ∨ (s.firstIf (fun f => f.loc = .mac port)).isSome then
    .next s
  else .next (s.portDown port rxBusy)

/-- The polarity bits of a lane that the next training takes (R46). -/
def Dev.lanePolarity (s : Dev) (l : Nat) : Nat := s.fld .WIRE_LANE_CTL l 1 0

/-- Begin training or adaptation on a port: STATE 0x2, with the polarities of its lanes (R46, R47). -/
def Dev.trainPort (s : Dev) (p : Nat) : Dev :=
  let s := s.setPort p 2 0 0 0
  let s := s.setWport p { s.wport p with since := s.vn }
  forEach (List.range ((s.portSpeed p).getD 0 / 100)) s (fun s k =>
    s.setWlane (p + k) { s.wlane (p + k) with retrain := none, polarity := s.lanePolarity (p + k) })

/-- TRAINING_START (R47, R55): a resetting or a new port that no fence holds down, once Basecamp has loaded the Trim Set. -/
def execTrainingStart (port : Nat) (s : State) : Outcome State Fault Refusal := s.act fun s =>
  if 32 ≤ port then .fault .noSuchObject
  else if (s.portState port = 5 ∨ s.portState port = 1) ∧ s.portFenced port = false ∧ s.bcp.trimDone then .next (s.trainPort port)
  else .next s

/-- FEC_ALIGN_LOCK (R46): a training port gains codeword lock on every lane and deskews in STATE 0x3. -/
def execFecAlignLock (port : Nat) (s : State) : Outcome State Fault Refusal := s.act fun s =>
  if 32 ≤ port then .fault .noSuchObject
  else if s.portState port = 2 then .next (s.setPort port 3 0 1 0)
  else .next s

/-- The hold of a port has expired (R188). -/
def Dev.holdOver (s : Dev) (p : Nat) : Bool := (Sparse.get? s.swb.hold p).any (fun v => decide (v ≤ s.vn))

/-- A hold that has expired before the port is up flushes its queues (R189). -/
def Dev.expireHold (s : Dev) (p : Nat) : Dev :=
  { s with swb := { s.swb with hold := Sparse.put s.swb.hold p none } }.flushPort p

/-- LINK_UP (R47, R189): the port reaches STATE 0x4 with lock and alignment, and its hold ends. A hold whose expiry lies behind has
flushed the port first. -/
def execLinkUp (port : Nat) (s : State) : Outcome State Fault Refusal := s.act fun s =>
  if 32 ≤ port then .fault .noSuchObject
  else if s.portState port = 2 ∨ s.portState port = 3 then
    let s := if (Sparse.get? s.swb.hold port).any (fun v => decide (v < s.vn)) then s.expireHold port else s
    let s := (s.setPort port 4 0 1 1).setWport port { s.wport port with since := s.vn }
    let held := (Sparse.get? s.swb.hold port).isSome
    let s := { s with swb := { s.swb with hold := Sparse.put s.swb.hold port none } }
    .next { s with sch := { s.sch with afterHold := Sparse.put s.sch.afterHold port (if held then some s.vn else none) } }
  else .next s

/-- TRAINING_RETRY (R47): after 3,000,000 volleys without a partner a training port starts again; nothing counts. -/
def execTrainingRetry (port : Nat) (s : State) : Outcome State Fault Refusal := s.act fun s =>
  if 32 ≤ port then .fault .noSuchObject
  else if s.portState port = 2 ∧ (s.wport port).since + 3000000 ≤ s.vn then .next (s.trainPort port)
  else .next s

/-- LINK_DOWN (R48, R188): an up port loses FEC lock, alignment or link. `rxBusy`: a frame was being received. -/
def execLinkDown (port : Nat) (rxBusy : Bool) (s : State) : Outcome State Fault Refusal := s.act fun s =>
  if 32 ≤ port then .fault .noSuchObject
  else if s.portState port = 4 then .next (s.portDown port rxBusy)
  else .next s

/-- The effect of a write of 1 to WIRE_LANE_CTL.RETRAIN (R48): none while the lane's port resets or trains, or while
the lane already retrains. A port with TX_DRAIN set and STATE still 0x4 counts as resetting here, of which R48 says nothing (DESIGN
CHOICE, log entry 116). -/
def Dev.retrainLane (s : Dev) (l : Nat) : Dev :=
  let busy := match s.lanePort l with
    | some p => s.portState p = 5 || s.portState p = 2 || s.fld .WIRE_PORT_STATUS p 3 3 = 1
    | none => false
  if busy || (s.wlane l).retrain.isSome then s
  else s.setWlane l { s.wlane l with retrain := some s.vn }

/-- RETRAIN (R48). -/
def execRetrain (o : Origin) (lane : Nat) (s : State) : Outcome State Fault Refusal := s.act fun s =>
  if 32 ≤ lane then .fault .noSuchObject
  else .next (s.regWrite o .WIRE_LANE_CTL lane 4 (s.rd .WIRE_LANE_CTL lane + 4) fun s => s.retrainLane lane)

/-- RETRAIN_COMPLETE (R48). -/
def execRetrainComplete (lane : Nat) (s : State) : Outcome State Fault Refusal := s.act fun s =>
  if 32 ≤ lane then .fault .noSuchObject
  else .next (s.setWlane lane { s.wlane lane with retrain := none })

/-- FEC_WINDOW_END (R49): the lane's window of 25,000 volleys ends with `symbols` errors; `corrected` and
`uncorrected` codewords of it are counted at the lane's port (R57). -/
def execFecWindowEnd (lane symbols corrected uncorrected : Nat) (s : State) : Outcome State Fault Refusal := s.act fun s =>
  if 32 ≤ lane then .fault .noSuchObject
  else if s.vn < (s.wlane lane).window + 25000 then .next s
  else
    let s := s.add .WIRE_LANE_FEC_SYMBOLS lane symbols
    let s := match s.lanePort lane with
      | some p => (s.add .WIRE_FEC_CW_CORRECTED p corrected).add .WIRE_FEC_CW_UNCORRECTED p uncorrected
      | none => s
    let s := s.setWlane lane { s.wlane lane with window := s.vn, errors := symbols }
    if s.rd .WIRE_LANE_DEGRADE_LIMIT (lane / 8) < symbols then .next (s.whistle 0x03 (laneUnit lane) 0 symbols)
    else .next s

/-! ### Transmit timestamps (R53) -/

/-- Store a capture in a port's FIFO of 64, or count it lost (R53). -/
def Dev.capture (s : Dev) (p tag time : Nat) : Dev :=
  let w := s.wport p
  if w.ts.length < 64 then s.setWport p { w with ts := w.ts ++ [(tag % 2 ^ 16, time)] }
  else s.bump .WIRE_TS_TX_LOST p

/-- TS_TX_POP (R53): removes the head entry; no effect on an empty FIFO. -/
def execTsTxPop (o : Origin) (port : Nat) (s : State) : Outcome State Fault Refusal := s.act fun s =>
  if 32 ≤ port then .fault .noSuchObject
  else .next (s.regWrite o .WIRE_TS_TX_POP port 4 1 fun s =>
    s.setWport port { s.wport port with ts := (s.wport port).ts.drop 1 })

/-! ### A new port map takes effect (R42) -/

/-- PORT_MAP_CHANGE (R42): ports of the old map that the new one does not keep are cut off and flushed, with no hold;
ports new in the new map start down. `old` is the map before; `rxBusy` names the ports that were receiving a frame. -/
def Dev.portMapChange (s : Dev) (g old : Nat) (rxBusy : List Nat) : Dev :=
  let new := s.rd .WIRE_PG_MAP g
  forEach (List.range 8) s (fun s o =>
    let p := 8 * g + o
    if mapSpeed old o = mapSpeed new o then s
    else
      let s := if (mapSpeed old o).isSome then
          let wasUp := decide (s.portState p = 4)
          let s := forEach (s.framesIf (fun f => f.loc = .mac p)) s (fun s e => s.cutFrame p e.2)
          let s := ((s.abortTx p).flushPort p)
          let s := if rxBusy.contains p then s.bump .WIRE_RX_ABORTED p else s
          let s := { s with swb := { s.swb with hold := Sparse.put s.swb.hold p none
                                                xoff := s.swb.xoff.filter (fun e => !decide (e.1 / 8 = p)) } }
          let s := if wasUp then s.bump .WIRE_LINK_DOWN p else s
          (s.setPort p 0 0 0 0).setWport p { s.wport p with rxPause := [], since := s.vn }
        else s
      if (mapSpeed new o).isSome then (s.setPort p 1 0 0 0).setWport p { s.wport p with since := s.vn } else s)

end Sys2Proof.Machine
end

