-- ==== Sys2Proof/Machine/Switch.lean ====
section
/-! DEFINITION. The switch core (R163 to R197): paths and drain barriers, admission to the egress queues, WRED and ECN,
lossless classes, cut-through, spill, multicast, mirror sessions, port hold, and the reorder sequencer. -/

namespace Sys2Proof.Machine

open Host

/-! ### Action records (R83 to R85) -/

/-- BASE of an action record. -/
def actBase (a : Nat) : Nat := bits a 2 0
/-- DEST_KIND. -/
def actKind (a : Nat) : Nat := bits a 4 3
/-- DEST. -/
def actDest (a : Nat) : Nat := bits a 22 5
/-- REASON. -/
def actReason (a : Nat) : Nat := bits a 63 57
/-- NH. -/
def actNh (a : Nat) : Nat := bits a 81 64
/-- SA. -/
def actSa (a : Nat) : Nat := bits a 99 82
/-- TS_ARG. -/
def actTsArg (a : Nat) : Nat := bits a 115 100
/-- TS_OP. -/
def actTsOp (a : Nat) : Nat := bits a 117 116
/-- CRYPTO. -/
def actCrypto (a : Nat) : Nat := bits a 119 118
/-- DECAP. -/
def actDecap (a : Nat) : Nat := bits a 121 120
/-- REWRITE. -/
def actRewrite (a : Nat) : Nat := bits a 123 122
/-- ENCAP. -/
def actEncap (a : Nat) : Bool := bit a 124

/-- The nexthop a record uses: DEST for a FORWARD through a nexthop, and NH otherwise (R86). -/
def actNexthop (a : Nat) : Nat := if actBase a = 2 ∧ actKind a = 3 then actDest a else actNh a

/-- DEST_KIND and DEST are allowed for a base action (R84). -/
def destOk (base kind dest : Nat) : Bool :=
  match base, kind with
  | 2, 0 => dest < 32
  | 2, 1 => dest < 4096
  | 2, 2 => dest < 65536
  | 2, 3 => 1 ≤ dest
  | 3, 0 => dest % 256 ≠ 0 && dest < 256
  | 3, 1 => dest < 8
  | 3, 2 => dest < 65536
  | 3, _ => false
  | 4, 0 => dest < 64
  | 4, _ => false
  | _, _ => true

/-- A nexthop's egress destination is allowed for a FORWARD (R132). -/
def nhDestOk (v : Nat) : Bool :=
  let d := bits v 133 116
  match bits v 115 114 with
  | 0 => d < 32
  | 1 => d < 4096
  | 2 => d < 65536
  | _ => false

/-! ### Step list (R77, R86) -/

/-- The steps that remain after DECAP k: those after the k-th step whose node has COUNT TUNNEL (R86). -/
def stepsAfter : Nat → List PStep → List PStep
  | 0, l => l
  | _, [] => []
  | k + 1, p :: ps => if p.count = 2 then stepsAfter k ps else stepsAfter (k + 1) ps

/-- The first IPV4 or IPV6 step of a list. -/
def firstIp (l : List PStep) : Option PStep := l.find? (fun p => p.kind = 2 || p.kind = 3)

/-! ### Queues and cells (R164, R171, R172) -/

/-- The cells of a frame of `n` bytes (R171). -/
def cellsOf (n : Nat) : Nat := (n + 4 + 255) / 256

/-- The destination index of a queue (R164). -/
def queueDest (q : Nat) : Nat := if q < 512 then q / 8 else 64 + (q - 512) / 8

/-- The queue of a destination index and a class. -/
def destQueue (d c : Nat) : Nat := if d < 64 then 8 * d + c else 512 + 8 * (d - 64) + c

/-- The frames of a queue. -/
def Dev.queued (s : Dev) (q : Nat) : List (Nat × Frame) := s.framesIf (fun f => f.inQueue && f.queue = q)

/-- The depth of a queue in cells (R172). -/
def Dev.depth (s : Dev) (q : Nat) : Nat := sumNat ((s.queued q).map (fun e => e.2.cells))

/-- The buffer profile of a queue. -/
def Dev.bprof (s : Dev) (q : Nat) : Nat := s.rd .SWB_BPROF (s.fld .SWB_QCFG q 5 0)

/-- MIN of a buffer profile. -/
def bpMin (p : Nat) : Nat := bits p 43 24

/-- U: the shared cells in use, over the queues that hold frames; headroom cells are apart (R172, R174). -/
def Dev.sharedUsed (s : Dev) : Nat :=
  let fs := s.framesIf (fun f => f.inQueue && !f.headroom)
  let qs := (fs.map (fun e => e.2.queue)).eraseDups
  sumNat (qs.map (fun q =>
    sumNat ((fs.filter (fun e => e.2.queue = q)).map (fun e => e.2.cells)) - bpMin (s.bprof q)))

/-- The pitch a frame is charged to (R175). -/
def chargeOf (x : Frame) (q : Nat) : Option Nat := if 512 ≤ q then some ((q - 512) / 8) else x.pitch

/-- The buffer cells charged to a pitch (R440). -/
def Dev.pitchCells (s : Dev) (p : Nat) : Nat :=
  sumNat ((s.framesIf (fun f => f.inQueue && f.charge = some p)).map (fun e => e.2.cells))

/-! ### Availability (R173 step 1, R188) -/

/-- A MAC port is available (R188). -/
def Dev.portAvailable (s : Dev) (p : Nat) : Bool := s.portState p = 4 || (Sparse.get? s.swb.hold p).isSome

/-- A link is up: it carries requests (R294). -/
def Dev.linkUp (s : Dev) (k : Nat) : Bool := 2 ≤ s.fld .HIF_LINK_STATUS k 11 8

/-- A link is not ABSENT (R173, R294): a link in DOWN is present, and frames for it wait. -/
def Dev.linkHere (s : Dev) (k : Nat) : Bool := s.fld .HIF_LINK_STATUS k 11 8 ≠ 0

/-- The destination of a queue is available (R173 step 1). -/
def Dev.destUp (s : Dev) (q : Nat) : Bool :=
  let d := queueDest q
  if d < 32 then s.portAvailable d
  else if d < 40 then bit (s.fld .SWB_CLUSTER_CTL 0 7 0) (d - 32)
  else if d < 42 then true
  else if d < 46 then s.linkHere (d - 42)
  else
    let p := d - 64
    !s.pitStopped p && s.linkHere (pmapLink (s.pmap p))

/-! ### WRED and ECN (R180, R181) -/

/-- The average depth of a queue after an arrival, in 1/256 cells (R180); the division rounds down (DESIGN CHOICE, log entry 24). An
empty queue is idle since the volley in which a frame last left it. -/
def Dev.wredAvg (s : Dev) (q : Nat) : Nat :=
  let w := s.fld .SWB_WRED_CTL (s.fld .SWB_QCFG q 15 8) 3 0
  let (a, since) := Sparse.get (fun _ => (0, 0)) s.swb.avg q
  let d := s.depth q
  let a : Nat := if d = 0 ∧ since + 2 ^ w ≤ s.vn then 0 else a
  ((a : Int) + ((d * 256 : Nat) - (a : Int)) / (2 ^ w : Nat)).toNat

/-- Store the average depth of a queue. -/
def Dev.setAvg (s : Dev) (q a : Nat) : Dev :=
  let (_, since) := Sparse.get (fun _ => (0, 0)) s.swb.avg q
  { s with swb := { s.swb with avg := Sparse.set (fun _ => (0, 0)) s.swb.avg q (a, since) } }

/-- The ECN field of the first IP header after DECAP, if there is one (R181). -/
def Frame.ecn (x : Frame) : Option Nat :=
  match firstIp (stepsAfter (actDecap x.action) x.steps) with
  | none => none
  | some p =>
    if p.kind = 2 then some (netBits x.bytes (8 * p.off + 14) 2) else some (netBits x.bytes (8 * p.off + 10) 2)

/-- The WRED decision of an arrival (R180, R181): 0 pass, 1 mark, 2 drop. -/
def Dev.wred (s : Dev) (x : Frame) (q a r : Nat) : Nat :=
  let v := s.rd .SWB_WRED (3 * s.fld .SWB_QCFG q 15 8 + x.color)
  let lo := bits v 43 24 * 256
  let hi := bits v 63 44 * 256
  if bit v 0 = false then 0
  else if a < lo then 0
  else if hi ≤ a then 2
  else if r < bits v 15 8 * (a - lo) / (hi - lo) then
    (if bit v 1 then (match x.ecn with
      | some 3 => 0
      | some 1 => 1
      | some 2 => 1
      | _ => 2) else 2)
  else 0

/-! ### Admission (R173, R174, R178) -/

/-- The outcome of admission: taken, with its marks, or refused: 1 destination, 2 WRED, 3 quota, 4 tail, 5 tail for want
of spill budget, 6 headroom. -/
inductive Verdict where
  | take (mark spill headroom : Bool)
  | refuse (why : Nat)

/-- A frame is lossless traffic of its ingress port (R174). -/
def Dev.lossless (s : Dev) (x : Frame) : Bool :=
  x.kind = .original && decide (x.inPort < 32) && bit (s.fld .SWB_PORT_CFG x.inPort 15 8) x.cls
    && decide (s.fld .WIRE_PORT_CFG x.inPort 5 4 ≠ 0)

/-- A queue has a frame in spill. -/
def Dev.hasSpill (s : Dev) (q : Nat) : Bool := (s.queued q).any (fun e => e.2.spilled)

/-- The spill profile of a queue. -/
def Dev.spillProf (s : Dev) (q : Nat) : Nat := bits (s.bprof q) 23 20

/-- The cells in the region of a spill profile. -/
def Dev.spillCells (s : Dev) (i : Nat) : Nat :=
  sumNat ((s.framesIf (fun f => f.inQueue && f.spilled && f.region = i)).map (fun e => e.2.cells))

/-- Spill can take `n` more cells of a queue, but for the write budget (R178). -/
def Dev.spillRoom (s : Dev) (q n : Nat) : Bool :=
  let r := s.rd .SWB_SPILL (s.spillProf q)
  bit (s.bprof q) 19 && bit r 6 && decide (256 * (s.spillCells (s.spillProf q) + n) ≤ 2 ^ bits r 5 0)

/-- The write budget of spill has room: what the volleys before wrote is paid off (R178; DESIGN CHOICE, log entry 25). -/
def Dev.spillBudget (s : Dev) : Bool := s.swb.spillWrite < 8000

/-- Step 5 of R173: the queue limit refuses `n` cells. -/
def Dev.queueLimit (s : Dev) (q n : Nat) : Bool :=
  let p := s.bprof q
  let d := s.depth q
  let qs := d - bpMin p
  let ns := (d + n - bpMin p) - qs
  let shared := s.fld .SWB_POOL_SHARED 0 19 0
  let u := s.sharedUsed
  decide (bits p 63 44 - bpMin p < qs + ns) || decide (2 ^ bits p 18 16 * (shared - u) < 16 * (qs + ns))
    || decide (shared < u + ns)

/-- Steps 5 and 6 of R173, and R178: on chip, in spill, or refused. -/
def Dev.placeFrame (s : Dev) (q n : Nat) (mark : Bool) : Verdict :=
  if s.hasSpill q || s.queueLimit q n then
    if s.spillRoom q n then (if s.spillBudget then .take mark true false else .refuse 5) else .refuse 4
  else .take mark false false

/-- Lossless admission by the ingress count without the frame itself (R174). Behind frames in spill it goes to spill like any other
(R178). -/
def Dev.placeLossless (s : Dev) (x : Frame) (q n : Nat) (mark : Bool) : Verdict :=
  let pfc := s.rd .SWB_PORT_PFC x.inPort
  let head := sumNat ((s.framesIf (fun f => f.inQueue && f.headroom && f.inPort = x.inPort && f.inCls = x.inCls)).map
    (fun e => e.2.cells))
  let normal := decide (s.ingressCells x.inPort x.inCls - x.cells + n ≤ bits pfc 59 40)
  if !normal && decide (bits pfc 19 0 < head + n) then .refuse 6
  else if s.hasSpill q = false then .take mark false !normal
  else if s.spillRoom q n = false then .refuse 4
  else if s.spillBudget then .take mark true !normal
  else .refuse 5

/-- The steps of R173 for a frame of `n` cells; `a` is the queue's average depth and `r` the value of R180. -/
def Dev.judge (s : Dev) (x : Frame) (q n a r : Nat) : Verdict :=
  let lossless := s.lossless x
  let w := s.wred x q a r
  let d := queueDest q
  let past := match chargeOf x q with
    | some p => decide (s.quota p 19 0 < s.pitchCells p + n)
    | none => false
  let portFull := decide (d < 32) &&
    decide (s.fld .SWB_PORT_CFG d 63 44 < sumNat ((List.range 8).map (fun c => s.depth (8 * d + c))) + n)
  if s.destUp q = false then .refuse 1
  else if w = 2 ∧ lossless = false then .refuse 2
  else if past then .refuse 3
  else if portFull then .refuse 4
  else if lossless then s.placeLossless x q n (w = 1)
  else s.placeFrame q n (w = 1)

/-- Count a tail drop of a queue (R173). -/
def Dev.tailDrop (s : Dev) (q : Nat) : Dev :=
  if q < 368 then s.bump .SWB_Q_TAIL_DROP q else s.bump .PIT_TAIL_DROP ((q - 512) / 8)

/-- Count the refusal of a frame that is no copy (R173, R174). -/
def Dev.countRefusal (s : Dev) (x : Frame) (q why : Nat) : Dev :=
  match why with
  | 1 => if q < 256 then s.bump .SWB_PORT_DOWN_DROP (q / 8) else s.tailDrop q
  | 2 => if q < 368 then s.bump .SWB_Q_WRED_DROP q else s.bump .PIT_WRED_DROP ((q - 512) / 8)
  | 3 => s.bump .PIT_QUOTA_DROP ((chargeOf x q).getD 0)
  | 5 => (s.bump .SWB_SPILL_RATE_DROP 0).tailDrop q
  | 6 => s.bump .SWB_HEADROOM_DROP x.inPort
  | _ => s.tailDrop q

/-! ### Rows of the datapath -/

/-- What a row of the datapath leaves: every port and class whose ingress count has come down to XON has said so (R174). -/
def Dev.settled : Host.Outcome Dev Fault Refusal → Host.Outcome Dev Fault Refusal
  | .next s => .next s.xonCheck
  | o => o

/-- A row of the datapath: it takes place only while the datapath runs (R7, R33, R38). -/
def State.flow (s : State) (f : Dev → Host.Outcome Dev Fault Refusal) : Host.Outcome State Fault Refusal :=
  s.act fun s => if s.pathOpen then Dev.settled (f s) else .next s

/-- PFC_REFRESH (R174): 500 volleys after the last, while the count is above XON. -/
def execPfcRefresh (port cls : Nat) (s : State) : Outcome State Fault Refusal := s.act fun s =>
  if 32 ≤ port ∨ 8 ≤ cls then .fault .noSuchObject
  else match Sparse.get? s.swb.xoff (8 * port + cls) with
    | none => .next s
    | some v =>
      if v + 500 ≤ s.vn ∧ s.fld .SWB_PORT_PFC port 39 20 < s.ingressCells port cls then
        .next ((s.sendPfc port cls 0xFFFF).setXoff port cls (some s.vn))
      else .next s

/-! ### Cut-through (R176) -/

/-- The nanoseconds that a volley is taken to last in the guard computation (R206). -/
def Dev.guardNs (s : Dev) : Nat := if 0 < signed 32 (s.rd .CLK_PHASE_ERR 0) then 39 else 40

/-- A frame of `n` bytes of class `c` may start `ns` into this volley: its gate is open, and it ends before the gate
closes (R206). -/
def Dev.mayStart (s : Dev) (p c n ns : Nat) : Bool :=
  s.gateOpen p c && (match s.nextClose p c with
    | none => true
    | some k => (n + 20) * 8 ≤ (s.portSpeed p).getD 0 * (s.guardNs * (k - s.vn) - ns))

/-- MAXLEN of a port. -/
def Dev.maxLen (s : Dev) (p : Nat) : Nat := s.fld .WIRE_PORT_CFG p 31 18

/-- The conditions of R176. -/
def Dev.cutThrough (s : Dev) (x : Frame) (q ns : Nat) : Bool :=
  let p := q / 8
  decide (x.inPort < 32) && decide (s.portSpeed x.inPort = s.portSpeed p) && (s.queued q).isEmpty
    && (s.framesIf (fun f => f.loc = .mac p)).isEmpty && decide (s.portState p = 4)
    && s.mayStart p (q % 8) (s.maxLen p) ns && decide (actCrypto x.action ≠ 1)
    && (match x.kind with | .mirror _ => false | _ => true)

/-! ### The tree of shapers (R210, R212) and the deficits of its nodes (R200) -/

/-- The parents of a pool or queue node, up to its class node. -/
def Dev.poolChain (s : Dev) (dflt : Nat) : Nat → Nat → List Nat
  | 0, _ => [dflt]
  | k + 1, n =>
    let p := shpParent (s.shaper n)
    if p = 0 then [dflt]
    else if 0x8240 ≤ p ∧ p < 0x8440 then [p]
    else p :: s.poolChain dflt k p

/-- The nodes of a queue from its own to its port node (R212). -/
def Dev.shpChain (s : Dev) (q : Nat) : List Nat :=
  let mid := if q < 512 then [0x8240 + q]
    else s.poolChain (0x8240 + 8 * (42 + pmapLink (s.pmap ((q - 512) / 8))) + q % 8) 4 q
  let cls := mid.getLastD 0x8240
  q :: mid ++ [0x8200 + (cls - 0x8240) / 8]

/-- The deficit of a node (R200). -/
def Dev.deficit (s : Dev) (n : Nat) : Int := Sparse.get (fun _ => 0) s.sch.deficit n

/-- Set the deficit of a node. -/
def Dev.setDeficit (s : Dev) (n : Nat) (v : Int) : Dev :=
  { s with sch := { s.sch with deficit := Sparse.set (fun _ => 0) s.sch.deficit n v } }

/-- Clear the deficits of the nodes of a queue whose queues are all empty (R200); done as a frame arrives, before it is
queued. -/
def Dev.clearDeficits (s : Dev) (q : Nat) : Dev :=
  let busy := ((s.framesIf (fun f => f.inQueue)).map (fun e => e.2.queue)).eraseDups
  forEach (s.shpChain q) s (fun s n => if busy.any (fun r => (s.shpChain r).contains n) then s else s.setDeficit n 0)

/-! ### Entering a queue -/

/-- A frame is sent cut-through from its queue (R176). -/
def Dev.goesCut (s : Dev) (x : Frame) (q ns : Nat) (spill : Bool) : Bool :=
  decide (q < 256) && bit (s.fld .SWB_PORT_CFG (q / 8) 7 0) (q % 8) && !spill && s.cutThrough x q ns

/-- A frame enters its egress queue with its marks (R173, R176, R181). One whose end is bad enters it only to be cut through: stored
whole, it is found bad and dropped (R177). -/
def Dev.enqueue (s : Dev) (f : Nat) (x : Frame) (q ns : Nat) (mark spill headroom : Bool) : Dev :=
  let ct := decide (q < 256) && bit (s.fld .SWB_PORT_CFG (q / 8) 7 0) (q % 8)
  let cut := s.goesCut x q ns spill
  let punt := decide (32 ≤ queueDest q ∧ queueDest q < 40)
  let y := { x with queue := q, spilled := spill, region := if spill then s.spillProf q else 0, headroom := headroom
                    lossless := s.lossless x, charge := chargeOf x q, ecnMark := x.ecnMark || mark, cut := cut
                    ready := false }
  if x.bad && !cut then s.loseFrame f
  else
    let s := (s.clearDeficits q).moveFrame f y (.queue q)
    let s := if mark then
        (if q < 368 then s.bump .SWB_Q_ECN_MARKED q else s.bump .PIT_ECN_MARKED ((q - 512) / 8))
      else s
    let s := if spill then
        let s := if q < 368 then s.bump .SWB_Q_SPILLED q else s
        { s with swb := { s.swb with spillWrite := s.swb.spillWrite + (x.bytes.length + 4) } }
      else s
    let s := if ct && !cut then s.bump .SWB_CT_FALLBACK (q / 8) else s
    if punt then s.freeItem f else s

/-- Judge a frame or copy for a queue; the value of R180 is a free value. The average depth follows the arrival. -/
def Dev.offer (s : Dev) (x : Frame) (q : Nat) : Dev × Verdict :=
  let a := s.wredAvg q
  let (r, s) := s.draw
  let v := s.judge x q x.cells a (r % 256)
  (s.setAvg q a, v)

/-- Offer a frame that is no copy to its queue; a refused one is dropped and counted (R173). -/
def Dev.admitFrame (s : Dev) (f : Nat) (x : Frame) (q ns : Nat) : Dev :=
  match s.offer x q with
  | (s, .take m sp h) => s.enqueue f x q ns m sp h
  | (s, .refuse why) => (s.countRefusal x q why).loseFrame f

/-! ### Mirror sessions (R186, R187) -/

/-- The queue of a mirror session's destination. -/
def mirrorQueue (v : Nat) : Nat :=
  let d := bits v 31 20
  let c := bits v 15 13
  match bits v 12 11 with
  | 0 => 8 * (d % 32) + c
  | 1 => 512 + 8 * d + c
  | _ => 8 * (32 + d % 8) + c

/-- A nexthop named by a replica or a session is used: its counter pair counts (R134). -/
def Dev.nhUse (s : Dev) (n epoch len : Nat) : Dev :=
  let v := (s.entry 3 n).at epoch
  if n ≠ 0 ∧ bit v 195 ∧ bit v 194 then s.ctrAdd (bits v 193 172) 1 len else s

/-- The copy that a session makes: truncated, with no modifier but the session's encapsulation, as for REWRITE 0b01 with
ENCAP; only REASON of the record goes with it (R186). -/
def mirrorFrame (x : Frame) (m v f : Nat) : Frame :=
  let t := bits v 45 32
  { x with kind := .mirror m, orig := some f, item := none, slot := none
           bytes := if t = 0 then x.bytes else x.bytes.take t
           action := actReason x.action * 2 ^ 57 + 4 +
             (if bits v 63 46 = 0 then 0 else bits v 63 46 * 2 ^ 64 + 2 ^ 122 + 2 ^ 124)
           cls := bits v 15 13, remark := [], ecnMark := false
           carried := false }

/-- A session's copy enters its queue, or is dropped and counted (R186, R187). It shares the cells of its original, and its queue
charges them all (R171). -/
def Dev.mirrorTo (s : Dev) (x : Frame) (m : Nat) (f : Nat) : Dev :=
  let v := s.rd .SWB_MIRROR m
  let nh := bits v 63 46
  if bit v 0 = false then s.bump .SWB_MIRROR_DROP m
  else if nh ≠ 0 ∧ bit ((s.entry 3 nh).at x.epoch) 195 = false then s.bump .TBL_NH_INVALID 0
  else
    let y := mirrorFrame x m v f
    match s.offer y (mirrorQueue v) with
    | (s, .take m' sp h) =>
      let n := s.nextFrame
      ((s.nhUse nh x.epoch y.bytes.length).newFrame y .held).enqueue n y (mirrorQueue v) 0 m' sp h
    | (s, .refuse _) => s.bump .SWB_MIRROR_DROP m

/-- MIRROR_COPY: one copy in every 2^SAMPLE, the first of each (DESIGN CHOICE, log entry 23). -/
def Dev.mirrorCopy (s : Dev) (x : Frame) (m f : Nat) : Dev :=
  let n := Sparse.get (fun _ => 0) s.swb.mirrorCount m
  let s := { s with swb := { s.swb with mirrorCount := Sparse.set (fun _ => 0) s.swb.mirrorCount m (n + 1) } }
  if n % 2 ^ s.fld .SWB_MIRROR m 19 16 = 0 then s.mirrorTo x m f else s

/-! ### One replica (R182, R185) -/

/-- The queue of a replica entry. -/
def replicaQueue (e cls : Nat) : Nat :=
  let d := bits e 29 18
  match bits e 31 30 with
  | 0 => 8 * (d % 32) + cls
  | 1 => 512 + 8 * d + cls
  | _ => 8 * (32 + d % 8) + cls

/-- The index of SWB_MC_PARTIAL of a queue's destination (R164, R185). -/
def Dev.partialIndex (s : Dev) (q : Nat) : Nat :=
  let d := queueDest q
  if d < 64 then d else 42 + pmapLink (s.pmap (d - 64))

/-- The record of a replica: its NH replaces the nexthop that the record names, DEST or NH (R182, R86). -/
def replicaRec (a nh : Nat) : Nat :=
  if nh = 0 then a else if actBase a = 2 ∧ actKind a = 3 then putBits a 22 5 nh else putBits a 81 64 nh

/-- A replica enters its queue, or is refused and counted (R182, R185). -/
def Dev.admitReplica (s : Dev) (f n : Nat) (x : Frame) (ns : Nat) : Dev :=
  let uses := decide (actRewrite x.action ≠ 0) || actEncap x.action || decide (actCrypto x.action = 1)
  match s.offer x x.queue with
  | (s, .take m sp h) => (if uses then s.nhUse (actNexthop x.action) x.epoch x.bytes.length else s).enqueue f x x.queue ns m sp h
  | (s, .refuse _) =>
    let d := s.partialIndex x.queue
    ((s.bump .SWB_MC_PARTIAL d).markReplica x.item n (some d)).loseFrame f

/-- Make one replica `n` of frame `f` by entry `e` (R182). One for a cluster is a punt, which the barrier of group 0 holds (R194). -/
def Dev.replica (s : Dev) (x : Frame) (f n e ns : Nat) : Dev :=
  let cls := if bit e 35 then bits e 34 32 else x.cls
  let q := replicaQueue e cls
  let y := { x with kind := .replica n (queueDest q), orig := some f, cls := cls, queue := q, missed := false
                    action := replicaRec x.action (bits e 17 0) }
  let k := s.nextFrame
  let s := s.newFrame y .held
  if s.swb.cluBarrier.isSome && bits e 31 30 = 2 then s else s.admitReplica k n { y with loc := .held } ns

/-! ### Clusters for punts (R90, R193) -/

/-- The set bits of an 8-bit mask, in ascending order. -/
def setBits (m : Nat) : List Nat := (List.range 8).filter (fun k => bit m k)

/-- The cluster of a punt under an enable mask (R90, R193). -/
def puntCluster (en : Nat) (x : Frame) : Option Nat :=
  let a := x.action
  if actKind a = 1 then (if bit en (actDest a) then some (actDest a) else none)
  else
    let l := setBits (Nat.land (actDest a % 256) en)
    if l.isEmpty then none else some (l.getD (x.hash % l.length) 0)

/-- A frame is a punt to a cluster. -/
def Frame.clusterPunt (x : Frame) : Bool := actBase x.action = 3 && decide (actKind x.action < 2)

/-! ### Paths (R168, R169) -/

/-- The path of a hash bucket. -/
def Dev.pathOf (s : Dev) (b : Nat) : Nat := s.fld .SWB_PATH_MAP (b / 8) (4 * (b % 8) + 2) (4 * (b % 8))

/-- A frame in a cluster port queue or under a slot in flight of cluster `c` has order queue `oq` (R194). -/
def Dev.orderBusy (s : Dev) (c oq : Nat) : Bool :=
  s.swb.slots.any (fun e => e.2.cluster = c && e.2.oq = oq)
    || s.frames.any (fun e => e.2.inQueue && queueDest e.2.queue = 32 + c && e.2.hash % 4096 = oq)

/-- A punt is held by a cluster barrier (R194). -/
def Dev.puntHeld (s : Dev) (x : Frame) : Bool :=
  match x.kind with
  | .replica _ _ => s.swb.cluBarrier.isSome
  | _ =>
    x.clusterPunt && (s.swb.cluBarrier.isSome ||
      (match s.swb.enBarrier with
        | none => false
        | some (old, _) =>
          match puntCluster old x with
          | some c => puntCluster (s.fld .SWB_CLUSTER_CTL 0 7 0) x ≠ some c && s.orderBusy c (x.hash % 4096)
          | none => false))

/-- A frame takes its cells at the entry of the switch core (R168, R169, R194): it is held behind a barrier, enters its path, or finds
the path's input queue full. -/
def Dev.takePath (s : Dev) (f : Nat) (x : Frame) : Dev :=
  let b := x.hash % 256
  if (Sparse.get? s.swb.barrier b).isSome then
    let s := if x.loc = .held then s else s.bump .SWB_REPIN_HELD 0
    s.moveFrame f x .held
  else if s.puntHeld x then s.moveFrame f x .held
  else
    let p := s.pathOf b
    let used := sumNat ((s.framesIf (fun g => g.loc = .path p)).map (fun e => e.2.cells))
    if 8192 < used + x.cells then (s.loseFrame f).bump .SWB_PATH_FULL_DROP p
    else s.moveFrame f x (.path p)

/-- A frame enters the switch core, and the ingress count of its port and class rises with it (R171, R174). A held replica goes on to
its own queue. -/
def Dev.enterSwitch (s : Dev) (f : Nat) (x : Frame) : Dev :=
  match x.kind with
  | .replica n _ => if s.puntHeld x then s else s.admitReplica f n x 0
  | _ =>
    let x := { x with cells := cellsOf x.bytes.length, inCls := x.cls }
    let s := s.takePath f x
    if s.lossless x then s.xoffCheck x.inPort x.cls else s

/-- Held frames that satisfy `p` enter the switch again, in their order. -/
def Dev.reenter (s : Dev) (p : Frame → Bool) : Dev :=
  forEach (s.inOrder (fun f => f.loc = .held && p f)) s (fun s e => s.enterSwitch e.1 e.2)

/-- Raise the drain barrier of a bucket whose path changes (R169). While one is held no frame of the bucket enters a path, so those still
inside are in the path of the barrier first raised. -/
def Dev.raiseBarrier (s : Dev) (b old : Nat) : Dev :=
  if (Sparse.get? s.swb.barrier b).isSome then s
  else { s with swb := { s.swb with barrier := Sparse.put s.swb.barrier b (some old) } }

/-- PATH_BARRIER_END (R169): every frame of the bucket that entered the old path has been delivered or dropped. -/
def execPathBarrierEnd (bucket : Nat) (s : State) : Outcome State Fault Refusal := s.act fun s =>
  match Sparse.get? s.swb.barrier bucket with
  | none => .next s
  | some old =>
    if s.frames.any (fun e => e.2.loc = .path old && e.2.hash % 256 = bucket) then .next s
    else
      let s := { s with swb := { s.swb with barrier := Sparse.put s.swb.barrier bucket none } }
      .next (s.reenter (fun x => x.hash % 256 = bucket))

/-- A slot or queued frame that a cluster barrier waits for is still there. -/
def Dev.barrierBusy (s : Dev) (w : List Nat × List Nat) : Bool :=
  w.1.any (fun i => (Sparse.get? s.swb.slots i).any (fun x => !x.resolved))
    || w.2.any (fun f => (s.frame f).any (fun x => x.inQueue && decide (queueDest x.queue < 40)))

/-- The slots in flight and the frames queued at cluster ports. -/
def Dev.clusterLoad (s : Dev) : List Nat × List Nat :=
  (s.swb.slots.map Prod.fst,
   (s.framesIf (fun f => f.inQueue && decide (32 ≤ queueDest f.queue ∧ queueDest f.queue < 40))).map Prod.fst)

/-- The clusters and order queues that hold a frame queued at the cluster port or a slot in flight (R194). -/
def Dev.orderLoad (s : Dev) : List (Nat × Nat) :=
  (s.swb.slots.map (fun (e : Nat × Slot) => (e.2.cluster, e.2.oq)) ++
    (s.framesIf (fun f => f.inQueue && decide (32 ≤ queueDest f.queue ∧ queueDest f.queue < 40))).map
      (fun (e : Nat × Frame) => (queueDest e.2.queue - 32, e.2.hash % 4096))).eraseDups

/-- CLUSTER_BARRIER_END (R194): barriers whose condition is met end, and the punts they hold proceed. -/
def execClusterBarrierEnd (s : State) : Outcome State Fault Refusal := s.act fun s =>
  let s := match s.swb.cluBarrier with
    | some w => if s.barrierBusy w then s else { s with swb := { s.swb with cluBarrier := none } }
    | none => s
  let s := s.reenter (fun x => !s.puntHeld x && (Sparse.get? s.swb.barrier (x.hash % 256)).isNone)
  match s.swb.enBarrier with
  | some (old, w) =>
    let w := w.filter (fun e => s.orderBusy e.1 e.2)
    let ends := w.isEmpty && !s.frames.any (fun e => e.2.loc = .held && s.puntHeld e.2)
    .next { s with swb := { s.swb with enBarrier := if ends then none else some (old, w) } }
  | none => .next s

/-! ### Steering (R418) -/

/-- Bytes of a frame as a number in network order. -/
def Frame.net (x : Frame) (o n : Nat) : Nat := netBits x.bytes (8 * o) (8 * n)

/-- The IP and the TCP or UDP step that steering looks at: the first IP header, and the first TCP or UDP header after
it. -/
def Frame.l4 (x : Frame) : Option (PStep × PStep) :=
  let l := stepsAfter (actDecap x.action) x.steps
  match firstIp l with
  | none => none
  | some ip =>
    ((l.dropWhile (fun p => !(p.off = ip.off && p.kind = ip.kind))).find? (fun p => p.kind = 4 || p.kind = 5)).map
      (fun t => (ip, t))

/-- An IP fragment. -/
def Frame.fragment (x : Frame) (ip : PStep) : Bool :=
  if ip.kind = 2 then netBits x.bytes (8 * ip.off + 50) 14 ≠ 0
  else x.net (ip.off + 6) 1 = 44

/-- A frame matches a connection's image (R418). -/
def connMatch (x : Frame) (ip t : PStep) (v : Nat) : Bool :=
  let af := if ip.kind = 3 then 1 else 0
  let w := if ip.kind = 3 then 16 else 4
  let so := if ip.kind = 3 then 8 else 12
  match bits v 1 0 with
  | 1 => decide (t.kind = 5) && decide (b2n (bit v 2) = af) && decide (x.net (ip.off + so + w) w = bits v 255 128)
      && decide (x.net (ip.off + so) w = bits v 383 256) && decide (x.net (t.off + 2) 2 = bits v 399 384)
      && decide (x.net t.off 2 = bits v 415 400)
  | 2 => decide (t.kind = 4) && decide (x.net (t.off + 2) 2 = 4791) && decide (x.net (t.off + 13) 3 = bits v 439 416)
  | _ => false

/-- STATE of a connection image. -/
def connState (v : Nat) : Nat := bits v 647 640

/-- The connection a frame for pitch `p` is steered to, if any (R418). -/
def Dev.steer (s : Dev) (x : Frame) (p : Nat) : Option Nat :=
  match x.l4 with
  | none => none
  | some (ip, t) =>
    if x.fragment ip then none
    else (s.stx.conns.find? (fun e => connState e.2.img ≠ 0 && bits e.2.img 19 8 = p && connMatch x ip t e.2.img)).map
      Prod.fst

/-! ### Replication (R182 to R185) -/

/-- A multicast item takes its extension (R489). -/
def Dev.openExt (s : Dev) (r : Option ItemRef) : Dev :=
  match r with
  | none => s
  | some r =>
    match s.item r with
    | none => s
    | some i => s.setItem r (some { i with ext := some (i.ext.getD 0) })

/-- The replicas of a group, in index order (R182); those already resolved before a re-execution are not made again
(R493). -/
def Dev.replicate (s : Dev) (x : Frame) (f g ns : Nat) : Dev :=
  let e := s.rd .SWB_MC_GROUP g
  let first := bits e 18 0
  let count := min 512 (bits e 28 19)
  if count = 0 then (s.bump .SWB_MC_EMPTY 0).loseFrame f
  else
    let old := match x.item with
      | some r => ((s.item r).bind (fun i => i.ext)).getD 0
      | none => 0
    let s := s.openExt x.item
    let s := forEach (List.range count) s (fun s n =>
      let r := s.rd .SWB_MC_REPLICA (first + n)
      if bit r 36 = false ∨ bit old n then s
      else if bit e 29 ∧ bits r 31 30 = 0 ∧ bits r 29 18 = x.inPort then s.bump .SWB_MC_PRUNED 0
      else s.replica x f n r ns)
    s.loseFrame f

/-- A multicast SEND frame needs an extension and none of the 3,008 is free (R487). -/
def Dev.extWait (s : Dev) (x : Frame) : Bool :=
  match x.item with
  | none => false
  | some r =>
    match s.item r with
    | none => false
    | some i => i.ext.isNone && decide (3008 ≤ (s.rng.items.filter (fun e => e.2.ext.isSome)).length)

/-! ### Delivery (R168, R173) -/

/-- Where a FORWARD goes: kind and destination, through its nexthop if it names one (R84, R132). -/
def Dev.forwardTo (s : Dev) (x : Frame) : Nat × Nat :=
  if actKind x.action = 3 then
    let v := (s.entry 3 (actDest x.action)).at x.epoch
    (bits v 115 114, bits v 133 116)
  else (actKind x.action, actDest x.action)

/-- The queue of a punt to a host receive ring (R344); nothing when the ring cannot take it. -/
def Dev.puntRing (s : Dev) (r cls : Nat) : Option Nat :=
  let g := s.ring r
  if g.st ≠ 1 ∨ g.kind ≠ 1 then none
  else if g.loc = 0 then some (512 + 8 * g.pitch + cls)
  else if g.loc = 1 then some (336 + 8 * g.link + cls)
  else none

/-- A base action MIRROR sends the frame itself to its session, without sampling (R84, R186). The session's truncation and
encapsulation follow the modifiers of the frame's own record, which R86 gives every base action; a session with VALID 0 counts it as
R187 counts a copy (DESIGN CHOICE, log entry 117). -/
def Dev.divert (s : Dev) (f : Nat) (x : Frame) (ns : Nat) : Dev :=
  let m := actDest x.action % 64
  let v := s.rd .SWB_MIRROR m
  let nh := bits v 63 46
  if actCrypto x.action = 2 then s.admitFrame f x (320 + x.cls) ns
  else if bit v 0 = false then (s.bump .SWB_MIRROR_DROP m).loseFrame f
  else if nh ≠ 0 ∧ bit ((s.entry 3 nh).at x.epoch) 195 = false then (s.bump .TBL_NH_INVALID 0).loseFrame f
  else
    let q := mirrorQueue v
    let y := { x with cls := bits v 15 13, session := v }
    match s.offer y q with
    | (s, .take m sp h) => (s.nhUse nh x.epoch x.bytes.length).enqueue f y q ns m sp h
    | (s, .refuse why) => (s.countRefusal y q why).loseFrame f

/-- Deliver one frame from a path by its record (R84, R168, R418). -/
def Dev.deliver (s : Dev) (f : Nat) (x : Frame) (ns : Nat) : Dev :=
  match actBase x.action with
  | 2 =>
    if actCrypto x.action = 2 then s.admitFrame f x (320 + x.cls) ns
    else match s.forwardTo x with
      | (0, d) => s.admitFrame f x (8 * (d % 32) + x.cls) ns
      | (1, p) =>
        match s.steer x p with
        | some c => s.admitFrame f { x with tag := c, pitch := some p } (328 + x.cls) ns
        | none => s.admitFrame f x (512 + 8 * (p % 4096) + x.cls) ns
      | (2, g) => s.replicate x f (g % 65536) ns
      | _ => (s.bump .TBL_NH_INVALID 0).loseFrame f
  | 3 =>
    if actKind x.action = 2 then
      match s.puntRing (actDest x.action) x.cls with
      | some q => s.admitFrame f { x with rxRing := some (actDest x.action) } q ns
      | none => (s.bump .RNG_RX_NO_RING 0).loseFrame f
    else match puntCluster (s.fld .SWB_CLUSTER_CTL 0 7 0) x with
      | some c => s.admitFrame f x (8 * (32 + c) + x.cls) ns
      | none => (s.bump .SWB_PUNT_NO_CLUSTER 0).loseFrame f
  | 4 => s.divert f x ns
  | _ => s.loseFrame f

/-- PATH_DELIVER (R168): the path delivers the frame at the head of its input queue, `ns` into the volley. A frame that
ingress has dropped comes this way only for its mirror copy (R91). -/
def execPathDeliver (path ns : Nat) (s : State) : Outcome State Fault Refusal := s.flow fun s =>
  if 8 ≤ path then .fault .noSuchObject
  else match s.firstIf (fun f => f.loc = .path path) with
    | none => .next s
    | some (f, x) =>
      let group := actBase x.action = 2 ∧ actCrypto x.action ≠ 2 ∧ (s.forwardTo x).1 = 2
      if group ∧ s.extWait x then .next s
      else
        let s := if bit x.action 49 then s.mirrorCopy x (bits x.action 55 50) f else s
        .next (s.deliver f x ns)

/-! ### Spill and hold (R178, R189) -/

/-- SPILL_READBACK (R178): the first spilled frame of a queue returns to on-chip cells, within the read budget. -/
def execSpillReadback (queue : Nat) (s : State) : Outcome State Fault Refusal := s.flow fun s =>
  match s.firstIf (fun f => f.inQueue && f.queue = queue && f.spilled) with
  | none => .next s
  | some (f, x) =>
    if 8000 ≤ s.swb.spillRead then .next s
    else
      let s := s.setFrame f { x with spilled := false }
      .next { s with swb := { s.swb with spillRead := s.swb.spillRead + (x.bytes.length + 4) } }

/-- HOLD_EXPIRY (R189): the hold's boundary is reached and the port is not up. -/
def execHoldExpiry (port : Nat) (s : State) : Outcome State Fault Refusal := s.act fun s =>
  match Sparse.get? s.swb.hold port with
  | none => .next s
  | some v =>
    if s.vn < v ∨ s.portState port = 4 then .next s
    else .next (s.expireHold port)

/-! ### Multicast entries (R184, R196) -/

/-- MC_ACC_READ (R184): `replica` is TABLE. An index outside the table returns 0. -/
def execMcAccRead (o : Origin) (replica : Bool) (index : Nat) (s : State) : Outcome State Fault Refusal := s.act fun s =>
  let i := index % 2 ^ 19
  .next (s.regWrite o .SWB_MC_ACC_CTL 0 4 (b2n replica * 2 ^ 21 + 2 ^ 19 + i) fun s =>
    s.wr .SWB_MC_ACC_DATA 0 (if replica then s.rd .SWB_MC_REPLICA i else if i < 65536 then s.rd .SWB_MC_GROUP i else 0))

/-- The effect of a write access (R196). -/
def Dev.mcWrite (s : Dev) (replica : Bool) (i : Nat) : Dev :=
  let v := s.rd .SWB_MC_ACC_DATA 0
  if replica then
    (if bits v 31 30 = 3 then s.bump .SWB_MC_BAD_WRITE 0 else s.wr .SWB_MC_REPLICA i (bits v 36 0))
  else if 65536 ≤ i ∨ 524288 < bits v 18 0 + bits v 28 19 then s.bump .SWB_MC_BAD_WRITE 0
  else s.wr .SWB_MC_GROUP i (bits v 29 0)

/-- MC_ACC_WRITE (R184, R196). -/
def execMcAccWrite (o : Origin) (replica : Bool) (index : Nat) (s : State) : Outcome State Fault Refusal := s.act fun s =>
  let i := index % 2 ^ 19
  .next (s.regWrite o .SWB_MC_ACC_CTL 0 4 (b2n replica * 2 ^ 21 + 2 * 2 ^ 19 + i) fun s => s.mcWrite replica i)

/-! ### The reorder sequencer (R190 to R192) -/

/-- The head slot of an order queue: its number and content. -/
def Dev.headSlot (s : Dev) (c oq : Nat) : Option (Nat × Slot) :=
  (s.swb.slots.filter (fun e => e.2.cluster = c && e.2.oq = oq)).foldl
    (fun (b : Option (Nat × Slot)) e => match b with
      | none => some e
      | some y => if e.2.ord < y.2.ord then some e else some y) none

/-- Store or free a slot. -/
def Dev.setSlot (s : Dev) (i : Nat) (x : Option Slot) : Dev :=
  { s with swb := { s.swb with slots := Sparse.put s.swb.slots i x } }

/-- A frame released by the sequencer enters the parser at the cluster's port (R191). -/
def Dev.toParser (s : Dev) (c f : Nat) : Dev :=
  match s.frame f with
  | none => s
  | some x => s.moveFrame f { x with inPort := 0x28 + c, slot := none, carried := true } .frontEnd

/-- SLOT_RELEASE (R191): while the head slot is resolved its frames are released, and the queue moves on. -/
def Dev.rsqRelease (s : Dev) (c oq : Nat) : Nat → Dev
  | 0 => s
  | n + 1 =>
    match s.headSlot c oq with
    | none => s
    | some (i, x) =>
      if x.resolved then
        let s := forEach x.frames (s.setSlot i none) (fun s f => s.toParser c f)
        let s := match s.headSlot c oq with
          | some (j, y) => s.setSlot j (some { y with since := s.vn, stalls := 0 })
          | none => s
        s.rsqRelease c oq n
      else s

/-- Every slot of an order queue that can be released. -/
def Dev.rsqRun (s : Dev) (c oq : Nat) : Dev := s.rsqRelease c oq (s.swb.slots.length + 1)

/-- The frame of a skipped slot is resolved at last: its number may be given again. -/
def Dev.endSkipped (s : Dev) (i : Nat) : Dev :=
  { s with swb := { s.swb with skipped := s.swb.skipped.filter (fun n => !decide (n = i)) } }

/-- RSQ_SKIP (R192): a head slot unresolved for SWB_RSQ_SKIP volleys is skipped; what was returned under it leaves. Its
number is not given again while the frame it was given for is still out; the last 65,535 are kept. -/
def execRsqSkip (cluster oq : Nat) (s : State) : Outcome State Fault Refusal := s.act fun s =>
  match s.headSlot cluster oq with
  | none => .next s
  | some (i, x) =>
    let k := s.fld .SWB_RSQ_SKIP 0 31 0
    if k = 0 ∨ x.resolved ∨ s.vn < x.since + k then .next s
    else
      let s := { s with swb := { s.swb with skipped := (s.swb.skipped ++ [i]).drop (s.swb.skipped.length + 1 - 65535) } }
      .next ((s.setSlot i (some { x with resolved := true })).rsqRun cluster oq)

/-- RSQ_STALL (R192): the head slot has waited a further SWB_RSQ_STALL volleys. -/
def execRsqStall (cluster oq : Nat) (s : State) : Outcome State Fault Refusal := s.act fun s =>
  match s.headSlot cluster oq with
  | none => .next s
  | some (i, x) =>
    let k := max 25000 (s.fld .SWB_RSQ_STALL 0 31 0)
    if x.resolved ∨ s.vn < x.since + (x.stalls + 1) * k then .next s
    else .next ((s.setSlot i (some { x with stalls := x.stalls + 1 })).whistle 0x09 (blkId 8) 0 (oq + cluster * 2 ^ 12))

/-- Return a frame under a slot (R191): the last resolves it; a 17th is dropped; under a skipped slot it is released at
once and counted; under no slot it enters at once. -/
def Dev.returnFrame (s : Dev) (c f : Nat) (slot : Option Nat) (last : Bool) : Dev :=
  match slot with
  | none => s.toParser c f
  | some i =>
    match Sparse.get? s.swb.slots i with
    | none =>
      let s := (s.toParser c f).bump .SWB_RSQ_LATE 0
      if last then s.endSkipped i else s
    | some x =>
      let past := decide (16 ≤ x.count)
      let s := if past then (s.loseFrame f).bump .SWB_RSQ_SLOT_OVER 0
        else match s.frame f with
          | some y => s.moveFrame f { y with slot := some i } (.reorder i)
          | none => s
      let x := { x with frames := if past then x.frames else x.frames ++ [f], count := x.count + 1
                        resolved := x.resolved || last }
      (s.setSlot i (some x)).rsqRun c x.oq

/-- Discarding a frame resolves its slot (R191). -/
def Dev.resolveSlot (s : Dev) (i : Nat) : Dev :=
  match Sparse.get? s.swb.slots i with
  | none => s.endSkipped i
  | some x => (s.setSlot i (some { x with resolved := true })).rsqRun x.cluster x.oq

end Sys2Proof.Machine
end

