-- ==== Sys2Proof/Machine/Parse.lean ====
section
/-! DEFINITION. Parsing, classification and admission (R58 to R94): the walk of the parse graph, the malformed checks, the
key vector, the lookups, the resolution and validation of the action record, learning, and policing. -/

namespace Sys2Proof.Machine

open Host

/-! ### The configuration a frame is parsed under (R61) -/

/-- A PARSE register of configuration `v`: an older one is found in the values kept when it was replaced. -/
def Dev.pcfg (s : Dev) (v : Nat) (r : Reg) (i : Nat) : Nat :=
  match (s.prs.olds.filter (fun o => decide (v ≤ o.1))).findSome? (fun o => (o.2.find? (fun e => e.1 = r.key i)).map Prod.snd) with
  | some w => w.toNat
  | none => s.rd r i

/-- A field of a PARSE register of configuration `v`. -/
def Dev.pfld (s : Dev) (v : Nat) (r : Reg) (i hi lo : Nat) : Nat := bits (s.pcfg v r i) hi lo

/-! ### The walk (R66 to R72) -/

/-- Bits of a header that starts at byte `o`, as far as a node can reach (R69). -/
def headerBits (bytes : List Byte) (depth o b w : Nat) : Nat := netBits (((bytes.take depth).drop o).take 64) b w

/-- The one's complement check of an IPv4 header (R71). -/
def csumOk (bs : List Byte) : Bool :=
  let total := (List.range ((bs.length + 1) / 2)).foldl (fun a k =>
    a + (bs.getD (2 * k) 0).toNat * 256 + (bs.getD (2 * k + 1) 0).toNat) 0
  total ≠ 0 && decide (total % 65535 = 0)

/-- What the walk has built so far: key vector, step list, visited nodes, and the VLAN and tunnel counters. -/
structure Walk where
  kv : Nat
  steps : List PStep
  seen : List Nat
  vlan : Nat
  tunnel : Nat

/-- The header length L of a node (R62, R66). -/
def Dev.nodeLen (s : Dev) (v n : Nat) (bytes : List Byte) (depth o : Nat) : Nat :=
  let w := s.pcfg v .PRS_NODE_LEN n
  let f := headerBits bytes depth o (bits w 22 14) (bits w 13 10 + 1)
  let sc := 2 ^ bits w 3 2
  match bits w 5 4 with
  | 1 => bits w 31 23 + f * sc
  | 2 => bits w 31 23 + popCount 16 (Nat.land f (bits w 9 6)) * sc
  | _ => bits w 31 23

/-- The first malformed check that fails at a step, or 0 (R72). -/
def Dev.stepFault (s : Dev) (v n : Nat) (bytes : List Byte) (depth o l step : Nat) (w : Walk) : Nat :=
  let len := bytes.length
  let chk := s.pcfg v .PRS_NODE_CHK n
  let next := s.pcfg v .PRS_NODE_NEXT n
  let t := headerBits bytes depth o (bits chk 22 14) (bits chk 13 10 + 1)
  let r := len - o
  let badTl := match bits chk 9 8 with
    | 1 => decide (t < l) || decide (r < t)
    | 2 => decide (r - l < t)
    | _ => false
  if len < o + l then 1
  else if decide (l < bits chk 31 23) || badTl then 2
  else if (bits next 8 7 = 1 ∧ w.vlan = 4) ∨ (bits next 8 7 = 2 ∧ w.tunnel = 3) then 3
  else if depth < o + l then 4
  else if (w.seen.contains n && bit next 6 = false) || decide (step = 32) then 5
  else 0

/-- The five extractions of a node, in order (R65, R71). -/
def Dev.extract (s : Dev) (v n : Nat) (bytes : List Byte) (depth o kv : Nat) : Nat :=
  (List.range 5).foldl (fun kv k =>
    let x := s.pcfg v .PRS_NODE_XT (5 * n + k)
    if bit x 0 then
      let w := bits x 22 16 + 1
      putBits kv (64 + bits x 15 6 + w - 1) (64 + bits x 15 6) (headerBits bytes depth o (bits x 31 23) w)
    else kv) kv

/-- The next node by R68: NEXT of the first VALID transition with the value of the select field, or DEFAULT_NEXT. -/
def Dev.nextNode (s : Dev) (v n : Nat) (bytes : List Byte) (depth o : Nat) : Nat :=
  let next := s.pcfg v .PRS_NODE_NEXT n
  let sel := headerBits bytes depth o (bits next 31 23) (bits next 15 12 + 1)
  match (List.range 8).findSome? (fun k =>
      let t := s.pcfg v .PRS_TRANS (8 * n + k)
      if bit t 0 && bits t 31 16 = sel then some (bits t 15 9) else none) with
  | some m => m
  | none => bits next 22 16

/-- A step that passes its checks (R71, steps 3 to 5). -/
def Dev.walkStep (s : Dev) (v n : Nat) (bytes : List Byte) (depth o l : Nat) (w : Walk) : Walk :=
  let next := s.pcfg v .PRS_NODE_NEXT n
  let kind := bits next 11 9
  let count := bits next 8 7
  let kv := s.extract v n bytes depth o w.kv
  let kv := kv ||| s.pfld v .PRS_NODE_CHK n 7 0 * 2 ^ 56
  let vlan := if count = 1 then w.vlan + 1 else w.vlan
  let tunnel := if count = 2 then w.tunnel + 1 else w.tunnel
  let kv := putBits (putBits kv 18 16 vlan) 15 14 tunnel
  let kv := if kind = 2 ∧ csumOk ((bytes.drop o).take l) = false then kv ||| 2 ^ 13 else kv
  { kv, vlan, tunnel, seen := n :: w.seen, steps := w.steps ++ [⟨n, o, kind, count⟩] }

/-- Walk the graph from a node (R71): what was built, and the failing check with its step, node and O, if one failed. -/
def Dev.walk (s : Dev) (v : Nat) (bytes : List Byte) (depth : Nat) :
    Nat → Nat → Nat → Nat → Walk → Walk × Option (Nat × Nat × Nat × Nat)
  | 0, _, _, _, w => (w, none)
  | k + 1, step, n, o, w =>
    let l := s.nodeLen v n bytes depth o
    match s.stepFault v n bytes depth o l step w with
    | 0 =>
      let w := s.walkStep v n bytes depth o l w
      let m := s.nextNode v n bytes depth o
      if m = 0x7F then ({ w with kv := putBits (putBits w.kv 55 46 (o + l)) 12 7 n }, none)
      else s.walk v bytes depth k (step + 1) (m % 64) (o + l) w
    | r => (w, some (r, step, n, o))

/-- The counter of a malformed reason (R93). -/
def malCounter : Nat → Reg
  | 1 => .PRS_MAL_TRUNCATED | 2 => .PRS_MAL_BAD_LENGTH | 3 => .PRS_MAL_TOO_MANY_TAGS | 4 => .PRS_MAL_TOO_DEEP
  | _ => .PRS_MAL_LOOP

/-- The frames of one IN_PORT keep their order, those of 0x30 and 0x31 among one SA or connection (R59). -/
def sameStream (x y : Frame) : Bool := x.inPort = y.inPort && (decide (x.inPort < 0x30) || decide (x.tag = y.tag))

/-- Frame `f` is the first of its stream at a place. -/
def Dev.isFirst (s : Dev) (f : Nat) (x : Frame) : Bool :=
  match s.firstIf (fun y => y.loc = x.loc && sameStream x y) with
  | some (g, _) => g = f
  | none => false

/-- The key vector before step 0 (R76). -/
def initKv (x : Frame) : Nat :=
  x.inPort + x.bytes.length % 2 ^ 14 * 2 ^ 32 + (match x.pitch with | some p => p * 2 ^ 20 + 2 ^ 19 | none => 0)

/-- PARSE_FRAME (R60, R71 to R77): the front end parses the next frame of its stream. -/
def execParseFrame (frame : Nat) (s : State) : Outcome State Fault Refusal := s.flow fun s =>
  match s.frame frame with
  | none => .next s
  | some x =>
    if x.loc ≠ .frontEnd ∨ s.isFirst frame x = false then .next s
    else
      let v := s.prs.ver
      let start := s.pfld v .PRS_PORT_CFG x.inPort 51 46
      let depth := s.pfld v .PRS_DEPTH 0 9 0
      let (w, bad) := s.walk v x.bytes depth 33 0 start 0 { kv := initKv x, steps := [], seen := [], vlan := 0, tunnel := 0 }
      let x := { x with kv := w.kv, steps := w.steps, cfgVer := v, malformed := (bad.map Prod.fst).getD 0 }
      let s := s.moveFrame frame x .parsed
      match bad with
      | none => .next (s.bump .PRS_PARSED_OK x.inPort)
      | some (r, step, n, o) =>
        .next ((s.bump (malCounter r) x.inPort).wr .PRS_MALFORMED_LAST 0
          (s.vn % 2 ^ 32 * 2 ^ 32 + o % 2 ^ 10 * 2 ^ 22 + n * 2 ^ 16 + x.inPort * 2 ^ 10 + step * 2 ^ 4 + r))

/-! ### Key selection (R78) -/

/-- Lookup `l` is enabled for a key vector. -/
def Dev.lookOn (s : Dev) (v l kv : Nat) : Bool :=
  bit (s.pcfg v .PRS_KSEL_EN l) 31 && bit kv (s.pfld v .PRS_KSEL_EN l 9 0)

/-- The key of lookup `l`: ranges 0 to 3, range 0 most significant. -/
def Dev.lookupKey (s : Dev) (v l kv : Nat) : Nat :=
  (List.range 4).foldl (fun a k =>
    let r := s.pcfg v .PRS_KSEL_RANGE (4 * l + k)
    let st := bits r 9 0
    let len := bits r 18 10
    if len = 0 then a else a * 2 ^ len + bits kv (st + len - 1) st) 0

/-! ### Resolution and validation (R82, R88) -/

/-- Copy a field of a hit's record. -/
def copyField (r h hi lo : Nat) : Nat := putBits r hi lo (bits h hi lo)

/-- Copy a field when the hit sets it. -/
def copyIf (c : Bool) (r h hi lo : Nat) : Nat := if c then copyField r h hi lo else r

/-- A later hit acts on the record built so far (R82). -/
def mergeRec (r h : Nat) : Nat :=
  if bit h 56 = false then (if actBase h = 0 then r else h)
  else
    let base := decide (actBase h ≠ 0)
    let r := copyIf base (copyIf base r h 22 0) h 63 57
    let r := copyIf (bit h 23) r h 26 23
    let r := copyIf (bit h 27) r h 29 27
    let r := copyIf (bit h 30) r h 48 30
    let r := copyIf (bit h 49) r h 55 49
    let rw := decide (actRewrite h ≠ 0)
    let cr := decide (actCrypto h ≠ 0)
    let r := copyIf (actDecap h ≠ 0) r h 121 120
    let r := copyIf rw r h 123 122
    let r := copyIf cr (copyIf cr r h 119 118) h 99 82
    let r := copyIf (actEncap h) r h 124 124
    let r := copyIf (actTsOp h ≠ 0) r h 117 100
    copyIf (rw || cr || actEncap h) r h 81 64

/-- The port default replaces BASE, DEST_KIND, DEST and REASON when BASE is still NONE (R82). -/
def defaultRec (r cfg : Nat) : Nat :=
  putBits (putBits r 22 0 (bits cfg 22 0)) 63 57 (bits cfg 45 39)

/-- A resolved record is valid (R88). -/
def recOk (r tunnels : Nat) : Bool :=
  let nhNeeded := decide (actRewrite r ≠ 0) || actEncap r || decide (actCrypto r = 1)
  decide (1 ≤ actBase r) && decide (actBase r ≤ 4) && destOk (actBase r) (actKind r) (actDest r)
    && decide (actDecap r ≤ tunnels) && decide (actRewrite r ≠ 3) && decide (actCrypto r ≠ 3)
    && decide (bits r 29 28 ≠ 3)
    && !((actTsOp r = 1 || actTsOp r = 2) && decide (bits (actTsArg r) 10 9 = 3))
    && !(nhNeeded && decide (actNexthop r = 0))

/-- A resolved record names a nexthop that it uses (R79, R86). -/
def usesNexthop (r : Nat) : Bool :=
  (decide (actBase r = 2) && decide (actKind r = 3))
    || (decide (actBase r ≠ 1) && (decide (actRewrite r ≠ 0) || actEncap r || decide (actCrypto r ≠ 0)) && decide (actNexthop r ≠ 0))

/-! ### The flow hash (R165) -/

/-- The value of hash range `k` of a key vector, and its length in bits. -/
def Dev.hashRange (s : Dev) (kv k : Nat) : Nat × Nat :=
  let r := s.rd .SWB_HASH_RANGE k
  let len := bits r 18 10
  (if len = 0 then 0 else bits kv (bits r 9 0 + len - 1) (bits r 9 0), len)

/-- The ranges with the symmetric pairs put in order. -/
def Dev.hashRanges (s : Dev) (kv : Nat) : List (Nat × Nat) :=
  let sym := s.fld .SWB_HASH_CTL 0 3 0
  ((List.range 4).map (fun j =>
    let a := s.hashRange kv (2 * j)
    let b := s.hashRange kv (2 * j + 1)
    if bit sym j && decide (b.1 < a.1) then [b, a] else [a, b])).flatten

/-- The flow hash H of a key vector. -/
def Dev.flowHash (s : Dev) (kv : Nat) : Nat :=
  crc32c 0xFFFFFFFF (((s.hashRanges kv).map (fun r => if r.2 = 0 then [] else beVals ((r.2 + 7) / 8) r.1)).flatten)

/-! ### Leaving the ingress pipeline -/

/-- The frame leaves for the switch core, or leaves the device when it has no base action and no mirror copy to make. -/
def Dev.toSwitch (s : Dev) (f : Nat) (x : Frame) : Dev :=
  if actBase x.action = 1 ∧ bit x.action 49 = false then s.loseFrame f else s.enterSwitch f x

/-- The record's base action becomes DROP: a mirror copy is still made (R91). -/
def dropRec (r : Nat) : Nat := putBits r 2 0 1

/-- Police a frame whose record is final (R92, R220), and let it leave. One whose action is DROP is not charged: for a malformed frame
with ACTION DROP and POLICER_VALID 1, R73 and R92 read apart, and R92 is followed (DESIGN CHOICE, log entry 118). -/
def Dev.policeFrame (s : Dev) (f : Nat) (x : Frame) : Dev :=
  let r := x.action
  let pre := if bit r 27 then some (bits r 29 28) else none
  if bit r 30 ∧ actBase r ≠ 1 then
    let p := s.police x.kv x.bytes.length 4 (bits r 48 31) pre false []
    p.s.toSwitch f { x with color := p.color, remark := p.remark, action := if p.dropped then dropRec r else r }
  else s.toSwitch f { x with color := pre.getD 0 }

/-- A frame that met a bad entry counts in TBL_PARITY_MISS, once (R156). -/
def Dev.parityMiss (s : Dev) (x : Frame) (bad : Bool) : Dev × Frame :=
  if bad && !x.missed then (s.bump .TBL_PARITY_MISS 0, { x with missed := true }) else (s, x)

/-- Read the nexthop of a record (R79, R132, R156): an invalid or bad one drops the frame, a use is counted. -/
def Dev.nexthopRead (s : Dev) (x : Frame) : Dev × Bool :=
  if usesNexthop x.action = false then (s, true)
  else
    let n := actNexthop x.action
    let e := s.entry 3 n
    let v := e.at x.epoch
    if e.bad then ((s.parityMiss x true).1, false)
    else if bit v 195 = false ∨ (actBase x.action = 2 ∧ actKind x.action = 3 ∧ nhDestOk v = false) then
      (s.bump .TBL_NH_INVALID 0, false)
    else (if bit v 194 then s.ctrAdd (bits v 193 172) 1 x.bytes.length else s, true)

/-- A record punts a frame with a pitch to a host receive ring of another pitch (R90). -/
def Dev.puntForeign (s : Dev) (x : Frame) (r : Nat) : Bool :=
  decide (actBase r = 3) && decide (actKind r = 2) && x.pitch.isSome && decide ((s.ring (actDest r)).ctx ≠ 0)
    && decide ((s.ring (actDest r)).loc = 0) && decide (some (s.ring (actDest r)).pitch ≠ x.pitch)

/-- Stages 18 to 23 with the record resolved (R82, R88, R90, R92, R165). `viol` marks a violation that drops. -/
def Dev.finish (s : Dev) (f : Nat) (x : Frame) (r : Nat) (viol : Bool) : Dev :=
  let cfg := s.pcfg x.cfgVer .PRS_PORT_CFG x.inPort
  let none0 := decide (actBase r = 0)
  let s := if none0 then s.bump .PRS_DEFAULT_TAKEN x.inPort else s
  let r := if none0 then defaultRec r cfg else r
  let x := { x with action := r, cls := if bit r 23 then bits r 26 24 else bits cfg 25 23, hash := if x.inPort = 0x30 then x.hash else s.flowHash x.kv }
  if viol then s.toSwitch f { x with action := dropRec r }
  else if recOk r (bits x.kv 15 14) = false then
    (s.bump .PRS_ACTION_INVALID x.inPort).toSwitch f { x with action := dropRec r }
  else if s.puntForeign x r then
    (s.bump .PRS_PUNT_FOREIGN x.inPort).toSwitch f { x with action := dropRec r }
  else
    match s.nexthopRead x with
    | (s, true) => s.policeFrame f x
    | (s, false) => s.toSwitch f { x with action := dropRec r }

/-- The record a malformed frame takes (R73, R74). -/
def malformedRec (v reason : Nat) : Nat :=
  let base := match bits v 1 0 with | 1 => 3 | 2 => 4 | _ => 1
  base + bits v 3 2 * 2 ^ 3 + bits v 21 4 * 2 ^ 5 + bits v 22 22 * 2 ^ 30 + bits v 40 23 * 2 ^ 31
    + (0x78 + reason) * 2 ^ 57

/-! ### Lookups (R79 to R81, R149) -/

/-- Count a hit's counter pair, when its entry has one (R134). -/
def Dev.hitCount (s : Dev) (code v len : Nat) : Dev :=
  match code with
  | 0 => if bit v 222 then s.ctrAdd (bits v 221 200) 1 len else s
  | 1 => if bit v 1409 then s.ctrAdd (bits v 1431 1410) 1 len else s
  | 2 => if bit v 298 then s.ctrAdd (bits v 297 276) 1 len else s
  | 4 => if bit v 470 then s.ctrAdd (bits v 469 448) 1 len else s
  | _ => s

/-- The action record of an image. -/
def tblAction (code v : Nat) : Nat := if code = 1 then bits v 1407 1280 else if code = 4 then bits v 447 320 else bits v 127 0

/-- A frame in classification: the state, whether a bad entry was met, and the record so far. -/
structure Classify where
  s : Dev
  bad : Bool
  rcd : Nat

/-- Take a lookup's result (R82, R134, R156). -/
def Classify.take (c : Classify) (code len : Nat) (hit : Option (Nat × Nat × Bool)) : Classify :=
  match hit with
  | none => c
  | some (_, _, true) => { c with bad := true }
  | some (_, v, false) => { c with s := c.s.hitCount code v len, rcd := mergeRec c.rcd (tblAction code v) }

/-- A hit that is not bad. -/
def goodHit (hit : Option (Nat × Nat × Bool)) : Option (Nat × Nat) :=
  match hit with
  | some (i, v, false) => some (i, v)
  | _ => none

/-- Learning from a STATION_SRC lookup (R149): the state after, and whether a violation drops the frame. -/
def Dev.learnFrom (s : Dev) (x : Frame) (key : Nat) (hit : Option (Nat × Nat)) : Dev × Bool :=
  let p := x.inPort
  let mac := bits key 47 0
  let fid := bits key 59 48
  let q : LearnReq := { fid, mac, port := p, owner := x.pitch, isMove := false }
  if s.fld .TBL_LEARN_CFG p 0 0 = 0 ∨ bit mac 40 then (s, false)
  else match hit with
    | none => (s.learnQueue q, false)
    | some (i, v) =>
      if actionPort v = p then (s, false)
      else if bit v 189 then
        ((s.bump .TBL_PORT_VIOLATIONS p).notice 4 mac fid i p (actionPort v), s.fld .TBL_LEARN_CFG p 3 2 = 1)
      else (s.learnQueue { q with isMove := true }, false)

/-- The pitch of a frame after the Tenant Map (R80): nothing when a frozen entry ends classification. -/
def Dev.resolvePitch (s : Dev) (x : Frame) : Dev × Option (Option Nat) :=
  let cfg := s.pcfg x.cfgVer .PRS_PORT_CFG x.inPort
  let dflt := if bit cfg 38 && decide (x.inPort < 32) then some (bits cfg 37 26) else none
  if x.pitch.isSome then (s, some x.pitch)
  else if s.lookOn x.cfgVer 0 x.kv then
    match s.lookKey 6 (s.lookupKey x.cfgVer 0 x.kv % 2 ^ 24) x.epoch with
    | some (i, v, _) => if s.isFrozen 6 i then (s.suspect, none) else (s, some (some (bits v 35 24)))
    | none => (s, some dflt)
  else (s, some dflt)

/-- The record that resolution starts from: empty, or the carried record of a punt on its return (R86), which it replaces: a frame
that is decrypted later starts from an empty one. -/
def startRec (x : Frame) : Nat := if x.carried then putBits (putBits x.action 22 0 0) 63 57 0 else 0

/-- The key of the FLOW lookup of a frame, when it is enabled. -/
def Dev.flowKey (s : Dev) (x : Frame) : Option Nat :=
  if s.lookOn x.cfgVer 5 x.kv then some (s.lookupKey x.cfgVer 5 x.kv) else none

/-- The FLOW lookup and the results after it (R79, R82). -/
def Dev.flowStage (s : Dev) (f : Nat) (x : Frame) (bad viol : Bool) : Dev :=
  let len := x.bytes.length
  let hit := (s.flowKey x).bind (fun k => s.lookKey 4 k x.epoch)
  let s := match goodHit hit with
    | some (i, _) => s.touch 4 i
    | none => s
  let c := (Classify.mk s bad x.action).take 4 len hit
  let (s, x) := c.s.parityMiss x c.bad
  s.finish f x (mergeRec c.rcd x.tcam) viol

/-- The lookups of stages 4 to 15 (R79, R81): the state, whether a bad entry was met, whether a violation drops, the
record so far and the TCAM record. -/
def Dev.classify (s : Dev) (x : Frame) : Classify × Bool × Nat :=
  let v := x.cfgVer
  let kv := x.kv
  let len := x.bytes.length
  let dstOn := s.lookOn v 1 kv
  let dst := if dstOn then s.lookKey 0 (s.lookupKey v 1 kv % 2 ^ 60) x.epoch else none
  let s := match goodHit dst with
    | some (i, _) => if s.fld .TBL_AGE_STN 0 1 1 = 1 then s.touch 0 i else s
    | none => s
  let c := (Classify.mk s false (startRec x)).take 0 len dst
  let srcOn := s.lookOn v 2 kv && decide (x.inPort < 32)
  let srcKey := s.lookupKey v 2 kv % 2 ^ 60
  let src := if srcOn then c.s.lookKey 0 srcKey x.epoch else none
  let c := match src with
    | some (_, _, true) => { c with bad := true }
    | some (i, w, false) => { c with s := (c.s.hitCount 0 w len).touch 0 i }
    | none => c
  let (s, viol) := if srcOn then c.s.learnFrom x srcKey (goodHit src) else (c.s, false)
  let c := { c with s := s }
  let routable := !dstOn || (match goodHit dst with | some (_, w) => actBase (tblAction 0 w) = 0 | none => false)
  let img := fun (e : TblEntry) => e.at x.epoch
  let route :=
    if !routable then none
    else if s.lookOn v 4 kv then
      let k := s.lookupKey v 4 kv
      s.lookRoute 1 (k / 2 ^ 128 % 4096) (k % 2 ^ 128) img
    else if s.lookOn v 3 kv then
      let k := s.lookupKey v 3 kv
      s.lookRoute 0 (k / 2 ^ 32 % 4096) (k % 2 ^ 32) img
    else none
  let c := c.take 2 len route
  let tcam := c.s.lookTcam kv img
  match tcam with
  | none => (c, viol, 0)
  | some (_, _, true) => ({ c with bad := true }, viol, 0)
  | some (_, w, false) => ({ c with s := c.s.hitCount 1 w len }, viol, tblAction 1 w)

/-- The logical ingress pipeline of a frame (R58, R59). -/
def Frame.pipeline (x : Frame) : Nat :=
  if x.inPort < 32 then x.inPort / 8 else if x.inPort < 0x30 then x.inPort % 4 else x.tag % 4

/-- The headers in a pipeline's miss buffer (R136). -/
def Dev.missBuffer (s : Dev) (x : Frame) : List (Nat × Frame) :=
  s.framesIf (fun y => y.loc = .flowMiss && y.pipeline = x.pipeline)

/-- The headers that a pipeline has admitted in this volley. -/
def Dev.admitted (s : Dev) (p : Nat) : Nat := Sparse.get (fun _ => 0) s.prs.admitted p

/-- A pipeline admits one header per cycle, of which a volley has two in each ns (R20): the header counts. -/
def Dev.noteAdmitted (s : Dev) (p : Nat) : Dev :=
  { s with prs := { s.prs with admitted := Sparse.set (fun _ => 0) s.prs.admitted p (s.admitted p + 1) } }

/-- Admission is open for a frame: the mode carries traffic, no pause holds it, it is the next of its stream, its miss buffer has a
place, and the pipeline has a cycle left in this volley (R20, R38, R59, R115, R136). -/
def Dev.admissible (s : Dev) (f : Nat) (x : Frame) : Bool :=
  s.mode.traffic && decide (s.jnl.fail < 2) && !s.held && x.loc = .parsed && s.isFirst f x && decide ((s.missBuffer x).length < 2048)
    && decide (s.admitted x.pipeline < 2 * s.clk.volleyNs)

/-- HEADER_ADMISSION (R95, R79, R73): `miss` tells that the FLOW lookup misses the on-chip cache, `parity` names the
entries, by table and index, in which a lookup of this frame finds a persistent parity error. -/
def execHeaderAdmission (frame : Nat) (miss : Bool) (parity : List (Nat × Nat)) (s : State) :
    Outcome State Fault Refusal := s.flow fun s =>
  match s.frame frame with
  | none => .next s
  | some x =>
    if s.admissible frame x = false then .next s
    else
      let s := s.noteAdmitted x.pipeline
      let x := if x.stamped then x else { x with stamped := true, epoch := s.epc.cur }
      if x.malformed ≠ 0 then
        let v := s.pcfg x.cfgVer .PRS_MALFORMED_ACTION 0
        let x := { x with action := malformedRec v x.malformed, hash := if x.inPort = 0x30 then x.hash else s.flowHash x.kv
                          cls := s.pfld x.cfgVer .PRS_PORT_CFG x.inPort 25 23 }
        .next (if s.puntForeign x x.action then
            (s.bump .PRS_PUNT_FOREIGN x.inPort).toSwitch frame { x with action := dropRec x.action }
          else s.policeFrame frame x)
      else
        let s := forEach parity s (fun s e => s.markBad e.1 e.2 x.inPort)
        match s.resolvePitch x with
        | (s, none) => .next (s.loseFrame frame)
        | (s, some p) =>
          let kv := match p with
            | some n => putBits x.kv 31 19 (n * 2 + 1)
            | none => x.kv
          let x := { x with pitch := p, kv := kv }
          let (c, viol, tcam) := s.classify x
          let s := c.s
          let (s, x) := s.parityMiss { x with action := c.rcd, tcam := tcam, carried := false } (c.bad || !parity.isEmpty)
          let waits := (s.flowKey x).isSome &&
            (miss || (s.missBuffer x).any (fun e => s.flowKey e.2 = s.flowKey x))
          if waits then .next (s.moveFrame frame { x with color := b2n viol } .flowMiss)
          else .next (s.flowStage frame x false viol)

/-- FLOW_MISS_RETURN (R136): the read for a header returns, and the headers that waited on it proceed, in order. -/
def execFlowMissReturn (frame : Nat) (parity : List (Nat × Nat)) (s : State) : Outcome State Fault Refusal := s.flow fun s =>
  match s.frame frame with
  | none => .next s
  | some x =>
    if x.loc ≠ .flowMiss then .next s
    else
      let s := forEach parity s (fun s e => s.markBad e.1 e.2 x.inPort)
      let same := s.inOrder (fun y => y.loc = .flowMiss && y.pipeline = x.pipeline && s.flowKey y = s.flowKey x)
      .next (forEach same s (fun s e => s.flowStage e.1 { e.2 with color := 0 } (!parity.isEmpty) (e.2.color = 1)))

end Sys2Proof.Machine
end

