-- ==== Sys2Proof/Machine/Egress.lean ====
section
/-! DEFINITION. The way out: the egress pipelines and their modifiers (R86, R87, R132, R133, R181, R223), the scheduler
(R199 to R208), transmission on a MAC port (R45, R52, R53, R177), delivery into host receive rings (R344, R345), and the
hand-over of punts to Dorut cores (R190, R248). -/

namespace Sys2Proof.Machine

open Host

/-! ### Re-execution (R493) -/

/-- An item whose execution failed a detection check is carried out again, or completes with MEM_ERROR after three times
(R493). -/
def Dev.retryItem (s : Dev) (r : ItemRef) : Dev :=
  match s.item r with
  | none => s
  | some x =>
    if x.stage ≠ 1 then s
    else if x.retries = 3 then s.releaseWith r 0x0206 0 0
    else ((s.setItem r (some { x with retries := x.retries + 1, filled := false, busy := false })).bump .JNL_RETRIES 0).startItem r

/-- A frame of an item met a detection error: every frame of the item still inside goes with it, since they share their
cells (R171), and the item is carried out again. -/
def Dev.retryFrame (s : Dev) (r : ItemRef) : Dev :=
  (forEach (s.framesIf (fun x => x.item = some r)) s (fun s e => s.dropFrame e.1)).retryItem r

/-! ### Header changes -/

/-- A 16-bit word of a frame. -/
def word16 (bs : List Byte) (o : Nat) : Nat := netBits bs (8 * o) 16

/-- Write a 16-bit word of a frame. -/
def setWord16 (bs : List Byte) (o v : Nat) : List Byte := putBytes bs o (beBytes 2 (v % 65536))

/-- Fold the carries of a one's complement sum. -/
def fold16 (n : Nat) : Nat :=
  let a := n % 65536 + n / 65536
  let b := a % 65536 + a / 65536
  b % 65536 + b / 65536

/-- The incremental update of an Internet checksum when a word changes. -/
def csumAdj (hc old new : Nat) : Nat := 65535 - fold16 (65535 - hc + (65535 - old) + new)

/-- Replace the word at offset `k` of an IP header; the IPv4 checksum follows (R86, R181, R223). -/
def ipWord (bs : List Byte) (ip : PStep) (k v : Nat) : List Byte :=
  let o := ip.off + k
  let old := word16 bs o
  let bs' := setWord16 bs o v
  if ip.kind = 2 then setWord16 bs' (ip.off + 10) (csumAdj (word16 bs (ip.off + 10)) old v) else bs'

/-- The outermost VLAN tag among steps: the first step that counts a VLAN tag before any L3 or tunnel header. Its O is at
the TCI, two bytes behind the TPID (R63, R66; DEDUCED, log entry 26). -/
def outerVlan (l : List PStep) : Option PStep :=
  (l.takeWhile (fun p => decide (p.kind < 2) && decide (p.count ≠ 2))).find? (fun p => p.count = 1)

/-- Shift every step at or behind offset `o` by `up` bytes up or `down` bytes down. -/
def shiftSteps (o up down : Nat) (l : List PStep) : List PStep :=
  l.map (fun p => if o ≤ p.off then { p with off := p.off + up - down } else p)

/-- The outcome of an egress step: the frame as it stands, or the counter of its drop. -/
abbrev Egr := Except (Reg × Nat) Frame

/-- Six bytes of a MAC address. -/
def macBytes (m : Nat) : List Byte := beBytes 6 m

/-- DECAP (R86, step 1): `v` is the nexthop image. -/
def Frame.decap (x : Frame) (v : Nat) : Egr :=
  let k := actDecap x.action
  if k = 0 then .ok x
  else
    let l := stepsAfter k x.steps
    match l with
    | [] => .error (.PRS_DECAP_NO_L2, x.inPort)
    | h :: _ =>
      if h.kind = 1 then .ok { x with bytes := x.bytes.drop h.off, steps := shiftSteps 0 0 h.off l }
      else if actRewrite x.action = 0 ∨ (h.kind ≠ 2 ∧ h.kind ≠ 3) then .error (.PRS_DECAP_NO_L2, x.inPort)
      else .ok { x with
        bytes := macBytes (bits v 47 0) ++ macBytes (bits v 95 48) ++ beBytes 2 (if h.kind = 2 then 0x0800 else 0x86DD)
          ++ x.bytes.drop h.off
        steps := shiftSteps 0 14 h.off l }

/-- VLAN_OP of a nexthop (R132). -/
def Frame.vlanOp (x : Frame) (v : Nat) : Frame :=
  let tci := bits v 111 96
  match bits v 113 112, outerVlan x.steps with
  | 1, some p => { x with bytes := setWord16 x.bytes p.off tci }
  | 2, _ => { x with bytes := x.bytes.take 12 ++ beBytes 2 0x8100 ++ beBytes 2 tci ++ x.bytes.drop 12
                     steps := ⟨0, 14, 0, 1⟩ :: shiftSteps 12 4 0 x.steps }
  | 3, some p => { x with bytes := x.bytes.take (p.off - 2) ++ x.bytes.drop (p.off + 2)
                          steps := shiftSteps (p.off - 2) 0 4 (x.steps.filter (fun q => !decide (q = p))) }
  | _, _ => x

/-- The TTL or hop-limit decrement of REWRITE 0b10 (R86, step 2). -/
def Frame.ttl (x : Frame) : Egr :=
  match firstIp x.steps with
  | none => .ok x
  | some ip =>
    let k := if ip.kind = 2 then 8 else 6
    let w := word16 x.bytes (ip.off + k)
    let hop := if ip.kind = 2 then w / 256 else w % 256
    if hop ≤ 1 then .error (.PRS_TTL_EXPIRED, x.inPort)
    else .ok { x with bytes := ipWord x.bytes ip k (if ip.kind = 2 then w - 256 else w - 1) }

/-- REWRITE (R86, step 2). -/
def Frame.rewrite (x : Frame) (v : Nat) : Egr :=
  if actRewrite x.action = 0 then .ok x
  else
    let y := ({ x with bytes := putBytes x.bytes 0 (macBytes (bits v 47 0) ++ macBytes (bits v 95 48)) }).vlanOp v
    if actRewrite x.action = 2 then y.ttl else .ok y

/-- The ECN mark of R181, in the first IP header of the steps `l`. -/
def Frame.markCe (x : Frame) (l : List PStep) : Frame :=
  match x.ecnMark, firstIp l with
  | true, some ip =>
    let w := word16 x.bytes ip.off
    { x with bytes := ipWord x.bytes ip 0 (if ip.kind = 2 then w ||| 3 else w ||| 0x30) }
  | _, _ => x

/-- One remark profile for one colour (R223, R226): `r` is SCH_REMARK of the profile; the DSCP is in the first IP header of the steps
`l`. -/
def Frame.remarkOne (x : Frame) (l : List PStep) (r c : Nat) : Frame :=
  let x := if bit r (8 * c + 6) then
      match firstIp l with
      | some ip =>
        let w := word16 x.bytes ip.off
        let d := bits r (8 * c + 5) (8 * c)
        { x with bytes := ipWord x.bytes ip 0 (if ip.kind = 2 then putBits w 7 2 d else putBits w 11 6 d) }
      | none => x
    else x
  if bit r (24 + c) then
    match outerVlan x.steps with
    | some p => { x with bytes := setWord16 x.bytes p.off (putBits (word16 x.bytes p.off) 12 12 (b2n (bit r (8 * c + 7)))) }
    | none => x
  else x

/-- The Internet checksum of a string of bytes. -/
def csum16 (bs : List Byte) : Nat :=
  65535 - fold16 (sumNat ((List.range ((bs.length + 1) / 2)).map (fun k => word16 (bs ++ [0]) (2 * k))))

/-- The tunnel header of a template before a frame of bytes `inner`, with its fixups (R133): `t` the template, `key`
TUN_KEY, `h` the flow hash. -/
def encapBytes (t key h : Nat) (inner : List Byte) : List Byte :=
  let f := fun (k : Nat) => bits t (8 * k + 7) (8 * k)
  let all := leBytes (f 112) (bits t 895 0) ++ inner
  let n := all.length
  let all := if f 113 ≠ 0xFF then putBytes all (f 113) (beBytes 3 key) else all
  let all := if f 116 ≠ 0xFF then
      let a := setWord16 (setWord16 all (f 116 + 4) (n - f 116)) (f 116 + 6) 0
      if bit (f 117) 0 then setWord16 a (f 116) (0xC000 + h % 2 ^ 14) else a
    else all
  let l3 := f 114
  if l3 = 0xFF then all
  else if f 115 = 1 then
    let a := setWord16 (setWord16 all (l3 + 2) (n - l3)) (l3 + 10) 0
    let ihl := 4 * ((a.getD l3 0).toNat % 16)
    setWord16 a (l3 + 10) (csum16 ((a.drop l3).take ihl))
  else if f 115 = 2 then setWord16 all (l3 + 4) (n - l3 - 40)
  else all

/-- The IP header that a template brings, as a step in front of the frame's own (R133, R386). -/
def templateStep (t : Nat) : List PStep :=
  let l3 := bits t 919 912
  let v := bits t 927 920
  if l3 ≠ 0xFF ∧ (v = 1 ∨ v = 2) then [⟨0, l3, 1 + v, 0⟩] else []

/-- ENCAP (R86, step 3; R133): `v` the nexthop image and `t` its template. -/
def Frame.encap (x : Frame) (v t : Nat) : Egr :=
  if actEncap x.action = false then .ok x
  else
    let n := bits t 903 896
    if bit t 944 = false ∨ n < 14 ∨ 112 < n then .error (.TBL_NH_INVALID, 0)
    else .ok { x with bytes := encapBytes t (bits v 171 148) x.hash x.bytes, steps := templateStep t ++ shiftSteps 0 n 0 x.steps }

/-- The written field of TS_OP lies wholly inside the frame (R87); a demoted frame is not written (R52). -/
def Frame.tsOk (x : Frame) : Bool :=
  let op := actTsOp x.action
  let p := bits (actTsArg x.action) 8 0
  if actCrypto x.action = 1 ∨ op = 0 ∨ op = 3 then true
  else (bits (actTsArg x.action) 10 9 = 0 || decide (2 ≤ p))
    && decide (p + (if op = 1 then 44 else 16) ≤ x.bytes.length)

/-- The frame's modifiers act: punts and replicas for a cluster carry them unapplied (R86, R182); a mirror copy has only
its session's (R186). -/
def Frame.modifies (x : Frame) : Bool :=
  match x.kind with
  | .mirror _ => true
  | _ => decide (actBase x.action ≠ 3) && !decide (256 ≤ x.queue ∧ x.queue < 320)

/-- The remarks and the ECN mark of a frame, in the first IP header of the steps `l` (R181, R223). -/
def Dev.marks (s : Dev) (x : Frame) (l : List PStep) : Frame :=
  (x.remark.foldl (fun y r => y.remarkOne l (s.rd .SCH_REMARK r.1) r.2) x).markCe l

/-- The nexthop image and its template, as a frame sees them. -/
def Dev.nextImages (s : Dev) (x : Frame) (n : Nat) : Nat × Nat :=
  let v := (s.entry 3 n).at x.epoch
  (v, (s.entry 7 (bits v 147 134)).at s.epc.cur)

/-- What a session does to the frame that a base action MIRROR sends to it (R186): it keeps the first TRUNC bytes, and goes through
the session's nexthop as for REWRITE 0b01 with ENCAP. -/
def Dev.toSession (s : Dev) (x : Frame) : Egr :=
  let t := bits x.session 45 32
  let x := if t = 0 then x else { x with bytes := x.bytes.take t }
  if bits x.session 63 46 = 0 then .ok x
  else
    let i := s.nextImages x (bits x.session 63 46)
    let old := x.action
    do
      let y ← ({ x with action := 2 ^ 122 + 2 ^ 124 }).rewrite i.1
      let y ← y.encap i.1 i.2
      .ok { y with action := old }

/-- DECAP, REWRITE, the remarks and the ECN mark, ENCAP and the check of TS_OP, in their order (R86, R87, R181, R223). A frame that
keeps its modifiers unapplied is marked in the header that WRED judged, the first IP header after DECAP. -/
def Dev.modify (s : Dev) (x : Frame) : Egr :=
  let i := s.nextImages x (actNexthop x.action)
  if x.modifies then do
    let y ← x.decap i.1
    let y ← y.rewrite i.1
    let y ← (s.marks y y.steps).encap i.1 i.2
    let y ← s.toSession y
    if y.queue < 256 ∧ y.tsOk = false then .error (.PRS_TS_OUTSIDE, x.inPort) else .ok y
  else .ok (s.marks x (stepsAfter (actDecap x.action) x.steps))

/-- The nexthops that a frame reads at egress: the one its REWRITE, ENCAP or PROTECT names, and its session's (R86, R88, R186). -/
def egressNexthops (x : Frame) : List Nat :=
  let uses := decide (actRewrite x.action ≠ 0) || actEncap x.action || decide (actCrypto x.action = 1)
  if x.modifies then
    ((if uses then [actNexthop x.action] else []) ++ [bits x.session 63 46]).filter (fun n => decide (n ≠ 0))
  else []

/-- The entries that a frame reads at egress, by table and index: its nexthops, and their templates where it is encapsulated (R133). -/
def Dev.egressReads (s : Dev) (x : Frame) : List (Nat × Nat) :=
  let l := egressNexthops x
  let t := l.filter (fun n => (actEncap x.action && decide (n = actNexthop x.action)) || decide (n = bits x.session 63 46))
  l.map (fun n => (3, n)) ++ t.map (fun n => (7, bits ((s.entry 3 n).at x.epoch) 147 134))

/-- A frame reaches the crypto complex (R379, R380). -/
def Dev.reachCrypto (s : Dev) (f : Nat) : Dev := { s with cry := { s.cry with arrived := s.cry.arrived ++ [f] } }

/-- Carry out the modifiers of a frame in its queue (R86). A nexthop or template that is bad drops the frame (R156); `parity` names the
entries in which this read finds a persistent error. -/
def Dev.egressFrame (s : Dev) (f : Nat) (x : Frame) (parity : List (Nat × Nat)) : Dev :=
  let l := s.egressReads x
  let s := forEach (parity.filter (fun e => l.contains e)) s (fun s e => s.markBad e.1 e.2 x.inPort)
  let bad := l.any (fun e => (s.entry e.1 e.2).bad)
  let invalid := (egressNexthops x).any (fun n => !bit ((s.entry 3 n).at x.epoch) 195)
  if bad then ((s.parityMiss x true).1).loseFrame f
  else if invalid then (s.bump .TBL_NH_INVALID 0).loseFrame f
  else
    match s.modify x with
    | .error (r, i) => (s.bump r i).loseFrame f
    | .ok y =>
      let y := { y with ready := true, remark := [], ecnMark := false, action := putBits y.action 121 120 0 }
      if x.modifies ∧ actCrypto y.action = 1 then
        (s.setFrame f { y with loc := .crypto, tag := actSa y.action, ready := false }).reachCrypto f
      else s.setFrame f y

/-- EGRESS_PIPELINE (R86): the first frame of a queue that has not passed is taken through; `parity` names entries, by table and
index, in which a read of this frame finds a persistent parity error (R156). While a pause holds the hand-over, none is (R115). -/
def execEgressPipeline (queue : Nat) (parity : List (Nat × Nat)) (s : State) : Outcome State Fault Refusal := s.flow fun s =>
  if s.held then .next s
  else match s.firstIf (fun f => f.loc = .queue queue && !f.ready) with
    | none => .next s
    | some (f, x) => .next (s.egressFrame f x parity)

/-! ### The tree of shapers and its arbitration (R200, R210, R212) -/

/-- The child of a node whose turn it is, plus one. -/
def Dev.setSchTurn (s : Dev) (n v : Nat) : Dev :=
  { s with sch := { s.sch with turn := Sparse.set (fun _ => 0) s.sch.turn n v } }

/-- WEIGHT of a node (R211); an entry that nothing has written has its reset value 1. -/
def Dev.shpWeightOf (s : Dev) (n : Nat) : Nat := max 1 (shpWeight (s.shaper n))

/-- A queue that may send: its nodes from the queue up to the port node, and the length of its head frame (R199, R201). -/
structure Cand where
  q : Nat
  chain : List Nat
  len : Nat

/-- The eligible children of a node, in ascending order (R200). -/
def childrenOf (cs : List Cand) (n : Nat) : List Nat :=
  let kids := cs.filterMap (fun c => match c.chain.findIdx? (fun m => m = n) with
    | some (k + 1) => c.chain[k]?
    | _ => none)
  (kids.foldl (fun (l : List Nat) k => if l.contains k then l else (l.takeWhile (fun m => decide (m < k))) ++ [k]
    ++ l.dropWhile (fun m => decide (m < k))) [])

/-- The children of a node in the order of their turns, after child `c`. -/
def turnOrder (l : List Nat) (c : Nat) : List Nat :=
  l.filter (fun m => decide (c ≤ m)) ++ l.filter (fun m => decide (m < c))

/-- Deficit round robin at a node (R200): child `c` holds the turn; `next` gives the frame a child would send. -/
def drr (next : Dev → Nat → Option (Cand × Dev)) (l : List Nat) (n : Nat) : Nat → Nat → Dev → Option (Cand × Dev)
  | 0, _, _ => none
  | k + 1, c, s =>
    let move := fun (s : Dev) =>
      let m := (turnOrder l (c + 1)).headD 0
      drr next l n k m (s.setDeficit m (s.deficit m + 256 * s.shpWeightOf m))
    if l.contains c then
      match next s c with
      | some (x, s') =>
        if (x.len : Int) ≤ s.deficit c then some (x, (s'.setDeficit c (s.deficit c - x.len)).setSchTurn n (c + 1))
        else move s
      | none => move s
    else move s

/-- The queue that arbitration below a node leads to (R200). `d` bounds the depth. -/
def Dev.pickNode (s : Dev) (cs : List Cand) : Nat → Nat → Option (Cand × Dev)
  | 0, _ => none
  | d + 1, n =>
    match cs.find? (fun c => c.q = n) with
    | some c => some (c, s)
    | none =>
      let kids := childrenOf cs n
      let sp := if 0x8200 ≤ n ∧ n < 0x8240 then s.fld .SCH_PORT_ARB (n - 0x8200) 7 0 else 0
      let strict := kids.filter (fun m => bit sp ((m - 0x8240) % 8) && decide (0x8240 ≤ m ∧ m < 0x8440))
      match (if sp = 0 then none else strict.getLast?) with
      | some m => s.pickNode cs d m
      | none =>
        if kids.isEmpty then none
        else
          let longest := cs.foldl (fun a c => max a c.len) 0
          let cur := Sparse.get (fun _ => 0) s.sch.turn n
          drr (fun s m => s.pickNode cs d m) kids n ((kids.length + 1) * (longest / 256 + 2)) (if cur = 0 then 2 ^ 20 else cur - 1) s

/-- Every node of a queue with SHAPE 1 has a bucket of 0 or more (R199). -/
def Dev.shapersOpen (s : Dev) (chain : List Nat) : Bool :=
  chain.all (fun n => !shpShape (s.shaper n) || decide (0 ≤ s.bucket n))

/-- The nodes of a queue with SHAPE 1 subtract the charged length (R201). -/
def Dev.chargeShapers (s : Dev) (chain : List Nat) (n : Nat) : Dev :=
  forEach chain s (fun s m =>
    let v := s.shaper m
    if shpShape v then s.setBucket m (s.bucket m - (max 0 ((n : Int) + shpOverhead v)) * 2 ^ 32) else s)

/-- The length of a frame at hand-over (R201): with padding and FCS on a MAC port, as delivered elsewhere. -/
def wireLen (x : Frame) : Nat := if x.queue < 256 then max 60 x.bytes.length + 4 else x.bytes.length

/-- The length a frame is judged and charged with: MAXLEN when it is cut through (R201, R206). -/
def Dev.chargeLen (s : Dev) (x : Frame) : Nat := if x.cut then s.maxLen (x.queue / 8) else wireLen x

/-- The ring and WAIT of a frame for a host (R344, R345): nothing when no ring can take it. -/
def Dev.rxRingOf (s : Dev) (x : Frame) : Option Nat × Bool :=
  let wait := if x.queue < 512 then bit (Sparse.get (fun _ => 0) s.rng.pitch (4096 + (x.queue / 8 - 42))) 8 
    else bit (Sparse.get (fun _ => 0) s.rng.rxmap (x.queue - 512)) 19
  let ok := fun (r : Nat) => decide ((s.ring r).st = 1) && decide ((s.ring r).kind = 1)
    && (if x.queue < 512 then decide ((s.ring r).loc = 1) else decide ((s.ring r).owner = some ((x.queue - 512) / 8)))
  match x.rxRing with
  | some r => (if ok r then some r else none, wait)
  | none =>
    let e := Sparse.get (fun _ => 0) s.rng.rxmap (x.queue - 512)
    let r := bits e 15 0 + x.hash % 2 ^ bits e 18 16
    (if bit e 20 ∧ 512 ≤ x.queue ∧ ok r then some r else none, wait)

/-- The unfilled items of a ring, less the frames already in the queue engine for it. -/
def Dev.recvRoom (s : Dev) (r : Nat) : Bool :=
  decide ((s.framesIf (fun f => f.loc = .ringEngine && f.rxRing = some r)).length
    < ((s.itemsOf r).filter (fun x => x.stage = 1 && !x.filled)).length)

/-- The head frame of a queue, when it may be handed over: its modifiers are carried out and it is on chip. -/
def Dev.headFrame (s : Dev) (q : Nat) : Option (Nat × Frame) :=
  match s.firstIf (fun f => f.inQueue && f.queue = q) with
  | some (f, x) => if x.ready ∧ x.spilled = false ∧ x.loc = .queue q then some (f, x) else none
  | none => none

/-- Frames queued toward the virtual port of a pitch are delivered (R445, R449): while it is ACTIVE, and while a drain or a
freeze runs. -/
def Dev.pitDelivers (s : Dev) (p : Nat) : Bool := s.pitState p = 1 || s.pitState p = 2 || s.pitState p = 7

/-- Conditions 1 and 2 of R199 for a head frame, and whether the guard band alone refuses it. -/
def Dev.destTakes (s : Dev) (x : Frame) (ns : Nat) : Bool × Bool :=
  let d := queueDest x.queue
  let c := x.queue % 8
  if d < 32 then
    let up := decide (s.portState d = 4) && decide (s.fld .WIRE_PORT_STATUS d 3 3 = 0) && (Sparse.get? s.swb.hold d).isNone && (s.framesIf (fun f => f.loc = .mac d)).isEmpty
      && !s.rxPaused d c
      && (match Sparse.get? s.sch.afterHold d with
        | some v => !s.gated d || decide (s.cycleStart d v ≤ s.vn)
        | none => true)
    let guard := s.mayStart d c (s.chargeLen x) ns
    (up && guard, up && s.gateOpen d c && !guard)
  else if d < 40 ∨ d = 40 ∨ d = 41 then (true, false)
  else
    let ok := if d < 46 then s.linkUp (d - 42) else s.pitDelivers (d - 64) && s.linkUp (pmapLink (s.pmap (d - 64)))
    let room := match s.rxRingOf x with
      | (some r, true) => s.recvRoom r
      | _ => true
    (ok && room, false)

/-- The queues with frames under a port node, with their head frames. -/
def Dev.schedHeads (s : Dev) (d : Nat) : List (Nat × Frame) :=
  let qs := ((s.framesIf (fun f => f.inQueue)).map (fun e => e.2.queue)).eraseDups
  (qs.filter (fun q => (s.shpChain q).getLastD 0 = 0x8200 + d)).filterMap s.headFrame

/-- Head frames of a gated MAC port that can never start are dropped (R207). -/
def Dev.dropOversize (s : Dev) (d : Nat) : Dev :=
  if d < 32 ∧ s.gated d then
    forEach (s.schedHeads d) s (fun s e =>
      match gateSpan (s.gateList d) (e.2.queue % 8) with
      | some w =>
        if w ≠ 0 ∧ 40 * w * (s.portSpeed d).getD 0 < (s.chargeLen e.2 + 20) * 8 then
          (s.loseFrame e.1).bump .SCH_GATE_OVERSIZE d
        else s
      | none => s)
  else s

/-- Count a volley in which a head frame was held only by the guard band, `ns` into it (R206). -/
def Dev.countGuard (s : Dev) (d ns : Nat) : Dev :=
  let held := (s.schedHeads d).any (fun e => (s.destTakes e.2 ns).2 && s.shapersOpen (s.shpChain e.2.queue))
  if d < 32 ∧ held ∧ Sparse.get (fun _ => 0) s.sch.guardVn d ≠ s.vn + 1 then
    ({ s with sch := { s.sch with guardVn := Sparse.set (fun _ => 0) s.sch.guardVn d (s.vn + 1) } }).bump .SCH_GUARD_WAITS d
  else s

/-- Choose the frame that a port node hands over, its shapers charged (R199 to R201). -/
def Dev.choose (s : Dev) (d ns : Nat) (more : Frame → Bool) : Option (Nat × Frame × Dev) :=
  let cs := (s.schedHeads d).filterMap (fun e =>
    let ch := s.shpChain e.2.queue
    if (s.destTakes e.2 ns).1 && s.shapersOpen ch && more e.2 then some (Cand.mk e.2.queue ch (wireLen e.2)) else none)
  match s.pickNode cs 8 (0x8200 + d) with
  | none => none
  | some (c, s) =>
    match s.headFrame c.q with
    | none => none
    | some (f, x) => some (f, x, s.chargeShapers c.chain (s.chargeLen x))

/-- Hand a frame to its destination (R199): a MAC, the queue engine of a host (R344), a crypto lane (R380), or the
storage/transport engine. Its item's side effect has then taken place, but for a MAC port, where it takes place when the
last byte leaves (R485). A frame that comes to a connection after a REMOVE is discarded (R414). -/
def Dev.handOverFrame (s : Dev) (f : Nat) (x : Frame) : Dev :=
  let d := queueDest x.queue
  let s := if d < 32 then s.moveFrame f x (.mac d)
    else if d = 40 then ((s.moveFrame f { x with tag := actSa x.action } .crypto).reachCrypto f).freeItem f
    else if d = 41 then (if s.removingConn x.tag then s.dropFrame f else s.moveFrame f x .stx).freeItem f
    else match s.rxRingOf x with
      | (some r, _) =>
        let s := s.moveFrame f { x with rxRing := some r } .ringEngine
        (match x.kind with
          | .replica n _ => s.markReplica x.item n none
          | _ => s).freeItem f
      | (none, _) => (s.bump .RNG_RX_NO_RING 0).loseFrame f
  s

/-- A cell of a frame fails its CRC when it is read (R171, R177, R471): a cut-through frame goes on and is stomped; any other
is dropped, and a SEND item's is carried out again. -/
def Dev.badCell (s : Dev) (f : Nat) (x : Frame) : Dev :=
  let s := s.whistle 0x11 (blkId 8) 0 1
  if x.cut then s.handOverFrame f { x with bad := true }
  else
    let s := s.bump .SWB_CELL_CRC_DROP 0
    match x.item with
    | some r => s.retryFrame r
    | none => s.loseFrame f

/-- SCHEDULE_FRAME (R199): the port node of destination `dest` (R210) hands over the head frame of an eligible queue, `ns`
into the volley; `cellBad` is a cell of it that fails its CRC. Ports send nothing in BRINGUP and LOCKDOWN (R575), and a
pause stops the scheduler (R115). Cluster ports hand over by PUNT_HANDOVER. -/
def execScheduleFrame (dest ns : Nat) (cellBad : Bool) (s : State) : Outcome State Fault Refusal := s.flow fun s =>
  if 46 ≤ dest ∨ (32 ≤ dest ∧ dest < 40) then .fault .noSuchObject
  else if s.held ∨ s.mode.traffic = false then .next s
  else
    let s := (s.dropOversize dest).countGuard dest ns
    match s.choose dest ns (fun _ => true) with
    | none => .next s
    | some (f, x, s) => .next (if cellBad then s.badCell f x else s.handOverFrame f x)

/-! ### Transmission (R45, R52, R53, R177) -/

/-- The one-step write of a frame at its transmit time (R52, R87). A frame that no MAC received has the receive time 0 here, of which R52
says nothing (DESIGN CHOICE, log entry 120). -/
def oneStep (x : Frame) (time : Nat) (bs : List Byte) : List Byte :=
  let p := bits (actTsArg x.action) 8 0
  let ns := time / 2 ^ 16
  let (o, new) := if actTsOp x.action = 1 then (p + 34, beBytes 6 (ns / 1000000000) ++ beBytes 4 (ns % 1000000000))
    else (p + 8, beBytes 8 ((beNat ((bs.drop (p + 8)).take 8) + (time + 2 ^ 80 - x.rxTime)) % 2 ^ 64))
  let out := putBytes bs o new
  match bits (actTsArg x.action) 10 9 with
  | 1 =>
    let hc := (List.range (new.length / 2)).foldl (fun c k => csumAdj c (word16 bs (o + 2 * k)) (word16 out (o + 2 * k)))
      (word16 bs (p - 2))
    setWord16 out (p - 2) hc
  | 2 => setWord16 out (p - 2) 0
  | _ => out

/-- Note a transmission in the SEND item of a frame: its MAC port and its compact time (R340). -/
def Dev.noteSent (s : Dev) (x : Frame) (time : Nat) : Dev :=
  match x.item with
  | none => s
  | some r =>
    match s.item r with
    | none => s
    | some i => s.setItem r (some { i with sentMac := i.sentMac + 1, sentTime := time })

/-- The capture tags of a frame (R53, R87, R325): two-step by its record, a demoted one-step frame, or a capture item. -/
def Dev.captureTag (s : Dev) (x : Frame) : Option Nat :=
  let op := actTsOp x.action
  if op = 3 then some (actTsArg x.action)
  else if (op = 1 ∨ op = 2) ∧ x.encrypted then some (actTsArg x.action ||| 0x8000)
  else match x.item with
    | some r => (s.item r).bind (fun i => if bit (leNat i.desc) 176 then some (bits (leNat i.desc) 175 160) else none)
    | none => none

/-- Credit the nodes of a cut-through frame when its last byte leaves (R201). -/
def Dev.creditCut (s : Dev) (x : Frame) : Dev :=
  forEach (s.shpChain x.queue) s (fun s m =>
    if shpShape (s.shaper m) then
      s.setBucket m (s.bucket m + ((s.maxLen (x.queue / 8) : Int) - wireLen x) * 2 ^ 32)
    else s)

/-- Send the frame that a MAC holds: it passes its timestamp point `sub` units of 2^-16 ns into the volley `ago` volleys before this
one (R50). A port in loopback receives it (R46); that it leaves on the lanes as well is a DESIGN CHOICE, log entry 119. -/
def Dev.sendOn (s : Dev) (p f : Nat) (x : Frame) (ago sub : Nat) : Dev :=
  let padded := x.bytes ++ List.replicate (60 - x.bytes.length) (0 : Byte)
  let (raw, s) := s.stampAt ago sub
  let t := s.txStamp p raw
  let op := actTsOp x.action
  let one := decide (op = 1 ∨ op = 2)
  let out := if one && !x.encrypted then oneStep x t padded else padded
  let s := if one && x.encrypted then s.bump .WIRE_TS_ONESTEP_DEMOTED p else s
  let s := match s.captureTag x with
    | some tag => s.capture p tag (compactTime t)
    | none => s
  let s := (s.noteSent x (compactTime t)).emit (.ethFrame p out (!x.bad) t)
  let s := (s.bump .WIRE_TX_FRAMES p).add .WIRE_TX_BYTES p (out.length + 4)
  let s := if x.cut then s.creditCut x else s
  let s := if x.bad then s.bump .SWB_CT_STOMPED p else s
  let s := s.loseFrame f
  if s.looped p then
    let (t, s) := s.stampAt ago sub
    s.macReceive p out (!x.bad) false t
  else s

/-- No MAC starts this frame (R495, R502): from V0 of a power failure, after a device-warm reset was taken, or when it is of an
item in the scope of a function reset. -/
def Dev.macStops (s : Dev) (x : Frame) : Bool :=
  decide (2 ≤ s.jnl.fail) || s.jnl.resets.any (fun z => match z.link, x.item with
    | none, _ => true
    | some k, some r => decide (s.ringLink (s.ring r.ring) = k ∧ (s.ring r.ring).loc ≠ 2)
    | some _, none => false)

/-- TRANSMIT_FRAME (R45): the frame that a MAC port holds leaves it, or is dropped before it as longer than MAXLEN. It passes its
timestamp point `sub` units of 2^-16 ns into the volley `ago` volleys before this one. No port sends in BRINGUP and LOCKDOWN (R575). -/
def execTransmitFrame (port ago sub : Nat) (s : State) : Outcome State Fault Refusal := s.flow fun s =>
  if 32 ≤ port then .fault .noSuchObject
  else if s.portSends port = false then .next s
  else match s.firstIf (fun f => f.loc = .mac port) with
    | none => .next s
    | some (f, x) =>
      if s.macStops x then .next s
      else if s.maxLen port < wireLen x then .next ((s.loseFrame f).bump .WIRE_TX_OVERSIZE port)
      else .next (s.sendOn port f x ago sub)

/-! ### Host receive rings (R341, R344, R345) -/

/-- The entry of a RECV item that takes a frame (R341). -/
def recvEntry (i : Item) (x : Frame) (status written : Nat) : Nat :=
  i.index + i.ring * 2 ^ 32 + status * 2 ^ 48 + i.user * 2 ^ 64 + x.inPort % 64 * 2 ^ 100 + actReason x.action * 2 ^ 106
    + x.color * 2 ^ 113 + b2n (bit x.kv 13) * 2 ^ 115 + x.bytes.length % 2 ^ 16 * 2 ^ 128 + written % 2 ^ 16 * 2 ^ 144
    + x.hash % 2 ^ 32 * 2 ^ 160 + compactTime x.rxTime % 2 ^ 64 * 2 ^ 192

/-- Fill an item with a frame (R345): its bytes are written by a QUEUE channel, and the item is released when the last is
proved arrived. -/
def Dev.fillItem (s : Dev) (f : Nat) (x : Frame) (i : Item) : Dev :=
  let r : ItemRef := ⟨i.ring, i.index⟩
  let n := min x.bytes.length i.len
  let past := decide (i.len < x.bytes.length)
  let e := recvEntry i x (if past then 0x0303 else 0) n
  let s := if past then s.bump .RNG_RX_TRUNCATED 0 else s
  let s := match (s.ring i.ring).owner with
    | some p => (s.bump .PIT_RX_FRAMES p).add .PIT_RX_BYTES p x.bytes.length
    | none => s
  let s := s.setItem r (some { i with filled := true, result := e })
  (s.dropFrame f).queueWork r true i.segs (x.bytes.take n) |>.queueAssign

/-- RECEIVE_DELIVERY (R344, R345): the queue engine places the next frame it holds for a ring into the next item. -/
def execReceiveDelivery (ring : Nat) (s : State) : Outcome State Fault Refusal := s.flow fun s =>
  match s.firstIf (fun f => f.loc = .ringEngine && f.rxRing = some ring) with
  | none => .next s
  | some (f, x) =>
    match s.nextRecv ring with
    | some i => .next (s.fillItem f x i)
    | none =>
      if (s.rxRingOf x).2 ∧ (s.ring ring).st = 1 then .next s
      else .next ((s.bump .RNG_RX_NO_BUF 0).dropFrame f)

end Sys2Proof.Machine
end

