-- ==== Sys2Proof/Machine/DorAct.lean ====
section
/-! DEFINITION. The life of Dorut threads (R230 to R263): buffer accounts and the punt receiver, fork, join and exit, the
operations of the supervisor, core stops and restarts, QUIESCE, event stalls, timers, results, and sleep. -/

namespace Sys2Proof.Machine

open Host

/-! ### Buffer blocks (R247, R248) -/

/-- A thread of a cluster owns a frame, within a step or not. -/
def Frame.ownedBy (x : Frame) (c t : Nat) : Bool := x.loc = .thread c t || x.loc = .stepHeld c t

/-- The blocks of a frame in its cluster's pool, in the order of its chain. -/
def Dev.chainOf (s : Dev) (f : Nat) : List Nat := (Sparse.get (fun _ => (0, [])) s.dor.blocks f).2

/-- The handle of a frame, which is its first block, and the number of its blocks. -/
def Dev.blocksOf (s : Dev) (f : Nat) : Nat × Nat := ((s.chainOf f).headD 0, (s.chainOf f).length)

/-- Place the blocks of a frame, by cluster and chain, or free them. -/
def Dev.setBlocks (s : Dev) (f : Nat) (b : Option (Nat × List Nat)) : Dev :=
  { s with dor := { s.dor with blocks := Sparse.put s.dor.blocks f b } }

/-- The first `n` bytes that a chain of blocks of a cluster holds. -/
def Dev.chainRead (s : Dev) (c : Nat) (bs : List Nat) (n : Nat) : List Byte :=
  (bs.flatMap (fun b => s.sharedRead c (256 * b) 256)).take n

/-- Put bytes into a chain of blocks of a cluster. -/
def Dev.chainWrite (s : Dev) (c : Nat) (bs : List Nat) (v : List Byte) : Dev :=
  forEach (bs.zip (List.range bs.length)) s (fun s e => s.sharedWrite c (256 * e.1) ((v.drop (256 * e.2)).take 256))

/-- The blocks that a thread owns. -/
def Dev.threadBlocks (s : Dev) (c t : Nat) : Nat :=
  sumNat ((s.framesIf (fun f => f.ownedBy c t)).map (fun e => (s.blocksOf e.1).2))

/-- A context may gain `n` blocks (R247). -/
def Dev.blocksOk (s : Dev) (c t n : Nat) : Bool :=
  let cfg := s.rd .DOR_BUF_CFG c
  let sh := fun (u : Nat) => s.rd .DOR_CTX_SHARE (256 * c + u)
  let sumMin := sumNat ((List.range 256).map (fun u => bits (sh u) 46 32))
  let used := sumNat ((List.range 256).map (fun u =>
    s.threadBlocks c u + (if u = t then n else 0) - bits (sh u) 46 32))
  decide (s.threadBlocks c t + n ≤ bits (sh t) 62 48) && decide (used ≤ bits cfg 14 0 - bits cfg 30 16 - sumMin)

/-- The lowest run of `n` blocks below `top` that none of `used` lies in. -/
def runOf (used : List Nat) (top n : Nat) : Option Nat :=
  ((0 :: used.map (· + 1)).filter (fun b => decide (b + n ≤ top) && used.all (fun u => decide (u < b) || decide (b + n ≤ u)))).min?

/-- `n` free blocks of a cluster's pool: the lowest run of consecutive ones, or where there is none the lowest ones, of which the
chain of the frame consists (DESIGN CHOICE, log entry 27). -/
def Dev.blockRun (s : Dev) (c n : Nat) : Option (List Nat) :=
  let used := (s.dor.blocks.filter (fun e => e.2.1 = c)).flatMap (fun e => e.2.2)
  let top := s.fld .DOR_BUF_CFG c 14 0
  match runOf used top n with
  | some b => some ((List.range n).map (b + ·))
  | none =>
    let l := ((List.range top).filter (fun b => !used.contains b)).take n
    if l.length = n then some l else none

/-- The blocks of the punt reserve in use. -/
def Dev.reserveUsed (s : Dev) (c : Nat) : Nat :=
  sumNat ((s.framesIf (fun f => match f.loc with | .puntQueue d _ => d = c | _ => false)).map (fun e => (s.blocksOf e.1).2))

/-- The blocks of a frame of `n` bytes (R248). -/
def blocksFor (n : Nat) : Nat := 1 + (n + 255) / 256

/-- The frames in the punt queue of a logical core. -/
def Dev.puntQueue (s : Dev) (c l : Nat) : List (Nat × Frame) := s.inOrder (fun f => f.loc = .puntQueue c l)

/-- The physical unit of a logical core is fenced, so that it issues nothing (R470, R476). -/
def Dev.coreFenced (s : Dev) (c l : Nat) : Bool := s.isFenced (unitId 0x07 c (s.physCore c l))

/-- The core the punt receiver sprays to next (R248). -/
def Dev.sprayCore (s : Dev) (c : Nat) : Option Nat :=
  let last := Sparse.get (fun _ => 31) s.dor.spray c
  ((List.range 32).map (fun j => (last + 1 + j) % 32)).find? (fun l =>
    bit (s.rd .DOR_PUNT_CORES c) l && !s.coreStopped c l && !s.coreFenced c l && decide ((s.puntQueue c l).length < 64))

/-- The sequencer has a slot for a frame of a cluster (R190). -/
def Dev.slotFree (s : Dev) (c : Nat) : Bool :=
  decide (s.swb.slots.length < 65536)
    && decide ((s.swb.slots.filter (fun e => e.2.cluster = c)).length < s.fld .SWB_CLUSTER_CTL 0 31 15)

/-- The lowest slot number that is free and is not that of a skipped slot whose frame is still out (R192). -/
def Dev.newSlot (s : Dev) : Nat :=
  ((List.range (s.swb.slots.length + s.swb.skipped.length + 1)).find? (fun i =>
    (Sparse.get? s.swb.slots i).isNone && !s.swb.skipped.contains i)).getD 0

/-- The cluster can take a punt now: a slot, a core, and blocks of the reserve (R190, R248). -/
def Dev.puntRoom (s : Dev) (c : Nat) (x : Frame) : Bool :=
  let n := blocksFor x.bytes.length
  s.slotFree c && (s.sprayCore c).isSome && decide (s.reserveUsed c + n ≤ s.fld .DOR_BUF_CFG c 30 16) && (s.blockRun c n).isSome

/-- The step list in the metadata (R248). -/
def stepBytes (l : List PStep) : List Byte :=
  let bs := (l.take 32).flatMap (fun p => leBytes 4 (p.node + p.off % 1024 * 2 ^ 6 + p.kind * 2 ^ 16))
  bs ++ List.replicate (128 - bs.length) (0 : Byte)

/-- The metadata block of a punted frame (R248). -/
def puntMeta (x : Frame) (slot blk n : Nat) : List Byte :=
  leBytes 80 x.kv ++ leBytes 16 x.action ++ leBytes 10 x.rxTime ++ leBytes 2 x.bytes.length ++ leBytes 4 x.hash
    ++ leBytes 4 (slot + 2 ^ 31) ++ leBytes 1 (x.epoch % 256) ++ leBytes 1 x.inPort
    ++ leBytes 2 (match x.pitch with | some p => p + 2 ^ 15 | none => 0) ++ leBytes 1 (actReason x.action)
    ++ leBytes 1 (min 32 x.steps.length) ++ leBytes 2 n ++ leBytes 4 blk ++ stepBytes x.steps

/-- Hand a frame to a cluster: its slot, its blocks, its core and the PUNT event (R190, R238, R248). -/
def Dev.puntTo (s : Dev) (c f : Nat) (x : Frame) : Dev :=
  let n := blocksFor x.bytes.length
  match s.sprayCore c, s.blockRun c n with
  | some l, some bs =>
    let i := s.newSlot
    let b := bs.headD 0
    let oq := x.hash % 4096
    let s := s.setSlot i (some { cluster := c, oq, ord := s.nextOrd, frames := [], count := 0, resolved := false
                                 since := s.vn, stalls := 0 })
    let s := { s with nextOrd := s.nextOrd + 1, dor := { s.dor with spray := Sparse.put s.dor.spray c (some l) } }
    let s := s.chainWrite c bs (puntMeta x i b n ++ x.bytes)
    let s := (s.setBlocks f (some (c, bs))).moveFrame f { x with slot := some i, tag := b } (.puntQueue c l)
    let s := s.bump .DOR_PUNTS_RX c
    let s := forEach (List.range 8) s (fun s t =>
      if s.fld .DOR_CTX_CFG (256 * c + 8 * l + t) 20 20 = 1 then s.setEvent (ctxKey c (8 * l + t)) 2 else s)
    s
  | _, _ => s

/-- PUNT_HANDOVER (R190, R248): the port node of the cluster hands over its next frame, `ns` into the volley. A sleeping
cluster is woken and takes nothing yet (R286). -/
def execPuntHandover (cluster ns : Nat) (cellBad : Bool) (s : State) : Outcome State Fault Refusal := s.flow fun s =>
  if 8 ≤ cluster then .fault .noSuchObject
  else if s.held ∨ s.mode.traffic = false then .next s
  else if (Sparse.get? s.dor.asleep cluster).isSome then
    .next (if (s.schedHeads (32 + cluster)).isEmpty then s else s.wakeDue cluster)
  else match s.choose (32 + cluster) ns (fun x => s.puntRoom cluster x) with
    | none => .next s
    | some (f, x, s) => .next (if cellBad then s.badCell f x else s.puntTo cluster f x)

/-! ### The end of frames in a cluster -/

/-- A thread's frame is discarded (R191, R263, R280): its blocks are free, it leaves the device, and the slot it holds is
resolved as a discard. -/
def Dev.discardFrame (s : Dev) (c f : Nat) : Dev :=
  match s.frame f with
  | none => s
  | some x =>
    let s := ((s.setBlocks f none).dropFrame f).bump .DOR_DISCARDED_FRAMES c
    match x.slot with
    | some i => s.resolveSlot i
    | none => s

/-- The frames that a committed step has returned or freed and that its release has not made yet. -/
def StepRec.outFrames (r : StepRec) : List Nat :=
  r.outs.filterMap (fun h => match h with | .ret f _ _ => some f | .free f => some f | _ => none)

/-- The frames that a thread owns, but for those of committed steps. -/
def Dev.ownFrames (s : Dev) (k : Nat) : List Nat :=
  let done := (s.dor.releases.filter (fun e => e.1 = k)).flatMap (fun e => e.2.outFrames)
  ((s.framesIf (fun f => f.ownedBy (k / 256) (k % 256))).map Prod.fst).filter (fun f => !done.contains f)

/-- Discard every frame of a thread. -/
def Dev.discardOwn (s : Dev) (k : Nat) : Dev := forEach (s.ownFrames k) s (fun s f => s.discardFrame (k / 256) f)

/-- The input frames of an open step are the thread's again, and the frames it made are freed (R255, R281). -/
def Dev.undoFrames (s : Dev) (k : Nat) (r : StepRec) : Dev :=
  let s := forEach r.outFrames s (fun s f => match s.frame f with
    | some x => s.setFrame f { x with loc := .thread (k / 256) (k % 256) }
    | none => s)
  forEach r.made s (fun s f => (s.setBlocks f none).dropFrame f)

/-! ### Starting, joining and ending threads (R242 to R244, R265) -/

/-- A new thread in a context (R264, R265). -/
def newThread (pc : Nat) (arg g2 : Nat) (parent : Option Nat) (detached : Bool) (credits : Nat) : Ctx :=
  { (((Ctx.blank.setReg 1 (BitVec.ofNat 64 arg)).setReg 2 (BitVec.ofNat 64 g2))) with
    st := 1, pc := pc % 2 ^ 64, parent := parent, detached := detached, credits := credits }

/-- The FREE contexts of a core that FORK may take, lowest first (R242). -/
def Dev.forkable (s : Dev) (c l : Nat) : List Nat :=
  if s.coreStopped c l ∨ s.coreFenced c l then []
  else ((List.range 8).map (8 * l + ·)).filter (fun t =>
    (s.ctx (ctxKey c t)).st = 0 && decide (s.fld .DOR_CTX_CFG (256 * c + t) 19 19 = 1))

/-- The context that FORK takes (R242). -/
def Dev.forkChoice (s : Dev) (c l : Nat) : Option Nat :=
  match s.forkable c l with
  | t :: _ => some t
  | [] =>
    let best := (List.range 32).foldl (fun (b : Nat × Nat) m =>
      let n := (s.forkable c m).length
      if b.2 < n then (m, n) else b) (0, 0)
    (s.forkable c best.1).head?

/-- Start a child of thread `k` in context `t` of its cluster (R242, R265). -/
def Dev.startChild (s : Dev) (k t pc arg : Nat) (detach : Bool) : Dev :=
  let j := ctxKey (k / 256) t
  s.setCtx j (newThread pc arg (k % 256) (some (k % 256)) detach (s.ctx j).credits)

/-- A thread no longer waits in FORKW. -/
def Dev.leaveForkq (s : Dev) (k : Nat) : Dev :=
  { s with dor := { s.dor with forkq := s.dor.forkq.filter (fun j => !decide (j = k)) } }

/-- A FORKW of a cluster waits for a context (R243). -/
def Dev.forkWaits (s : Dev) (c : Nat) : Bool := s.dor.forkq.any (fun k => k / 256 = c)

/-- The oldest waiting FORKW of a cluster takes a context that is free (R243); one that was halted in its wait is served as well. -/
def Dev.serveForkw (s : Dev) (c : Nat) : Dev :=
  match s.dor.forkq.find? (fun k => k / 256 = c) with
  | none => s
  | some k =>
    match (s.ctx k).wait, s.forkChoice c (k % 256 / 8) with
    | some (.fork rd pc arg detach), some t =>
      let s := (s.leaveForkq k).startChild k t pc arg.toNat detach
      let v := BitVec.ofNat 64 t
      if (s.ctx k).st = 3 then s.goOn k rd v false
      else s.setCtx k { ((s.ctx k).setReg rd v) with wait := none, was := 1, pc := (s.ctx k).pc + 4 }
    | _, _ => s

/-- Free contexts of a cluster go to the waiting FORKWs, oldest first, as far as they last (R243). -/
def Dev.serveAll (s : Dev) (c : Nat) : Dev := forEach s.dor.forkq s (fun s _ => s.serveForkw c)

/-- A context becomes FREE; the oldest waiting FORKW of the cluster is served first (R243). -/
def Dev.freeCtx (s : Dev) (k : Nat) : Dev :=
  let s := s.leaveForkq k
  (s.setCtx k { Ctx.blank with credits := (s.ctx k).credits }).serveForkw (k / 256)

/-- When a parent ends, its EXITED children are freed and its others become detached, and none names it any more (R244). -/
def Dev.leaveChildren (s : Dev) (k : Nat) : Dev :=
  let kids := (List.range 256).filter (fun t =>
    let x := s.ctx (ctxKey (k / 256) t)
    x.st ≠ 0 && decide (x.parent = some (k % 256)))
  forEach kids s (fun s t =>
    let j := ctxKey (k / 256) t
    if (s.ctx j).st = 5 then s.freeCtx j else s.setCtx j { s.ctx j with detached := true, parent := none })

/-- A child has ended: a parent that waits for it in JOIN gets its exit value, and its context is free (R244). -/
def Dev.serveJoin (s : Dev) (k : Nat) : Dev :=
  let x := s.ctx k
  match x.parent with
  | none => s
  | some p =>
    let j := ctxKey (k / 256) p
    let y := s.ctx j
    match y.st, y.wait with
    | 3, some (.join rd child) =>
      if child = k % 256 ∧ x.st = 5 then
        (s.goOn j rd x.exitVal false).freeCtx k
      else s
    | _, _ => s

/-- A thread exits (R242, R244): its parent gets CHILD, and it is EXITED until joined, or FREE when detached. -/
def Dev.exitThread (s : Dev) (k : Nat) (v : Word) : Dev :=
  let x := s.ctx k
  let s := s.leaveChildren k
  let s := match x.parent with
    | some p => s.setEvent (ctxKey (k / 256) p) 6
    | none => s
  if x.detached ∨ x.parent = none then s.freeCtx k
  else (s.setCtx k { s.ctx k with st := 5, exitVal := v, timer := none, events := 0, wait := none }).serveJoin k

/-! ### Steps (R254 to R256) -/

/-- Abort the open step of a thread (R255): the held effects are gone and its input frames are the thread's. -/
def Dev.abortStep (s : Dev) (k : Nat) : Dev :=
  match (s.ctx k).step with
  | none => s
  | some r => ((s.undoFrames k r).setCtx k { s.ctx k with step := none }).bump .DOR_STEPS_ABORTED (k / 256)

/-- Restart the open step of a thread from its begin (R255, R256, R264, R281). -/
def Dev.restartStep (s : Dev) (k : Nat) : Dev :=
  let x := s.ctx k
  match x.step with
  | none => s
  | some r =>
    ((s.undoFrames k r).setCtx k { x with
      st := 1, regs := r.regs, pc := r.pc, f := false, kv := 0, kvEpoch := 0, kvValid := false, wait := none
      res := none, haltDue := false, byQuiesce := false, again := none
      step := some { r with lines := [], outs := [], taken := 0, made := [] } }).bump .DOR_STEPS_RESTARTED (k / 256)

/-- A thread starts again at its ENTRY, its frames discarded (R256). Its timer target is kept, as R256 says of a restarted thread, where
R264 lists it as unarmed (DEDUCED, log entry 131). -/
def Dev.restartEntry (s : Dev) (k cause : Nat) : Dev :=
  let x := s.ctx k
  let s := (s.discardOwn k).leaveForkq k
  let n := newThread (0xFFFF000000000000 + s.fld .DOR_CTX_CFG k 17 0) cause 0xFF x.parent x.detached x.credits
  s.setCtx k { n with timer := x.timer, armed := x.armed, events := x.events }

/-- A committed step of a thread is not yet released (R255). -/
def Dev.releasing (s : Dev) (k : Nat) : Bool := s.dor.releases.any (fun e => decide (e.1 = k))

/-- Restart a context by R256, with the restart cause `cause` in g1 (R265). One whose release is in progress starts at its ENTRY once
the release is complete. -/
def Dev.restartCtx (s : Dev) (k cause : Nat) : Dev :=
  let x := s.ctx k
  if x.st = 0 then s
  else if x.step.isSome then s.restartStep k
  else if s.releasing k then (s.leaveForkq k).setCtx k { x with st := 7, wait := none, res := none, again := some cause }
  else s.restartEntry k cause

/-- A release of a thread is complete: a restart that waited for it takes place. -/
def Dev.restartWaiting (s : Dev) (k : Nat) : Dev :=
  match (s.ctx k).again with
  | some cause => if s.releasing k then s else s.restartEntry k cause
  | none => s

/-- The local memory of a physical core holds the cluster image as loaded (R256, R257), and nothing else. -/
def Dev.loadCore (s : Dev) (c core : Nat) : Dev :=
  let here := fun (a : Nat) => decide (localAt c core 0 ≤ a) && decide (a < localAt c core 0 + 2 ^ 18)
  let s := { s with mem := { s.mem with loc := s.mem.loc.filter (fun e => !here e.1) } }
  s.localWrite c core 0 (Sparse.get (fun _ => []) s.dor.images c)

/-- Restart every non-FREE context of a core, which runs again, its local memory as loaded (R256). -/
def Dev.restartCore (s : Dev) (c l cause : Nat) : Dev :=
  let s := s.loadCore c (s.physCore c l)
  let s := forEach (List.range 8) s (fun s t => s.restartCtx (ctxKey c (8 * l + t)) cause)
  s.setFld .DOR_CORE_STATUS (32 * c + l) 11 8 0

/-! ### The operations on threads (R253) -/

/-- Pass the rings, completion rings and channels of a thread to its supervisor, with its credits (R253). -/
def Dev.passOwnership (s : Dev) (k : Nat) : Dev :=
  let c := k / 256
  let sup := s.supervisor c
  let s := forEach s.rng.rings s (fun s e =>
    let x := e.2
    let v := x.ctx
    let v := if x.kind = 5 ∧ x.server = k then putBits v 183 176 sup else v
    let v := if x.loc = 2 ∧ x.producer = k then putBits v 191 184 sup else v
    s.setRing e.1 { x with ctx := v })
  let s := forEach s.rng.cqs s (fun s e =>
    if e.2.loc = 2 ∧ e.2.thread = k then s.setCq e.1 { e.2 with ctx := putBits e.2.ctx 95 88 sup } else s)
  let s := forEach (List.range 1088) s (fun s n =>
    let w := s.chOwner n
    if ownerKind w = 2 ∧ ownerThread w = k then s.wr .DMA_CH_OWNER n (putBits w 15 8 sup) else s)
  let j := ctxKey c sup
  if (s.ctx k).credits = 0 ∨ j = k then s
  else
    let s := s.setCtx j { s.ctx j with credits := (s.ctx j).credits + (s.ctx k).credits }
    s.setCtx k { s.ctx k with credits := 0 }

/-- A parent that waits in JOIN for a thread that KILL frees faults with KILLED_WAIT, or, when it is halted, as it goes on. A FORKW
names no thread: the context that KILL frees serves it (R243, R290; DEDUCED, log entry 133). -/
def Dev.killedWait (s : Dev) (k : Nat) : Dev :=
  match (s.ctx k).parent with
  | none => s
  | some p =>
    let j := ctxKey (k / 256) p
    let y := s.ctx j
    match y.wait with
    | some (.join _ child) =>
      if child ≠ k % 256 then s
      else if y.st = 3 then s.threadFault j 0x11 0 child
      else s.setCtx j { y with wait := some (.killed child) }
    | _ => s

/-- KILL (R253, R290): the open step is aborted, the frames discarded, and the context is free. -/
def Dev.killThread (s : Dev) (k : Nat) : Dev :=
  let s := ((s.abortStep k).discardOwn k).passOwnership k
  ((s.leaveChildren k).killedWait k).freeCtx k

/-- A thread becomes HALTED, keeping what it waits for (R253). -/
def Dev.haltNow (s : Dev) (k : Nat) : Dev :=
  let x := s.ctx k
  s.setCtx k { x with st := 6, was := x.st, haltDue := false }

/-- HALT (R253): at once, or when the result of a WAITING thread returns. -/
def Dev.haltThread (s : Dev) (k : Nat) : Dev :=
  let x := s.ctx k
  if x.st = 2 then s.setCtx k { x with haltDue := true } else s.haltNow k

/-- A thread that was halted in a wait is in that wait again (R253), which ends where what it waits for has come. -/
def Dev.waitAgain (s : Dev) (k : Nat) : Dev :=
  let x := s.ctx k
  let s := (s.setCtx k { x with st := 3, byQuiesce := false }).endWait k false
  match (s.ctx k).wait with
  | some (.join _ child) => s.serveJoin (ctxKey (k / 256) child)
  | some (.fork ..) => s.serveForkw (k / 256)
  | some (.killed child) => s.threadFault k 0x11 0 child
  | _ => s

/-- A halted or faulted thread goes on (R253, R260, R287): in the wait or with the outstanding result it was halted in, at the stopped
instruction, or after a BRK (`was` 11). -/
def Dev.resumeThread (s : Dev) (k : Nat) (pc : Option Nat) : Dev :=
  let x := s.ctx k
  match pc with
  | some p => (s.leaveForkq k).setCtx k { x with st := 1, pc := p, wait := none, res := none, byQuiesce := false }
  | none =>
    if x.st = 6 ∧ x.was = 3 then s.waitAgain k
    else if x.st = 6 ∧ x.res.isSome then s.setCtx k { x with st := 2, byQuiesce := false }
    else s.setCtx k { x with st := 1, byQuiesce := false, pc := if x.was = 11 then x.pc + 4 else x.pc }

/-- A write of DOR_SUP_ACT (R253): `op` as its OP field. The supervisor of the cluster and Basecamp may write it; a write
from any other origin is dropped and counted. -/
def Dev.supAct (s : Dev) (o : Origin) (c thread op : Nat) (pcSet : Bool) (tag : Nat) : Dev :=
  let mayAct := match o with
    | .thread d t => d = c && s.supervisor c = t
    | .basecamp => true
    | _ => false
  if mayAct = false then s.bump .DOR_ACT_FOREIGN c
  else
    let t := thread % 256
    let k := ctxKey c t
    let x := s.ctx k
    let done := fun (s : Dev) => s.wr .DOR_SUP_STATUS c (tag % 2 ^ 16 * 2 ^ 16)
    let bad := fun (s : Dev) (r : Nat) => s.wr .DOR_SUP_STATUS c (tag % 2 ^ 16 * 2 ^ 16 + r)
    match op with
    | 1 => if x.st = 4 ∨ x.st = 6 then done (s.resumeThread k (if pcSet then some (s.rd .DOR_SUP_PC c) else none)) else bad s 1
    | 2 => if (x.st = 4 ∨ x.st = 6) ∧ x.step.isSome then done (s.restartStep k) else bad s 1
    | 3 => if x.st ≠ 0 then done (s.killThread k) else bad s 1
    | 4 => if x.st = 1 ∨ x.st = 2 ∨ x.st = 3 then done (s.haltThread k) else bad s 1
    | 5 =>
      if x.st = 0 then done (s.setCtx k (newThread (s.rd .DOR_SUP_PC c) (s.rd .DOR_SUP_ARG c) 0xFF none false x.credits))
      else bad s 1
    | 6 =>
      let onIt : Bool := match o with
        | .thread _ u => u / 8 = t / 8
        | _ => false
      if !s.coreStopped c (t / 8) || onIt || decide (s.mode = .lockdown)
        || decide (s.fld .DOR_CORE_STATUS (32 * c + t / 8) 11 9 = 3) then bad s 2
      else done (s.restartCore c (t / 8) 2)
    | _ => s

/-- The common form of the commands that write DOR_SUP_ACT. -/
def Dev.supWrite (s : Dev) (o : Origin) (c thread op : Nat) (pcSet : Bool) (tag : Nat) : Outcome Dev Fault Refusal :=
  if 8 ≤ c then .fault .noSuchObject
  else
    let v := thread % 256 + op * 2 ^ 8 + b2n pcSet * 2 ^ 11 + tag % 2 ^ 16 * 2 ^ 16
    .next (s.regWrite o .DOR_SUP_ACT c 4 v fun s => s.supAct o c thread op pcSet tag)

/-- THREAD_RESUME (R253). -/
def execThreadResume (o : Origin) (cluster thread : Nat) (pcSet : Bool) (tag : Nat) (s : State) :
    Outcome State Fault Refusal := s.act fun s => s.supWrite o cluster thread 1 pcSet tag

/-- THREAD_RESTART (R253). -/
def execThreadRestart (o : Origin) (cluster thread tag : Nat) (s : State) : Outcome State Fault Refusal := s.act fun s =>
  s.supWrite o cluster thread 2 false tag

/-- THREAD_KILL (R253). -/
def execThreadKill (o : Origin) (cluster thread tag : Nat) (s : State) : Outcome State Fault Refusal := s.act fun s =>
  s.supWrite o cluster thread 3 false tag

/-- THREAD_HALT (R253). -/
def execThreadHalt (o : Origin) (cluster thread tag : Nat) (s : State) : Outcome State Fault Refusal := s.act fun s =>
  s.supWrite o cluster thread 4 false tag

/-- THREAD_START (R253). -/
def execThreadStart (o : Origin) (cluster thread tag : Nat) (s : State) : Outcome State Fault Refusal := s.act fun s =>
  s.supWrite o cluster thread 5 false tag

/-- CORE_RESTART (R253). -/
def execCoreRestart (o : Origin) (cluster thread tag : Nat) (s : State) : Outcome State Fault Refusal := s.act fun s =>
  s.supWrite o cluster thread 6 false tag

/-- The effect of a write of 1 to DOR_CORE_CTL.RESTART (R262): Basecamp only; another origin's has no effect. -/
def Dev.coreCtl (s : Dev) (o : Origin) (c l : Nat) : Dev :=
  if o = .basecamp ∧ s.coreStopped c l ∧ s.mode ≠ .lockdown ∧ s.fld .DOR_CORE_STATUS (32 * c + l) 11 9 ≠ 3 then
    s.restartCore c l 2
  else s

/-- CORE_CTL_RESTART (R262). -/
def execCoreCtlRestart (o : Origin) (cluster core : Nat) (s : State) : Outcome State Fault Refusal := s.act fun s =>
  if 8 ≤ cluster ∨ 32 ≤ core then .fault .noSuchObject
  else .next (s.regWrite o .DOR_CORE_CTL (32 * cluster + core) 4 1 fun s => s.coreCtl o cluster core)

/-- BENCH_CORE_RESTART (R252, R257): a bench core that has taken a logical core restarts its contexts; not one that LOCKDOWN has
stopped. Until then none of them issues. -/
def execBenchCoreRestart (cluster core : Nat) (s : State) : Outcome State Fault Refusal := s.act fun s =>
  let n := 32 * cluster + core
  if 8 ≤ cluster ∨ 32 ≤ core then .fault .noSuchObject
  else if s.dor.restarts.contains n && decide (s.mode ≠ .lockdown) && decide (s.fld .DOR_CORE_STATUS n 11 9 ≠ 3) then
    .next ({ s with dor := { s.dor with restarts := s.dor.restarts.filter (fun m => !decide (m = n)) } }.restartCore
      cluster core 1)
  else .next s

/-- In LOCKDOWN every core stops (R252). -/
def Dev.stopAllCores (s : Dev) : Dev :=
  forEach (List.range 256) s (fun s n => s.stopCore (n / 32) (n % 32) 3)

/-! ### The queues of the supervisor (R249, R251) -/

/-- The effect of a write of DOR_FQ_POP. -/
def Dev.fqPop (s : Dev) (c : Nat) : Dev := s.setFq c ((s.fq c).drop 1)

/-- FQ_POP (R251, R261). -/
def execFqPop (o : Origin) (cluster : Nat) (s : State) : Outcome State Fault Refusal := s.act fun s =>
  if 8 ≤ cluster then .fault .noSuchObject else .next (s.regWrite o .DOR_FQ_POP cluster 4 1 fun s => s.fqPop cluster)

/-- The effect of a write of DOR_NQ_POP. -/
def Dev.nqPop (s : Dev) (c : Nat) : Dev :=
  { s with dor := { s.dor with nq := Sparse.set (fun _ => []) s.dor.nq c ((s.nq c).drop 1) } }

/-- NQ_POP (R249, R261). -/
def execNqPop (o : Origin) (cluster : Nat) (s : State) : Outcome State Fault Refusal := s.act fun s =>
  if 8 ≤ cluster then .fault .noSuchObject else .next (s.regWrite o .DOR_NQ_POP cluster 4 1 fun s => s.nqPop cluster)

/-! ### QUIESCE (R260) -/

/-- QUIESCE halts a thread at once when it has no open step, and otherwise marks it to halt at its commit or abort. The result of a
WAITING thread stays outstanding. -/
def Dev.quiesceThread (s : Dev) (k : Nat) : Dev :=
  let x := s.ctx k
  if x.live = false then s
  else
    let s := s.setCtx k { x with byQuiesce := true }
    if x.step.isSome then s else s.haltNow k

/-- The effect of a write of DOR_CLU_CTL. -/
def Dev.cluCtl (s : Dev) (c v : Nat) : Dev :=
  let was := s.rd .DOR_CLU_CTL c
  let s := s.wr .DOR_CLU_CTL c (v % 2)
  if v % 2 = 1 then forEach (List.range 256) s (fun s t => s.quiesceThread (ctxKey c t))
  else if was = 1 then
    forEach (List.range 256) s (fun s t =>
      let k := ctxKey c t
      let x := s.ctx k
      if x.byQuiesce = false then s
      else if x.st = 6 then s.resumeThread k none
      else s.setCtx k { x with byQuiesce := false })
  else s

/-- QUIESCE (R260): a write of DOR_CLU_CTL with QUIESCE 1. -/
def execQuiesce (o : Origin) (cluster : Nat) (s : State) : Outcome State Fault Refusal := s.act fun s =>
  if 8 ≤ cluster then .fault .noSuchObject else .next (s.regWrite o .DOR_CLU_CTL cluster 4 1 fun s => s.cluCtl cluster 1)

/-- QUIESCE_RELEASE (R260): a write of DOR_CLU_CTL with QUIESCE 0. -/
def execQuiesceRelease (o : Origin) (cluster : Nat) (s : State) : Outcome State Fault Refusal := s.act fun s =>
  if 8 ≤ cluster then .fault .noSuchObject else .next (s.regWrite o .DOR_CLU_CTL cluster 4 0 fun s => s.cluCtl cluster 0)

/-- QUIESCED (R260). -/
def Dev.quiesced (s : Dev) (c : Nat) : Bool :=
  (List.range 256).all (fun t =>
    let x := s.ctx (ctxKey c t)
    (x.st = 0 || x.st = 5 || x.st = 6) && x.step.isNone)

/-! ### Timers, results and sleep (R233, R241, R286) -/

/-- TIMER_FIRE (R241): a timer fires at the start of its target volley, or at the first boundary after it was armed where the target
has passed. Basecamp's timer is that of key 2048. -/
def execTimerFire (thread : Nat) (s : State) : Outcome State Fault Refusal := s.act fun s =>
  if 2048 < thread then .fault .noSuchObject
  else
    let x := s.ctx thread
    if x.timerDue s.vn then .next ((s.setCtx thread { x with timer := none }).setEvent thread 1) else .next s

/-- The result of a variable-latency instruction returns (R233, R291): its registers are written and the thread goes on, or
it meets its exception. A halt that was due takes place. -/
def Dev.takeResult (s : Dev) (k : Nat) (r : Res) : Dev :=
  let x := s.ctx k
  match r.fault with
  | some (cause, addr, detail) => (s.setCtx k { x with st := 1, res := none, haltDue := false }).raise k cause addr detail
  | none =>
    let s := s.arrive k false
    let x := s.ctx k
    let y := r.writes.foldl (fun (y : Ctx) w => y.setReg w.1 w.2) x
    let y := match r.f with | some b => { y with f := b } | none => y
    let y := match r.kv with | some (v, e) => { y with kv := v, kvEpoch := e, kvValid := true } | none => y
    let s := s.setCtx k { y with st := 1, res := none, pc := x.pc + 4 }
    if x.haltDue ∨ (x.byQuiesce ∧ x.step.isNone) then s.haltNow k else s

/-- The result of a thread can return now: that of a FENCE waits until its committed steps are released (R289). -/
def Dev.resultDue (s : Dev) (k : Nat) (r : Res) : Bool :=
  (s.ctx k).st = 2 && (Sparse.get? s.dor.asleep (k / 256)).isNone && !(r.fence && s.releasing k)

/-- RESULT_RETURN (R233): the outstanding result of a WAITING thread is there. -/
def execResultReturn (thread : Nat) (s : State) : Outcome State Fault Refusal := s.act fun s =>
  if 2048 < thread then .fault .noSuchObject
  else
    let x := s.ctx thread
    match x.res with
    | some r => if s.resultDue thread r then .next (s.takeResult thread r) else .next s
    | none => .next s

/-- CLUSTER_WAKE (R286): a sleeping cluster that has met a wake source runs again: the supervisor's WAIT returns, and waits
whose events came in the meantime end. -/
def execClusterWake (cluster : Nat) (s : State) : Outcome State Fault Refusal := s.act fun s =>
  if Sparse.get? s.dor.asleep cluster = some true then
    let s := { s with dor := { s.dor with asleep := Sparse.put s.dor.asleep cluster none } }
    let k := ctxKey cluster (s.supervisor cluster)
    let s := match (s.ctx k).res with
      | some r => s.takeResult k r
      | none => s
    .next (forEach (List.range 256) s (fun s t => s.endWait (ctxKey cluster t) false))
  else .next s

/-! ### Event stalls (R245, R246, R530) -/

/-- A thread owns a ring. -/
def Dev.ownsRing (s : Dev) (k : Nat) : Bool :=
  s.rng.rings.any (fun e => (e.2.kind = 5 && e.2.server = k) || (e.2.loc = 2 && e.2.producer = k))
    || s.rng.cqs.any (fun e => e.2.loc = 2 && e.2.thread = k)

/-- The mask of the armed event sources of a thread (R245). -/
def Dev.armedMask (s : Dev) (k : Nat) : Nat :=
  let c := k / 256
  let t := k % 256
  let punt := bit (s.rd .DOR_PUNT_CORES c) (t / 8) && bit (s.fld .SWB_CLUSTER_CTL 0 7 0) c
    && decide (s.fld .DOR_CTX_CFG (256 * c + t) 20 20 = 1)
  let dma := (List.range 1088).any (fun n =>
    decide (ownerKind (s.chOwner n) = 2) && decide (ownerThread (s.chOwner n) = k)
      && (decide (s.chState n = 1) || s.armed n))
  b2n (s.ctx k).timer.isSome * 2 + b2n punt * 4 + b2n (s.ownsRing k) * 0x18 + b2n dma * 0x20

/-- A core is in event stall at this boundary (R245). -/
def Dev.inStall (s : Dev) (c l : Nat) : Bool :=
  let ks := ((List.range 8).map (fun t => ctxKey c (8 * l + t))).filter (fun k => (s.ctx k).live)
  !ks.isEmpty && ks.all (fun k =>
    decide ((s.ctx k).st = 3) && (match (s.ctx k).wait with
      | some (.event _ mask) => decide (Nat.land (s.waitMask k mask) (s.armedMask k) = 0)
      | _ => true))

/-- The cores whose count is met at this boundary while their supervisor, on another core, has its own core in event stall (R246). -/
def Dev.stalledBoth (s : Dev) : List Nat :=
  (s.dor.stall.map Prod.fst).filter (fun n =>
    let l := s.supervisor (n / 32) / 8
    decide (s.stallLimit (n / 32) ≤ Sparse.get (fun _ => 0) s.dor.stall n) && decide (l ≠ n % 32) && s.inStall (n / 32) l)

/-- The count of each core's boundaries in event stall, taken at a boundary; suspended while its cluster sleeps. It starts again when a
thread of the core leaves EVENT_WAIT, and at a boundary where a wait mask names an armed source (R245). -/
def Dev.countStalls (s : Dev) : Dev :=
  let s := forEach (List.range 256) s (fun s n =>
    let c := n / 32
    if (Sparse.get? s.dor.asleep c).isSome then s
    else
      let stalled := s.inStall c (n % 32)
      let v := if stalled then Sparse.get (fun _ => 0) s.dor.stall n + 1 else 0
      let queued := (s.fq c).any (fun r => decide (bits r 79 72 = 0x50) && decide (bits r 71 64 / 8 = n % 32))
      let rec50 := match Sparse.get? s.dor.stallRec n with
        | some m => if stalled || queued then some (m + 1) else none
        | none => none
      { s with dor := { s.dor with stall := Sparse.set (fun _ => 0) s.dor.stall n v
                                   stallRec := Sparse.put s.dor.stallRec n rec50 } })
  { s with dor := { s.dor with stallBoth := s.stalledBoth } }

/-- The lowest live thread of a core. -/
def Dev.lowestLive (s : Dev) (c l : Nat) (skip : Option Nat) : Option Nat :=
  ((List.range 8).map (8 * l + ·)).find? (fun t => (s.ctx (ctxKey c t)).live && !decide (skip = some t))

/-- EVENT_STALL (R245): a core has been in event stall at DOR_STALL_VOLLEYS consecutive boundaries. -/
def execEventStall (cluster core : Nat) (s : State) : Outcome State Fault Refusal := s.act fun s =>
  let n := 32 * cluster + core
  if 8 ≤ cluster ∨ 32 ≤ core then .fault .noSuchObject
  else if s.stallMet n = false then .next s
  else
    let s := s.whistle 0x0A (unitId 0x07 cluster (s.physCore cluster core)) 0 core
    let s := { s with dor := { s.dor with stallRec := Sparse.put s.dor.stallRec n (some 0) } }
    let t := (s.lowestLive cluster core none).getD (8 * core)
    let x := s.ctx (ctxKey cluster t)
    let s := if (s.fq cluster).length < 16 then
        s.pushFault cluster (faultRec s.vn x.pc 0 0 t 0x50 (b2n x.step.isSome))
      else s.bump .DOR_FQ_OVERFLOW cluster
    let k := ctxKey cluster (s.supervisor cluster)
    .next (((s.setEvent k 9).endAnyWait k).bump .DOR_EVENT_STALLS cluster)

/-- Basecamp kills a thread of a stalled core (R530). -/
def Dev.stallKill (s : Dev) (c t : Nat) : Dev := s.supAct .basecamp c t 3 false 0

/-- The boundaries since the 0x50 record of a core count from 0 again. -/
def Dev.restartStall (s : Dev) (c l : Nat) : Dev :=
  { s with dor := { s.dor with stallRec := Sparse.put s.dor.stallRec (32 * c + l) (some 0)
                               stallBoth := s.dor.stallBoth.filter (fun n => !decide (n = 32 * c + l)) } }

/-- Basecamp's answer to a stall escalation under BCP_ESC_CFG, once it runs (R530). -/
def Dev.stallAnswer (s : Dev) (c l : Nat) : Dev :=
  if s.fld .BCP_ESC_CFG 0 0 0 = 1 ∧ s.fld .BCP_STATUS 0 1 0 = 1 then
    match s.lowestLive c l (some (s.supervisor c)) with
    | some t => s.stallKill c t
    | none => s
  else s

/-- The cluster escalates a stall (R246, R530). -/
def Dev.escalateStall (s : Dev) (c l : Nat) : Dev :=
  let unit := unitId 0x07 c (s.physCore c l)
  (((s.whistle 0x0A unit 0 (putBits l 31 31 1)).event 4 unit).restartStall c l).stallAnswer c l

/-- EVENT_STALL_ESCALATE (R246, R530): the supervisor's own core is in event stall too, or the 0x50 record is still queued
after as many boundaries again. -/
def execEventStallEscalate (cluster core : Nat) (s : State) : Outcome State Fault Refusal := s.act fun s =>
  if 8 ≤ cluster ∨ 32 ≤ core then .fault .noSuchObject
  else .next (if s.escalates (32 * cluster + core) then s.escalateStall cluster core else s)

/-! ### Resets and images (R258, R259) -/

/-- Start the supervisor of a cluster at an image entry (R258, R259, R265). -/
def Dev.startSupervisor (s : Dev) (c entry : Nat) : Dev :=
  let k := ctxKey c (s.supervisor c)
  s.setCtx k (newThread entry 0 0xFF none false (s.ctx k).credits)

/-- Every context of a cluster becomes FREE. -/
def Dev.freeAll (s : Dev) (c : Nat) : Dev :=
  { s with dor := { s.dor with
      ctxs := s.dor.ctxs.filter (fun e => !decide (e.1 / 256 = c))
      forkq := s.dor.forkq.filter (fun k => !decide (k / 256 = c))
      releases := s.dor.releases.filter (fun e => !decide (e.1 / 256 = c)) } }

/-- The fault and notice queues of a cluster are emptied, its stall counts and sleep end, and its cores count their cycles anew. -/
def Dev.clearQueues (s : Dev) (c : Nat) : Dev :=
  { s with dor := { s.dor with
      fq := Sparse.put s.dor.fq c none, nq := Sparse.put s.dor.nq c none, asleep := Sparse.put s.dor.asleep c none
      spray := Sparse.put s.dor.spray c none, cycles := Sparse.put s.dor.cycles c none
      stall := s.dor.stall.filter (fun e => !decide (e.1 / 32 = c))
      stallRec := s.dor.stallRec.filter (fun e => !decide (e.1 / 32 = c))
      stallBoth := s.dor.stallBoth.filter (fun n => !decide (n / 32 = c))
      cyc := s.dor.cyc.filter (fun e => !decide (e.1 / 32 = c)), fill := s.dor.fill.filter (fun e => !decide (e.1 / 32 = c))
      issued := s.dor.issued.filter (fun e => !decide (e.1 / 32 = c))
      slotFrom := Sparse.put s.dor.slotFrom c none
      restarts := s.dor.restarts.filter (fun n => !decide (n / 32 = c)) } }

/-- A reset reaches a DOR instance (R258): its step memory, queues, contexts and frames go, and its registers return to
reset; the cluster image and the counters stay. -/
def Dev.resetDor (s : Dev) (c : Nat) : Dev :=
  let fs := s.framesIf (fun f => f.loc.cluster = some c)
  let s := forEach fs s (fun s e => ((s.setBlocks e.1 none).loseFrame e.1).bump .DOR_RESET_DROPS c)
  let s := (s.freeAll c).clearQueues c
  (s.resetCells (fun r i => r.info.cls = 7 && !r.info.counter && decide (r.blk i = blkOf 7 c))).resetHeader (blkOf 7 c)

end Sys2Proof.Machine
end

