-- ==== Sys2Proof/Machine/DorIsa.lean ====
section
/-! DEFINITION. The instructions of the Dorut instruction set (R264 to R292) but for those that reach memory or block
registers: integer, branch, key vector, lookup, checksum, counter, frame, thread, event, step and system instructions.
An instruction command names its context by key: 256 × cluster + thread, 2048 for the Basecamp pair. It takes the
operand fields of the word; the fields a word leaves unused are operands too, so that a non-zero one is ILLEGAL (R269). The
word is the one that the context fetches at its PC (log entry 132). -/

namespace Sys2Proof.Machine

open Host

/-! ### Words and issue (R266 to R269, R290) -/

/-- A word of format R. -/
def wordR (op : Nat) (rd ra rb : Fin 32) (fn : Nat) : Nat :=
  op * 2 ^ 26 + rd.val * 2 ^ 21 + ra.val * 2 ^ 16 + rb.val * 2 ^ 11 + fn

/-- A word of format I, or of format S with RB in the place of RD. -/
def wordI (op : Nat) (rd ra : Fin 32) (imm : BitVec 16) : Nat :=
  op * 2 ^ 26 + rd.val * 2 ^ 21 + ra.val * 2 ^ 16 + imm.toNat

/-- A word of format L. -/
def wordL (op : Nat) (rd : Fin 32) (imm : BitVec 21) : Nat := op * 2 ^ 26 + rd.val * 2 ^ 21 + imm.toNat

/-- A word of format P. -/
def wordP (op : Nat) (rd ra : Fin 32) (kbit : BitVec 10) (w : BitVec 6) : Nat :=
  op * 2 ^ 26 + rd.val * 2 ^ 21 + ra.val * 2 ^ 16 + kbit.toNat * 2 ^ 6 + w.toNat

/-- A word of format J. -/
def wordJ (op : Nat) (off : BitVec 26) : Nat := op * 2 ^ 26 + off.toNat

/-- The number of FN values that an opcode of format R uses, from 0 up (R271, R273, R275, R279, R280, R282, R284); ALU has gaps. -/
def fnCount : Nat → Option Nat
  | 0x01 => some 28 | 0x1C => some 9 | 0x1E => some 1 | 0x2A => some 2 | 0x32 => some 3 | 0x35 => some 2 | 0x36 => some 5
  | 0x38 => some 9 | 0x3A => some 3 | _ => none

/-- The opcodes of R270 whose every word spells an instruction, some with fields that it then finds illegal. -/
def wholeOps : List Nat :=
  [0x02, 0x03, 0x04, 0x05, 0x06, 0x07, 0x08, 0x09, 0x0A, 0x10, 0x11, 0x12, 0x13, 0x14, 0x15, 0x16, 0x18, 0x19, 0x1A, 0x1B, 0x1D,
   0x20, 0x21, 0x22, 0x23, 0x24, 0x25, 0x26, 0x27, 0x28, 0x29, 0x30, 0x31, 0x33, 0x34, 0x39, 0x3B, 0x3C, 0x3D]

/-- A word spells an instruction (R269, R270): neither its OP nor its FN is reserved. -/
def spelled (w : Nat) : Bool :=
  match fnCount (bits w 31 26) with
  | some n => decide (bits w 10 0 < n) && !(bits w 31 26 = 0x01 && (bits w 10 0 = 0x00E || bits w 10 0 = 0x00F || bits w 10 0 = 0x013))
  | none => wholeOps.contains (bits w 31 26)

/-- The base of a core's local memory (R266), and of Basecamp's SRAM (R510). -/
def localBase : Nat := 0xFFFF000000000000

/-- The base of a cluster's shared memory in a thread's map (R266). -/
def sharedBase : Nat := 0xFFFF000001000000

/-- The size of the memory that a context fetches from. -/
def fetchSize (k : Nat) : Nat := if k = 2048 then 0x400000 else 0x40000

/-- An address that a context may fetch from (R266, R274). -/
def pcOk (k pc : Nat) : Bool := decide (localBase ≤ pc) && decide (pc < localBase + fetchSize k) && decide (pc % 4 = 0)

/-- The word that a context fetches at its PC (R266, R268): from its core's local memory, or from Basecamp's SRAM. -/
def Dev.fetchWord (s : Dev) (k : Nat) : Nat :=
  let off := (s.ctx k).pc - localBase
  leNat (if k = 2048 then Memory.readN s.mem.sram off 4 else s.localRead (k / 256) (s.physCore (k / 256) (k % 256 / 8)) off 4)

/-- A cluster's core runs (R234, R252, R257, R286, R470): clocked, not stopped, not fenced, not waiting for its restart on a bench
core, its cluster awake, and the timers of its contexts fired. -/
def Dev.coreRuns (s : Dev) (c l : Nat) : Bool :=
  s.clocked 7 && !s.coreFenced c l && !s.coreStopped c l && !s.dor.restarts.contains (32 * c + l)
    && (Sparse.get? s.dor.asleep c).isNone
    && (List.range 8).all (fun t => !(s.ctx (ctxKey c (8 * l + t))).timerDue s.vn)

/-- A context can issue its instruction now (R15, R234): it is READY, its core runs, and it is the next of its core to issue in this
volley; for Basecamp, its pair runs. Once a power failure has frozen the stages nothing issues (R502). -/
def Dev.ready (s : Dev) (k : Nat) : Bool :=
  (s.ctx k).st = 1 && !decide (s.mode = .dormant) && !s.frozen &&
  (if k = 2048 then decide (s.fld .BCP_STATUS 0 1 0 = 1)
   else s.coreRuns (k / 256) (k % 256 / 8) && decide ((s.nextIssue (coreNo k)).map Prod.snd = some (k % 8)))

/-- Count the instruction that a core issues in this volley. -/
def Dev.addIssued (s : Dev) (n : Nat) : Dev :=
  { s with dor := { s.dor with issued := Sparse.set (fun _ => 0) s.dor.issued n (Sparse.get (fun _ => 0) s.dor.issued n + 1) } }

/-- The core of a context has passed the cycle in which it issues; a filler cycle leaves its mark on the round robin (R234). -/
def Dev.takeCycle (s : Dev) (k : Nat) : Dev :=
  let n := coreNo k
  let j := match s.nextIssue n with | some (j, _) => j | none => s.cycNow n
  let own := (s.ownSlot n (s.cyclesBefore (k / 256) + j)).isSome
  let t := s.setCyc n (j + 1)
  if own then t else { t with dor := { t.dor with fill := Sparse.put t.dor.fill n (some (k % 8)) } }

/-- Count an instruction that issues (R234). -/
def Dev.countIssue (s : Dev) (k : Nat) : Dev :=
  if k = 2048 then s.addIssued (coreNo k) else ((s.takeCycle k).bump .DOR_CTX_ISSUED k).addIssued (coreNo k)

/-- An instruction issues (R234, R290 to R292): an exception FETCH when its address is not one to fetch from; ILLEGAL when the word
spells no instruction, is not legal, or not for Basecamp; else its effect. -/
def Dev.dispatch (s : Dev) (k word : Nat) (legal onBcp : Bool) (body : Dev → Dev) : Dev :=
  if pcOk k (s.ctx k).pc = false then s.raise k 3 (s.ctx k).pc 0
  else if s.fetchWord k ≠ word then s.raise k 1 0 (s.fetchWord k)
  else if legal = false ∨ (k = 2048 ∧ onBcp = false) then s.raise k 1 0 word
  else body s

/-- The instruction that a context issues next is not that of a command: another one stands at its PC. -/
def Dev.otherWord (s : Dev) (k word : Nat) : Bool :=
  pcOk k (s.ctx k).pc && decide (s.fetchWord k ≠ word) && spelled (s.fetchWord k)

/-- A core's fetch fails parity again (R290, R471): MEM_ERROR in the thread that was to issue there. -/
def Dev.fetchFails (s : Dev) (c l : Nat) : Dev :=
  match s.nextIssue (32 * c + l) with
  | some (_, t) =>
    let k := ctxKey c (8 * l + t)
    if s.ready k ∧ pcOk k (s.ctx k).pc then (s.countIssue k).raise k 7 (s.ctx k).pc 0 else s
  | none => s

/-- The common form of the instruction commands: nothing when the context cannot issue, or has another instruction at its PC. -/
def Dev.run (s : Dev) (k word : Nat) (legal onBcp : Bool) (body : Dev → Dev) : Outcome Dev Fault Refusal :=
  if 2048 < k then .fault .noSuchObject
  else if s.ready k && !s.otherWord k word then .next ((s.countIssue k).dispatch k word legal onBcp body)
  else .next s

/-- A fixed-latency instruction that writes a register (R233). -/
def Dev.fixed (s : Dev) (k : Nat) (rd : Fin 32) (v : Word) : Dev :=
  let x := (s.ctx k).setReg rd.val v
  s.setCtx k { x with pc := x.pc + 4 }

/-- A fixed-latency instruction that writes no register. -/
def Dev.skip (s : Dev) (k : Nat) : Dev := s.setCtx k { s.ctx k with pc := (s.ctx k).pc + 4 }

/-- A variable-latency instruction (R233): the thread is WAITING until its result returns. In Basecamp all are of fixed
latency (R292). -/
def Dev.vary (s : Dev) (k : Nat) (r : Res) : Dev :=
  if k = 2048 then s.takeResult k r else s.setCtx k { s.ctx k with st := 2, res := some r }

/-- A result that writes registers only. -/
def resOf (l : List (Nat × Word)) (f : Option Bool) : Res := { writes := l, f := f, kv := none, fault := none, fence := false }

/-- A result that ends in an exception as it returns (R291). -/
def resFault (cause addr detail : Nat) : Res := { resOf [] none with fault := some (cause, addr, detail) }

/-- Register `n` of a context. -/
def Dev.gr (s : Dev) (k : Nat) (n : Fin 32) : Word := (s.ctx k).reg n.val

/-- The thread has an open step. -/
def Dev.inStep (s : Dev) (k : Nat) : Bool := (s.ctx k).step.isSome

/-! ### Integer instructions (R271, R272) -/

/-- An ALU instruction of two operands. -/
def Dev.alu (s : Dev) (k fn : Nat) (rd ra rb : Fin 32) (f : Word → Word → Word) : Outcome Dev Fault Refusal :=
  s.run k (wordR 1 rd ra rb fn) true true (fun s => s.fixed k rd (f (s.gr k ra) (s.gr k rb)))

/-- An ALU instruction of one operand: RB must be g0. -/
def Dev.alu1 (s : Dev) (k fn : Nat) (rd ra rb : Fin 32) (f : Word → Word) : Outcome Dev Fault Refusal :=
  s.run k (wordR 1 rd ra rb fn) (rb.val = 0) true (fun s => s.fixed k rd (f (s.gr k ra)))

/-- A division, of the variable-latency class. -/
def Dev.aluVar (s : Dev) (k fn : Nat) (rd ra rb : Fin 32) (f : Word → Word → Word) : Outcome Dev Fault Refusal :=
  s.run k (wordR 1 rd ra rb fn) true true (fun s => s.vary k (resOf [(rd.val, f (s.gr k ra) (s.gr k rb))] none))

/-- The shift distance RB[5:0]. -/
def shiftBy (b : Word) : Nat := b.toNat % 64

/-- 1 or 0 as a register value. -/
def flagWord (b : Bool) : Word := if b then 1 else 0

/-- Signed and unsigned quotient and remainder (R271). -/
def divS (a b : Word) : Word := if b = 0 then BitVec.allOnes 64 else a.sdiv b
/-- Unsigned quotient (R271). -/
def divU (a b : Word) : Word := if b = 0 then BitVec.allOnes 64 else a.udiv b
/-- Remainder of the signed division, with the sign of RA (R271). -/
def remS (a b : Word) : Word := if b = 0 then a else a.srem b
/-- Remainder of the unsigned division (R271). -/
def remU (a b : Word) : Word := if b = 0 then a else a.umod b
/-- The bytes of a word in reverse order (R271). -/
def byteSwap (a : Word) : Word := BitVec.ofNat 64 (beNat (leBytes 8 a.toNat))
/-- Leading zeros, 0 to 64 (R271). -/
def leadZeros (a : Word) : Nat := if a = 0 then 64 else 63 - Nat.log2 a.toNat
/-- Trailing zeros, 0 to 64 (R271). -/
def trailZeros (a : Word) : Nat := ((List.range 64).find? (fun i => a.toNat.testBit i)).getD 64

/-- ADD (R271). -/
def execAdd (k : Nat) (rd ra rb : Fin 32) (s : State) : Outcome State Fault Refusal := s.act fun s => s.alu k 0x000 rd ra rb (fun a b => a + b)
/-- SUB (R271). -/
def execSub (k : Nat) (rd ra rb : Fin 32) (s : State) : Outcome State Fault Refusal := s.act fun s => s.alu k 0x001 rd ra rb (fun a b => a - b)
/-- AND (R271). -/
def execAnd (k : Nat) (rd ra rb : Fin 32) (s : State) : Outcome State Fault Refusal := s.act fun s => s.alu k 0x002 rd ra rb (fun a b => a &&& b)
/-- OR (R271). -/
def execOr (k : Nat) (rd ra rb : Fin 32) (s : State) : Outcome State Fault Refusal := s.act fun s => s.alu k 0x003 rd ra rb (fun a b => a ||| b)
/-- XOR (R271). -/
def execXor (k : Nat) (rd ra rb : Fin 32) (s : State) : Outcome State Fault Refusal := s.act fun s => s.alu k 0x004 rd ra rb (fun a b => a ^^^ b)
/-- SLL (R271). -/
def execSll (k : Nat) (rd ra rb : Fin 32) (s : State) : Outcome State Fault Refusal := s.act fun s =>
  s.alu k 0x005 rd ra rb (fun a b => a <<< shiftBy b)
/-- SRL (R271). -/
def execSrl (k : Nat) (rd ra rb : Fin 32) (s : State) : Outcome State Fault Refusal := s.act fun s =>
  s.alu k 0x006 rd ra rb (fun a b => a >>> shiftBy b)
/-- SRA (R271). -/
def execSra (k : Nat) (rd ra rb : Fin 32) (s : State) : Outcome State Fault Refusal := s.act fun s =>
  s.alu k 0x007 rd ra rb (fun a b => a.sshiftRight (shiftBy b))
/-- SLT (R271). -/
def execSlt (k : Nat) (rd ra rb : Fin 32) (s : State) : Outcome State Fault Refusal := s.act fun s =>
  s.alu k 0x008 rd ra rb (fun a b => flagWord (a.slt b))
/-- SLTU (R271). -/
def execSltu (k : Nat) (rd ra rb : Fin 32) (s : State) : Outcome State Fault Refusal := s.act fun s =>
  s.alu k 0x009 rd ra rb (fun a b => flagWord (a.ult b))
/-- MIN (R271). -/
def execMin (k : Nat) (rd ra rb : Fin 32) (s : State) : Outcome State Fault Refusal := s.act fun s =>
  s.alu k 0x00A rd ra rb (fun a b => if a.slt b then a else b)
/-- MAX (R271). -/
def execMax (k : Nat) (rd ra rb : Fin 32) (s : State) : Outcome State Fault Refusal := s.act fun s =>
  s.alu k 0x00B rd ra rb (fun a b => if a.slt b then b else a)
/-- MINU (R271). -/
def execMinu (k : Nat) (rd ra rb : Fin 32) (s : State) : Outcome State Fault Refusal := s.act fun s =>
  s.alu k 0x00C rd ra rb (fun a b => if a.ult b then a else b)
/-- MAXU (R271). -/
def execMaxu (k : Nat) (rd ra rb : Fin 32) (s : State) : Outcome State Fault Refusal := s.act fun s =>
  s.alu k 0x00D rd ra rb (fun a b => if a.ult b then b else a)
/-- MUL (R271). -/
def execMul (k : Nat) (rd ra rb : Fin 32) (s : State) : Outcome State Fault Refusal := s.act fun s => s.alu k 0x010 rd ra rb (fun a b => a * b)
/-- MULH (R271). -/
def execMulh (k : Nat) (rd ra rb : Fin 32) (s : State) : Outcome State Fault Refusal := s.act fun s =>
  s.alu k 0x011 rd ra rb (fun a b => BitVec.ofInt 64 (a.toInt * b.toInt / (2 ^ 64 : Nat)))
/-- MULHU (R271). -/
def execMulhu (k : Nat) (rd ra rb : Fin 32) (s : State) : Outcome State Fault Refusal := s.act fun s =>
  s.alu k 0x012 rd ra rb (fun a b => BitVec.ofNat 64 (a.toNat * b.toNat / 2 ^ 64))
/-- DIV (R271). -/
def execDiv (k : Nat) (rd ra rb : Fin 32) (s : State) : Outcome State Fault Refusal := s.act fun s => s.aluVar k 0x014 rd ra rb divS
/-- DIVU (R271). -/
def execDivu (k : Nat) (rd ra rb : Fin 32) (s : State) : Outcome State Fault Refusal := s.act fun s => s.aluVar k 0x015 rd ra rb divU
/-- REM (R271). -/
def execRem (k : Nat) (rd ra rb : Fin 32) (s : State) : Outcome State Fault Refusal := s.act fun s => s.aluVar k 0x016 rd ra rb remS
/-- REMU (R271). -/
def execRemu (k : Nat) (rd ra rb : Fin 32) (s : State) : Outcome State Fault Refusal := s.act fun s => s.aluVar k 0x017 rd ra rb remU
/-- BSWAP (R271). -/
def execBswap (k : Nat) (rd ra rb : Fin 32) (s : State) : Outcome State Fault Refusal := s.act fun s => s.alu1 k 0x018 rd ra rb byteSwap
/-- POPC (R271). -/
def execPopc (k : Nat) (rd ra rb : Fin 32) (s : State) : Outcome State Fault Refusal := s.act fun s =>
  s.alu1 k 0x019 rd ra rb (fun a => BitVec.ofNat 64 (popCount 64 a.toNat))
/-- CLZ (R271). -/
def execClz (k : Nat) (rd ra rb : Fin 32) (s : State) : Outcome State Fault Refusal := s.act fun s =>
  s.alu1 k 0x01A rd ra rb (fun a => BitVec.ofNat 64 (leadZeros a))
/-- CTZ (R271). -/
def execCtz (k : Nat) (rd ra rb : Fin 32) (s : State) : Outcome State Fault Refusal := s.act fun s =>
  s.alu1 k 0x01B rd ra rb (fun a => BitVec.ofNat 64 (trailZeros a))

/-- An integer instruction with an immediate. -/
def Dev.aluImm (s : Dev) (k op : Nat) (rd ra : Fin 32) (imm : BitVec 16) (legal : Bool) (f : Word → Word) :
    Outcome Dev Fault Refusal :=
  s.run k (wordI op rd ra imm) legal true (fun s => s.fixed k rd (f (s.gr k ra)))

/-- IMM16 sign-extended, and zero-extended (R269). -/
def immS (imm : BitVec 16) : Word := imm.signExtend 64
/-- IMM16 zero-extended (R269). -/
def immZ (imm : BitVec 16) : Word := imm.zeroExtend 64

/-- ADDI (R270). -/
def execAddi (k : Nat) (rd ra : Fin 32) (imm : BitVec 16) (s : State) : Outcome State Fault Refusal := s.act fun s =>
  s.aluImm k 0x02 rd ra imm true (fun a => a + immS imm)
/-- ANDI (R270). -/
def execAndi (k : Nat) (rd ra : Fin 32) (imm : BitVec 16) (s : State) : Outcome State Fault Refusal := s.act fun s =>
  s.aluImm k 0x03 rd ra imm true (fun a => a &&& immZ imm)
/-- ORI (R270). -/
def execOri (k : Nat) (rd ra : Fin 32) (imm : BitVec 16) (s : State) : Outcome State Fault Refusal := s.act fun s =>
  s.aluImm k 0x04 rd ra imm true (fun a => a ||| immZ imm)
/-- XORI (R270). -/
def execXori (k : Nat) (rd ra : Fin 32) (imm : BitVec 16) (s : State) : Outcome State Fault Refusal := s.act fun s =>
  s.aluImm k 0x05 rd ra imm true (fun a => a ^^^ immZ imm)
/-- SLTI (R272). -/
def execSlti (k : Nat) (rd ra : Fin 32) (imm : BitVec 16) (s : State) : Outcome State Fault Refusal := s.act fun s =>
  s.aluImm k 0x06 rd ra imm true (fun a => flagWord (a.slt (immS imm)))
/-- SLTIU (R272). -/
def execSltiu (k : Nat) (rd ra : Fin 32) (imm : BitVec 16) (s : State) : Outcome State Fault Refusal := s.act fun s =>
  s.aluImm k 0x07 rd ra imm true (fun a => flagWord (a.ult (immS imm)))

/-- The shift that IMM16[7:6] selects, by IMM16[5:0] places (R272). -/
def shiftImm (kind n : Nat) (a : Word) : Word :=
  match kind with
  | 0 => a <<< n
  | 1 => a >>> n
  | 2 => a.sshiftRight n
  | _ => a.rotateRight n

/-- SHI (R272): IMM16[15:8] must be 0. -/
def execShi (k : Nat) (rd ra : Fin 32) (imm : BitVec 16) (s : State) : Outcome State Fault Refusal := s.act fun s =>
  s.aluImm k 0x08 rd ra imm (imm.toNat / 256 = 0) (shiftImm (bits imm.toNat 7 6) (bits imm.toNat 5 0))

/-- LIH (R270): IMM21, sign-extended, shifted left by 16. -/
def execLih (k : Nat) (rd : Fin 32) (imm : BitVec 21) (s : State) : Outcome State Fault Refusal := s.act fun s =>
  s.run k (wordL 0x09 rd imm) true true (fun s => s.fixed k rd (imm.signExtend 64 <<< 16))

/-- ADR (R270): the address of the instruction plus 4 × IMM21. -/
def execAdr (k : Nat) (rd : Fin 32) (imm : BitVec 21) (s : State) : Outcome State Fault Refusal := s.act fun s =>
  s.run k (wordL 0x0A rd imm) true true (fun s => s.fixed k rd (BitVec.ofNat 64 (s.ctx k).pc + 4 * imm.signExtend 64))

/-! ### Branches (R274) -/

/-- The thread goes on at a target; one it may not fetch from raises FETCH there, with the branch complete (R274). -/
def Dev.goto (s : Dev) (k : Nat) (target : Word) : Dev :=
  let s := s.setCtx k { s.ctx k with pc := target.toNat }
  if pcOk k target.toNat then s else s.raise k 3 target.toNat 0

/-- A branch with a word offset, when `taken`; otherwise the next instruction. -/
def Dev.branch (s : Dev) (k : Nat) (taken : Bool) (off : Word) : Dev :=
  if taken then s.goto k (BitVec.ofNat 64 (s.ctx k).pc + 4 * off) else s.skip k

/-- A branch on RA compared with RB. -/
def Dev.branchIf (s : Dev) (k op : Nat) (rb ra : Fin 32) (imm : BitVec 16) (f : Word → Word → Bool) :
    Outcome Dev Fault Refusal :=
  s.run k (wordI op rb ra imm) true true (fun s => s.branch k (f (s.gr k ra) (s.gr k rb)) (immS imm))

/-- BEQ (R270, R274). -/
def execBeq (k : Nat) (rb ra : Fin 32) (imm : BitVec 16) (s : State) : Outcome State Fault Refusal := s.act fun s =>
  s.branchIf k 0x20 rb ra imm (fun a b => a == b)
/-- BNE (R270, R274). -/
def execBne (k : Nat) (rb ra : Fin 32) (imm : BitVec 16) (s : State) : Outcome State Fault Refusal := s.act fun s =>
  s.branchIf k 0x21 rb ra imm (fun a b => !(a == b))
/-- BLT (R270, R274). -/
def execBlt (k : Nat) (rb ra : Fin 32) (imm : BitVec 16) (s : State) : Outcome State Fault Refusal := s.act fun s =>
  s.branchIf k 0x22 rb ra imm (fun a b => a.slt b)
/-- BGE (R270, R274). -/
def execBge (k : Nat) (rb ra : Fin 32) (imm : BitVec 16) (s : State) : Outcome State Fault Refusal := s.act fun s =>
  s.branchIf k 0x23 rb ra imm (fun a b => !(a.slt b))
/-- BLTU (R270, R274). -/
def execBltu (k : Nat) (rb ra : Fin 32) (imm : BitVec 16) (s : State) : Outcome State Fault Refusal := s.act fun s =>
  s.branchIf k 0x24 rb ra imm (fun a b => a.ult b)
/-- BGEU (R270, R274). -/
def execBgeu (k : Nat) (rb ra : Fin 32) (imm : BitVec 16) (s : State) : Outcome State Fault Refusal := s.act fun s =>
  s.branchIf k 0x25 rb ra imm (fun a b => !(a.ult b))
/-- BF (R270, R274): RA and RB are not used. -/
def execBf (k : Nat) (rb ra : Fin 32) (imm : BitVec 16) (s : State) : Outcome State Fault Refusal := s.act fun s =>
  s.run k (wordI 0x26 rb ra imm) (ra.val = 0 && rb.val = 0) true (fun s => s.branch k (s.ctx k).f (immS imm))
/-- BNF (R270, R274). -/
def execBnf (k : Nat) (rb ra : Fin 32) (imm : BitVec 16) (s : State) : Outcome State Fault Refusal := s.act fun s =>
  s.run k (wordI 0x27 rb ra imm) (ra.val = 0 && rb.val = 0) true (fun s => s.branch k (!(s.ctx k).f) (immS imm))
/-- JMP (R270, R274). -/
def execJmp (k : Nat) (off : BitVec 26) (s : State) : Outcome State Fault Refusal := s.act fun s =>
  s.run k (wordJ 0x28 off) true true (fun s => s.branch k true (off.signExtend 64))

/-- Write the address of the next instruction to a register. -/
def Dev.link (s : Dev) (k : Nat) (rd : Nat) : Dev :=
  s.setCtx k ((s.ctx k).setReg rd (BitVec.ofNat 64 ((s.ctx k).pc + 4)))

/-- CALL (R270, R274). -/
def execCall (k : Nat) (off : BitVec 26) (s : State) : Outcome State Fault Refusal := s.act fun s =>
  s.run k (wordJ 0x29 off) true true (fun s => (s.link k 31).branch k true (off.signExtend 64))
/-- JR (R270): RD and RB are not used. -/
def execJr (k : Nat) (rd ra rb : Fin 32) (s : State) : Outcome State Fault Refusal := s.act fun s =>
  s.run k (wordR 0x2A rd ra rb 0) (rd.val = 0 && rb.val = 0) true (fun s => s.goto k (s.gr k ra))
/-- JALR (R270): RB is not used; the target is read before RD is written. -/
def execJalr (k : Nat) (rd ra rb : Fin 32) (s : State) : Outcome State Fault Refusal := s.act fun s =>
  s.run k (wordR 0x2A rd ra rb 1) (rb.val = 0) true (fun s => (s.link k rd.val).goto k (s.gr k ra))

/-- BRK (R287): a RESUME without PC_SET goes on at the next instruction, which `was` 11 marks. -/
def execBrk (k : Nat) (off : BitVec 26) (s : State) : Outcome State Fault Refusal := s.act fun s =>
  s.run k (wordJ 0x3D off) true true (fun s =>
    let s := s.raise k 0x0F 0 off.toNat
    if k = 2048 then s else s.setCtx k { s.ctx k with was := 11 })

/-! ### Cluster memory as a thread sees it (R254, R289) -/

/-- The stores of a thread that are not yet visible to others, its latest first: those held in its open step, and those of its
committed steps that are not released. -/
def Dev.ownStores (s : Dev) (k : Nat) : List (Sparse Byte) :=
  (s.ctx k).step.toList.map (·.lines) ++ ((s.dor.releases.filter (fun e => decide (e.1 = k))).map (·.2.lines)).reverse

/-- Bytes of the cluster's shared memory as a thread sees them: its own latest stores in front (R289). -/
def Dev.threadRead (s : Dev) (k off n : Nat) : List Byte :=
  let l := s.ownStores k
  (List.range n).map (fun j =>
    (l.findSome? (fun m => Sparse.get? m (off + j))).getD (Memory.read s.mem.shared (sharedAt (k / 256) (off + j))))

/-- The number of 64-byte lines that held stores touch. -/
def linesOf (m : Sparse Byte) : Nat :=
  (m.foldl (fun (x : Nat × Option Nat) e => if x.2 = some (e.1 / 64) then x else (x.1 + 1, some (e.1 / 64))) (0, none)).1

/-- Hold bytes of a store. -/
def holdBytes (m : Sparse Byte) (off : Nat) : List Byte → Sparse Byte
  | [] => m
  | b :: bs => holdBytes (Sparse.put m off (some b)) (off + 1) bs

/-- Store to the cluster's shared memory: at once, or held in the open step; nothing when the step is full (R254). -/
def Dev.threadWrite (s : Dev) (k off : Nat) (bs : List Byte) : Option Dev :=
  let x := s.ctx k
  match x.step with
  | none => some (s.sharedWrite (k / 256) off bs)
  | some r =>
    let m := holdBytes r.lines off bs
    if 64 < linesOf m then none else some (s.setCtx k { x with step := some { r with lines := m } })

/-- Hold an effect in the open step; nothing when it holds 64 (R254). -/
def Dev.hold (s : Dev) (k : Nat) (h : Held) : Option Dev :=
  let x := s.ctx k
  match x.step with
  | none => none
  | some r => if 64 ≤ r.outs.length then none
    else some (s.setCtx k { x with step := some { r with outs := r.outs ++ [h] } })

/-- Put an effect behind those of a thread's last committed step, in whose release it is made (R289). -/
def Dev.appendHeld (s : Dev) (k : Nat) (h : Held) : Dev :=
  match s.dor.releases.reverse.find? (fun e => decide (e.1 = k)) with
  | none => s
  | some e =>
    let at_ := s.dor.releases.length - 1 - s.dor.releases.reverse.findIdx (fun e => decide (e.1 = k))
    { s with dor := { s.dor with releases := s.dor.releases.set at_ (k, { e.2 with outs := e.2.outs ++ [h] }) } }

/-- An effect that comes after every earlier store and register write of the thread (R289): it takes place at once, or, while a committed
step of the thread is not released, behind the effects of that step. -/
def Dev.afterStores (s : Dev) (k : Nat) (h : Held) (now : Dev → Dev) : Dev :=
  if s.releasing k then s.appendHeld k h else now s

/-- An effect that takes place at once outside a step and is held inside one; then the thread goes on. A full step raises
STEP_FULL. -/
def Dev.holdOr (s : Dev) (k : Nat) (h : Held) (now next : Dev → Dev) : Dev :=
  if s.inStep k then
    match s.hold k h with
    | some s => next s
    | none => s.raise k 0x40 0 0
  else next (now s)

/-- The frame of a handle that the thread owns (R275, R280). -/
def Dev.handleFrame (s : Dev) (k : Nat) (h : Word) : Option Nat :=
  (s.ownFrames k).find? (fun f => (match s.frame f with
    | some x => x.loc = .thread (k / 256) (k % 256)
    | none => false) && decide ((s.blocksOf f).1 = h.toNat))

/-- An instruction on a frame handle: BAD_HANDLE unless the thread owns it. -/
def Dev.withHandle (s : Dev) (k : Nat) (h : Word) (body : Nat → Dev) : Dev :=
  match s.handleFrame k h with
  | some f => body f
  | none => s.raise k 0x09 0 (h.toNat % 2 ^ 32)

/-! ### Key vector (R275, R276) -/

/-- A word of a cluster's memory fails parity (R290, R471): the whistle of its core. -/
def Dev.parityWhistle (s : Dev) (k : Nat) : Dev :=
  s.whistle 0x0C (unitId 0x07 (k / 256) (s.physCore (k / 256) (k % 256 / 8))) 0 1

/-- KVLD (R275); MEM_ERROR where the metadata fails parity again (R290). -/
def execKvld (k : Nat) (rd ra rb : Fin 32) (bad : Bool) (s : State) : Outcome State Fault Refusal := s.act fun s =>
  s.run k (wordR 0x32 rd ra rb 0) (rd.val = 0 && rb.val = 0) false (fun s =>
    s.withHandle k (s.gr k ra) (fun f =>
      let b := 256 * (s.blocksOf f).1
      let r := { resOf [] none with kv := some (leNat (s.threadRead k b 80), leNat (s.threadRead k (b + 0x74) 1)) }
      if bad then (s.parityWhistle k).vary k (resFault 7 (sharedBase + b) 0) else s.vary k r))

/-- KVST (R275): a shared-memory store, held inside a step. -/
def execKvst (k : Nat) (rd ra rb : Fin 32) (s : State) : Outcome State Fault Refusal := s.act fun s =>
  s.run k (wordR 0x32 rd ra rb 1) (rd.val = 0 && rb.val = 0) false (fun s =>
    s.withHandle k (s.gr k ra) (fun f =>
      match s.threadWrite k (256 * (s.blocksOf f).1) (leBytes 80 (s.ctx k).kv) with
      | some s => s.vary k (resOf [] none)
      | none => s.raise k 0x40 0 0))

/-- KVCLR (R275). -/
def execKvclr (k : Nat) (rd ra rb : Fin 32) (s : State) : Outcome State Fault Refusal := s.act fun s =>
  s.run k (wordR 0x32 rd ra rb 2) (rd.val = 0 && ra.val = 0 && rb.val = 0) false (fun s =>
    let s := s.setCtx k { s.ctx k with kv := 0, kvValid := false }
    s.skip k)

/-- XTR (R276). -/
def execXtr (k : Nat) (rd ra : Fin 32) (kbit : BitVec 10) (w : BitVec 6) (s : State) : Outcome State Fault Refusal := s.act fun s =>
  s.run k (wordP 0x30 rd ra kbit w) (ra.val = 0) false (fun s =>
    if 639 < kbit.toNat + w.toNat then s.raise k 0x0C 0 (kbit.toNat + w.toNat * 2 ^ 10)
    else s.fixed k rd (BitVec.ofNat 64 (bits (s.ctx k).kv (kbit.toNat + w.toNat) kbit.toNat)))

/-- INS (R276). -/
def execIns (k : Nat) (rd ra : Fin 32) (kbit : BitVec 10) (w : BitVec 6) (s : State) : Outcome State Fault Refusal := s.act fun s =>
  s.run k (wordP 0x31 rd ra kbit w) (rd.val = 0) false (fun s =>
    if 639 < kbit.toNat + w.toNat then s.raise k 0x0C 0 (kbit.toNat + w.toNat * 2 ^ 10)
    else
      let v := putBits (s.ctx k).kv (kbit.toNat + w.toNat) kbit.toNat (s.gr k ra).toNat
      let s := s.setCtx k { s.ctx k with kv := v }
      s.skip k)

/-! ### Lookups (R277) -/

/-- The code of the table that FN[3:0] names (R123). -/
def lkpCode : Nat → Nat
  | 0 => 6 | 1 => 0 | 2 => 0 | 3 => 2 | 4 => 2 | 5 => 4 | 6 => 1 | _ => 3

/-- The lengths of the ranges of a lookup add up to its key length (R78, R277). -/
def Dev.keyLenOk (s : Dev) (l : Nat) : Bool :=
  let n := sumNat ((List.range 4).map (fun j => s.fld .PRS_KSEL_RANGE (4 * l + j) 18 10))
  match l with
  | 0 => n = 24 | 1 => n = 60 | 2 => n = 60 | 3 => n = 44 | 4 => n = 140 | _ => 1 ≤ n && n ≤ 320

/-- The epoch a lookup reads (R277): the current one, or KV_EPOCH if it is live. -/
def Dev.lkpEpoch (s : Dev) (k : Nat) (e : Bool) : Option Nat :=
  if e = false then some s.epc.cur
  else if (s.ctx k).kvValid = false then none
  else ((List.range (s.epc.cur + 1 - s.epc.oldest)).map (s.epc.oldest + ·)).find? (fun n => n % 256 = (s.ctx k).kvEpoch)

/-- What a lookup finds: the entry's index, its image, and whether it is bad. -/
def Dev.lkpFind (s : Dev) (t kv epoch index : Nat) : Option (Nat × Nat × Bool) :=
  let v := s.prs.ver
  let img := fun (e : TblEntry) => e.at epoch
  match t with
  | 0 => s.lookKey 6 (s.lookupKey v 0 kv % 2 ^ 24) epoch
  | 1 => s.lookKey 0 (s.lookupKey v 1 kv % 2 ^ 60) epoch
  | 2 => s.lookKey 0 (s.lookupKey v 2 kv % 2 ^ 60) epoch
  | 3 => let n := s.lookupKey v 3 kv; s.lookRoute 0 (n / 2 ^ 32 % 4096) (n % 2 ^ 32) img
  | 4 => let n := s.lookupKey v 4 kv; s.lookRoute 1 (n / 2 ^ 128 % 4096) (n % 2 ^ 128) img
  | 5 => s.lookKey 4 (s.lookupKey v 5 kv % 2 ^ 320) epoch
  | 6 => s.lookTcam kv img
  | _ =>
    let e := s.entry 3 index
    if tblValid 3 (e.at epoch) then some (index, e.at epoch, e.bad) else none

/-- The words that a hit returns (R277). -/
def lkpWords (t i v : Nat) : List Nat :=
  if t = 0 then [bits v 63 0, bits v 127 64, i]
  else if t = 7 then [bits v 63 0, bits v 127 64, bits v 191 128, bits v 255 192]
  else
    let a := tblAction (lkpCode t) v
    [bits a 63 0, bits a 127 64, i]

/-- A lookup that finds a persistent parity error marks the entry bad (R156). -/
def Dev.lkpParity (s : Dev) (t : Nat) (hit : Option (Nat × Nat × Bool)) (parity : Bool) : Dev :=
  match hit with
  | some (i, _, _) => if parity then s.markBad (lkpCode t) i 0x3F else s
  | none => s

/-- A hit on a frozen Tenant Map entry is a miss and is counted (R159). -/
def Dev.lkpFrozen (s : Dev) (t : Nat) (hit : Option (Nat × Nat × Bool)) : Bool :=
  match hit with
  | some (i, _, _) => t = 0 && s.isFrozen 6 i
  | none => false

/-- The result of a lookup: its words with F 0, or zeros with F 1. -/
def lkpRes (t : Nat) (rd : Fin 32) (hit : Option (Nat × Nat × Bool)) (good : Bool) : Res :=
  let n := if t = 7 then 4 else 3
  match hit with
  | some (i, v, _) =>
    let l := if good then lkpWords t i v else List.replicate n 0
    resOf (l.mapIdx (fun j w => (rd.val + j, BitVec.ofNat 64 w))) (some (!good))
  | none => resOf ((List.range n).map (fun j => (rd.val + j, (0 : Word)))) (some true)

/-- Carry out a lookup whose operands are good. -/
def Dev.lookFor (s : Dev) (k t epoch index : Nat) (rd : Fin 32) (parity : Bool) : Dev :=
  let hit := s.lkpFind t (s.ctx k).kv epoch index
  let bad := match hit with | some (_, _, b) => b | none => false
  let s := s.lkpParity t hit parity
  let fr := s.lkpFrozen t hit
  let s := if fr then s.suspect else s
  s.vary k (lkpRes t rd hit (!bad && !parity && !fr))

/-- LKP (R277): `parity` tells that the lookup finds a persistent parity error in the entry it hits. -/
def execLkp (k : Nat) (rd ra rb : Fin 32) (fn : BitVec 11) (parity : Bool) (s : State) : Outcome State Fault Refusal := s.act fun s =>
  let n := fn.toNat
  let t := n % 16
  let legal := n / 32 = 0 && t < 8 && 1 ≤ rd.val && rd.val ≤ (if t = 7 then 28 else 29) && rb.val = 0
    && (t = 7 || ra.val = 0)
  s.run k (wordR 0x33 rd ra rb n) legal false (fun s =>
    match s.lkpEpoch k (bit n 4) with
    | none => s.raise k 0x0B 0 ((s.ctx k).kvEpoch + 256 * b2n (!(s.ctx k).kvValid))
    | some e =>
      let i := (s.gr k ra).toNat
      if t < 6 ∧ s.keyLenOk t = false then s.raise k 0x0D 0 (lkpCode t)
      else if t = 7 ∧ (i = 0 ∨ 262144 ≤ i) then s.raise k 0x0E 0 (i % 2 ^ 32)
      else s.lookFor k t e i rd parity)

/-! ### Checksums and counters (R278, R279) -/

/-- CRC (R278). -/
def execCrc (k : Nat) (rd ra rb : Fin 32) (fn : BitVec 11) (s : State) : Outcome State Fault Refusal := s.act fun s =>
  s.run k (wordR 0x34 rd ra rb fn.toNat) (fn.toNat / 8 = 0) true (fun s =>
    let poly := if bit fn.toNat 2 then ieeeCrc else castagnoli
    let bs := (leBytes (2 ^ (fn.toNat % 4)) (s.gr k rb).toNat).map (·.toNat)
    s.fixed k rd (BitVec.ofNat 64 (bs.foldl (crcByte poly) ((s.gr k ra).toNat % 2 ^ 32))))

/-- The common form of CTRADD: `one` tells that it adds a packet. -/
def Dev.addPair (s : Dev) (k : Nat) (rd ra rb : Fin 32) (fn one : Nat) : Outcome Dev Fault Refusal :=
  s.run k (wordR 0x35 rd ra rb fn) (rd.val = 0) true (fun s =>
    let i := (s.gr k ra).toNat
    let n := (s.gr k rb).toNat
    if 4194304 ≤ i then s.raise k 0x0E 0 (i % 2 ^ 32)
    else s.holdOr k (.ctrAdd i one n) (fun s => s.ctrAdd i one n) (fun s => s.skip k))

/-- CTRADD (R279). -/
def execCtradd (k : Nat) (rd ra rb : Fin 32) (s : State) : Outcome State Fault Refusal := s.act fun s => s.addPair k rd ra rb 0 1
/-- CTRADD with FN 0x001 (R279). -/
def execCtraddBytes (k : Nat) (rd ra rb : Fin 32) (s : State) : Outcome State Fault Refusal := s.act fun s => s.addPair k rd ra rb 1 0

/-! ### Frames (R280, R281) -/

/-- A taken frame is the thread's (R248). -/
def Dev.takeFrame (s : Dev) (k : Nat) (rd : Fin 32) (f : Nat) (x : Frame) : Dev :=
  let h := (s.blocksOf f).1
  let s := s.moveFrame f x (.thread (k / 256) (k % 256))
  let y := s.ctx k
  let s := match y.step with
    | some r => s.setCtx k { y with step := some { r with takes := r.takes ++ [h], taken := r.taken + 1 } }
    | none => s
  s.vary k (resOf [(rd.val, BitVec.ofNat 64 h)] (some false))

/-- A take or an allocation fails: F is 1 and RD is 0. -/
def Dev.noFrame (s : Dev) (k : Nat) (rd : Fin 32) : Dev := s.vary k (resOf [(rd.val, 0)] (some true))

/-- PTAKE takes a new frame from the punt queue of the thread's core. -/
def Dev.takeNew (s : Dev) (k : Nat) (rd : Fin 32) : Dev :=
  let c := k / 256
  match s.puntQueue c (k % 256 / 8) with
  | [] => s.noFrame k rd
  | (f, x) :: _ =>
    if s.blocksOk c (k % 256) (s.blocksOf f).2 = false then (s.bump .DOR_BUF_FAILS c).noFrame k rd
    else match (s.ctx k).step with
      | some r => if 16 ≤ r.takes.length then s.raise k 0x40 0 0 else s.takeFrame k rd f x
      | none => s.takeFrame k rd f x

/-- PTAKE (R280, R281): in the re-run of a step the recorded handles come first. -/
def execPtake (k : Nat) (rd ra rb : Fin 32) (s : State) : Outcome State Fault Refusal := s.act fun s =>
  s.run k (wordR 0x36 rd ra rb 0) (ra.val = 0 && rb.val = 0) false (fun s =>
    let x := s.ctx k
    match x.step with
    | some r =>
      match r.takes[r.taken]? with
      | some h =>
        (s.setCtx k { x with step := some { r with taken := r.taken + 1 } }).vary k
          (resOf [(rd.val, BitVec.ofNat 64 h)] (some false))
      | none => s.takeNew k rd
    | none => s.takeNew k rd)

/-- A frame that firmware returns, as it re-enters (R86, R191, R248, R280): its length, bytes, record, receive time and
pitch are those of its blocks. -/
def Dev.frameBack (s : Dev) (c f : Nat) (x : Frame) : Frame :=
  let (b, n) := s.blocksOf f
  let m := s.sharedRead c (256 * b) 256
  let g := fun (o w : Nat) => leNat ((m.drop o).take w)
  let len := min (g 0x6A 2) (256 * (n - 1))
  { x with bytes := s.chainRead c ((s.chainOf f).drop 1) len, action := g 0x50 16, rxTime := g 0x60 10
           pitch := if bit (g 0x76 2) 15 then some (g 0x76 2 % 4096) else none, ready := false }

/-- A frame is returned (R191, R280). -/
def Dev.doReturn (s : Dev) (c f word : Nat) (last : Bool) : Dev :=
  match s.frame f with
  | none => s
  | some x =>
    let y := s.frameBack c f x
    let slot := if bit word 31 then some (bits word 16 0) else none
    ((s.setBlocks f none).setFrame f y).returnFrame c f slot last

/-- The frame waits in the step for its release. -/
def Dev.stepHold (s : Dev) (k f : Nat) : Dev :=
  match s.frame f with
  | some x => s.setFrame f { x with loc := .stepHeld (k / 256) (k % 256) }
  | none => s

/-- The common form of PRET and PRET.END. -/
def Dev.pret (s : Dev) (k : Nat) (rd ra rb : Fin 32) (fn : Nat) (last : Bool) : Outcome Dev Fault Refusal :=
  s.run k (wordR 0x36 rd ra rb fn) (rd.val = 0) false (fun s =>
    let w := (s.gr k rb).toNat % 2 ^ 32
    let stepOpen := s.inStep k
    s.withHandle k (s.gr k ra) (fun f =>
      s.holdOr k (.ret f w last) (fun s => s.doReturn (k / 256) f w last)
        (fun s => (if stepOpen then s.stepHold k f else s).vary k (resOf [] none))))

/-- PRET (R280). -/
def execPret (k : Nat) (rd ra rb : Fin 32) (s : State) : Outcome State Fault Refusal := s.act fun s => s.pret k rd ra rb 1 false
/-- PRET.END (R280). -/
def execPretEnd (k : Nat) (rd ra rb : Fin 32) (s : State) : Outcome State Fault Refusal := s.act fun s => s.pret k rd ra rb 2 true

/-- PFREE (R280). -/
def execPfree (k : Nat) (rd ra rb : Fin 32) (s : State) : Outcome State Fault Refusal := s.act fun s =>
  s.run k (wordR 0x36 rd ra rb 3) (rd.val = 0 && rb.val = 0) false (fun s =>
    let stepOpen := s.inStep k
    s.withHandle k (s.gr k ra) (fun f =>
      s.holdOr k (.free f) (fun s => s.discardFrame (k / 256) f)
        (fun s => (if stepOpen then s.stepHold k f else s).vary k (resOf [] none))))

/-- A new frame of the blocks `bs`, its metadata block zeroed. -/
def Dev.allocFrame (s : Dev) (k : Nat) (rd : Fin 32) (bs : List Nat) : Dev :=
  let c := k / 256
  let b := bs.headD 0
  let f := s.nextFrame
  let s := s.newFrame { Frame.fresh [] (0x28 + c) with tag := b } (.thread c (k % 256))
  let s := (s.setBlocks f (some (c, bs))).sharedWrite c (256 * b) (List.replicate 256 0)
  let x := s.ctx k
  let s := match x.step with
    | some r => s.setCtx k { x with step := some { r with made := r.made ++ [f] } }
    | none => s
  s.vary k (resOf [(rd.val, BitVec.ofNat 64 b)] (some false))

/-- BALLOC (R280). -/
def execBalloc (k : Nat) (rd ra rb : Fin 32) (s : State) : Outcome State Fault Refusal := s.act fun s =>
  s.run k (wordR 0x36 rd ra rb 4) (rb.val = 0) false (fun s =>
    let n := (s.gr k ra).toNat
    let c := k / 256
    if n = 0 ∨ 64 < n then s.raise k 0x0E 0 (n % 2 ^ 32)
    else match s.blockRun c n with
      | some bs => if s.blocksOk c (k % 256) n then s.allocFrame k rd bs else (s.bump .DOR_BUF_FAILS c).noFrame k rd
      | none => (s.bump .DOR_BUF_FAILS c).noFrame k rd)

/-! ### Threads and events (R282, R283) -/

/-- STEP_ILLEGAL inside an open step, with the instruction word in DETAIL (R254, R290). -/
def Dev.noStep (s : Dev) (k word : Nat) (body : Dev) : Dev := if s.inStep k then s.raise k 0x41 0 word else body

/-- A start PC that a fork may use; otherwise FETCH in the forking thread (R282). -/
def Dev.forkAt (s : Dev) (k word : Nat) (pc : Word) (body : Dev) : Dev :=
  if pcOk k pc.toNat = false then s.raise k 3 pc.toNat 0 else s.noStep k word body

/-- The context that a fork of thread `k` takes: none while an older FORKW of the cluster waits (R242, R243). -/
def Dev.freeChoice (s : Dev) (k : Nat) : Option Nat :=
  if s.forkWaits (k / 256) then none else s.forkChoice (k / 256) (k % 256 / 8)

/-- The common form of FORK and FORK.D. -/
def Dev.fork (s : Dev) (k : Nat) (rd ra rb : Fin 32) (fn : Nat) (detach : Bool) : Outcome Dev Fault Refusal :=
  let w := wordR 0x38 rd ra rb fn
  s.run k w true false (fun s =>
    let pc := s.gr k ra
    s.forkAt k w pc (match s.freeChoice k with
      | some t => (s.startChild k t pc.toNat (s.gr k rb).toNat detach).vary k (resOf [(rd.val, BitVec.ofNat 64 t)] (some false))
      | none => (s.bump .DOR_FORK_FAILS (k / 256)).vary k (resOf [(rd.val, 0xFF)] (some true))))

/-- FORK (R242, R282). -/
def execFork (k : Nat) (rd ra rb : Fin 32) (s : State) : Outcome State Fault Refusal := s.act fun s => s.fork k rd ra rb 0 false
/-- FORK.D (R242, R282). -/
def execForkD (k : Nat) (rd ra rb : Fin 32) (s : State) : Outcome State Fault Refusal := s.act fun s => s.fork k rd ra rb 1 true

/-- A thread enters EVENT_WAIT. -/
def Dev.await (s : Dev) (k : Nat) (w : Wait) : Dev := s.setCtx k { s.ctx k with st := 3, wait := some w }

/-- The common form of FORKW and FORKW.D. -/
def Dev.forkw (s : Dev) (k : Nat) (rd ra rb : Fin 32) (fn : Nat) (detach : Bool) : Outcome Dev Fault Refusal :=
  let w := wordR 0x38 rd ra rb fn
  s.run k w true false (fun s =>
    let pc := s.gr k ra
    let arg := s.gr k rb
    s.forkAt k w pc (match s.freeChoice k with
      | some t => (s.startChild k t pc.toNat arg.toNat detach).vary k (resOf [(rd.val, BitVec.ofNat 64 t)] none)
      | none =>
        let s := s.await k (.fork rd.val pc.toNat arg detach)
        { s with dor := { s.dor with forkq := s.dor.forkq ++ [k] } }))

/-- FORKW (R243, R282). -/
def execForkw (k : Nat) (rd ra rb : Fin 32) (s : State) : Outcome State Fault Refusal := s.act fun s => s.forkw k rd ra rb 2 false
/-- FORKW.D (R243, R282). -/
def execForkwD (k : Nat) (rd ra rb : Fin 32) (s : State) : Outcome State Fault Refusal := s.act fun s => s.forkw k rd ra rb 3 true

/-- A thread is the undetached child of another (R244). -/
def Dev.isChild (s : Dev) (k t : Nat) : Bool :=
  let y := s.ctx (ctxKey (k / 256) t)
  t < 256 && y.st ≠ 0 && !y.detached && y.parent = some (k % 256)

/-- JOIN (R244, R282). -/
def execJoin (k : Nat) (rd ra rb : Fin 32) (s : State) : Outcome State Fault Refusal := s.act fun s =>
  let w := wordR 0x38 rd ra rb 4
  s.run k w (rb.val = 0) false (fun s =>
    s.noStep k w (
      let t := (s.gr k ra).toNat
      let j := ctxKey (k / 256) t
      if s.isChild k t = false then s.raise k 0x0A 0 (t % 2 ^ 32)
      else if (s.ctx j).st = 5 then
        let v := (s.ctx j).exitVal
        (s.freeCtx j).vary k (resOf [(rd.val, v)] none)
      else s.await k (.join rd.val t)))

/-- EXIT (R242, R244, R252): that of the supervisor is its fault. -/
def execExit (k : Nat) (rd ra rb : Fin 32) (s : State) : Outcome State Fault Refusal := s.act fun s =>
  let w := wordR 0x38 rd ra rb 5
  s.run k w (rd.val = 0 && rb.val = 0) true (fun s =>
    s.noStep k w (
      if k < 2048 ∧ s.supervisor (k / 256) = k % 256 then s.threadFault k 0 0 0
      else s.exitThread k (s.gr k ra)))

/-- A SEV takes effect (R240). -/
def Dev.sev (s : Dev) (k t : Nat) : Dev :=
  let j := ctxKey (k / 256) t
  if (s.ctx j).st = 0 ∨ (s.ctx j).st = 5 then s.bump .DOR_SEV_LOST (k / 256) else s.setEvent j 0

/-- SEV (R240, R282). -/
def execSev (k : Nat) (rd ra rb : Fin 32) (s : State) : Outcome State Fault Refusal := s.act fun s =>
  s.run k (wordR 0x38 rd ra rb 6) (rd.val = 0 && rb.val = 0) false (fun s =>
    let t := (s.gr k ra).toNat % 256
    s.holdOr k (.sev t) (fun s => s.afterStores k (.sev t) (fun s => s.sev k t)) (fun s => s.skip k))

/-- TMARM (R241, R282): sets the target and clears TIMER. -/
def execTmarm (k : Nat) (rd ra rb : Fin 32) (s : State) : Outcome State Fault Refusal := s.act fun s =>
  s.run k (wordR 0x38 rd ra rb 7) (rd.val = 0 && rb.val = 0) true (fun s =>
    let x := s.ctx k
    let s := s.setCtx k { x with timer := some (s.gr k ra).toNat, armed := s.vn, events := putBits x.events 1 1 0 }
    s.skip k)

/-- TMDIS (R241, R282). -/
def execTmdis (k : Nat) (rd ra rb : Fin 32) (s : State) : Outcome State Fault Refusal := s.act fun s =>
  s.run k (wordR 0x38 rd ra rb 8) (rd.val = 0 && ra.val = 0 && rb.val = 0) true (fun s =>
    let s := s.setCtx k { s.ctx k with timer := none }
    s.skip k)

/-- WFE (R239, R283): IMM16[15:10] must be 0, the mask not 0, and on Basecamp only SOFT, TIMER and NOTICE (R292). -/
def execWfe (k : Nat) (rd ra : Fin 32) (imm : BitVec 16) (s : State) : Outcome State Fault Refusal := s.act fun s =>
  let m := imm.toNat
  s.run k (wordI 0x39 rd ra imm) (ra.val = 0 && m / 1024 = 0 && m ≠ 0) (m &&& 0xFF7C = 0) (fun s =>
    let x := s.ctx k
    let got := x.events &&& s.waitMask k m
    if got = 0 then s.await k (.event rd.val m)
    else
      let s := s.setCtx k { x with events := x.events &&& (0xFFFF - got) }
      s.fixed k rd (BitVec.ofNat 64 got))

/-! ### Steps (R254, R255, R284) -/

/-- SBEGIN (R254, R284). -/
def execSbegin (k : Nat) (rd ra rb : Fin 32) (s : State) : Outcome State Fault Refusal := s.act fun s =>
  let w := wordR 0x3A rd ra rb 0
  s.run k w (rd.val = 0 && ra.val = 0 && rb.val = 0) false (fun s =>
    s.noStep k w (
      let x := s.ctx k
      let r : StepRec := { regs := x.regs, pc := x.pc + 4, lines := [], outs := [], takes := [], taken := 0, made := [] }
      (s.setCtx k { x with step := some r }).vary k (resOf [] none)))

/-- SCOMMIT (R255, R284): the commit mark is written; the release engine takes the record. -/
def execScommit (k : Nat) (rd ra rb : Fin 32) (s : State) : Outcome State Fault Refusal := s.act fun s =>
  let w := wordR 0x3A rd ra rb 1
  s.run k w (rd.val = 0 && ra.val = 0 && rb.val = 0) false (fun s =>
    let x := s.ctx k
    match x.step with
    | none => s.raise k 0x10 0 w
    | some r =>
      let s := (s.setCtx k { x with step := none }).bump .DOR_STEPS_COMMITTED (k / 256)
      ({ s with dor := { s.dor with releases := s.dor.releases ++ [(k, r)] } }).vary k (resOf [] none))

/-- SABORT (R255, R284). -/
def execSabort (k : Nat) (rd ra rb : Fin 32) (s : State) : Outcome State Fault Refusal := s.act fun s =>
  let w := wordR 0x3A rd ra rb 2
  s.run k w (rd.val = 0 && ra.val = 0 && rb.val = 0) false (fun s =>
    if s.inStep k then (s.abortStep k).vary k (resOf [] none) else s.raise k 0x10 0 w)

/-! ### System values (R285) -/

/-- The core cycles since a context's core was last reset, at the instruction that has just issued. Basecamp's, for which the spec gives
no cycle of an instruction, counts one per instruction within the volley (DESIGN CHOICE, log entry 134). -/
def Dev.coreCycle (s : Dev) (k : Nat) : Nat :=
  s.cyclesBefore (k / 256) + (if k = 2048 then min 7 (Sparse.get (fun _ => 0) s.dor.issued 256 - 1) else s.cycNow (coreNo k) - 1)

/-- A system value. What the spec does not state (the cluster values of Basecamp) is a free value. -/
def Dev.sysValue (s : Dev) (k name : Nat) : Nat × Dev :=
  let x := s.ctx k
  let (d, s') := s.draw
  if name = 0 then (s.vn, s)
  else if name = 4 then (x.kvEpoch + 256 * b2n x.kvValid, s)
  else if name = 5 then (x.events, s)
  else if name = 6 then (b2n x.step.isSome, s)
  else if name = 2 then (s.coreCycle k, s)
  else if k = 2048 then (d, s')
  else if name = 1 then (k % 256 + k / 256 * 256, s)
  else if name = 3 then (s.slotPhase (k / 256), s)
  else (s.physCore (k / 256) (k % 256 / 8), s)

/-- SYS (R285). -/
def execSys (k : Nat) (rd ra rb : Fin 32) (fn : BitVec 11) (s : State) : Outcome State Fault Refusal := s.act fun s =>
  let n := fn.toNat
  s.run k (wordR 0x3B rd ra rb n) (n % 16 = 0 && n / 16 < 8 && ra.val = 0 && rb.val = 0) true (fun s =>
    let (v, s) := s.sysValue k (n / 16)
    s.fixed k rd (BitVec.ofNat 64 v))

/-- FENCE (R289): the accesses of a thread are made in its program order here, but for those of a committed step that is not yet
released, for which its result waits. -/
def execFence (k : Nat) (rd ra rb : Fin 32) (s : State) : Outcome State Fault Refusal := s.act fun s =>
  s.run k (wordR 0x1E rd ra rb 0) (rd.val = 0 && ra.val = 0 && rb.val = 0) true (fun s =>
    s.vary k { resOf [] none with fence := true })

end Sys2Proof.Machine
end

