-- ==== Sys2Proof/Machine/Crypto.lean ====
section
/-! DEFINITION. The CRY block: security associations (R381 to R384), the forms of protected frames and memory (R385 to
R393), the key store and its Key Port (R394 to R399), and the lanes with their checkers (R379, R380, R407). -/

namespace Sys2Proof.Machine

open Host

/-! ### Security associations (R381, R382) -/

/-- SA entry `i`. -/
def Dev.sa (s : Dev) (i : Nat) : Nat :=
  (List.range 8).foldl (fun a w => a + s.rd .CRY_SA_ENTRY (8 * i + w) * 2 ^ (64 * w)) 0

/-- Set SA entry `i`. -/
def Dev.setSa (s : Dev) (i v : Nat) : Dev :=
  forEach (List.range 8) s (fun s w => s.wr .CRY_SA_ENTRY (8 * i + w) (bits v (64 * w + 63) (64 * w)))

/-- PN of an SA. -/
def saPn (v : Nat) : Nat := bits v 127 64
/-- PROTO: 1 MACSEC, 2 ESP_TRANSPORT, 3 ESP_TUNNEL, 4 TLS13, 5 AEAD. -/
def saProto (v : Nat) : Nat := bits v 21 18
/-- ALG: 0 AES-GCM-128, 1 AES-GCM-256, 2 ChaCha20-Poly1305. -/
def saAlg (v : Nat) : Nat := bits v 23 22
/-- KEY_SLOT. -/
def saSlot (v : Nat) : Nat := bits v 17 0
/-- ID: the SCI, or the SPI in its low half. -/
def saId (v : Nat) : Nat := bits v 191 128
/-- EXT: XPN or ESN. -/
def saExt (v : Nat) : Bool := bit v 25
/-- The owner of an SA, with OWNER_VALID. -/
def saOwner (v : Nat) : Option Nat := if bit v 40 then some (bits v 39 28) else none

/-- Reserved bits and the read-only BITMAP of an SA image read 0 as written. -/
def saMask (v : Nat) : Nat := putBits (putBits (putBits v 511 384 0) 319 288 0) 255 230 0

/-- Set PN of an SA. -/
def Dev.setPn (s : Dev) (i n : Nat) : Dev := s.setSa i (putBits (s.sa i) 127 64 n)

/-- The SA is of ESP. -/
def saEsp (v : Nat) : Bool := saProto v = 2 || saProto v = 3

/-- The checks of an SA write over the entry in force `old`, in order (R382). -/
def saChecks (old v : Nat) : List Bool :=
  [ !bit v 27 || (decide (1 ≤ saProto v) && decide (saProto v ≤ 5)),
    decide (saAlg v ≠ 3) && (decide (saAlg v ≠ 2) || decide (saProto v = 4) || decide (saProto v = 5)),
    (!saExt v || decide (saProto v = 1) || saEsp v)
      && (saExt v || !(decide (saProto v = 1) || saEsp v) || (decide (saPn v < 2 ^ 32) && decide (bits v 383 320 < 2 ^ 32))),
    decide (saSlot v < 0x3F000),
    bit v 24 || !bit old 27 || decide (saSlot old ≠ saSlot v) || decide (saPn old ≤ saPn v),
    !saEsp v || !bit v 26 || (decide (1 ≤ bits v 287 256) && decide (bits v 287 256 ≤ 128)),
    !bit v 63 || decide (bits v 62 41 + 2 < 4194304) ]

/-- Write an SA (R382): the status word, with RESULT and DETAIL. -/
def Dev.saWrite (s : Dev) (i v : Nat) : Dev × Nat :=
  if s.mode = .lockdown then (s, 3)
  else
    let v := saMask v
    match firstFail (saChecks (s.sa i) v) with
    | 0 =>
      let s := s.setSa i v
      ({ s with cry := { s.cry with limited := s.cry.limited.filter (fun j => !decide (j = i)) } }, 0)
    | k => (s, k * 2 ^ 8 + 2)

/-- The origins whose SA writes are accepted (R382). -/
def Dev.saWriter (s : Dev) (o : Origin) : Bool :=
  match o with
  | .bar0 _ => true
  | .basecamp => true
  | .thread c t => s.supervisor c = t
  | _ => o.capsule

/-- The data words of the SA access as a number. -/
def Dev.saData (s : Dev) : Nat :=
  (List.range 8).foldl (fun a w => a + s.rd .CRY_SA_ACC_DATA w * 2 ^ (64 * w)) 0

/-- The effect of a write of CRY_SA_ACC_CTL. -/
def Dev.saAcc (s : Dev) (o : Origin) (v : Nat) : Dev :=
  let i := bits v 17 0
  match bits v 19 18 with
  | 1 =>
    let e := s.sa i
    (forEach (List.range 8) s (fun s w => s.wr .CRY_SA_ACC_DATA w (bits e (64 * w + 63) (64 * w)))).wr .CRY_SA_ACC_STATUS 0 0
  | 2 =>
    if s.saWriter o then
      let (s, r) := s.saWrite i s.saData
      s.wr .CRY_SA_ACC_STATUS 0 r
    else s.bump .CRY_SA_FOREIGN_WRITE 0
  | _ => s

/-- SA_READ (R382). -/
def execSaRead (o : Origin) (index : Nat) (s : State) : Outcome State Fault Refusal := s.act fun s =>
  if 262144 ≤ index then .fault .noSuchObject
  else
    let v := index + 2 ^ 18
    .next (s.regWrite o .CRY_SA_ACC_CTL 0 4 v fun s => s.saAcc o v)

/-- SA_WRITE (R382). -/
def execSaWrite (o : Origin) (index : Nat) (s : State) : Outcome State Fault Refusal := s.act fun s =>
  if 262144 ≤ index then .fault .noSuchObject
  else
    let v := index + 2 ^ 19
    .next (s.regWrite o .CRY_SA_ACC_CTL 0 4 v fun s => s.saAcc o v)

/-! ### The key store (R394 to R396) -/

/-- A key slot's 64 bytes as a number, byte 0 lowest. -/
def Dev.slotKey (s : Dev) (i : Nat) : Nat := Sparse.get (fun _ => 0) s.cry.slots i

/-- TYPE of a key slot. -/
def Dev.slotType (s : Dev) (i : Nat) : Nat := s.fld .CRY_KEYINFO i 7 0

/-- The owner of a key slot. -/
def Dev.slotOwner (s : Dev) (i : Nat) : Option Nat :=
  if s.fld .CRY_KEYINFO i 20 20 = 1 then some (s.fld .CRY_KEYINFO i 19 8) else none

/-- Write a key slot with its metadata. -/
def Dev.setSlotKey (s : Dev) (i key typ owner ov : Nat) : Dev :=
  { s.wr .CRY_KEYINFO i (typ + owner * 2 ^ 8 + ov * 2 ^ 20 + b2n (decide (0x3F000 ≤ i)) * 2 ^ 21) with
    cry := { s.cry with slots := Sparse.set (fun _ => 0) s.cry.slots i key } }

/-- Empty a key slot. -/
def Dev.eraseSlot (s : Dev) (i : Nat) : Dev := s.setSlotKey i 0 0 0 0

/-- A random key of a TYPE (R395, R398), and the state with the free values it draws. -/
def Dev.randomKey (s : Dev) (typ : Nat) : Nat × Dev :=
  let (a, s) := s.draw
  let (b, s) := s.draw
  let k := match typ with
    | 1 => a % 2 ^ 128 + b % 2 ^ 96 * 2 ^ 256
    | 4 => a % 2 ^ 256 + b % 2 ^ 256 * 2 ^ 256
    | 5 => a % 2 ^ 128 + b % 2 ^ 128 * 2 ^ 256
    | _ => a % 2 ^ 256 + b % 2 ^ 96 * 2 ^ 256
  (k, s)

/-- Generate the memory key of a pitch (R398, R436). -/
def Dev.genMemKey (s : Dev) (p : Nat) : Dev :=
  let (k, s) := s.randomKey 5
  s.setSlotKey (0x3F000 + p) k 5 p 1

/-- The initial value A of a wrapped image, as a number in network order (R399). -/
def wrapIv (typ owner ov : Nat) : Nat :=
  0xA6A6A6A6 * 2 ^ 32 + typ * 2 ^ 24 + (ov * 128 + owner / 256) * 2 ^ 16 + owner % 256 * 2 ^ 8

/-! ### The Key Port (R397, R398) -/

/-- HOLDER_KIND, LINK, CLUSTER and THREAD of a holder. -/
def holderBits : Origin → Nat
  | .bar0 l => 1 * 2 ^ 2 + l * 2 ^ 4
  | .thread c t => 2 * 2 ^ 2 + c * 2 ^ 6 + t * 2 ^ 16
  | _ => 3 * 2 ^ 2

/-- An origin may hold the port: BAR0, Dorut threads and Basecamp. -/
def Origin.mayHold : Origin → Bool
  | .bar0 _ => true
  | .thread .. => true
  | .basecamp => true
  | _ => false

/-- The origin at the port: a capsule's register access is Basecamp's. -/
def Origin.atPort (o : Origin) : Origin := if o.capsule then .basecamp else o

/-- A read of CRY_KEYPORT_LOCK (R397): what it returns, and the port after it. A port that its holder has released is held, by no reader,
until the operation in progress has completed (DEDUCED, log entry 144). -/
def Dev.keyLock (s : Dev) (o : Origin) : Nat × Dev :=
  match s.cry.holder with
  | some (h, _) =>
    if h = o ∧ s.cry.relDue = false then (holderBits h + 3, s) else (holderBits h + 2, s.bump .CRY_KEYPORT_DENIED 0)
  | none => (holderBits o + 3, { s with cry := { s.cry with holder := some (o, s.vn + 25000) } })

/-- Return a word to the reader of a register: a completion for a host, a reply for any other origin. -/
def Dev.readReply (s : Dev) (o : Origin) (width v : Nat) : Dev :=
  match o with
  | .bar0 l => s.sendOnLink l (.hostCpl l true (leBytes width v))
  | .bar2 l _ => s.sendOnLink l (.hostCpl l true (leBytes width v))
  | _ => s.emit (.reply 0 [v])

/-- KEYPORT_ACQUIRE (R397): a read of CRY_KEYPORT_LOCK. An origin that cannot reach the window reads nothing. -/
def execKeyportAcquire (o : Origin) (s : State) : Outcome State Fault Refusal := s.act fun s =>
  if s.clocked 0xB = false ∨ s.hears o = false then .next (s.readReply o 4 0)
  else if o.atPort.mayHold then .next ((s.keyLock o.atPort).2.readReply o 4 (s.keyLock o.atPort).1) else .next s

/-- The port is free, its DATA zero. -/
def Dev.freePort (s : Dev) : Dev :=
  forEach (List.range 9) { s with cry := { s.cry with holder := none, relDue := false } } (fun s w => s.wr .CRY_KEYPORT_DATA w 0)

/-- Release the port, after the operation in progress if there is one (R397). -/
def Dev.releasePort (s : Dev) : Dev :=
  if s.cry.op.isSome then { s with cry := { s.cry with relDue := true } } else s.freePort

/-- An origin holds the port. -/
def Dev.holds (s : Dev) (o : Origin) : Bool :=
  match s.cry.holder with
  | some (h, _) => h = o.atPort && !s.cry.relDue
  | none => false

/-- The effect of a write of 1 to RELEASE. -/
def Dev.keyRelease (s : Dev) (o : Origin) : Dev :=
  if s.holds o then s.releasePort else s.bump .CRY_KEYPORT_FOREIGN 0

/-- KEYPORT_RELEASE (R397). -/
def execKeyportRelease (o : Origin) (s : State) : Outcome State Fault Refusal := s.act fun s =>
  .next (s.regWrite o .CRY_KEYPORT_LOCK 0 4 (2 ^ 31) fun s => s.keyRelease o)

/-- KEYPORT_TIMEOUT (R397): 25,000 volleys after the grant. -/
def execKeyportTimeout (s : State) : Outcome State Fault Refusal := s.act fun s =>
  match s.cry.holder with
  | none => .next s
  | some (_, v) =>
    if s.vn < v ∨ s.cry.relDue then .next s
    else .next (((s.setFld .CRY_KEYPORT_STATUS 0 3 3 1).bump .CRY_KEYPORT_TIMEOUTS 0).releasePort)

/-- The effect of a write of CRY_KEYPORT_CTL (R398): the holder's starts an operation; one that comes while another runs
has no effect. -/
def Dev.keyCtl (s : Dev) (o : Origin) (v : Nat) : Dev :=
  if s.holds o = false then s.bump .CRY_KEYPORT_FOREIGN 0
  else if s.cry.op.isSome ∨ bits v 20 18 = 0 ∨ 3 < bits v 20 18 then s
  else
    let s := (s.setFld .CRY_KEYPORT_STATUS 0 31 16 (bits v 63 48)).setFld .CRY_KEYPORT_STATUS 0 2 2 1
    { s with cry := { s.cry with op := some (v, o) } }

/-- The value of CRY_KEYPORT_CTL for an operation. -/
def keyCtlWord (op slot typ owner : Nat) (ownerValid : Bool) (tag : Nat) : Nat :=
  slot % 2 ^ 18 + op * 2 ^ 18 + typ % 256 * 2 ^ 24 + owner % 4096 * 2 ^ 32 + b2n ownerValid * 2 ^ 44 + tag % 2 ^ 16 * 2 ^ 48

/-- The common form of the commands that write CRY_KEYPORT_CTL. -/
def Dev.keyStart (s : Dev) (o : Origin) (v : Nat) : Outcome Dev Fault Refusal :=
  .next (s.regWrite o .CRY_KEYPORT_CTL 0 8 v fun s => s.keyCtl o v)

/-- KEYPORT_LOAD (R398). -/
def execKeyportLoad (o : Origin) (slot typ owner : Nat) (ownerValid : Bool) (tag : Nat) (s : State) :
    Outcome State Fault Refusal := s.act fun s => s.keyStart o (keyCtlWord 1 slot typ owner ownerValid tag)
/-- KEYPORT_ERASE (R398). -/
def execKeyportErase (o : Origin) (slot tag : Nat) (s : State) : Outcome State Fault Refusal := s.act fun s =>
  s.keyStart o (keyCtlWord 2 slot 0 0 false tag)
/-- KEYPORT_GENERATE (R398). -/
def execKeyportGenerate (o : Origin) (slot typ owner : Nat) (ownerValid : Bool) (tag : Nat) (s : State) :
    Outcome State Fault Refusal := s.act fun s => s.keyStart o (keyCtlWord 3 slot typ owner ownerValid tag)

/-- The wrapped image in DATA. -/
def Dev.keyData (s : Dev) : List Byte := (List.range 9).flatMap (fun w => leBytes 8 (s.rd .CRY_KEYPORT_DATA w))

/-- Place a wrapped image in DATA. -/
def Dev.putKeyData (s : Dev) (bs : List Byte) : Dev :=
  forEach (List.range 9) s (fun s w => s.wr .CRY_KEYPORT_DATA w (leNat ((bs.drop (8 * w)).take 8)))

/-- A Key Port operation (R398): the state after and RESULT (0 OK, 1 BAD_SLOT, 2 BAD_TYPE, 3 UNWRAP_FAIL, 4 NO_KEK, 5
REFUSED). Where several outcomes apply, REFUSED comes first and then the order of R398, with NO_KEK before UNWRAP_FAIL
(DESIGN CHOICE, log entry 28). `img` is the wrapped image of a LOAD. -/
def Dev.keyRun (s : Dev) (o : Origin) (v : Nat) (img : List Byte) : Dev × Nat :=
  let i := bits v 17 0
  let typ := bits v 31 24
  let owner := bits v 43 32
  let ov := bits v 44 44
  let mem := decide (0x3F000 ≤ i)
  let privileged : Bool := match o with | .bar0 _ => true | .basecamp => true | _ => false
  if s.mode = .lockdown ∨ s.cry.erasing then (s, 5)
  else match bits v 20 18 with
    | 1 =>
      if mem then (s, 1)
      else if typ = 0 ∨ 4 < typ then (s, 2)
      else match s.cry.kek with
        | none => (s, 4)
        | some k => match Config.keyUnwrap k (wrapIv typ owner ov) img with
          | some bs => ((s.setSlotKey i (leNat (bs.take 64)) typ owner ov).bump .CRY_KEYPORT_LOADS 0, 0)
          | none => (s, 3)
    | 2 => (s.eraseSlot i, 0)
    | _ =>
      if mem ∧ privileged = false then (s, 1)
      else if (mem ∧ typ ≠ 5) ∨ (mem = false ∧ (typ = 0 ∨ 4 < typ)) then (s, 2)
      else match s.cry.kek with
        | none => (s, 4)
        | some k =>
          let (key, s) := s.randomKey typ
          let s := s.setSlotKey i key typ owner ov
          (if mem then s else s.putKeyData (Config.keyWrap k (wrapIv typ owner ov) (leBytes 64 key)), 0)

/-- The operation in progress ends with a RESULT. -/
def Dev.keyEnd (s : Dev) (r : Nat) : Dev :=
  let s := (s.setFld .CRY_KEYPORT_STATUS 0 7 4 r).setFld .CRY_KEYPORT_STATUS 0 2 2 0
  let s := { s with cry := { s.cry with op := none } }
  if s.cry.relDue then s.freePort else s

/-- KEYPORT_OP_DONE (R398). -/
def execKeyportOpDone (s : State) : Outcome State Fault Refusal := s.act fun s =>
  match s.cry.op with
  | none => .next s
  | some (v, o) => .next ((s.keyRun o v s.keyData).1.keyEnd (s.keyRun o v s.keyData).2)

/-! ### Use of an SA (R383, R384, R389) -/

/-- The TYPE that an ALG asks for. -/
def algType (alg : Nat) : Nat := alg + 1

/-- Why an SA cannot be used (R383), if it cannot: the frame counter and the item status. -/
def Dev.saBar (s : Dev) (v : Nat) (opening : Bool) (pitch : Option Nat) (admin : Bool) : Option (Reg × Nat) :=
  let foreign := match saOwner v with
    | none => false
    | some p => !admin && decide (pitch ≠ some p)
  if bit v 27 = false ∨ bit v 24 ≠ opening then some (.CRY_SA_INVALID_DROP, 0x400)
  else if foreign then some (.CRY_SA_FOREIGN_DROP, 0x401)
  else if s.slotType (saSlot v) = 0 then some (.CRY_KEY_EMPTY_DROP, 0x402)
  else if s.slotType (saSlot v) ≠ algType (saAlg v) then some (.CRY_KEY_EMPTY_DROP, 0x403)
  else none

/-- The number `n` may be used by a protect (R384). -/
def pnOk (v n : Nat) : Bool := decide (n < bits v 383 320) && decide (n < (if saExt v then 2 ^ 64 else 2 ^ 32))

/-- A refusal of R384: the first after each SA write is logged. -/
def Dev.pnRefused (s : Dev) (i : Nat) : Dev :=
  if s.cry.limited.contains i then s
  else
    let e := s.vn % 2 ^ 32 * 2 ^ 32 + 2 ^ 31 + i
    { s with cry := { s.cry with limited := s.cry.limited ++ [i]
                                 limitLog := if s.cry.limitLog.length < 64 then s.cry.limitLog ++ [e] else s.cry.limitLog } }

/-- The counter pair of an SA (R389): `k` 0 success, 1 authentication failed, 2 replayed. -/
def Dev.saCount (s : Dev) (v k len : Nat) : Dev :=
  if bit v 63 then s.ctrAdd (bits v 62 41 + k) 1 len else s

/-! ### MACsec (R385) -/

/-- Bytes 32 to 43 of a key slot: the salt or IV. -/
def slotSalt (key : Nat) : Nat := beNat (((leBytes 64 key).drop 32).take 12)

/-- The ESP salt: bytes 32 to 35. -/
def slotSalt4 (key : Nat) : Nat := beNat (((leBytes 64 key).drop 32).take 4)

/-- The key of an SA's algorithm: bytes 0 to 31 of the slot. -/
def slotAead (key : Nat) : Nat := key % 2 ^ 256

/-- The MACsec nonce. -/
def macNonce (v key n : Nat) : Nat :=
  if saExt v then Nat.xor (bits v 223 192 * 2 ^ 64 + n) (slotSalt key) else saId v * 2 ^ 32 + n % 2 ^ 32

/-- The SecTAG for number `n` and secure data of `len` bytes. -/
def secTag (v n len : Nat) : List Byte :=
  let tci := bits v 227 227 * 64 + bits v 226 226 * 32 + bits v 228 228 * 16 + bits v 229 229 * 12 + bits v 225 224
  beBytes 2 0x88E5 ++ beBytes 1 tci ++ beBytes 1 (if len < 48 then len else 0) ++ beBytes 4 (n % 2 ^ 32)
    ++ (if bit v 226 then beBytes 8 (saId v) else [])

/-- Protect a frame under MACsec. -/
def protectMac (v key n : Nat) (bs : List Byte) : List Byte :=
  let data := bs.drop 12
  let hdr := bs.take 12 ++ secTag v n data.length
  if bit v 229 then
    let (ct, icv) := Config.aeadSeal (saAlg v) (slotAead key) (macNonce v key n) hdr data
    hdr ++ ct ++ icv
  else
    let (_, icv) := Config.aeadSeal (saAlg v) (slotAead key) (macNonce v key n) (hdr ++ data) []
    hdr ++ data ++ icv

/-- The upper half of a received number (R388; RFC 4303 Appendix A): `pn` the highest accepted, `w` the window. -/
def inferNumber (ext : Bool) (pn w low : Nat) : Nat :=
  if ext = false then low
  else
    let tl := pn % 2 ^ 32
    let th := pn / 2 ^ 32
    let hi := if w ≤ tl + 1 then (if tl + 1 - w ≤ low then th else th + 1)
      else (if tl + 1 + 2 ^ 32 - w ≤ low then th + 2 ^ 32 - 1 else th)
    hi % 2 ^ 32 * 2 ^ 32 + low

/-- Open a MACsec frame (R385, R388): its number and plain bytes, or the counter of the first check that fails. `pn` is the
highest number accepted so far. -/
def openMac (v key pn : Nat) (bs : List Byte) : Except Reg (Nat × List Byte) :=
  let tci := (bs.getD 14 0).toNat
  let sl := (bs.getD 15 0).toNat
  let sc := bit tci 5
  let h := if sc then 28 else 20
  if bs.length < h + 16 ∨ word16 bs 12 ≠ 0x88E5 ∨ bit tci 7 then .error .CRY_FORMAT_DROP
  else if (sc ∧ beNat ((bs.drop 20).take 8) ≠ saId v) ∨ tci % 4 ≠ bits v 225 224 then .error .CRY_SA_MISMATCH
  else
    let n := inferNumber (saExt v) pn (bits v 287 256) (beNat ((bs.drop 16).take 4))
    let rest := bs.drop h
    let len := if sl = 0 then rest.length - 16 else min sl (rest.length - 16)
    let data := rest.take len
    let icv := (rest.drop len).take 16
    let hdr := bs.take h
    if bit tci 3 then
      match Config.aeadOpen (saAlg v) (slotAead key) (macNonce v key n) hdr data icv with
      | some p => .ok (n, bs.take 12 ++ p)
      | none => .error .CRY_AUTH_FAIL
    else
      match Config.aeadOpen (saAlg v) (slotAead key) (macNonce v key n) (hdr ++ data) [] icv with
      | some _ => .ok (n, bs.take 12 ++ data)
      | none => .error .CRY_AUTH_FAIL

/-! ### ESP (R386) -/

/-- The length of an IP header at `off`; kind 2 is IPv4, 3 is IPv6. -/
def ipHeaderLen (bs : List Byte) (off kind : Nat) : Nat := if kind = 2 then 4 * ((bs.getD off 0).toNat % 16) else 40

/-- The bytes of an IP packet behind its header, as its length field gives them. -/
def ipBody (bs : List Byte) (off kind : Nat) : List Byte :=
  let h := ipHeaderLen bs off kind
  let n := if kind = 2 then word16 bs (off + 2) - h else word16 bs (off + 4)
  (bs.drop (off + h)).take n

/-- The protocol an IP header names. -/
def ipProto (bs : List Byte) (off kind : Nat) : Nat := (bs.getD (off + (if kind = 2 then 9 else 6)) 0).toNat

/-- Rewrite the length, the protocol and the IPv4 checksum of an IP header whose packet ends the frame. -/
def fixIp (bs : List Byte) (off kind proto : Nat) : List Byte :=
  if kind = 2 then
    let a := setWord16 (putBytes (setWord16 bs (off + 2) (bs.length - off)) (off + 9) (beBytes 1 proto)) (off + 10) 0
    setWord16 a (off + 10) (csum16 ((a.drop off).take (ipHeaderLen a off 2)))
  else putBytes (setWord16 bs (off + 4) (bs.length - off - 40)) (off + 6) (beBytes 1 proto)

/-- The ESP additional data: SPI and number, with its high half under ESN. -/
def espAad (v n : Nat) : List Byte :=
  beBytes 4 (saId v) ++ (if saExt v then beBytes 4 (n / 2 ^ 32) else []) ++ beBytes 4 (n % 2 ^ 32)

/-- Protect a frame under ESP behind the IP header at `off`, with Next Header `nh`. -/
def protectEsp (v key n : Nat) (bs : List Byte) (off kind nh : Nat) : List Byte :=
  let h := off + ipHeaderLen bs off kind
  let pl := ipBody bs off kind
  let pad := (4 - (pl.length + 2) % 4) % 4
  let pt := pl ++ (List.range pad).flatMap (fun j => beBytes 1 (j + 1)) ++ beBytes 1 pad ++ beBytes 1 nh
  let (ct, icv) := Config.aeadSeal (saAlg v) (slotAead key) (slotSalt4 key * 2 ^ 64 + n) (espAad v n) pt
  fixIp (bs.take h ++ beBytes 4 (saId v) ++ beBytes 4 (n % 2 ^ 32) ++ beBytes 8 n ++ ct ++ icv) off kind 50

/-- Open an ESP frame (R386, R388). -/
def openEsp (v key pn : Nat) (bs : List Byte) (off kind : Nat) : Except Reg (Nat × List Byte) :=
  let h := off + ipHeaderLen bs off kind
  let body := ipBody bs off kind
  if ipProto bs off kind ≠ 50 ∨ body.length < 34 then .error .CRY_FORMAT_DROP
  else if beNat (body.take 4) ≠ saId v % 2 ^ 32 then .error .CRY_SA_MISMATCH
  else
    let n := inferNumber (saExt v) pn (bits v 287 256) (beNat ((body.drop 4).take 4))
    let iv := beNat ((body.drop 8).take 8)
    let ct := (body.drop 16).take (body.length - 32)
    match Config.aeadOpen (saAlg v) (slotAead key) (slotSalt4 key * 2 ^ 64 + iv) (espAad v n) ct (body.drop (body.length - 16)) with
    | none => .error .CRY_AUTH_FAIL
    | some p =>
      let nh := (p.getD (p.length - 1) 0).toNat
      let pad := (p.getD (p.length - 2) 0).toNat
      .ok (n, fixIp (bs.take h ++ p.take (p.length - 2 - pad)) off kind nh)

/-! ### TLS 1.3 (R387) -/

/-- The lengths of the whole records that a payload consists of; nothing when it does not. -/
def tlsRecords : Nat → List Byte → Option (List Nat)
  | _, [] => some []
  | 0, _ => none
  | k + 1, bs =>
    let len := word16 bs 3
    if (bs.getD 0 0).toNat = 0x17 ∧ word16 bs 1 = 0x0303 ∧ 16 ≤ len ∧ 5 + len ≤ bs.length then
      (tlsRecords k (bs.drop (5 + len))).map (len :: ·)
    else none

/-- The nonce of record number `n`. -/
def tlsNonce (key n : Nat) : Nat := Nat.xor (slotSalt key) n

/-- Seal the records of a payload in place, numbered from `n`. -/
def tlsSeal (v key : Nat) : Nat → List Nat → List Byte → List Byte
  | _, [], _ => []
  | n, len :: ls, bs =>
    let hdr := bs.take 5
    let (ct, tag) := Config.aeadSeal (saAlg v) (slotAead key) (tlsNonce key n) hdr ((bs.drop 5).take (len - 16))
    hdr ++ ct ++ tag ++ tlsSeal v key (n + 1) ls (bs.drop (5 + len))

/-- The place of the TCP payload behind an IP and a TCP header: both headers, the payload's offset and its end. -/
def Frame.tcpPayload (x : Frame) : Option (PStep × PStep) → Option (PStep × PStep × Nat × Nat)
  | none => none
  | some (ip, t) =>
    if t.kind ≠ 5 ∨ x.fragment ip then none
    else
      let h := ip.off + ipHeaderLen x.bytes ip.off ip.kind
      let o := t.off + 4 * ((x.bytes.getD (t.off + 12) 0).toNat / 16)
      some (ip, t, o, h + (ipBody x.bytes ip.off ip.kind).length)

/-- The first TCP header of a frame and the IP header before it, as the frame stands. -/
def Frame.tcpHeaders (x : Frame) : Option (PStep × PStep) :=
  match firstIp (x.steps.takeWhile (fun p => !(p.kind = 5))).reverse, x.steps.find? (fun p => p.kind = 5) with
  | some ip, some t => some (ip, t)
  | _, _ => none

/-- Recompute the TCP checksum of a segment that ends at `e`. -/
def tcpChecksum (bs : List Byte) (ip t : PStep) (e : Nat) : List Byte :=
  let bs := setWord16 bs (t.off + 16) 0
  let seg := (bs.drop t.off).take (e - t.off)
  let addrs := if ip.kind = 2 then (bs.drop (ip.off + 12)).take 8 else (bs.drop (ip.off + 8)).take 32
  setWord16 bs (t.off + 16) (csum16 (addrs ++ beBytes 4 6 ++ beBytes 4 seg.length ++ seg))

/-- Protect the records of a TLS segment. -/
def protectTls (v key n : Nat) (x : Frame) : List Byte :=
  match x.tcpPayload x.tcpHeaders with
  | none => x.bytes
  | some (ip, t, o, e) =>
    let pl := (x.bytes.drop o).take (e - o)
    match tlsRecords pl.length pl with
    | none => x.bytes
    | some ls => tcpChecksum (putBytes x.bytes o (tlsSeal v key n ls pl)) ip t e

/-! ### Dispatch of frames (R379, R383, R384, R387) -/

/-- The IP header that ESP protects behind: the first of the frame as it stands after ENCAP, the template's outer header with one
(R386). -/
def Frame.espHeader (x : Frame) : Option PStep := firstIp x.steps

/-- The Next Header that ESP writes (R386): in tunnel mode 4 or 41, by the IP header behind the outer one; otherwise the protocol that
the IP header names. -/
def Frame.nextHeader (x : Frame) (tunnel : Bool) (ip : PStep) : Nat :=
  match tunnel, firstIp (x.steps.filter (fun p => decide (ip.off < p.off))) with
  | true, some p => if p.kind = 2 then 4 else 41
  | _, _ => ipProto x.bytes ip.off ip.kind

/-- The number of records of a TLS segment whose sequence number is AUX and whose payload is whole records; nothing otherwise
(R387). -/
def tlsFrame (v : Nat) (x : Frame) : Option (Nat × Nat) :=
  match x.tcpPayload x.tcpHeaders with
  | none => none
  | some (_, t, o, e) =>
    if beNat ((x.bytes.drop (t.off + 4)).take 4) ≠ bits v 223 192 then none
    else
      let pl := (x.bytes.drop o).take (e - o)
      (tlsRecords pl.length pl).map (fun ls => (ls.length, pl.length))

/-- The frame is to be protected; otherwise it is to be opened. -/
def Frame.protects (x : Frame) : Bool := x.queue / 8 ≠ 40

/-- A frame or item in a lane is this one. -/
def Dev.inLane (s : Dev) (f : Nat) : Bool := s.cry.jobs.any (fun j => j.frame = some f)

/-- The bytes queued in a logical lane. -/
def Dev.laneLoad (s : Dev) (l : Nat) : Nat :=
  sumNat ((s.cry.jobs.filter (fun j => j.lane = l)).map (fun j => match j.frame with
    | some f => (match s.frame f with | some x => x.bytes.length | none => 0)
    | none => (s.buf j.item).length))

/-- The unit that serves a logical lane. -/
def Dev.laneUnit (s : Dev) (l : Nat) : Nat := unitId 0x0B 0 (s.fld .REF_MAP (0x110 + l) 7 0)

/-- The logical lanes that take work: those whose position is served by a unit that is not fenced. -/
def Dev.lanesOpen (s : Dev) : List Nat :=
  (List.range 16).filter (fun l => decide (s.fld .REF_MAP (0x110 + l) 17 17 = 0) && !s.isFenced (s.laneUnit l))

/-- The lane with the fewest bytes queued, lowest first on a tie (R379). -/
def Dev.lanePick (s : Dev) : Option Nat :=
  s.lanesOpen.foldl (fun (b : Option Nat) l => match b with
    | none => some l
    | some m => if s.laneLoad l < s.laneLoad m then some l else some m) none

/-- Put a job into a lane. -/
def Dev.addJob (s : Dev) (j : Job) : Dev := { s with cry := { s.cry with jobs := s.cry.jobs ++ [j] } }

/-- A frame is dropped by the crypto complex. -/
def Dev.cryDrop (s : Dev) (r : Reg) (f : Nat) : Dev := (s.bump r 0).loseFrame f

/-- The numbers a protected frame takes, and AUX after it; or the counter of its drop. -/
def Frame.numbers (x : Frame) (v : Nat) : Except Reg (Nat × Nat) :=
  match saProto v with
  | 1 => .ok (1, bits v 223 192)
  | 2 => if x.espHeader.isSome then .ok (1, bits v 223 192) else .error .CRY_FORMAT_DROP
  | 3 => if actEncap x.action ∧ x.espHeader.isSome then .ok (1, bits v 223 192) else .error .CRY_FORMAT_DROP
  | 4 => match tlsFrame v x with
    | some (n, len) => .ok (n, (bits v 223 192 + len) % 2 ^ 32)
    | none => .error .CRY_TLS_SEQ_DROP
  | _ => .error .CRY_FORMAT_DROP

/-- Dispatch a frame that is to be protected to lane `l`. -/
def Dev.dispatchProtect (s : Dev) (f : Nat) (x : Frame) (l : Nat) : Dev :=
  let v := s.sa x.tag
  match s.saBar v false x.pitch false with
  | some (r, _) => s.cryDrop r f
  | none =>
    match x.numbers v with
    | .error r => s.cryDrop r f
    | .ok (n, aux) =>
      let pn := saPn v
      if n ≠ 0 ∧ pnOk v (pn + n - 1) = false then (s.pnRefused x.tag).cryDrop .CRY_PN_EXHAUSTED f
      else
        let s := s.setSa x.tag (putBits (putBits v 127 64 (pn + n)) 223 192 aux)
        s.addJob { frame := some f, item := ⟨0, 0⟩, sa := x.tag, img := v, key := s.slotKey (saSlot v), num := pn, lane := l }

/-- Dispatch a frame that is to be opened (R388 check 1, R387). -/
def Dev.dispatchOpen (s : Dev) (f : Nat) (x : Frame) (l : Nat) : Dev :=
  let v := s.sa x.tag
  match s.saBar v true x.pitch false with
  | some (r, _) => s.cryDrop r f
  | none => s.addJob { frame := some f, item := ⟨0, 0⟩, sa := x.tag, img := v, key := s.slotKey (saSlot v), num := 0, lane := l }

/-- The frame is the next of its SA: it is to be protected, or opened, and no frame of the same SA and way that reached the complex before
it waits (R379). -/
def Dev.cryFirst (s : Dev) (f : Nat) (x : Frame) : Bool :=
  s.cry.arrived.find? (fun g => match s.frame g with
    | some y => decide (y.loc = .crypto) && decide (y.tag = x.tag) && decide (y.protects = x.protects)
    | none => false) = some f

/-- A frame is dispatched, or dropped in place of it: it waits no more. -/
def Dev.leaveArrived (s : Dev) (f : Nat) : Dev :=
  { s with cry := { s.cry with arrived := s.cry.arrived.filter (fun g => g ≠ f && (s.frame g).isSome) } }

/-! ### Dispatch of items (R390, R391) -/

/-- The opcode of an XFORM item. -/
def Item.op (x : Item) : Nat := descBits x.desc 7 0
/-- KEY. -/
def Item.key (x : Item) : Nat := descBits x.desc 241 224
/-- IV. -/
def Item.iv (x : Item) : Nat := descBits x.desc 383 256
/-- SEQ_EXPLICIT. -/
def Item.explicit (x : Item) : Bool := bit (leNat x.desc) 400

/-- An XFORM item is dispatched under a key slot of XTS: its status when it fails (R391). -/
def Dev.xtsBar (s : Dev) (x : Item) (pitch : Option Nat) (admin : Bool) : Nat :=
  let foreign := match s.slotOwner x.key with
    | none => false
    | some p => !admin && decide (pitch ≠ some p)
  if foreign then 0x401
  else if s.slotType x.key = 0 then 0x402
  else if s.slotType x.key ≠ 4 then 0x403
  else 0

/-- The item is of AES-XTS. -/
def Item.xts (x : Item) : Bool := x.op = 3 || x.op = 4

/-- The PROTO that an opcode asks for; one of another PROTO does not fit the operation (SA_INVALID; DESIGN CHOICE, log entry
29). -/
def opProto (op : Nat) : Nat := if op = 5 ∨ op = 6 then 4 else 5

/-- The status of an item whose SA cannot be used, or 0. -/
def Dev.itemBar (s : Dev) (x : Item) (v : Nat) (pitch : Option Nat) (admin : Bool) : Nat :=
  match s.saBar v (decide (x.op = 2) || decide (x.op = 6)) pitch admin with
  | some (r, c) => if r = .CRY_SA_INVALID_DROP then c else if saProto v ≠ opProto x.op then 0x400 else c
  | none => if saProto v ≠ opProto x.op then 0x400 else 0

/-- Dispatch an XFORM item whose source has been read. -/
def Dev.dispatchItem (s : Dev) (r : ItemRef) (x : Item) (l : Nat) : Dev :=
  let g := s.ring r.ring
  let admin := decide (g.loc = 1)
  let fail := fun (s : Dev) (c : Nat) => (s.setBuf r []).releaseWith r c 0 0
  if x.xts then
    match s.xtsBar x g.owner admin with
    | 0 => s.addJob { frame := none, item := r, sa := 262144, img := 0, key := s.slotKey x.key, num := 0, lane := l }
    | c => fail s c
  else
    let v := s.sa x.key
    match s.itemBar x v g.owner admin with
    | 0 =>
      let j : Job := { frame := none, item := r, sa := x.key, img := v, key := s.slotKey (saSlot v), num := x.iv, lane := l }
      if x.op = 5 ∧ x.explicit = false then
        if pnOk v (saPn v) then (s.setPn x.key (saPn v + 1)).addJob { j with num := saPn v }
        else fail (s.pnRefused x.key) 0x404
      else s.addJob (if x.op = 5 ∨ x.op = 6 then { j with num := x.iv % 2 ^ 64 } else j)
    | c => fail s c

/-- An XFORM item waits for a lane. -/
def Dev.itemReady (s : Dev) (r : ItemRef) (x : Item) : Bool :=
  x.kind = 3 && x.stage = 1 && x.busy && !s.cry.jobs.any (fun j => j.frame = none && j.item = r)

/-- CRYPTO_DISPATCH (R379): a frame, or the XFORM item `item` when one is named, goes to the active lane with the fewest
bytes queued. While an alarm erases the keys nothing is dispatched (R405). -/
def execCryptoDispatch (frame : Nat) (item : Option ItemRef) (s : State) : Outcome State Fault Refusal := s.flow fun s =>
  match s.cry.erasing, s.lanePick, item with
  | true, _, _ => .next s
  | _, none, _ => .next s
  | _, some l, some r =>
    match s.item r with
    | some x => .next (if s.itemReady r x then s.dispatchItem r x l else s)
    | none => .next s
  | _, some l, none =>
    match s.frame frame with
    | some x =>
      if x.loc = .crypto ∧ s.inLane frame = false ∧ s.cryFirst frame x then
        let s := s.leaveArrived frame
        .next (if x.protects then s.dispatchProtect frame x l else s.dispatchOpen frame x l)
      else .next s
    | none => .next s

/-! ### Output of lanes (R380, R388, R392, R393, R407) -/

/-- The job leaves its lane. -/
def Dev.endJob (s : Dev) (j : Job) : Dev := { s with cry := { s.cry with jobs := s.cry.jobs.filter (fun k => !decide (k = j)) } }

/-- The next job of a lane, when it is the oldest of its SA. -/
def Dev.laneHead (s : Dev) (l : Nat) : Option Job :=
  match s.cry.jobs.find? (fun j => j.lane = l) with
  | none => none
  | some j => if j.sa = 262144 ∨ s.cry.jobs.find? (fun k => k.sa = j.sa) = some j then some j else none

/-- The bytes of a protected frame. -/
def Frame.protectedBytes (x : Frame) (j : Job) : List Byte :=
  match saProto j.img with
  | 1 => protectMac j.img j.key j.num x.bytes
  | 4 => protectTls j.img j.key j.num x
  | p => match x.espHeader with
    | some ip => protectEsp j.img j.key j.num x.bytes ip.off ip.kind (x.nextHeader (decide (p = 3)) ip)
    | none => x.bytes

/-- A protected frame goes on to its scheduler queue (R380). -/
def Dev.frameSealed (s : Dev) (j : Job) (f : Nat) (x : Frame) : Dev :=
  (s.saCount j.img 0 x.bytes.length).setFrame f
    { x with bytes := x.protectedBytes j, loc := .queue x.queue, ready := true, encrypted := true }

/-- Open a frame by its SA. -/
def openFrame (v key pn : Nat) (x : Frame) : Except Reg (Nat × List Byte) :=
  match saProto v with
  | 1 => openMac v key pn x.bytes
  | 2 => match firstIp x.steps with
    | some p => openEsp v key pn x.bytes p.off p.kind
    | none => .error .CRY_FORMAT_DROP
  | 3 => match firstIp x.steps with
    | some p => openEsp v key pn x.bytes p.off p.kind
    | none => .error .CRY_FORMAT_DROP
  | _ => .error .CRY_FORMAT_DROP

/-- The replay check of a number (R388). Bit j of BITMAP stands for number PN − j (DESIGN CHOICE, log entry 30). -/
def replayOk (v n : Nat) : Bool :=
  let pn := saPn v
  let w := bits v 287 256
  if saProto v = 1 then decide (pn + 1 - w ≤ n)
  else decide (pn < n) || (decide (n < pn) && decide (pn - n < w) && !bit (bits v 511 384) (pn - n))

/-- The SA after a number is accepted (R388). -/
def replayTake (v n : Nat) : Nat :=
  let pn := saPn v
  let m := bits v 511 384
  let v := if saEsp v then
      putBits v 511 384 (if pn < n then (if n - pn < 128 then m * 2 ^ (n - pn) + 1 else 1) else m ||| 2 ^ (pn - n))
    else v
  if pn < n then putBits v 127 64 n else v

/-- An opened frame goes back to the parser (R380). -/
def Dev.reparse (s : Dev) (j : Job) (f : Nat) (x : Frame) (bs : List Byte) : Dev :=
  let pitch := match x.pitch with | some p => some p | none => saOwner j.img
  s.moveFrame f { x with bytes := bs, inPort := 0x30, pitch := pitch, ready := false, tag := j.sa } .frontEnd

/-- A frame to be opened leaves its lane (R388, R389). -/
def Dev.frameOpened (s : Dev) (j : Job) (f : Nat) (x : Frame) : Dev :=
  let now := s.sa j.sa
  let len := x.bytes.length
  match openFrame j.img j.key (saPn now) x with
  | .error r => (if r = .CRY_AUTH_FAIL then s.saCount j.img 1 len else s).cryDrop r f
  | .ok (n, bs) =>
    if bit j.img 26 ∧ replayOk now n = false then (s.saCount j.img 2 len).cryDrop .CRY_REPLAY_DROP f
    else ((s.setSa j.sa (replayTake now n)).saCount j.img 0 len).reparse j f x bs

/-- The output of an XFORM item: the bytes to write and whether the tag verified. -/
def xformOut (j : Job) (x : Item) (src : List Byte) (n : Nat) : List Byte × Bool :=
  let aad := src.take (descBits x.desc 396 384)
  let body := src.drop (descBits x.desc 396 384)
  let key := slotAead j.key
  match x.op with
  | 1 =>
    let (ct, tag) := Config.aeadSeal (saAlg j.img) key (x.iv % 2 ^ 96) aad body
    (aad ++ ct ++ tag, true)
  | 2 =>
    match Config.aeadOpen (saAlg j.img) key (x.iv % 2 ^ 96) aad (body.take (body.length - 16)) (body.drop (body.length - 16)) with
    | some p => (aad ++ p, true)
    | none => (List.replicate (src.length - 16) 0, false)
  | 3 => (Config.xts true j.key x.iv (512 * 2 ^ descBits x.desc 399 397) src, true)
  | 4 => (Config.xts false j.key x.iv (512 * 2 ^ descBits x.desc 399 397) src, true)
  | 5 =>
    let hdr := beBytes 3 0x170303 ++ beBytes 2 (src.length + 16)
    let (ct, tag) := Config.aeadSeal (saAlg j.img) key (tlsNonce j.key n) hdr src
    (hdr ++ ct ++ tag, true)
  | _ =>
    let b := src.drop 5
    match Config.aeadOpen (saAlg j.img) key (tlsNonce j.key n) (src.take 5) (b.take (b.length - 16)) (b.drop (b.length - 16)) with
    | some p => (p, true)
    | none => (List.replicate (src.length - 21) 0, false)

/-- Write the output of an XFORM item; its completion follows the proof that the writes arrived (R392, R393). Of an opening whose tag does
not verify only the zeros are written, not the plaintext that they overwrite (DESIGN CHOICE, log entry 145). -/
def Dev.xformWrite (s : Dev) (r : ItemRef) (x : Item) (out : List Byte) (entry : Nat) : Dev :=
  let dst := descBits x.desc 223 160
  let s := (s.setBuf r []).setItem r (some { x with result := entry })
  if (s.ring r.ring).loc = 2 then (s.intWrite dst out).release r entry
  else (s.queueWork r true [(dst, out.length, false)] out).queueAssign

/-- An XFORM item leaves its lane (R389, R392, R393). -/
def Dev.itemOut (s : Dev) (j : Job) (r : ItemRef) (x : Item) : Dev :=
  let src := s.buf r
  let tls := decide (x.op = 5) || decide (x.op = 6)
  let n := if x.op = 6 ∧ x.explicit = false then saPn (s.sa j.sa) else j.num
  let (out, good) := xformOut j x src n
  let s := if x.xts then s else s.saCount j.img (b2n (!good)) src.length
  let s := if x.op = 6 ∧ x.explicit = false ∧ good then s.setPn j.sa (n + 1) else s
  let e := itemEntry x (if good then 0 else 0x405) (if good then out.length else 0) (if tls then n else 0)
  s.xformWrite r x out e

/-- The output of a job that has passed its check. -/
def Dev.jobOut (s : Dev) (j : Job) : Dev :=
  match j.frame with
  | some f => match s.frame f with
    | some x => if x.protects then s.frameSealed j f x else s.frameOpened j f x
    | none => s
  | none => match s.item j.item with
    | some x => s.itemOut j j.item x
    | none => s

/-- A second mismatch of the checker (R407, R493). -/
def Dev.jobFault (s : Dev) (j : Job) : Dev :=
  let s := s.whistle 0x0F (s.laneUnit j.lane) 0 1
  match j.frame with
  | some f => s.cryDrop .CRY_CHECK_DROP f
  | none => (s.setBuf j.item []).retryItem j.item

/-- LANE_OUTPUT (R407): the next job of a lane leaves it; `mismatch` counts the checker's mismatches, 0 to 2. -/
def execLaneOutput (lane mismatch : Nat) (s : State) : Outcome State Fault Refusal := s.flow fun s =>
  match s.laneHead lane with
  | none => .next s
  | some j =>
    let s := if mismatch = 0 then s else s.bump .CRY_CHECK_RETRIES 0
    .next (if mismatch < 2 then (s.endJob j).jobOut j else (s.endJob j).jobFault j)

end Sys2Proof.Machine
end

