-- ==== Sys2Proof/Machine/Stx.lean ====
section
/-! DEFINITION. The storage/transport engine (R411 to R434): connections and namespaces, STORE items, NVMe/TCP with its TCP
data path, and NVMe over RoCEv2. -/

namespace Sys2Proof.Machine

open Host

/-! ### Connections (R413, R414) -/

/-- PROTO is NVME_TCP. -/
def Conn.tcp (x : Conn) : Bool := bits x.img 1 0 = 1
/-- The connection is ACTIVE. -/
def Conn.active (x : Conn) : Bool := connState x.img = 1
/-- OWNER. -/
def Conn.owner (x : Conn) : Nat := bits x.img 19 8
/-- SEQ_TX: SND_NXT, or the next PSN. -/
def Conn.seqTx (x : Conn) : Nat := bits x.img 543 512
/-- SEQ_RX: RCV_NXT, or the expected PSN. -/
def Conn.seqRx (x : Conn) : Nat := bits x.img 575 544
/-- MSS. -/
def Conn.mss (x : Conn) : Nat := bits x.img 479 464
/-- HDGST and DDGST as 0 or 1. -/
def Conn.hdgst (x : Conn) : Nat := bits x.img 3 3
/-- DDGST as 0 or 1. -/
def Conn.ddgst (x : Conn) : Nat := bits x.img 4 4
/-- ECN_EN. -/
def Conn.ecn (x : Conn) : Bool := bit x.img 6

/-- Set a field of a connection's image. -/
def Conn.setImg (x : Conn) (hi lo v : Nat) : Conn := { x with img := putBits x.img hi lo v }

/-- The read-only and reserved bits of an installed image read 0. -/
def connMask (v : Nat) : Nat := putBits (putBits (putBits (putBits v 767 640 0) 127 104 0) 63 54 0) 7 7 0

/-- Two images of one owner that R414 does not let stand together. -/
def connClash (v w : Nat) : Bool :=
  decide (bits v 1 0 = bits w 1 0) && decide (bits v 19 8 = bits w 19 8) &&
  (if bits v 1 0 = 1 then
    decide (bits v 2 2 = bits w 2 2) && decide (bits v 383 128 = bits w 383 128) && decide (bits v 415 384 = bits w 415 384)
  else decide (bits v 439 416 = bits w 439 416))

/-- The checks 1 to 4 of INSTALL. -/
def Dev.connChecks (s : Dev) (v : Nat) : List Bool :=
  let tcp := decide (bits v 1 0 = 1)
  [ tcp || decide (bits v 1 0 = 2),
    pmapValid (s.pmap (bits v 19 8)),
    !tcp || (decide (536 ≤ bits v 479 464) && decide (bits v 479 464 ≤ 8960) && decide (1 ≤ bits v 495 480)
      && decide (1 ≤ bits v 103 96) && decide (bits v 49 46 ≤ 14) && decide (bits v 53 50 ≤ 14)
      && decide (bits v 79 64 ≤ bits v 95 80) && decide (1 ≤ bits v 79 64)),
    tcp || (decide (3 ≤ bits v 34 32) && decide (bits v 34 32 ≤ 5) && decide (1 ≤ bits v 39 35)) ]

/-- The congestion threshold before the first loss: arbitrarily high (RFC 5681). -/
def ssthreshInit : Nat := 2 ^ 40

/-- A connection that has just been installed. -/
def installed (v : Nat) : Conn :=
  let v := putBits v 647 640 1
  { Conn.blank with img := v, una := bits v 543 512, cwnd := 10 * bits v 479 464, ssthresh := ssthreshInit
                    rto := 2500 * bits v 95 80, recover := bits v 543 512 }

/-- INSTALL (R414): the state after, DETAIL and RESULT. DUPLICATE has the number of its check, 5, as DETAIL (DEDUCED, log entry 146). -/
def Dev.connInstall (s : Dev) (c v : Nat) : Dev × Nat × Nat :=
  let v := connMask v
  if s.mode = .lockdown then (s, 0, 5)
  else if connState (s.conn c).img ≠ 0 then (s, 0, 3)
  else match firstFail (s.connChecks v) with
    | 0 =>
      if s.stx.conns.any (fun e => connState e.2.img ≠ 0 && connClash v e.2.img) then (s, 5, 6)
      else (s.setConn c (installed v), 0, 0)
    | k => (s, k, 4)

/-- The last data movement of an ended command (R423): its item's entry, and its release when nothing is left. -/
def Dev.endStore (s : Dev) (r : ItemRef) (status detail extra : Nat) : Dev :=
  match s.item r with
  | none => s
  | some x => if x.stage = 1 then
      (s.setItem r (some { x with filled := true, result := itemEntry x status detail extra })).storeSettle r 0
    else s

/-- Every started item of a connection ends with a status (R414, R432). -/
def Dev.endConnItems (s : Dev) (c status : Nat) : Dev :=
  let x := s.conn c
  let s := s.setConn c { x with cmds := [], waiting := [], sendq := [], flight := [], rx := [], timer := none, ackDue := none
                                place := none, again := none, rnrEnd := none, reread := none }
  forEach (x.cmds ++ x.waiting) s (fun s m => s.endStore m.item status 0 0)

/-- The next PDU of a connection, when it is whole: its bytes and those that follow it. -/
def Conn.nextPdu (x : Conn) : Option (List Byte × List Byte) :=
  let n := max 8 (leNat ((x.rx.drop 4).take 4))
  if x.rx.length < n then none else some (x.rx.take n, x.rx.drop n)

/-- The next frame of a connection at the engine. -/
def Dev.stxHead (s : Dev) (c : Nat) : Option (Nat × Frame) := s.firstIf (fun f => f.loc = .stx && decide (f.tag = c))

/-- Nothing that has arrived for a connection is left to be processed: no frame, and no whole PDU. -/
def Dev.connQuiet (s : Dev) (c : Nat) : Bool :=
  let x := s.conn c
  x.active = false || ((s.stxHead c).isNone && (!x.tcp || x.nextPdu.isNone))

/-- The connection sends nothing: a REMOVE has been accepted, or a FIN taken (R414, R428). -/
def Dev.mute (s : Dev) (c : Nat) : Bool := s.removingConn c || (s.conn c).fin

/-- A REMOVE whose connection has processed what arrived before it aborts the items (R414). -/
def Dev.removeDrained (s : Dev) (c : Nat) : Dev :=
  if s.removingConn c && s.stx.draining && s.connQuiet c then
    ({ s with stx := { s.stx with draining := false } }.endConnItems c 0x304).stxRemoved
  else s

/-- REMOVE (R414): what has arrived is processed, the items are aborted, and the image is returned once the last has completed. -/
def Dev.connRemove (s : Dev) (c tag : Nat) : Dev :=
  if connState (s.conn c).img = 0 then s.stxStatus tag 0 3 0
  else ({ s with stx := { s.stx with removing := some (tag, c), draining := true } }.stxStatus tag 0 0 1).removeDrained c

/-- A connection enters ERROR, or CLOSED with code 0xFF (R432). -/
def Dev.connError (s : Dev) (c code status : Nat) : Dev :=
  let x := s.conn c
  let x := if code = 0xFF then x.setImg 655 640 3 else x.setImg 655 640 (2 + code * 2 ^ 8)
  let s := s.setConn c x
  let e := s.vn % 2 ^ 32 * 2 ^ 32 + 2 ^ 31 + code * 2 ^ 16 + c
  let s := { s with stx := { s.stx with log := if s.stx.log.length < 64 then s.stx.log ++ [e] else s.stx.log } }
  (s.bump .STX_CONN_ERRORS 0).endConnItems c status

/-! ### STX_ACC_CTL (R414, R416, R433) -/

/-- The image in STX_ACC_DATA. -/
def Dev.stxData (s : Dev) : Nat :=
  (List.range 12).foldl (fun a w => a + s.rd .STX_ACC_DATA w * 2 ^ (64 * w)) 0

/-- The reserved bits of a namespace entry read 0. -/
def nsMask (v : Nat) : Nat := putBits (putBits (putBits (v % 2 ^ 128) 127 82 0) 63 54 0) 47 44 0

/-- The checks of WRITE (R416). -/
def nsChecks (v : Nat) : List Bool :=
  [ !bit v 53 || (decide (9 ≤ bits v 51 48) && decide (bits v 51 48 ≤ 12)),
    !bit v 53 || !bit v 52 || decide (bits v 81 64 < 0x3F000) ]

/-- WRITE of a namespace entry: the state after, and DETAIL. -/
def Dev.nsWrite (s : Dev) (i v : Nat) : Dev × Nat :=
  let v := nsMask v
  match firstFail (nsChecks v) with
  | 0 => ({ s with stx := { s.stx with nss := Sparse.set (fun _ => 0) s.stx.nss i v } }, 0)
  | k => (s, k)

/-- The origins whose writes of STX_ACC_CTL are accepted (R414). -/
def Origin.stxWriter : Origin → Bool
  | .bar0 _ => true
  | .basecamp => true
  | o => o.capsule

/-- The effect of a write of STX_ACC_CTL. -/
def Dev.stxAcc (s : Dev) (o : Origin) (v : Nat) : Dev :=
  let i := bits v 15 0
  let tag := bits v 47 32
  let op := bits v 19 17
  let table := bit v 16
  if o.stxWriter = false then s.bump .STX_ACC_FOREIGN 0
  else if s.stx.removing.isSome then s.stxStatus tag 0 1 1
  else if table ∧ 4096 ≤ i then s.stxStatus tag 0 2 0
  else match op, table with
    | 1, false => (s.putStxData (s.conn i).image).stxStatus tag 0 0 0
    | 1, true => (s.putStxData (s.ns i)).stxStatus tag 0 0 0
    | 2, false => (s.connInstall i s.stxData).1.stxStatus tag (s.connInstall i s.stxData).2.1 (s.connInstall i s.stxData).2.2 0
    | 2, true =>
      let (s, k) := s.nsWrite i s.stxData
      s.stxStatus tag k (if k = 0 then 0 else 4) 0
    | 3, false => s.connRemove i tag
    | _, _ => s

/-- The common form of the commands that write STX_ACC_CTL. -/
def Dev.stxCtl (s : Dev) (o : Origin) (index op table tag : Nat) : Outcome Dev Fault Refusal :=
  let v := index % 2 ^ 16 + table * 2 ^ 16 + op * 2 ^ 17 + tag % 2 ^ 16 * 2 ^ 32
  .next (s.regWrite o .STX_ACC_CTL 0 8 v fun s => s.stxAcc o v)

/-- CONN_INSTALL (R414). -/
def execConnInstall (o : Origin) (index tag : Nat) (s : State) : Outcome State Fault Refusal := s.act fun s => s.stxCtl o index 2 0 tag
/-- STX_READ (R414): of a connection, or of a namespace entry. -/
def execStxRead (o : Origin) (index : Nat) (namespc : Bool) (tag : Nat) (s : State) : Outcome State Fault Refusal := s.act fun s =>
  s.stxCtl o index 1 (b2n namespc) tag
/-- CONN_REMOVE (R414). -/
def execConnRemove (o : Origin) (index tag : Nat) (s : State) : Outcome State Fault Refusal := s.act fun s => s.stxCtl o index 3 0 tag
/-- NS_WRITE (R416). -/
def execNsWrite (o : Origin) (index tag : Nat) (s : State) : Outcome State Fault Refusal := s.act fun s => s.stxCtl o index 2 1 tag

/-! ### Starting items (R420, R421) -/

/-- The status of the key checks of R417, or 0. -/
def Dev.nsKeyBar (s : Dev) (ns : Nat) (pitch : Option Nat) (admin : Bool) : Nat :=
  let i := bits ns 81 64
  let foreign := match s.slotOwner i with
    | none => false
    | some p => !admin && decide (pitch ≠ some p)
  if bit ns 52 = false then 0
  else if s.slotType i = 0 then 0x402
  else if s.slotType i ≠ 4 then 0x403
  else if foreign then 0x401
  else 0

/-- The checks of R421 at the start of an item, as a status. -/
def Dev.startBar (s : Dev) (x : Item) : Nat :=
  let g := s.ring x.ring
  let c := s.conn x.conn
  let admin := decide (g.loc = 1)
  let io := decide (x.op = 1)
  let ns := s.ns (descBits x.desc 187 176)
  if c.active = false then 0x504
  else if admin = false ∧ g.owner ≠ some c.owner then 0x505
  else if io ∧ admin = false ∧ (bit ns 53 = false ∨ g.owner ≠ some (bits ns 43 32)) then 0x506
  else if io then s.nsKeyBar ns g.owner admin
  else 0

/-- The data of a STORE item flows to the host. -/
def Item.toHost (x : Item) : Bool := if x.op = 1 then descBits x.desc 199 192 = 2 else !bit (leNat x.desc) 201

/-- Fetch the write data of a command (R423): from the host over a QUEUE channel, or at once. -/
def Dev.fetchData (s : Dev) (r : ItemRef) (x : Item) : Dev :=
  if (s.ring r.ring).loc = 2 then
    match s.gather x.segs with
    | some bs => s.setBuf r bs
    | none => s.endStore r 0x206 0 0
  else (s.queueWork r false x.segs []).queueAssign

/-- The engine begins an item: it waits for a tag, and the data of a write is fetched. -/
def Dev.beginStore (s : Dev) (r : ItemRef) (x : Item) (sqe : List Byte) : Dev :=
  let m : StxCmd := { cid := 0, item := r, ns := if x.op = 1 then s.ns (descBits x.desc 187 176) else 0, sqe := sqe
                      toHost := x.toHost, len := x.len, fail := 0, part := [] }
  let c := s.conn x.conn
  let s := (s.setConn x.conn { c with waiting := c.waiting ++ [m] }).setItem r (some { x with busy := true })
  if x.toHost ∨ x.len = 0 then s else s.fetchData r x

/-- No item of the same connection was accepted before this one and has not started (R422). -/
def Dev.startFirst (s : Dev) (x : Item) : Bool :=
  !s.rng.items.any (fun e => e.2.kind = 4 && e.2.stage = 1 && !e.2.busy && decide (e.2.conn = x.conn) && decide (e.2.ord < x.ord))

/-- Count a context that misses the on-chip cache (R412). -/
def Dev.connMiss (s : Dev) (miss : Bool) : Dev := if miss then s.bump .STX_CONN_MISSES 0 else s

/-- STORE_START (R421): `sqe` is what the read of an NVME_RAW item's entry returned; `miss` a context that misses the cache. -/
def execStoreStart (item : ItemRef) (sqe : List Fetch) (miss : Bool) (s : State) : Outcome State Fault Refusal := s.flow fun s =>
  match s.item item with
  | none => .next s
  | some x =>
    if x.kind ≠ 4 ∨ x.stage ≠ 1 ∨ x.busy ∨ s.startFirst x = false then .next s
    else
      let bar := s.startBar x
      if bar ≠ 0 then .next ((s.connMiss miss).releaseWith item bar 0 0)
      else if x.op = 1 then .next ((s.connMiss miss).beginStore item x [])
      else match s.fetch (s.ring item.ring) (descBits x.desc 447 384) 64 sqe with
        | none => .next s
        | some (.fail c, _, s) => .next ((s.connMiss miss).releaseWith item (hostStatus c) 0 0)
        | some (.ok bs, _, s) => .next ((s.connMiss miss).beginStore item x (bs.take 64))

/-! ### Frames that the engine sends (R419) -/

/-- A frame of the engine. The image gives no MAC addresses, IP identification, hop limit or DSCP, and the spec no rule for them:
they are free values. -/
def engineFrame (x : Conn) (free dscpEcn proto : Nat) (l4 : List Byte) : List Byte :=
  let macs := beBytes 12 (free % 2 ^ 96)
  let ttl := free / 2 ^ 96 % 256
  let id := free / 2 ^ 104 % 65536
  if bit x.img 2 then
    macs ++ beBytes 2 0x86DD ++ beBytes 4 (0x60000000 + dscpEcn * 2 ^ 20) ++ beBytes 2 l4.length ++ beBytes 1 proto
      ++ beBytes 1 ttl ++ beBytes 16 (bits x.img 255 128) ++ beBytes 16 (bits x.img 383 256) ++ l4
  else
    let h := beBytes 2 (0x4500 + dscpEcn) ++ beBytes 2 (20 + l4.length) ++ beBytes 2 id ++ beBytes 2 0
      ++ beBytes 1 ttl ++ beBytes 1 proto ++ beBytes 2 0 ++ beBytes 4 (bits x.img 159 128) ++ beBytes 4 (bits x.img 287 256)
    macs ++ beBytes 2 0x0800 ++ setWord16 h 10 (csum16 h) ++ l4

/-- The Internet checksum of an upper-layer packet with its pseudo-header. -/
def l4Checksum (x : Conn) (proto : Nat) (l4 : List Byte) : Nat :=
  let addrs := if bit x.img 2 then beBytes 16 (bits x.img 255 128) ++ beBytes 16 (bits x.img 383 256)
    else beBytes 4 (bits x.img 159 128) ++ beBytes 4 (bits x.img 287 256)
  csum16 (addrs ++ beBytes 4 proto ++ beBytes 4 l4.length ++ l4)

/-- Send a frame of a connection: it enters parsing at IN_PORT 0x31 with the owner's pitch (R419). A connection that is to send nothing
sends none. -/
def Dev.engineSend (s : Dev) (c : Nat) (bs : List Byte) : Dev :=
  if s.mute c then s
  else s.newFrame { Frame.fresh bs 0x31 with pitch := some (s.conn c).owner, tag := c, rxTime := s.vn * 40 * 2 ^ 16 } .frontEnd

/-! ### TCP sending (R428) -/

/-- A TCP segment of a connection with a sequence number and payload: every segment carries ACK, and the timestamps option when
TS_EN is 1, with a free TSval. The first data after a reduction of the window carries CWR (RFC 3168). -/
def tcpSegment (x : Conn) (free seq : Nat) (payload : List Byte) : List Byte :=
  let opt := if bit x.img 5 then beBytes 4 0x0101080A ++ beBytes 4 (free / 2 ^ 120 % 2 ^ 32) ++ beBytes 4 (bits x.img 607 576) else []
  let flags := 0x10 + (if x.ece then 0x40 else 0) + (if x.cwr ∧ payload.isEmpty = false then 0x80 else 0)
  let t := beBytes 2 (bits x.img 399 384) ++ beBytes 2 (bits x.img 415 400) ++ beBytes 4 (seq % 2 ^ 32) ++ beBytes 4 x.seqRx
    ++ beBytes 1 ((20 + opt.length) / 4 * 16) ++ beBytes 1 flags ++ beBytes 2 (bits x.img 511 496) ++ beBytes 4 0 ++ opt ++ payload
  setWord16 t 16 (l4Checksum x 6 t)

/-- Send one segment. -/
def Dev.tcpSend (s : Dev) (c seq : Nat) (payload : List Byte) : Dev :=
  let x := s.conn c
  let (d, s) := s.draw
  let ect := if x.ecn ∧ payload.isEmpty = false then 2 else 0
  (s.setConn c { x with unacked := 0, ackDue := none, cwr := x.cwr && payload.isEmpty }).engineSend c (engineFrame x d ect 6 (tcpSegment x d seq payload))

/-- The bytes in flight of a TCP connection. -/
def Conn.inFlight (x : Conn) : Nat := (x.seqTx + 2 ^ 32 - x.una) % 2 ^ 32

/-- The peer's window in bytes. -/
def Conn.sndWnd (x : Conn) : Nat := bits x.img 639 608 * 2 ^ bits x.img 49 46

/-- Send what the windows allow, one segment at a time; `n` bounds the segments. -/
def Dev.pump (s : Dev) (c : Nat) : Nat → Dev
  | 0 => s
  | n + 1 =>
    let x := s.conn c
    let room := min x.cwnd x.sndWnd - x.inFlight
    let len := min x.mss (min room x.sendq.length)
    if x.active = false ∨ len = 0 ∨ s.mute c then s
    else
      let pl := x.sendq.take len
      let seq := x.seqTx
      let y := { (x.setImg 543 512 ((seq + len) % 2 ^ 32)) with
        sendq := x.sendq.drop len, flight := x.flight ++ [{ seq := seq, bytes := pl, at_ := s.vn, again := false }]
        timer := some (x.timer.getD (s.vn + x.rto)) }
      ((s.setConn c y).tcpSend c seq pl).pump c n

/-- Send what can be sent; data that a zero window holds back starts the persist timer (R428). -/
def Dev.tcpPush (s : Dev) (c : Nat) : Dev :=
  let s := s.pump c ((s.conn c).sendq.length + 1)
  let x := s.conn c
  if x.active ∧ x.sendq ≠ [] ∧ x.flight = [] ∧ x.sndWnd = 0 ∧ x.timer = none then
    s.setConn c { x with timer := some (s.vn + x.rto) }
  else s

/-- Send an ACK. -/
def Dev.tcpAck (s : Dev) (c : Nat) : Dev := s.tcpSend c (s.conn c).seqTx []

/-- Send the oldest segment in flight again. -/
def Dev.tcpResend (s : Dev) (c : Nat) : Dev :=
  let x := s.conn c
  match x.flight with
  | [] => s
  | g :: gs =>
    ((s.setConn c { x with flight := { g with again := true, at_ := s.vn } :: gs }).bump .STX_TCP_RETX 0).tcpSend c g.seq g.bytes

/-- The 60 s cap of RTO, in volleys. -/
def rtoCap : Nat := 1500000000

/-- RTO after a round-trip sample of `r` volleys (RFC 6298): SRTT, RTTVAR and RTO. -/
def rttSample (x : Conn) (r : Nat) : Conn :=
  let (a, v) := match x.srtt with
    | none => (r, r / 2)
    | some (a, v) => ((7 * a + r) / 8, (3 * v + (if a < r then r - a else a - r)) / 4)
  { x with srtt := some (a, v), rto := min rtoCap (max (2500 * bits x.img 79 64) (a + max 1 (4 * v))) }

/-- A segment in flight is acknowledged by `ack` as a whole. -/
def Sent.acked (g : Sent) (una ack : Nat) : Bool :=
  (g.seq + g.bytes.length + 2 ^ 32 - una) % 2 ^ 32 ≤ (ack + 2 ^ 32 - una) % 2 ^ 32

/-- The oldest segment in flight, cut where a partial acknowledgement ends. -/
def trimFlight (ack una : Nat) : List Sent → List Sent
  | [] => []
  | g :: gs =>
    let k := (ack + 2 ^ 32 - g.seq) % 2 ^ 32
    if (g.seq + 2 ^ 32 - una) % 2 ^ 32 < (ack + 2 ^ 32 - una) % 2 ^ 32 ∧ k < g.bytes.length then
      { g with seq := ack, bytes := g.bytes.drop k } :: gs
    else g :: gs

/-- Halve the window on loss or ECE (RFC 5681, RFC 3168). -/
def Conn.halve (x : Conn) : Nat := max (x.inFlight / 2) (2 * x.mss)

/-- New data has been acknowledged. -/
def Conn.newAck (x : Conn) (vn ack : Nat) (ece : Bool) : Conn :=
  let n : Nat := (ack + 2 ^ 32 - x.una) % 2 ^ 32
  let done := x.flight.filter (fun g => g.acked x.una ack)
  let x : Conn := match done.getLast? with
    | some g => if g.again then x else rttSample x (vn - g.at_)
    | none => x
  let cwnd := if 3 ≤ x.dups then x.ssthresh
    else if x.cwnd < x.ssthresh then x.cwnd + min n x.mss
    else x.cwnd + max 1 (x.mss * x.mss / max 1 x.cwnd)
  let left := trimFlight ack x.una (x.flight.filter (fun g => !g.acked x.una ack))
  let past := decide ((x.recover + 2 ^ 32 - x.una) % 2 ^ 32 ≤ n)
  let due : Option Nat := if left.isEmpty then none else some (vn + x.rto)
  let x : Conn := { x with una := ack, flight := left, cwnd := cwnd, dups := 0, tries := 0, timer := due }
  if ece ∧ x.ecn ∧ past then
    { x with ssthresh := x.halve, cwnd := x.halve, recover := x.seqTx, cwr := true }
  else x

/-- The byte in flight probes a zero window (R428). -/
def Conn.probing (x : Conn) : Bool := decide (x.sndWnd = 0) && (match x.flight with | [g] => decide (g.bytes.length = 1) | _ => false)

/-- A duplicate acknowledgement: the third causes a fast retransmit. -/
def Dev.dupAck (s : Dev) (c : Nat) : Dev :=
  let x := s.conn c
  let d := x.dups + 1
  if d = 3 then (s.setConn c { x with dups := d, ssthresh := x.halve, cwnd := x.halve + 3 * x.mss, cwr := x.ecn }).tcpResend c
  else s.setConn c { x with dups := d, cwnd := if 3 < d then x.cwnd + x.mss else x.cwnd }

/-- The acknowledgement and window of a segment are taken. -/
def Dev.takeAck (s : Dev) (c ack wnd : Nat) (ece empty : Bool) : Dev :=
  let x := s.conn c
  let dup := decide (ack = x.una) && empty && !x.flight.isEmpty && !x.probing && decide (wnd = bits x.img 639 608)
  let x := x.setImg 639 608 wnd
  let s := if ack = x.una then s.setConn c x else s.setConn c (x.newAck s.vn ack ece)
  let s := if dup then s.dupAck c else s
  s.tcpPush c

/-! ### TCP receiving (R428) -/

/-- The TCP fields of a frame: sequence, acknowledgement, flags, window, payload, timestamp and whether it is marked CE. -/
structure TcpIn where
  seq : Nat
  ack : Nat
  flags : Nat
  wnd : Nat
  payload : List Byte
  tsval : Option Nat
  ce : Bool

/-- The timestamp value among TCP options. -/
def tsOption : Nat → List Byte → Option Nat
  | 0, _ => none
  | k + 1, bs =>
    match bs with
    | [] => none
    | b :: rest =>
      if b.toNat = 0 then none
      else if b.toNat = 1 then tsOption k rest
      else if b.toNat = 8 then some (beNat ((bs.drop 2).take 4))
      else tsOption k (bs.drop (max 2 (bs.getD 1 0).toNat))

/-- Read a TCP segment; nothing when the frame holds none, or its checksum fails. -/
def Frame.tcpIn (x : Frame) : Option TcpIn :=
  match x.tcpPayload x.l4 with
  | none => none
  | some (ip, t, o, e) =>
    if tcpChecksum x.bytes ip t e ≠ x.bytes then none
    else
      let f := fun (k n : Nat) => beNat ((x.bytes.drop (t.off + k)).take n)
      some { seq := f 4 4, ack := f 8 4, flags := f 13 1, wnd := f 14 2, payload := (x.bytes.drop o).take (e - o)
             tsval := tsOption 40 ((x.bytes.drop (t.off + 20)).take (o - t.off - 20)), ce := x.ecn = some 3 }

/-- Take the next frame of a connection: one of a FREE connection is discarded, and one of a connection in ERROR or CLOSED
is consumed and counted (R414, R432); any other is given to `body`. -/
def Dev.stxTake (s : Dev) (c : Nat) (miss : Bool) (mine : Frame → Bool) (body : Dev → Nat → Frame → Dev) :
    Outcome Dev Fault Refusal :=
  match s.stxHead c with
  | none => .next s
  | some (f, x) =>
    let s' := s.connMiss miss
    match connState (s.conn c).img with
    | 0 => .next (s'.dropFrame f)
    | 1 => .next (if mine x then (body (s'.dropFrame f) f x).removeDrained c else s)
    | _ => .next ((s'.dropFrame f).bump .STX_STALE_PDU 0)

/-- In-order data of a segment is taken and acknowledged. -/
def Dev.takeData (s : Dev) (c : Nat) (g : TcpIn) : Dev :=
  let x := s.conn c
  let n := g.payload.length
  let full := decide (x.mss ≤ n)
  let y := x.setImg 575 544 ((x.seqRx + n) % 2 ^ 32)
  let y := { y with rx := x.rx ++ g.payload, unacked := x.unacked + b2n full
                    ackDue := some (x.ackDue.getD (s.vn + 1000)) }
  let s := s.setConn c y
  if 2 ≤ y.unacked then s.tcpAck c else s

/-- The ECN state that a segment leaves: CE is echoed until CWR (RFC 3168). -/
def Conn.markEce (x : Conn) (g : TcpIn) : Conn :=
  if x.ecn = false then x else { x with ece := g.ce || (x.ece && !bit g.flags 7) }

/-- The timestamp of a segment is older than TS_RECENT (RFC 7323). -/
def Conn.stale (x : Conn) (g : TcpIn) : Bool :=
  match g.tsval with
  | some v => bit x.img 5 && decide (2 ^ 31 ≤ (v + 2 ^ 32 - bits x.img 607 576) % 2 ^ 32)
  | none => false

/-- TS_RECENT after a segment at RCV_NXT (RFC 7323). -/
def Conn.takeTs (x : Conn) (g : TcpIn) : Conn :=
  match g.tsval with
  | some v => if bit x.img 5 then x.setImg 607 576 v else x
  | none => x

/-- A segment without SYN or RST, whose acknowledgement is acceptable; one that is not at RCV_NXT is answered with an ACK. -/
def Dev.segment (s : Dev) (c : Nat) (g : TcpIn) : Dev :=
  let x := s.conn c
  if x.stale g then s.tcpAck c
  else if g.seq = x.seqRx then
    let s := (s.setConn c ((x.markEce g).takeTs g)).takeAck c g.ack g.wnd (bit g.flags 6) g.payload.isEmpty
    if g.payload.isEmpty then s else s.takeData c g
  else if (g.seq + 2 ^ 32 - x.seqRx) % 2 ^ 32 < 2 ^ 31 then (s.bump .STX_TCP_OOO_DROP 0).tcpAck c
  else s.tcpAck c

/-- The connection closes once the PDUs that came before a FIN have been processed (R428). -/
def Dev.finTaken (s : Dev) (c : Nat) : Dev :=
  let x := s.conn c
  if x.fin && x.active && x.nextPdu.isNone then s.connError c 0xFF 0x502 else s

/-- The acknowledgement of a segment lies outside SND_UNA to SND_NXT, or it is a SYN. -/
def Conn.badSeg (x : Conn) (g : TcpIn) : Bool :=
  bit g.flags 1 || (bit g.flags 4 && decide (x.inFlight < (g.ack + 2 ^ 32 - x.una) % 2 ^ 32))

/-- The kind of a frame for a TCP connection: 1 RST, 2 FIN, 0 any other. -/
def Frame.tcpKind (x : Frame) : Nat :=
  match x.tcpIn with
  | some g => if bit g.flags 1 then 0 else if bit g.flags 2 then 1 else if bit g.flags 0 then 2 else 0
  | none => 0

/-- TCP_SEGMENT (R428). -/
def execTcpSegment (conn : Nat) (miss : Bool) (s : State) : Outcome State Fault Refusal := s.flow fun s =>
  s.stxTake conn miss (fun x => (s.conn conn).tcp && decide (x.tcpKind = 0)) (fun s _ x =>
    match x.tcpIn with
    | none => s
    | some g =>
      if (s.conn conn).badSeg g then s.bump .STX_TCP_BAD_SEG 0
      else if bit g.flags 4 = false then s
      else s.segment conn g)

/-- FIN_RECEIVED (R428): in order, it closes the connection after the data it carries and the PDUs that this completes (DEDUCED, log entry
147). -/
def execFinReceived (conn : Nat) (miss : Bool) (s : State) : Outcome State Fault Refusal := s.flow fun s =>
  s.stxTake conn miss (fun x => (s.conn conn).tcp && decide (x.tcpKind = 2)) (fun s _ x =>
    match x.tcpIn with
    | none => s
    | some g =>
      if (s.conn conn).badSeg g then s.bump .STX_TCP_BAD_SEG 0
      else if bit g.flags 4 = false then s
      else
        let inOrder := decide (g.seq = (s.conn conn).seqRx) && !(s.conn conn).stale g
        let s := s.segment conn g
        let x := s.conn conn
        if inOrder then
          (s.setConn conn { (x.setImg 575 544 ((x.seqRx + 1) % 2 ^ 32)) with fin := true }).finTaken conn
        else s)

/-- The window that the connection advertises, in bytes. -/
def Conn.rcvWnd (x : Conn) : Nat := bits x.img 511 496 * 2 ^ bits x.img 53 50

/-- RST_RECEIVED (R428): at RCV_NXT it ends the connection; elsewhere in the window it is answered with an ACK, and outside it is dropped
(RFC 9293). -/
def execRstReceived (conn : Nat) (miss : Bool) (s : State) : Outcome State Fault Refusal := s.flow fun s =>
  s.stxTake conn miss (fun x => (s.conn conn).tcp && decide (x.tcpKind = 1)) (fun s _ x =>
    match x.tcpIn with
    | none => s
    | some g =>
      let y := s.conn conn
      if y.badSeg g then s.bump .STX_TCP_BAD_SEG 0
      else if g.seq = y.seqRx then s.connError conn 5 0x502
      else if (g.seq + 2 ^ 32 - y.seqRx) % 2 ^ 32 < y.rcvWnd then s.tcpAck conn
      else s)

/-- DELAYED_ACK (R428): 40 µs after a segment not acknowledged. -/
def execDelayedAck (conn : Nat) (s : State) : Outcome State Fault Refusal := s.flow fun s =>
  let x := s.conn conn
  match x.ackDue with
  | some v => .next (if x.active && x.tcp && decide (v ≤ s.vn) && !s.mute conn then s.tcpAck conn else s)
  | none => .next s

/-- RTO_EXPIRY (R428): the oldest segment is sent again, or the connection fails. -/
def execRtoExpiry (conn : Nat) (s : State) : Outcome State Fault Refusal := s.flow fun s =>
  let x := s.conn conn
  match x.timer, x.flight with
  | some v, _ :: _ =>
    if x.active = false ∨ x.tcp = false ∨ s.vn < v ∨ x.probing ∨ s.mute conn then .next s
    else
      let s := s.bump .STX_TCP_RTO 0
      if bits x.img 103 96 ≤ x.tries + 1 then .next (s.connError conn 4 0x503)
      else
        let rto := min rtoCap (2 * x.rto)
        .next ((s.setConn conn { x with tries := x.tries + 1, rto := rto, ssthresh := x.halve, cwnd := x.mss, dups := 0, cwr := x.ecn
                                        timer := some (s.vn + rto) }).tcpResend conn)
  | _, _ => .next s

/-- PERSIST_TIMER (R428): a zero window is probed with one byte, again and again at the doubled RTO (RFC 9293). -/
def execPersistTimer (conn : Nat) (s : State) : Outcome State Fault Refusal := s.flow fun s =>
  let x := s.conn conn
  let rto := min rtoCap (2 * x.rto)
  match x.timer with
  | none => .next s
  | some v =>
    if (x.active && x.tcp && decide (x.sndWnd = 0) && decide (v ≤ s.vn) && !s.mute conn) = false then .next s
    else match x.flight, x.sendq with
      | [], b :: q =>
        let y := { (x.setImg 543 512 ((x.seqTx + 1) % 2 ^ 32)) with
          sendq := q, flight := [{ seq := x.seqTx, bytes := [b], at_ := s.vn, again := false }], rto := rto
          timer := some (s.vn + rto) }
        .next ((s.setConn conn y).tcpSend conn x.seqTx [b])
      | [_], _ =>
        if x.probing then .next ((s.setConn conn { x with rto := rto, timer := some (s.vn + rto) }).tcpResend conn) else .next s
      | _, _ => .next s

/-! ### RoCEv2 packets (R429) -/

/-- The invariant CRC of RoCEv2 (InfiniBand): over the packet from the IP header at `ip` with the fields that may change on the
way taken as ones. `ip6` tells IPv6; `bs` ends before the iCRC. -/
def icrc (ip6 : Bool) (ip udp : Nat) (bs : List Byte) : Nat :=
  let ones := fun (l : List Byte) (o n : Nat) => putBytes l o (List.replicate n 0xFF)
  let a := if ip6 then putBytes (ones (ones bs (ip + 1) 3) (ip + 7) 1) ip [(bs.getD ip 0) ||| 0x0F]
    else ones (ones (ones bs (ip + 1) 1) (ip + 8) 1) (ip + 10) 2
  let a := ones (ones a (udp + 6) 2) (udp + 12) 1
  0xFFFFFFFF - ((List.replicate 8 0xFF ++ (a.drop ip).map (fun (b : Byte) => b.toNat)).foldl (crcByte ieeeCrc) 0xFFFFFFFF)

/-- The destination of a packet: a BTH with opcode, pad count, acknowledge request and PSN. -/
def bthBytes (op pad qp : Nat) (ackReq : Bool) (psn : Nat) : List Byte :=
  beBytes 1 op ++ beBytes 1 (pad * 16) ++ beBytes 2 0xFFFF ++ beBytes 4 qp ++ beBytes 1 (b2n ackReq * 128) ++ beBytes 3 (psn % 2 ^ 24)

/-- A RoCEv2 frame of a connection around a BTH and what follows it. -/
def roceFrame (x : Conn) (free : Nat) (body : List Byte) : List Byte :=
  let l4 := beBytes 2 (bits x.img 415 400) ++ beBytes 2 4791 ++ beBytes 2 (8 + body.length + 4) ++ beBytes 2 0 ++ body
  let ecn := if x.ecn then 2 else 0
  let all := engineFrame x free ecn 17 (l4 ++ List.replicate 4 0)
  let cut := all.take (all.length - 4)
  cut ++ leBytes 4 (icrc (bit x.img 2) 14 (cut.length - l4.length) cut)

/-- Send a packet of a connection: BTH, headers and payload padded to 4 bytes. -/
def Dev.roceSend (s : Dev) (c : Nat) (body : List Byte) : Dev :=
  let (d, s) := s.draw
  s.engineSend c (roceFrame (s.conn c) d body)

/-- A packet with its BTH. -/
def packet (x : Conn) (op psn : Nat) (ackReq : Bool) (hdr payload : List Byte) : List Byte :=
  let pad := (4 - payload.length % 4) % 4
  bthBytes op pad (bits x.img 463 440) ackReq psn ++ hdr ++ payload ++ List.replicate pad 0

/-- The ACK timeout in volleys: 4.096 µs × 2^TIMEOUT, rounded up (R431). -/
def Conn.ackTime (x : Conn) : Nat := (1024 * 2 ^ bits x.img 39 35 + 9) / 10

/-- Send a packet as requester: it is in flight until acknowledged (R431). -/
def Dev.requestSend (s : Dev) (c op : Nat) (payload : List Byte) : Dev :=
  let x := s.conn c
  let psn := x.seqTx % 2 ^ 24
  let body := packet x op psn true [] payload
  let y := { (x.setImg 535 512 ((psn + 1) % 2 ^ 24)) with
    flight := x.flight ++ [{ seq := psn, bytes := body, at_ := s.vn, again := false }]
    timer := some (x.timer.getD (s.vn + x.ackTime)) }
  (s.setConn c y).roceSend c body

/-- Go back to the oldest unacknowledged packet and send all again (R431). -/
def Dev.goBack (s : Dev) (c : Nat) : Dev :=
  let x := s.conn c
  let s := s.setConn c { x with flight := x.flight.map (fun g => { g with again := true, at_ := s.vn })
                                timer := if x.flight.isEmpty then none else some (s.vn + x.ackTime) }
  forEach x.flight (s.add .STX_ROCE_RETX 0 x.flight.length) (fun s g => s.roceSend c g.bytes)

/-- AETH of an acknowledgement. -/
def aeth (syndrome msn : Nat) : List Byte := beBytes 1 syndrome ++ beBytes 3 (msn % 2 ^ 24)

/-- Send an ACK for a PSN, as responder. -/
def Dev.roceAck (s : Dev) (c psn : Nat) : Dev :=
  let x := s.conn c
  (s.setConn c { x with sinceAck := 0 }).roceSend c (packet x 0x11 psn false (aeth 0x1F x.msn) [])

/-- Send a NAK: 0 PSN sequence error, 1 invalid request, 2 remote access error. -/
def Dev.roceNak (s : Dev) (c psn code : Nat) : Dev :=
  let x := s.conn c
  (s.bump .STX_ROCE_NAK_SENT 0).roceSend c (packet x 0x11 psn false (aeth (0x60 + code) x.msn) [])

/-! ### Sending commands (R422, R424, R429) -/

/-- The submission queue entry of a command, with SGL1 for its transport: PSDT 01 and the SGL descriptors are those of the
NVMe and NVMe-oF standards (PRESUMED, log entry 31). -/
def sqeBytes (tcp : Bool) (c : Nat) (m : StxCmd) (x : Item) : List Byte :=
  let sgl := if tcp then leBytes 8 0 ++ leBytes 4 m.len ++ leBytes 3 0 ++ leBytes 1 0x5A
    else leBytes 8 0 ++ leBytes 3 m.len ++ leBytes 4 (m.cid + c * 2 ^ 16) ++ leBytes 1 0x40
  let base := if x.op = 1 then
      let op := descBits x.desc 199 192
      let data := decide (op ≠ 0)
      leBytes 1 op ++ leBytes 1 0x40 ++ leBytes 2 0 ++ leBytes 4 (bits m.ns 31 0) ++ List.replicate 32 0
        ++ leBytes 8 (if data then descBits x.desc 319 256 else 0)
        ++ leBytes 4 (if data then descBits x.desc 335 320 + descBits x.desc 200 200 * 2 ^ 30 else 0) ++ List.replicate 12 0
    else m.sqe ++ List.replicate (64 - m.sqe.length) 0
  putBytes (putBytes base 2 (leBytes 2 m.cid)) 24 sgl

/-- CRC-32C of bytes as a 4-byte digest. -/
def digest (bs : List Byte) : List Byte := leBytes 4 (crc32c 0xFFFFFFFF (bs.map (·.toNat)))

/-- A PDU: header, its digest, data and their digest. -/
def pduBytes (x : Conn) (hdr data : List Byte) : List Byte :=
  hdr ++ (if x.hdgst = 1 then digest hdr else []) ++ data
    ++ (if x.ddgst = 1 ∧ data.isEmpty = false then digest data else [])

/-- The PDU flags that tell which digests follow. -/
def Conn.digestFlags (x : Conn) (data : Bool) : Nat := x.hdgst + (if data then x.ddgst * 2 else 0)

/-- The lowest free tag of a connection. -/
def Conn.freeTag (x : Conn) : Option Nat :=
  (List.range (min (bits x.img 31 20 + 1) (x.cmds.length + 1))).find? (fun t => !x.cmds.any (fun m => decide (m.cid % 4096 = t)))

/-- Append bytes to what a connection sends. -/
def Dev.tcpWrite (s : Dev) (c : Nat) (bs : List Byte) : Dev :=
  let x := s.conn c
  (s.setConn c { x with sendq := x.sendq ++ bs }).tcpPush c

/-- Send the command of a started item under a tag. -/
def Dev.sendCmd (s : Dev) (c : Nat) (x : Conn) (m : StxCmd) (rest : List StxCmd) (i : Item) (tag : Nat) : Dev :=
  let gen := Sparse.get (fun _ => 0) x.gens tag
  let m := { m with cid := tag + gen * 4096 }
  let s := s.setConn c { x with waiting := rest, cmds := x.cmds ++ [m]
                                gens := Sparse.set (fun _ => 0) x.gens tag ((gen + 1) % 16) }
  let s := s.bump .STX_PDU_TX 0
  let sqe := sqeBytes x.tcp c m i
  if x.tcp then
    let hdr := beBytes 1 4 ++ beBytes 1 x.hdgst ++ beBytes 1 72 ++ beBytes 1 0 ++ leBytes 4 (72 + 4 * x.hdgst) ++ sqe
    s.tcpWrite c (pduBytes x hdr [])
  else s.requestSend c 0x04 sqe

/-- A released item holds no tag and waits for none (R422). -/
def Dev.pruneConn (s : Dev) (c : Nat) : Dev :=
  let x := s.conn c
  let live := fun (m : StxCmd) => match s.item m.item with | some i => decide (i.stage = 1) && i.busy && !i.filled | none => false
  s.setConn c { x with waiting := x.waiting.filter live, cmds := x.cmds.filter live }

/-- COMMAND_SEND (R422): the first waiting item of a connection obtains a tag and its command is sent. -/
def execCommandSend (conn : Nat) (s : State) : Outcome State Fault Refusal := s.flow fun s =>
  let s1 := s.pruneConn conn
  let x := s1.conn conn
  match x.waiting, x.freeTag with
  | m :: rest, some t =>
    match s1.item m.item with
    | some i => .next (if x.active ∧ x.rnrEnd = none ∧ s.mute conn = false then s1.sendCmd conn x m rest i t else s)
    | none => .next s
  | _, _ => .next s

/-! ### Placement (R417, R426, R430) -/

/-- The outstanding command of an identifier. -/
def Dev.cmdOf (s : Dev) (c cid : Nat) : Option StxCmd :=
  (s.conn c).cmds.find? (fun m => decide (m.cid = cid) && (match s.item m.item with
    | some i => decide (i.stage = 1) && !i.filled
    | none => false))

/-- Change an outstanding command. -/
def Dev.setCmd (s : Dev) (c : Nat) (m : StxCmd) : Dev :=
  let x := s.conn c
  s.setConn c { x with cmds := x.cmds.map (fun n => if n.cid = m.cid then m else n) }

/-- A command's item fails; it is outstanding no more (R423). -/
def Dev.failCmd (s : Dev) (c : Nat) (m : StxCmd) (status : Nat) : Dev :=
  let x := s.conn c
  (s.setConn c { x with cmds := x.cmds.filter (fun n => !decide (n.cid = m.cid)) }).endStore m.item status 0 0

/-- The SLBA of an item and the block size of its namespace. -/
def cmdBlock (m : StxCmd) (i : Item) : Nat × Nat := (descBits i.desc 319 256, 2 ^ bits m.ns 51 48)

/-- Place received bytes of a command at an offset of its buffer, after decryption; a partial block waits for its rest. -/
def Dev.placeData (s : Dev) (c : Nat) (m : StxCmd) (off : Nat) (data : List Byte) : Dev :=
  match s.item m.item with
  | none => s
  | some i =>
    let put := fun (s : Dev) (o : Nat) (bs : List Byte) => (s.itemWrite m.item i o bs).add .STX_PLACED_BYTES 0 bs.length
    if bit m.ns 52 = false then put s off data
    else if s.slotType (bits m.ns 81 64) = 0 then s.failCmd c m 0x402
    else
      let (slba, sz) := cmdBlock m i
      let all := m.part ++ data
      let o := off - m.part.length
      let whole := all.length / sz * sz
      let s := s.setCmd c { m with part := all.drop whole }
      put s o (Config.xts false (s.slotKey (bits m.ns 81 64)) (slba + o / sz) sz (all.take whole))

/-- Place bytes that have been placed before again (R430): under encryption, the blocks that lie wholly in them. -/
def Dev.placeAgain (s : Dev) (c : Nat) (m : StxCmd) (off : Nat) (data : List Byte) : Dev :=
  if bit m.ns 52 = false then s.placeData c m off data
  else
    let sz := 2 ^ bits m.ns 51 48
    let skip := (sz - off % sz) % sz
    let part := (s.cmdOf c m.cid).map (fun n => n.part)
    let s := s.placeData c { m with part := [] } (off + skip) ((data.drop skip).take ((data.length - skip) / sz * sz))
    match part, s.cmdOf c m.cid with
    | some p, some n => s.setCmd c { n with part := p }
    | _, _ => s

/-- Bytes of a command's write data, encrypted when the namespace asks for it; nothing while they have not been fetched. -/
def Dev.supply (s : Dev) (m : StxCmd) (off len : Nat) : Option (List Byte) :=
  match s.item m.item with
  | none => none
  | some i =>
    let bs := s.buf m.item
    if bs.length < m.len then none
    else
      let bs := if bit m.ns 52 then
          let (slba, sz) := cmdBlock m i
          Config.xts true (s.slotKey (bits m.ns 81 64)) slba sz bs
        else bs
      some ((bs.drop off).take len)

/-- A command ends with the Status Field and dwords 0 and 1 of its completion entry (R423). -/
def Dev.endCmd (s : Dev) (c : Nat) (m : StxCmd) (sf dw : Nat) : Dev :=
  let x := s.conn c
  let s := s.setConn c { x with cmds := x.cmds.filter (fun n => !decide (n.cid = m.cid)) }
  let status := if m.fail ≠ 0 then m.fail else if sf ≠ 0 then 0x500 else 0
  (s.setBuf m.item []).endStore m.item status (sf % 2 ^ 15) dw

/-! ### Received PDUs (R425 to R427) -/

/-- A field of a PDU, little-endian. -/
def pduNum (p : List Byte) (o n : Nat) : Nat := leNat ((p.drop o).take n)

/-- The error of the checks 1 to 3 of R425, or 0; a SUCCESS without LAST_PDU is of check 2 (R426). -/
def pduError (x : Conn) (p : List Byte) : Nat :=
  let typ := pduNum p 0 1
  let hlen := pduNum p 2 1
  let pdo := pduNum p 3 1
  let plen := pduNum p 4 4
  let dl := pduNum p 16 4
  let fl := pduNum p 1 1
  if x.hdgst = 1 ∧ (p.drop hlen).take 4 ≠ digest (p.take hlen) then 1
  else if (typ ≠ 5 ∧ typ ≠ 7 ∧ typ ≠ 9) ∨ hlen ≠ 24 then 2
  else if typ = 7 ∧ bit fl 3 ∧ bit fl 2 = false then 2
  else if typ = 7 then
    (if 24 + 4 * x.hdgst ≤ pdo ∧ plen = pdo + dl + (if dl = 0 then 0 else 4 * x.ddgst) then 0 else 2)
  else (if plen = 24 + 4 * x.hdgst then 0 else 2)

/-- The identifier a PDU names. -/
def pduCid (p : List Byte) : Nat := if pduNum p 0 1 = 5 then pduNum p 20 2 else pduNum p 8 2

/-- A C2HData PDU of an outstanding command (R425 checks 5 and 6, R426, R427). -/
def Dev.c2hData (s : Dev) (c : Nat) (x : Conn) (p : List Byte) (m : StxCmd) : Dev :=
  let off := pduNum p 12 4
  let len := pduNum p 16 4
  let data := (p.drop (pduNum p 3 1)).take len
  if m.toHost = false ∨ m.len < off + len then s.connError c 3 0x502
  else
    let s := s.placeData c m off data
    let bad := x.ddgst = 1 && !data.isEmpty && decide ((p.drop (pduNum p 3 1 + len)).take 4 ≠ digest data)
    match s.cmdOf c m.cid with
    | none => s
    | some m =>
      let m := if bad then { m with fail := 0x501 } else m
      let s := if bad then (s.setCmd c m).bump .STX_DDGST_ERR 0 else s
      if bit (pduNum p 1 1) 2 ∧ bit (pduNum p 1 1) 3 then s.endCmd c m 0 0 else s

/-- The H2CData PDUs that answer an R2T. -/
def h2cPdus (x : Conn) (cid ttag : Nat) : Nat → Nat → List Byte → List (List Byte)
  | 0, _, _ => []
  | k + 1, off, data =>
    let n := min data.length (4096 * bits x.img 495 480)
    let last := decide (data.length ≤ n)
    let hdr := beBytes 1 6 ++ beBytes 1 (x.digestFlags true + b2n last * 4) ++ beBytes 1 24 ++ beBytes 1 (24 + 4 * x.hdgst)
      ++ leBytes 4 (24 + 4 * x.hdgst + n + 4 * x.ddgst) ++ leBytes 2 cid ++ leBytes 2 ttag ++ leBytes 4 off ++ leBytes 4 n ++ leBytes 4 0
    pduBytes x hdr (data.take n) :: (if last then [] else h2cPdus x cid ttag k (off + n) (data.drop n))

/-- An R2T of an outstanding command, whose data is `data`. -/
def Dev.answerR2t (s : Dev) (c : Nat) (x : Conn) (p : List Byte) (m : StxCmd) (data : List Byte) : Dev :=
  let l := h2cPdus x m.cid (pduNum p 10 2) (data.length + 1) (pduNum p 12 4) data
  (s.add .STX_PDU_TX 0 l.length).tcpWrite c l.flatten

/-- Take the next PDU of a connection when it is of type `typ`, or fails the checks 1 to 3 (R425). -/
def Dev.takePdu (s : Dev) (c typ : Nat) (body : Dev → Conn → List Byte → StxCmd → Dev) : Outcome Dev Fault Refusal :=
  let x := s.conn c
  match x.nextPdu with
  | none => .next s
  | some (p, rest) =>
    let e := pduError x p
    if x.active = false ∨ x.tcp = false ∨ (e = 0 ∧ pduNum p 0 1 ≠ typ) then .next s
    else
      let s := (s.setConn c { x with rx := rest }).bump .STX_PDU_RX 0
      let ends := fun (s : Dev) => (s.finTaken c).removeDrained c
      if e ≠ 0 then .next (ends ((if e = 1 then s.bump .STX_HDGST_ERR 0 else s).connError c e 0x502))
      else match s.cmdOf c (pduCid p) with
        | none => .next (ends (s.bump .STX_STALE_PDU 0))
        | some m => .next (ends (body s (s.conn c) p m))

/-- CAPSULE_RESP (R425). -/
def execCapsuleResp (conn : Nat) (s : State) : Outcome State Fault Refusal := s.flow fun s =>
  s.takePdu conn 5 (fun s _ p m => s.endCmd conn m (pduNum p 22 2 / 2) (pduNum p 8 8))

/-- C2H_DATA (R426). -/
def execC2hData (conn : Nat) (s : State) : Outcome State Fault Refusal := s.flow fun s =>
  s.takePdu conn 7 (fun s x p m => s.c2hData conn x p m)

/-- The R2T at the front waits for write data that has not been fetched. -/
def Dev.r2tWaits (s : Dev) (c : Nat) : Bool :=
  match (s.conn c).nextPdu with
  | some (p, _) => match s.cmdOf c (pduCid p) with
    | some m => !m.toHost && decide (pduNum p 12 4 + pduNum p 16 4 ≤ m.len) && (s.supply m 0 0).isNone
    | none => false
  | none => false

/-- RECEIVE_R2T (R424): answered once the data of the item has been fetched. -/
def execReceiveR2t (conn : Nat) (s : State) : Outcome State Fault Refusal := s.flow fun s =>
  if s.r2tWaits conn ∧ s.mute conn = false then .next s
  else s.takePdu conn 9 (fun s x p m =>
    let off := pduNum p 12 4
    let len := pduNum p 16 4
    if m.toHost ∨ m.len < off + len then s.connError conn 3 0x502
    else if bit m.ns 52 ∧ s.slotType (bits m.ns 81 64) = 0 then s.failCmd conn m 0x402
    else match s.supply m off len with
      | some data => s.answerR2t conn x p m data
      | none => s)

/-! ### Received RoCE packets (R429 to R431) -/

/-- A received packet: opcode, PSN, what follows the BTH up to the pad, whether the iCRC holds, and whether it is marked CE. -/
structure RoceIn where
  op : Nat
  psn : Nat
  body : List Byte
  good : Bool
  ce : Bool

/-- Read a RoCEv2 packet. -/
def Frame.roceIn (x : Frame) : Option RoceIn :=
  match x.l4 with
  | none => none
  | some (ip, t) =>
    let e := t.off + word16 x.bytes (t.off + 4)
    let bth := t.off + 8
    if t.kind ≠ 4 ∨ e < bth + 16 ∨ x.bytes.length < e then none
    else
      let pad := bits (x.bytes.getD (bth + 1) 0).toNat 5 4
      let crc := icrc (decide (ip.kind = 3)) ip.off t.off (x.bytes.take (e - 4))
      some { op := (x.bytes.getD bth 0).toNat, psn := beNat ((x.bytes.drop (bth + 9)).take 3)
             body := (x.bytes.drop (bth + 12)).take (e - 4 - pad - (bth + 12))
             good := leNat ((x.bytes.drop (e - 4)).take 4) = crc, ce := x.ecn = some 3 }

/-- A CNP is sent for a packet marked CE, at most one in 50 µs (R431). -/
def Dev.cnp (s : Dev) (c : Nat) (g : RoceIn) : Dev :=
  let x := s.conn c
  let free := match x.cnpAt with | some v => decide (v + 1250 ≤ s.vn) | none => true
  if g.ce && x.ecn && free then
    ((s.setConn c { x with cnpAt := some s.vn }).bump .STX_ROCE_CNP_SENT 0).roceSend c
      (packet x 0x81 0 false [] (List.replicate 16 0))
  else s

/-- The kind of a packet: 1 ACK, 2 NAK, 3 CNP, 4 RDMA WRITE, 5 RDMA READ Request, 6 SEND and every other. -/
def RoceIn.kind (g : RoceIn) : Nat :=
  if g.op = 0x11 then (if bits ((g.body.getD 0 0).toNat) 6 5 = 0 then 1 else 2)
  else if g.op = 0x81 then 3
  else if g.op = 6 ∨ g.op = 7 ∨ g.op = 8 ∨ g.op = 0x0A then 4
  else if g.op = 0x0C then 5
  else 6

/-- Take the next frame of a RoCE connection when it is of a kind; one whose iCRC fails is dropped and counted. -/
def Dev.roceTake (s : Dev) (c : Nat) (miss : Bool) (kind : Nat) (body : Dev → RoceIn → Dev) :
    Outcome Dev Fault Refusal :=
  s.stxTake c miss (fun x => !(s.conn c).tcp && (match x.roceIn with
    | some g => !g.good || decide (g.kind = kind)
    | none => true)) (fun s _ x =>
    match x.roceIn with
    | none => s
    | some g => if g.good then body (s.cnp c g) g else s.bump .STX_ICRC_DROP 0)

/-- Packets up to a PSN are acknowledged. -/
def Dev.acked (s : Dev) (c psn : Nat) : Dev :=
  let x := s.conn c
  let left := x.flight.filter (fun g => decide ((psn + 2 ^ 24 - g.seq) % 2 ^ 24 ≥ 2 ^ 23))
  if left.length = x.flight.length then s
  else s.setConn c { x with flight := left, tries := 0, rnrUsed := 0
                            timer := if left.isEmpty then none else some (s.vn + x.ackTime) }

/-- ROCE_ACK_RECEIVED (R431). -/
def execRoceAckReceived (conn : Nat) (miss : Bool) (s : State) : Outcome State Fault Refusal := s.flow fun s =>
  s.roceTake conn miss 1 (fun s g => s.acked conn g.psn)

/-- The wait that an RNR NAK's timer code encodes, in volleys (InfiniBand; PRESUMED, log entry 32). -/
def rnrWait (k : Nat) : Nat :=
  250 * ([65536, 1, 2, 3, 4, 6, 8, 12, 16, 24, 32, 48, 64, 96, 128, 192, 256, 384, 512, 768, 1024, 1536, 2048, 3072, 4096, 6144,
    8192, 12288, 16384, 24576, 32768, 49152].getD k 0)

/-- An RNR NAK (R431). -/
def Dev.rnrNak (s : Dev) (c code : Nat) : Dev :=
  let x := s.conn c
  let lim := bits x.img 45 43
  if lim ≠ 7 ∧ lim ≤ x.rnrUsed then s.connError c 4 0x503
  else s.setConn c { x with rnrUsed := x.rnrUsed + 1, rnrEnd := some (s.vn + rnrWait code), timer := none }

/-- NAK_RECEIVED (R431). A NAK code other than PSN Sequence Error has no effect of its own in the spec; it is counted. -/
def execNakReceived (conn : Nat) (miss : Bool) (s : State) : Outcome State Fault Refusal := s.flow fun s =>
  s.roceTake conn miss 2 (fun s g =>
    let syn := (g.body.getD 0 0).toNat
    let s := (s.bump .STX_ROCE_NAK_RCVD 0).acked conn ((g.psn + 2 ^ 24 - 1) % 2 ^ 24)
    if bits syn 6 5 = 1 then s.rnrNak conn (syn % 32)
    else if syn % 32 = 0 then s.goBack conn
    else s)

/-- CNP_RECEIVED (R431). -/
def execCnpReceived (conn : Nat) (miss : Bool) (s : State) : Outcome State Fault Refusal := s.flow fun s =>
  s.roceTake conn miss 3 (fun s _ => s.bump .STX_ROCE_CNP_RCVD 0)

/-- Where a request's PSN stands: expected, a duplicate, or ahead. -/
def Conn.psnClass (x : Conn) (psn : Nat) : Nat :=
  let d := (psn + 2 ^ 24 - x.seqRx % 2 ^ 24) % 2 ^ 24
  if d = 0 then 0 else if 2 ^ 23 ≤ d then 1 else 2

/-- A request is in error: it is answered with a NAK and the connection enters ERROR (R429, R430). -/
def Dev.roceRefuse (s : Dev) (c psn nak code : Nat) : Dev := (s.roceNak c psn nak).connError c code 0x502

/-- The command a key names (R429, R430 check 2). -/
def Dev.keyCmd (s : Dev) (c key : Nat) : Option StxCmd := if key / 2 ^ 16 = c then s.cmdOf c (key % 2 ^ 16) else none

/-- A request as responder is complete at PSN `psn`: expected PSN and, at a message's end, MSN advance. -/
def Dev.advance (s : Dev) (c n : Nat) (ends : Bool) : Dev :=
  let x := s.conn c
  s.setConn c { (x.setImg 567 544 ((x.seqRx % 2 ^ 24 + n) % 2 ^ 24)) with
    msn := x.msn + b2n ends, sinceAck := x.sinceAck + 1 }

/-- Acknowledge at the end of a message, and after every 16 packets within one (R431). -/
def Dev.ackWrite (s : Dev) (c psn : Nat) (ends : Bool) : Dev :=
  if ends ∨ 16 ≤ (s.conn c).sinceAck then s.roceAck c psn else s

/-- An RDMA WRITE packet that names its place: First and Only carry a RETH. -/
def Dev.writeHead (s : Dev) (c : Nat) (g : RoceIn) (dup : Bool) : Dev :=
  let off := beNat (g.body.take 8)
  let key := beNat ((g.body.drop 8).take 4)
  let total := beNat ((g.body.drop 12).take 4)
  let data := g.body.drop 16
  match s.keyCmd c key with
  | none => if dup then s else s.roceRefuse c g.psn 2 7
  | some m =>
    if m.toHost = false ∨ m.len < off + total ∨ total < data.length then (if dup then s else s.roceRefuse c g.psn 2 7)
    else if dup then
      let s := s.placeAgain c m off data
      s.setConn c { s.conn c with again := if g.op = 6 then some (m.cid, off + data.length) else none }
    else
      let s := s.placeData c m off data
      let x := s.conn c
      if x.active = false then s
      else (s.setConn c { x with place := if g.op = 6 then some (m.cid, off + data.length) else none }).advance c 1 (decide (g.op = 0x0A))

/-- An RDMA WRITE Middle or Last. -/
def Dev.writeNext (s : Dev) (c : Nat) (g : RoceIn) : Dev :=
  let x := s.conn c
  match x.place with
  | none => s.roceRefuse c g.psn 1 6
  | some (cid, off) =>
    match s.cmdOf c cid with
    | none => s.roceRefuse c g.psn 2 7
    | some m =>
      if m.len < off + g.body.length then s.roceRefuse c g.psn 2 7
      else
        let s := s.placeData c m off g.body
        let x := s.conn c
        (s.setConn c { x with place := if g.op = 7 then some (cid, off + g.body.length) else none }).advance c 1 (decide (g.op = 8))

/-- A duplicate RDMA WRITE Middle or Last is placed again behind the packet that came again before it (R430). -/
def Dev.writeAgain (s : Dev) (c : Nat) (g : RoceIn) : Dev :=
  match (s.conn c).again with
  | none => s
  | some (cid, off) =>
    match s.cmdOf c cid with
    | none => s
    | some m =>
      if m.len < off + g.body.length then s
      else
        let s := s.placeAgain c m off g.body
        s.setConn c { s.conn c with again := if g.op = 7 then some (cid, off + g.body.length) else none }

/-- RDMA_WRITE (R430, R431): a duplicate is placed again where its place is known, and acknowledged. -/
def execRdmaWrite (conn : Nat) (miss : Bool) (s : State) : Outcome State Fault Refusal := s.flow fun s =>
  s.roceTake conn miss 4 (fun s g =>
    let head := decide (g.op = 6) || decide (g.op = 0x0A)
    let ends := decide (g.op = 8) || decide (g.op = 0x0A)
    match (s.conn conn).psnClass g.psn with
    | 0 =>
      let s := if head then s.writeHead conn g false else s.writeNext conn g
      if (s.conn conn).active then s.ackWrite conn g.psn ends else s
    | 1 => (if head then s.writeHead conn g true else s.writeAgain conn g).roceAck conn ((s.conn conn).seqRx + 2 ^ 24 - 1)
    | _ => s.roceNak conn (s.conn conn).seqRx 0)

/-- The packets of an RDMA READ Response, from PSN `psn`. -/
def readResponse (x : Conn) : Nat → Nat → Bool → List Byte → List (List Byte)
  | 0, _, _, _ => []
  | k + 1, psn, first, data =>
    let n := 2 ^ (7 + bits x.img 34 32)
    let last := decide (data.length ≤ n)
    let op := if first && last then 0x10 else if first then 0x0D else if last then 0x0F else 0x0E
    let hdr := if first || last then aeth 0x1F x.msn else []
    packet x op psn false hdr (data.take n) :: (if last then [] else readResponse x k (psn + 1) false (data.drop n))

/-- Serve a READ Request whose data is `data`. -/
def Dev.serveRead (s : Dev) (c : Nat) (g : RoceIn) (data : List Byte) (dup : Bool) : Dev :=
  let l := readResponse { s.conn c with msn := (s.conn c).msn + b2n (!dup) } (data.length + 1) g.psn true data
  let s := if dup then s.setConn c { s.conn c with reread := none } else s.advance c l.length true
  forEach l s (fun s p => s.roceSend c p)

/-- The READ Request at the front waits for data that has not been fetched. -/
def Dev.readWaits (s : Dev) (c : Nat) : Bool :=
  match s.stxHead c with
  | some (_, x) => match x.roceIn with
    | some g =>
      g.good && decide (g.op = 0x0C) && (match s.keyCmd c (beNat ((g.body.drop 8).take 4)) with
        | some m => !m.toHost && decide (m.len ≠ 0) && (s.supply m 0 0).isNone
        | none => false)
    | none => false
  | none => false

/-- A duplicate READ Request at the front, of an outstanding command, whose data has not been fetched again yet: its item and PSN
(R430). -/
def Dev.readAgain (s : Dev) (c : Nat) : Option (ItemRef × Item × Nat) :=
  match s.stxHead c with
  | none => none
  | some (_, x) => match x.roceIn with
    | none => none
    | some g =>
      if g.good ∧ g.op = 0x0C ∧ (s.conn c).psnClass g.psn = 1 ∧ (s.conn c).reread ≠ some g.psn then
        match s.keyCmd c (beNat ((g.body.drop 8).take 4)) with
        | some m =>
          if m.toHost ∨ m.len = 0 ∨ (s.supply m 0 0).isNone then none
          else (s.item m.item).map (fun i => (m.item, i, g.psn))
        | none => none
      else none

/-- RDMA_READ_REQUEST (R430): one that comes again has its data fetched from host memory again first. -/
def execRdmaReadRequest (conn : Nat) (miss : Bool) (s : State) : Outcome State Fault Refusal := s.flow fun s =>
  if (s.conn conn).active ∧ s.mute conn = false ∧ s.readWaits conn then .next s
  else match (s.conn conn).active && !s.mute conn, s.readAgain conn with
  | true, some (r, i, psn) => .next (((s.setConn conn { s.conn conn with reread := some psn }).setBuf r []).fetchData r i)
  | _, _ => s.roceTake conn miss 5 (fun s g =>
    let off := beNat (g.body.take 8)
    let len := beNat ((g.body.drop 12).take 4)
    let cls := (s.conn conn).psnClass g.psn
    if cls = 2 then s.roceNak conn (s.conn conn).seqRx 0
    else match s.keyCmd conn (beNat ((g.body.drop 8).take 4)) with
      | none => if cls = 1 then s else s.roceRefuse conn g.psn 2 7
      | some m =>
        if m.toHost ∨ m.len < off + len then (if cls = 1 then s else s.roceRefuse conn g.psn 2 7)
        else if bit m.ns 52 ∧ s.slotType (bits m.ns 81 64) = 0 then s.failCmd conn m 0x402
        else match s.supply m off len with
          | some data => s.serveRead conn g data (decide (cls = 1))
          | none => s)

/-- A response SEND of 16 bytes ends its command (R429). -/
def Dev.responseIn (s : Dev) (c : Nat) (g : RoceIn) (entry : List Byte) : Dev :=
  let s := ((s.advance c 1 true).bump .STX_PDU_RX 0).roceAck c g.psn
  match s.cmdOf c (pduNum entry 12 2) with
  | some m => s.endCmd c m (pduNum entry 14 2 / 2) (pduNum entry 0 8)
  | none => s.bump .STX_STALE_PDU 0

/-- RESPONSE_SEND (R429, R430): a SEND Only, with a request to invalidate ignored, carrying the 16-byte response; any other
opcode, and a SEND of another length, is an invalid request. -/
def execResponseSend (conn : Nat) (miss : Bool) (s : State) : Outcome State Fault Refusal := s.flow fun s =>
  s.roceTake conn miss 6 (fun s g =>
    let entry := if g.op = 0x17 then g.body.drop 4 else g.body
    match (s.conn conn).psnClass g.psn with
    | 2 => s.roceNak conn (s.conn conn).seqRx 0
    | 1 => s.roceAck conn ((s.conn conn).seqRx + 2 ^ 24 - 1)
    | _ =>
      if (g.op = 0x04 ∨ g.op = 0x17) ∧ entry.length = 16 then s.responseIn conn g entry
      else s.roceRefuse conn g.psn 1 6)

/-- ACK_TIMEOUT (R431). -/
def execAckTimeout (conn : Nat) (s : State) : Outcome State Fault Refusal := s.flow fun s =>
  let x := s.conn conn
  match x.timer with
  | none => .next s
  | some v =>
    if x.active = false ∨ x.tcp ∨ s.vn < v ∨ x.flight = [] ∨ s.mute conn then .next s
    else if bits x.img 42 40 ≤ x.tries then .next (s.connError conn 4 0x503)
    else .next ((s.setConn conn { x with tries := x.tries + 1 }).goBack conn)

/-- RNR_WAIT_END (R431). -/
def execRnrWaitEnd (conn : Nat) (s : State) : Outcome State Fault Refusal := s.flow fun s =>
  let x := s.conn conn
  match x.rnrEnd with
  | some v => .next (if x.active ∧ v ≤ s.vn ∧ s.mute conn = false then (s.setConn conn { x with rnrEnd := none }).goBack conn else s)
  | none => .next s

end Sys2Proof.Machine
end

