-- ==== Sys2Proof/Machine/Pit.lean ====
section
/-! DEFINITION. Pitches (R435 to R460): the pitch operations, resets by drain and by squash, freeze, save and restore, and
release. -/

namespace Sys2Proof.Machine

open Host

/-! ### The items and resources of a pitch (R438) -/

/-- The work rings of a pitch. -/
def Dev.pitchRings (s : Dev) (p : Nat) : List Nat :=
  (s.rng.rings.filter (fun e => e.2.loc = 0 && e.2.ctx ≠ 0 && e.2.pitch = p)).map (fun e => e.1)

/-- The completion rings of a pitch. -/
def Dev.pitchCqs (s : Dev) (p : Nat) : List Nat :=
  (s.rng.cqs.filter (fun e => e.2.loc = 0 && e.2.ctx ≠ 0 && e.2.pitch = p)).map (fun e => e.1)

/-- The accepted and uncompleted items of a list of rings. -/
def Dev.itemsIn (s : Dev) (rs : List Nat) : List Item :=
  (s.rng.items.filter (fun e => rs.contains e.2.ring)).map (fun e => e.2)

/-- The items of a pitch. -/
def Dev.pitchItems (s : Dev) (p : Nat) : List Item := s.itemsIn (s.pitchRings p)

/-- Where an item lies. -/
def Item.ref (x : Item) : ItemRef := ⟨x.ring, x.index⟩

/-- The frames queued toward the virtual port of a pitch, up to the queue engine. -/
def Dev.portFrames (s : Dev) (p : Nat) : List (Nat × Frame) :=
  s.framesIf (fun f => 512 + 8 * p ≤ f.queue && f.queue < 520 + 8 * p && (f.inQueue || f.loc = .ringEngine))

/-- A QUEUE channel that carries an item for which `p` holds is reset (R374, R446), and the movement is not run again. -/
def Dev.dropWork (s : Dev) (p : ItemRef → Bool) : Dev :=
  let s := forEach s.dma.chans s (fun s e =>
    match e.2.work with
    | some w => if p w.item then s.resetChannel e.1 else s
    | none => s)
  { s with rng := { s.rng with work := s.rng.work.filter (fun w => !p w.item) } }

/-- The engines forget an item (R446): its frames, its lane job, its command, its data and its capsule, without its side effect. A
capsule that has begun goes on. -/
def Dev.stopItem (s : Dev) (r : ItemRef) : Dev :=
  let s := forEach (s.framesIf (fun f => f.item = some r)) s (fun s e => s.dropFrame e.1)
  let s := { s with cry := { s.cry with jobs := s.cry.jobs.filter (fun j => j.frame.isSome || j.item ≠ r) } }
  let s := { s with stx := { s.stx with conns := s.stx.conns.map (fun (e : Nat × Conn) =>
    (e.1, { e.2 with cmds := e.2.cmds.filter (fun m => m.item ≠ r), waiting := e.2.waiting.filter (fun m => m.item ≠ r) })) } }
  s.setBuf r []

/-- A capsule of this item has begun its operation (R446). -/
def Dev.capBegun (s : Dev) (r : ItemRef) : Bool := s.bcp.caps.any (fun c => c.item = some r && c.stage = 1)

/-- Take a capsule that has not begun out of those in progress. -/
def Dev.dropCap (s : Dev) (r : ItemRef) : Dev :=
  { s with bcp := { s.bcp with caps := s.bcp.caps.filter (fun c => c.item ≠ some r) } }

/-- Squash the items of rings (R446): every accepted item that is not released completes with ABORTED, without its side
effect. -/
def Dev.squashItems (s : Dev) (rs : List Nat) : Dev :=
  let todo := (s.itemsIn rs).filter (fun x => x.stage = 1 && !s.capBegun x.ref)
  let s := s.dropWork (fun r => todo.any (fun x => x.ref = r))
  forEach todo s (fun s x => (((s.stopItem x.ref).dropCap x.ref).releaseWith x.ref 0x0304 0 0))

/-- Discard the items of rings (R448, R498, R505): their records are free, whatever their stage, with no completion. -/
def Dev.discardItems (s : Dev) (rs : List Nat) (count : Dev → Item → Dev) : Dev :=
  let todo := s.itemsIn rs
  let s := s.dropWork (fun r => rs.contains r.ring)
  forEach todo s (fun s x => count (((s.stopItem x.ref).dropCap x.ref).setItem x.ref none) x)

/-- Count an item of a pitch in PIT_ITEMS_LOST. -/
def Dev.countLost (s : Dev) (x : Item) : Dev :=
  match (s.ring x.ring).owner with
  | some p => s.bump .PIT_ITEMS_LOST p
  | none => s

/-- Set a work ring DISABLED: its error slot is free. -/
def Dev.disableRing (s : Dev) (r : Nat) : Dev :=
  let s := s.freeErrSlot r
  s.setRing r { s.ring r with st := 0, cqFull := false, la := [], batch := 0, errDue := false, done := (s.ring r).c }

/-- Set a completion ring DISABLED. -/
def Dev.disableCq (s : Dev) (q : Nat) : Dev := s.setCq q { s.cq q with enabled := false, armed := false }

/-- Flush the frames queued toward the virtual port of a pitch (R446). -/
def Dev.flushPitch (s : Dev) (p : Nat) : Dev :=
  forEach (s.portFrames p) s (fun s e => (s.loseFrame e.1).bump .PIT_TAIL_DROP p)

/-- The squash of a pitch at its boundary (R446). -/
def Dev.squashPitch (s : Dev) (p : Nat) : Dev := ((s.flushPitch p).squashItems (s.pitchRings p)).xonCheck

/-- The discard of a STOPPED pitch (R448). -/
def Dev.discardPitch (s : Dev) (p : Nat) : Dev :=
  let s := (s.flushPitch p).discardItems (s.pitchRings p) Dev.countLost
  let s := forEach (s.pitchRings p) s Dev.disableRing
  (forEach (s.pitchCqs p) s Dev.disableCq).xonCheck

/-- Acceptance of a pitch stops at a boundary (R444, R449): open batches close; on a reset, lookahead copies are gone. -/
def Dev.closePitch (s : Dev) (p : Nat) (discard : Bool) : Dev :=
  forEach (s.pitchRings p) s (fun s r =>
    let s := s.closeBatch r
    if discard then s.setRing r { s.ring r with la := [], f := (s.ring r).c } else s)

/-- Once no frame toward the virtual port remains, every RECV item not yet filled completes with ABORTED (R445). -/
def Dev.drainStep (s : Dev) (p : Nat) : Dev :=
  if (s.portFrames p).isEmpty then
    forEach ((s.pitchItems p).filter (fun x => x.kind = 1 && x.stage = 1 && !x.filled)) s (fun s x =>
      s.releaseWith x.ref 0x0304 0 0)
  else s

/-- The rings of a pitch start again (R447, step 1): ACTIVE and ERROR rings, but one that still holds an item that cannot be
posted (R458). -/
def Dev.restartRings (s : Dev) (p : Nat) : Dev :=
  forEach (s.pitchRings p) s (fun s r =>
    if ((s.ring r).st = 1 ∨ (s.ring r).st = 2) ∧ (s.itemsIn [r]).isEmpty then s.ringStart r else s)

/-! ### Operations (R442, R443) -/

/-- Report an operation in PIT_STATUS (R459). -/
def Dev.pitStatus (s : Dev) (tag detail result : Nat) (busy : Bool) : Dev :=
  s.wr .PIT_STATUS 0 (tag % 2 ^ 16 * 2 ^ 16 + detail % 2 ^ 8 * 2 ^ 8 + result * 2 ^ 4 + b2n busy)

/-- The device-wide status of a RESULT of R443. -/
def pitCode : Nat → Nat
  | 0 => 0 | 1 => 9 | 2 => 8 | 3 => 0x102 | 4 => 0x306 | 5 => 0xA | 6 => 0x700 | 7 => 0x203 | 8 => 0x40A | 9 => 0x109
  | _ => 0x701

/-- An operation ends with a RESULT: BUSY clears, and the capsule that asked for it, if one did, ends. -/
def Dev.pitEnd (s : Dev) (tag detail result : Nat) : Dev :=
  let s := { s with pit := { s.pit with op := none } }.pitStatus tag detail result false
  (s.capEnd (fun c => c.opcode = 0x0801) (pitCode result) detail 0 []).capEnd (fun c => c.opcode = 0x0803) (pitCode result) detail
    (s.rd .PIT_STATUS 0) []

/-- The states that R442 allows an operation in. -/
def pitAllows (op st : Nat) : Bool :=
  match op with
  | 1 => st = 0
  | 2 => st = 1 || st = 3 || st = 5 || st = 9
  | 3 => st = 1 || st = 3 || st = 5 || st = 9
  | 4 => st = 1
  | 5 => st = 3 || st = 5
  | 6 => st = 3 || st = 5
  | 7 => st = 0
  | 8 => st ≠ 0
  | _ => false

/-- The origins that may write PIT_CTL: BAR0, and Basecamp for itself or for a capsule (R442, R514). -/
def Origin.pitWriter : Origin → Bool
  | .bar0 _ => true
  | .basecamp => true
  | .cmdRing .. => true
  | o => o.capsule

/-- The counters 0 to 12 of a pitch (R441). -/
def pitCounters : List Reg :=
  [.PIT_ITEMS_ACCEPTED, .PIT_ITEMS_COMPLETED, .PIT_ITEMS_ABORTED, .PIT_ITEMS_LOST, .PIT_RX_FRAMES, .PIT_RX_BYTES, .PIT_TAIL_DROP,
   .PIT_WRED_DROP, .PIT_ECN_MARKED, .PIT_QUOTA_DROP, .PIT_DB_DROPPED, .PIT_RESETS, .PIT_DRAIN_TIMEOUTS]

/-- Record BIND_LINK and BIND_PASID of a pitch from its Pitch Map entry. -/
def Dev.recordBind (s : Dev) (p : Nat) : Dev :=
  (s.setFld .PIT_STATE p 29 28 (pmapLink (s.pmap p))).setFld .PIT_STATE p 27 8 (pmapPasid (s.pmap p))

/-- A raised record holds a change of the state of this pitch. -/
def Dev.pitMoving (s : Dev) (p : Nat) : Bool :=
  (s.log.prio ++ s.log.ord ++ s.log.taken).any (fun e => match e.held with
    | some h => decide (h.origin = .device) && decide (h.cell = Reg.PIT_STATE.key p)
    | none => false)

/-- Set the state of a pitch. -/
def Dev.movePit (s : Dev) (o : Origin) (p st : Nat) : Dev := if s.pitState p = st ∧ s.pitMoving p = false then s else s.setPit o p st

/-- Set the operation that runs. -/
def Dev.setPitOp (s : Dev) (x : PitOp) : Dev := { s with pit := { s.pit with op := some x } }

/-- The operation has reached its end: it is over, with its outcome, once its pitch has its last state (R442). -/
def Dev.pitClose (s : Dev) (o : Origin) (x : PitOp) (st detail result : Nat) : Dev :=
  if s.pitState x.pitch = st ∧ s.pitMoving x.pitch = false then s.pitEnd x.tag detail result
  else (s.setPitOp { x with phase := 2, last := st, detail := detail, result := result }).setPit o x.pitch st

/-- An operation as it begins, in phase 0. -/
def Dev.newOp (s : Dev) (op p link tag : Nat) : PitOp :=
  { op, pitch := p, link, tag, start := s.pitState p, since := s.vn, phase := 0, result := 0, detail := 0, last := 0, len := 0 }

/-- BIND (R436). -/
def Dev.bind (s : Dev) (o : Origin) (p tag : Nat) : Dev :=
  if pmapValid (s.pmap p) = false ∨ s.isFrozen 9 p then s.pitEnd tag 1 3
  else if s.cry.kek.isNone then s.pitEnd tag 1 8
  else
    let x := s.newOp 1 p 0 tag
    let s := (s.genMemKey p).recordBind p
    let s := forEach pitCounters s (fun s r => s.wr r p 0)
    (s.pitStatus tag 0 0 true).pitClose o x 1 0 0

/-- THAW (R455): acceptance opens at the boundary after the pitch is ACTIVE. -/
def Dev.thaw (s : Dev) (o : Origin) (p tag : Nat) : Dev := (s.pitStatus tag 0 0 true).pitClose o (s.newOp 5 p 0 tag) 1 0 0

/-- Begin an operation that takes time: BUSY, and the state it runs in. -/
def Dev.pitBegin (s : Dev) (o : Origin) (x : PitOp) (st : Nat) : Dev :=
  ((s.setPitOp x).movePit o x.pitch st).pitStatus x.tag 0 0 true

/-! ### The pitch image (R451, R452) -/

/-- A key record: slot, TYPE, OWNER with OWNER_VALID, and the slot's bytes. -/
def Dev.keyRecord (s : Dev) (i : Nat) : List Byte :=
  let own := s.fld .CRY_KEYINFO i 19 8 + s.fld .CRY_KEYINFO i 20 20 * 2 ^ 15
  leBytes 4 i ++ leBytes 1 (s.slotType i) ++ leBytes 2 own ++ leBytes 9 0 ++ leBytes 64 (s.slotKey i)

/-- The connections of a pitch. -/
def Dev.pitchConns (s : Dev) (p : Nat) : List Nat :=
  (s.stx.conns.filter (fun e => connState e.2.img ≠ 0 && e.2.owner = p)).map (fun e => e.1)

/-- The namespace entries of a pitch. -/
def Dev.pitchNss (s : Dev) (p : Nat) : List Nat :=
  (s.stx.nss.filter (fun e => bit e.2 53 && bits e.2 43 32 = p)).map (fun e => e.1)

/-- The SAs of a pitch: those listed cells of the SA table with VALID 1 and OWNER `p`. -/
def Dev.pitchSas (s : Dev) (p : Nat) : List Nat :=
  ((s.regs.filter (fun e => Reg.ofKey e.1 = .CRY_SA_ENTRY && Reg.ixOf e.1 % 8 = 0)).map (fun e => Reg.ixOf e.1 / 8)).filter
    (fun i => bit (s.sa i) 27 && saOwner (s.sa i) = some p)

/-- The key slots of a pitch below the memory slots. -/
def Dev.pitchKeys (s : Dev) (p : Nat) : List Nat :=
  ((s.regs.filter (fun e => Reg.ofKey e.1 = .CRY_KEYINFO)).map (fun e => Reg.ixOf e.1)).filter
    (fun i => i < 0x3F000 && s.slotType i ≠ 0 && s.slotOwner i = some p)

/-- The enabled work rings and completion rings of a pitch: those the image carries (DEDUCED, log entry 35). -/
def Dev.liveRings (s : Dev) (p : Nat) : List Nat × List Nat :=
  ((s.pitchRings p).filter (fun r => (s.ring r).st ≠ 0), (s.pitchCqs p).filter (fun q => (s.cq q).enabled))

/-- A work-ring record. -/
def Dev.ringRecord (s : Dev) (r : Nat) : List Byte :=
  let x := s.ring r
  leBytes 2 r ++ leBytes 32 x.ctx ++ leBytes 4 x.p ++ leBytes 4 x.c ++ leBytes 4 x.f ++ leBytes 4 x.done ++ leBytes 14 0

/-- A completion-ring record. -/
def Dev.cqRecord (s : Dev) (q : Nat) : List Byte :=
  let x := s.cq q
  leBytes 2 q ++ leBytes 32 x.ctx ++ leBytes 4 x.pcq ++ leBytes 4 x.ccq ++ leBytes 2 x.u ++ leBytes 1 (b2n x.armed) ++ leBytes 19 0

/-- The pitch record: PIT_QUOTA, WEIGHT and the counters 0 to 12, in that order (DESIGN CHOICE, log entry 35). -/
def Dev.pitchRecord (s : Dev) (p : Nat) : List Byte :=
  let q := leBytes 8 (s.rd .PIT_QUOTA (2 * p)) ++ leBytes 8 (s.rd .PIT_QUOTA (2 * p + 1))
  q ++ leBytes 8 (s.pitchWeight p) ++ (pitCounters.map (fun r => leBytes 8 (s.rd r p))).flatten ++ leBytes 128 0

/-- The sections 3 to 9 of the body, each with its number of records. -/
def Dev.imageSections (s : Dev) (p : Nat) : List (Nat × List Byte) :=
  let (rs, qs) := s.liveRings p
  let sec := fun (l : List Nat) (f : Nat → List Byte) => (l.length, (l.map f).flatten)
  [ sec rs s.ringRecord, sec qs s.cqRecord,
    sec (List.range 8) (fun i => leBytes 8 (Sparse.get (fun _ => 0) s.rng.rxmap (8 * p + i))),
    sec (s.pitchConns p) (fun c => leBytes 2 c ++ leBytes 14 0 ++ leBytes 96 (s.conn c).image),
    sec (s.pitchNss p) (fun i => leBytes 2 i ++ leBytes 14 0 ++ leBytes 16 (s.ns i)),
    sec (s.pitchSas p) (fun i => leBytes 4 i ++ leBytes 12 0 ++ leBytes 64 (s.sa i)),
    sec (s.pitchKeys p) s.keyRecord ]

/-- The image of a pitch under the migration key (R451). -/
def Dev.pitchImage (s : Dev) (p key : Nat) : List Byte :=
  let secs := s.imageSections p
  let body := s.pitchRecord p ++ s.keyRecord (0x3F000 + p) ++ (secs.map (fun x => x.2)).flatten
  let nonce := leBytes 4 Config.serial ++ leBytes 8 s.vn
  let head := leBytes 4 0x4D475450 ++ leBytes 2 1 ++ leBytes 2 p ++ leBytes 8 Config.serial ++ leBytes 8 s.vn
    ++ leBytes 2 (s.fld .BCP_DOM_CFG 0 15 0) ++ leBytes 2 (s.fld .BCP_DOM_CFG 0 27 16) ++ leBytes 4 0 ++ leBytes 8 body.length
    ++ nonce ++ leBytes 12 0 ++ (secs.map (fun x => leBytes 4 x.1)).flatten ++ leBytes 4 0
  let (ct, tag) := Config.aeadSeal 1 key (leNat nonce) head body
  head ++ tag ++ leBytes 16 0 ++ ct

/-- SAVE (R453): the outcome known at once, or the writes of the image. -/
def Dev.save (s : Dev) (o : Origin) (p link tag : Nat) : Dev :=
  match s.cry.migKey with
  | none => s.pitEnd tag 2 8
  | some key =>
    if s.fld .CLK_TIME_STATUS 0 1 0 = 0 then s.pitEnd tag 0 9
    else
      let img := s.pitchImage p key
      let a := s.rd .PIT_IMAGE_ADDR 0
      if s.rd .PIT_IMAGE_LEN 0 < img.length then s.pitEnd tag 1 3
      else if a % 4096 ≠ 0 then s.pitEnd tag 2 3
      else
        let s := s.pitBegin o { s.newOp 6 p link tag with len := img.length } 4
        s.hostWrite none link a img

/-- A write of PIT_CTL (R442). -/
def Dev.pitCtl (s : Dev) (o : Origin) (v : Nat) : Dev :=
  let p := bits v 11 0
  let op := bits v 15 12
  let link := bits v 17 16
  let tag := bits v 47 32
  if o.pitWriter = false then s.bump .TBL_CMD_FOREIGN 0
  else if s.pit.op.isSome then s.setFld .PIT_STATUS 0 7 4 1
  else if s.mode = .lockdown then s.pitEnd tag 0xFD 5
  else if pitAllows op (s.pitState p) = false then s.pitEnd tag 0 2
  else if op ≠ 1 ∧ op ≠ 8 ∧ s.isFrozen 9 p then s.pitEnd tag 1 2
  else match op with
    | 1 => s.bind o p tag
    | 2 => s.pitBegin o (s.newOp 2 p link tag) 7
    | 3 => s.pitBegin o (s.newOp 3 p link tag) 8
    | 4 => s.pitBegin o (s.newOp 4 p link tag) 2
    | 5 => s.thaw o p tag
    | 6 => s.save o p link tag
    | 7 => s.pitBegin o (s.newOp 7 p link tag) 6
    | _ => s.pitBegin o (s.newOp 8 p link tag) 10

/-- The value of PIT_CTL of an operation. -/
def pitWord (op pitch link tag : Nat) : Nat :=
  pitch % 4096 + op * 2 ^ 12 + link % 4 * 2 ^ 16 + tag % 2 ^ 16 * 2 ^ 32

/-- The common form of the commands that write PIT_CTL. -/
def Dev.pitWrite (s : Dev) (o : Origin) (op pitch link tag : Nat) : Outcome Dev Fault Refusal :=
  .next (s.regWrite o .PIT_CTL 0 8 (pitWord op pitch link tag) fun s => s.pitCtl o (pitWord op pitch link tag))

/-- BIND (R436). -/
def execBind (o : Origin) (pitch tag : Nat) (s : State) : Outcome State Fault Refusal := s.act fun s => s.pitWrite o 1 pitch 0 tag
/-- RESET_DRAIN (R445). -/
def execResetDrain (o : Origin) (pitch tag : Nat) (s : State) : Outcome State Fault Refusal := s.act fun s => s.pitWrite o 2 pitch 0 tag
/-- RESET_SQUASH (R446). -/
def execResetSquash (o : Origin) (pitch tag : Nat) (s : State) : Outcome State Fault Refusal := s.act fun s => s.pitWrite o 3 pitch 0 tag
/-- FREEZE (R449). -/
def execFreeze (o : Origin) (pitch tag : Nat) (s : State) : Outcome State Fault Refusal := s.act fun s => s.pitWrite o 4 pitch 0 tag
/-- THAW (R455). -/
def execThaw (o : Origin) (pitch tag : Nat) (s : State) : Outcome State Fault Refusal := s.act fun s => s.pitWrite o 5 pitch 0 tag
/-- SAVE (R453). -/
def execSave (o : Origin) (pitch link tag : Nat) (s : State) : Outcome State Fault Refusal := s.act fun s => s.pitWrite o 6 pitch link tag
/-- RESTORE (R454). -/
def execRestore (o : Origin) (pitch link tag : Nat) (s : State) : Outcome State Fault Refusal := s.act fun s => s.pitWrite o 7 pitch link tag
/-- RELEASE (R456). -/
def execRelease (o : Origin) (pitch tag : Nat) (s : State) : Outcome State Fault Refusal := s.act fun s => s.pitWrite o 8 pitch 0 tag

/-! ### How operations run (R444 to R449) -/

/-- The beginning of a reset or a release at its boundary (R444, R446, R448). -/
def Dev.resetBegin (s : Dev) (x : PitOp) : Dev :=
  let s := (s.setPitOp { x with phase := 1, since := s.vn }).closePitch x.pitch true
  if x.start = 9 then s.discardPitch x.pitch
  else if x.op = 2 then s.drainStep x.pitch
  else s.squashPitch x.pitch

/-- PITCH_RESET_BEGIN (R444): at the boundary after the request. -/
def execPitchResetBegin (s : State) : Outcome State Fault Refusal := s.act fun s =>
  match s.pit.op with
  | some x =>
    if (x.op = 2 ∨ x.op = 3 ∨ x.op = 8) ∧ x.phase = 0 ∧ x.since < s.vn ∧ s.pitMoving x.pitch = false then .next (s.resetBegin x) else .next s
  | none => .next s

/-- No QUEUE channel is still being reset. -/
def Dev.channelsSettled (s : Dev) : Bool := s.dma.chans.all (fun e => !e.2.resetting)

/-- Every item of a pitch has completed, or its released ones wait only for a frozen Pitch Map entry (R458). -/
def Dev.pitchDone (s : Dev) (p : Nat) : Bool :=
  (s.pitchItems p).isEmpty || (s.isFrozen 9 p && (s.pitchItems p).all (fun x => x.stage = 2))

/-- A reset ends (R447). -/
def Dev.resetEnd (s : Dev) (x : PitOp) : Dev :=
  let s := if x.start = 9 then s else s.restartRings x.pitch
  (s.bump .PIT_RESETS x.pitch).pitClose .device x 1 x.detail x.result

/-- DRAIN_END (R445, R447): no item of the pitch remains accepted and uncompleted. -/
def execDrainEnd (s : State) : Outcome State Fault Refusal := s.act fun s =>
  match s.pit.op with
  | some x =>
    if x.op = 2 ∧ x.phase = 1 ∧ (s.pitchItems x.pitch).isEmpty then .next (s.resetEnd x) else .next s
  | none => .next s

/-- PIT_DRAIN_LIMIT or PIT_FREEZE_LIMIT in force: below 250 acts as 250 (R459). -/
def Dev.pitLimit (s : Dev) (r : Reg) : Nat := max 250 (s.rd r 0)

/-- The items of a pitch that are outstanding, saturating at 255. -/
def Dev.outstanding (s : Dev) (p : Nat) : Nat := min 255 (s.pitchItems p).length

/-- DRAIN_LIMIT (R445): the drain turns into a squash of what remains, once SQUASHING is recorded, and the reset ends DRAIN_TIMEOUT. -/
def execDrainLimit (s : State) : Outcome State Fault Refusal := s.act fun s =>
  match s.pit.op with
  | some x =>
    if x.op = 2 ∧ x.phase = 1 ∧ x.since + s.pitLimit .PIT_DRAIN_LIMIT ≤ s.vn then
      let s := s.setPitOp { x with op := 3, phase := 3, result := 4, detail := s.outstanding x.pitch }
      .next ((s.bump .PIT_DRAIN_TIMEOUTS x.pitch).setPit .device x.pitch 8)
    else .next s
  | none => .next s

/-- A change of a pitch's state takes place (R442): the squash of a drain that has reached its limit begins, and an operation whose pitch
has its last state is over. -/
def Dev.pitSealed (s : Dev) (p st : Nat) : Dev :=
  let s := s.setFld .PIT_STATE p 3 0 st
  match s.pit.op with
  | none => s
  | some x =>
    if x.pitch ≠ p then s
    else if x.phase = 2 ∧ x.last = st then
      let s := if x.op = 5 then { s with pit := { s.pit with thawed := some (p, s.vn) } } else s
      s.pitEnd x.tag x.detail x.result
    else if x.phase = 3 ∧ st = 8 then (s.setPitOp { x with phase := 1 }).squashPitch p
    else s

/-- SQUASH_END (R446, R447, R448). -/
def execSquashEnd (s : State) : Outcome State Fault Refusal := s.act fun s =>
  match s.pit.op with
  | some x =>
    if x.op = 3 ∧ x.phase = 1 ∧ s.channelsSettled ∧ s.pitchDone x.pitch then .next (s.resetEnd x) else .next s
  | none => .next s

/-- FREEZE_BEGIN (R449): at the boundary after the request. -/
def execFreezeBegin (s : State) : Outcome State Fault Refusal := s.act fun s =>
  match s.pit.op with
  | some x =>
    if x.op = 4 ∧ x.phase = 0 ∧ x.since < s.vn ∧ s.pitMoving x.pitch = false then
      .next (((s.setPitOp { x with phase := 1, since := s.vn }).closePitch x.pitch false).drainStep x.pitch)
    else .next s
  | none => .next s

/-- FREEZE_END (R449): every accepted item has completed. -/
def execFreezeEnd (s : State) : Outcome State Fault Refusal := s.act fun s =>
  match s.pit.op with
  | some x =>
    if x.op = 4 ∧ x.phase = 1 ∧ (s.pitchItems x.pitch).isEmpty then .next (s.pitClose .device x 3 0 0) else .next s
  | none => .next s

/-- FREEZE_LIMIT (R449): the pitch returns to ACTIVE. -/
def execFreezeLimit (s : State) : Outcome State Fault Refusal := s.act fun s =>
  match s.pit.op with
  | some x =>
    if x.op = 4 ∧ x.phase = 1 ∧ x.since + s.pitLimit .PIT_FREEZE_LIMIT ≤ s.vn then
      .next ((s.bump .PIT_DRAIN_TIMEOUTS x.pitch).pitClose .device x 1 (s.outstanding x.pitch) 4)
    else .next s
  | none => .next s

/-- A drain or a freeze at a boundary: RECV items that nothing can fill any more are aborted (R445). -/
def Dev.pitTick (s : Dev) : Dev :=
  match s.pit.op with
  | some x => if (x.op = 2 ∨ x.op = 4) ∧ x.phase = 1 then s.drainStep x.pitch else s
  | none => s

/-- SAVE_DONE (R453): the flush read of the image has completed, or with `fail` some access failed with a status. -/
def execSaveDone (fail : Option Nat) (s : State) : Outcome State Fault Refusal := s.act fun s =>
  match s.pit.op with
  | some x =>
    if x.op = 6 ∧ x.phase = 0 then
      match fail with
      | none => .next ((s.wr .PIT_IMAGE_OUT 0 x.len).pitClose .device x 5 0 0)
      | some st => .next (s.pitClose .device x x.start st 7)
    else .next s
  | none => .next s

/-! ### Restore (R454) -/

/-- An image taken apart: its header, and the records of sections 3 to 9. -/
structure PitImage where
  source : Nat
  first : List Byte
  memKey : List Byte
  secs : List (List (List Byte))

/-- Cut a string of bytes into records of `n` bytes, `k` of them. -/
def records (n : Nat) : Nat → List Byte → List (List Byte)
  | 0, _ => []
  | k + 1, bs => bs.take n :: records n k (bs.drop n)

/-- Cut the sections 3 to 9 out of a body, with their record counts. -/
def cutSections : List (Nat × Nat) → List Byte → List (List (List Byte))
  | [], _ => []
  | (n, k) :: l, bs => records n k bs :: cutSections l (bs.drop (n * k))

/-- Bytes `o` to `o + n` of a string as a number. -/
def leAt (bs : List Byte) (o n : Nat) : Nat := leNat ((bs.drop o).take n)

/-- Take a body apart by the counts of the header. -/
def parseImage (head body : List Byte) : PitImage :=
  let counts := (List.range 7).map (fun i => leAt head (0x40 + 4 * i) 4)
  let sizes := [64, 64, 8, 112, 32, 80, 80]
  { source := leAt head 6 2 % 4096, first := body.take 256, memKey := (body.drop 256).take 80,
    secs := cutSections (sizes.zip counts) (body.drop 336) }

/-- The records of section `n`, 3 to 9. -/
def PitImage.sec (x : PitImage) (n : Nat) : List (List Byte) := x.secs.getD (n - 3) []

/-- The number of the first section whose resources are not all free, or 0 (R454). -/
def Dev.occupied (s : Dev) (x : PitImage) : Nat :=
  let free : List (Nat × Bool) :=
    [ (3, (x.sec 3).all (fun r => (s.ring (leAt r 0 2)).st = 0)),
      (4, (x.sec 4).all (fun r => !(s.cq (leAt r 0 2)).enabled)),
      (6, (x.sec 6).all (fun r => connState (s.conn (leAt r 0 2)).img = 0)),
      (7, (x.sec 7).all (fun r => !bit (s.ns (leAt r 0 2)) 53)),
      (8, (x.sec 8).all (fun r => !bit (s.sa (leAt r 0 4)) 27)),
      (9, (x.sec 9).all (fun r => s.slotType (leAt r 0 4) = 0)) ]
  match free.find? (fun c => !c.2) with
  | some c => c.1
  | none => 0

/-- A completion ring of an image that is not signalled by QUEUE names a vector of the link (R313, R355). -/
def Dev.vectorsOk (s : Dev) (x : PitImage) (link : Nat) : Bool :=
  (x.sec 4).all (fun r => decide (bits (leAt r 2 32) 108 96 < s.vectors link))

/-- The outcome of the checks of RESTORE before the resources: RESULT and DETAIL, or the image taken apart. -/
def Dev.restoreChecks (s : Dev) (q : Nat) (img : List Byte) : Except (Nat × Nat) PitImage :=
  let len := leAt img 0x20 8
  if s.rd .PIT_IMAGE_LEN 0 < 0x80 + len then .error (3, 1)
  else if leAt img 0 4 ≠ 0x4D475450 ∨ leAt img 4 2 ≠ 1 then .error (6, 1)
  else if leAt img 0x18 2 ≠ s.fld .BCP_DOM_CFG 0 15 0 then .error (6, 2)
  else match s.cry.migKey with
    | none => .error (8, 2)
    | some key =>
      match Config.aeadOpen 1 key (leAt img 0x28 12) (img.take 0x60) ((img.drop 0x80).take len) ((img.drop 0x60).take 16) with
      | none => .error (6, 3)
      | some body =>
        let x := parseImage (img.take 0x80) body
        if pmapValid (s.pmap q) = false ∨ s.isFrozen 9 q then .error (3, 2)
        else if s.occupied x ≠ 0 then .error (10, s.occupied x)
        else if s.vectorsOk x (pmapLink (s.pmap q)) = false then .error (3, 3)
        else .ok x

/-- Install a work ring of an image: ACTIVE, with its indices, and its PITCH rewritten. -/
def Dev.installRing (s : Dev) (q : Nat) (r : List Byte) : Dev :=
  let ctx := putBits (leAt r 2 32) 91 80 q
  let x := { Ring.blank with ctx := ctx, p := leAt r 34 4, c := leAt r 38 4, f := leAt r 42 4, done := leAt r 46 4, st := 1, errSlot := true }
  let c := s.cq x.cqNo
  (s.setCq x.cqNo { c with resv := c.resv + 1 }).setRing (leAt r 0 2) x

/-- Install a completion ring of an image: ENABLED, with its indices. -/
def Dev.installCq (s : Dev) (q : Nat) (r : List Byte) : Dev :=
  s.setCq (leAt r 0 2) { Cq.blank with ctx := putBits (leAt r 2 32) 83 72 q, pcq := leAt r 34 4, ccq := leAt r 38 4,
                                       u := leAt r 42 2, armed := decide (leAt r 44 1 ≠ 0), enabled := true, firstVn := s.vn }

/-- Install a key of an image. -/
def Dev.installKey (s : Dev) (i q : Nat) (r : List Byte) : Dev :=
  s.setSlotKey i (leAt r 16 64) (leAt r 4 1) (if bit (leAt r 5 2) 15 then q else 0) (bits (leAt r 5 2) 15 15)

/-- Install the pitch record and RXMAP of an image. -/
def Dev.installPitch (s : Dev) (q : Nat) (x : PitImage) : Dev :=
  let s := (s.wr .PIT_QUOTA (2 * q) (leAt x.first 0 8)).wr .PIT_QUOTA (2 * q + 1) (leAt x.first 8 8 % 2 ^ 15)
  let s := forEach pitCounters.zipIdx s (fun s e => s.wr e.1 q (leAt x.first (24 + 8 * e.2) 8))
  let s := { s with rng := { s.rng with pitch := Sparse.set (fun _ => 0) s.rng.pitch q (leAt x.first 16 8) } }
  forEach (x.sec 5).zipIdx s (fun s e =>
    { s with rng := { s.rng with rxmap := Sparse.set (fun _ => 0) s.rng.rxmap (8 * q + e.2) (leAt e.1 0 8) } })

/-- Install a whole image in pitch `q` (R454). -/
def Dev.install (s : Dev) (q : Nat) (x : PitImage) : Dev :=
  let s := s.installPitch q x
  let s := s.setSlotKey (0x3F000 + q) (leAt x.memKey 16 64) (leAt x.memKey 4 1) q 1
  let s := forEach (x.sec 4) s (fun s r => s.installCq q r)
  let s := forEach (x.sec 3) s (fun s r => s.installRing q r)
  let s := forEach (x.sec 6) s (fun s r =>
    let img := putBits (leAt r 16 96) 19 8 q
    s.setConn (leAt r 0 2) { installed img with img := img })
  let s := forEach (x.sec 7) s (fun s r =>
    { s with stx := { s.stx with nss := Sparse.set (fun _ => 0) s.stx.nss (leAt r 0 2) (putBits (leAt r 16 16) 43 32 q) } })
  let s := forEach (x.sec 8) s (fun s r => s.setSa (leAt r 0 4) (putBits (leAt r 16 64) 39 28 q))
  (forEach (x.sec 9) s (fun s r => s.installKey (leAt r 0 4) q r)).recordBind q

/-- RESTORE_DONE (R454): the image has been read, or its read failed. -/
def execRestoreDone (img : Fetch) (s : State) : Outcome State Fault Refusal := s.act fun s =>
  match s.pit.op with
  | some x =>
    if x.op = 7 ∧ x.phase = 0 then
      match img with
      | .fail code =>
        let s := if code = 1 then s.countTimeout x.link else s
        .next (s.pitClose .device x x.start code 7)
      | .ok bs =>
        match s.restoreChecks x.pitch bs with
        | .error (r, d) => .next (s.pitClose .device x x.start d r)
        | .ok y => .next ((s.install x.pitch y).pitClose .device x 3 0 0)
    else .next s
  | none => .next s

/-! ### Release (R456) -/

/-- Free the rings, RXMAP entries and channels of a pitch (R456, steps 1 and 2). -/
def Dev.releaseRings (s : Dev) (p : Nat) : Dev :=
  let s := s.discardItems (s.pitchRings p) Dev.countLost
  let s := forEach (s.pitchRings p) s Dev.disableRing
  let s := forEach (s.pitchCqs p) s Dev.disableCq
  let s := forEach (List.range 8) s (fun s i =>
    let v := Sparse.get (fun _ => 0) s.rng.rxmap (8 * p + i)
    { s with rng := { s.rng with rxmap := Sparse.set (fun _ => 0) s.rng.rxmap (8 * p + i) (putBits v 20 20 0) } })
  forEach (List.range 1088) s (fun s n =>
    if ownerKind (s.chOwner n) = 3 ∧ ownerPitch (s.chOwner n) = some p then (s.clearShadow n).wr .DMA_CH_OWNER n 0 else s)

/-- Free the connections, namespaces, SAs and keys of a pitch (R456, steps 3 and 4). -/
def Dev.releaseKeys (s : Dev) (p : Nat) : Dev :=
  let s := forEach (s.pitchConns p) s (fun s c => (s.endConnItems c 0x0304).setConn c Conn.blank)
  let s := forEach (s.pitchNss p) s (fun s i =>
    { s with stx := { s.stx with nss := Sparse.set (fun _ => 0) s.stx.nss i (putBits (s.ns i) 53 53 0) } })
  let s := forEach (s.pitchSas p) s (fun s i => s.setSa i (putBits (s.sa i) 27 27 0))
  (forEach (s.pitchKeys p) s Dev.eraseSlot).eraseSlot (0x3F000 + p)

/-- RELEASE_DONE (R456): the squash has ended. -/
def execReleaseDone (s : State) : Outcome State Fault Refusal := s.act fun s =>
  match s.pit.op with
  | some x =>
    if x.op = 8 ∧ x.phase = 1 ∧ s.channelsSettled ∧ s.pitchDone x.pitch then
      let s := (s.releaseRings x.pitch).releaseKeys x.pitch
      let s := s.wr .HIF_PMAP_ENTRY x.pitch (putBits (s.pmap x.pitch) 22 22 0)
      .next (s.pitClose .device x 0 0 0)
    else .next s
  | none => .next s

end Sys2Proof.Machine
end

