-- ==== Sys2Proof/Machine/Modes.lean ====
section
/-! DEFINITION. The operating modes (R32 to R38): how a change is requested, judged and made, the self-checks of SET_MODE SERVICE,
and what the entry to LOCKDOWN and the start of SERVICE do. -/

namespace Sys2Proof.Machine

open Host

/-- The SITE_MODE word of a change (R32). -/
def modeWordOf (before dest : Mode) (cause : Nat) : Nat := cause * 2 ^ 8 + before.code * 2 ^ 4 + dest.code

/-- The SITE_MODE word of a change from the present mode. -/
def Dev.modeWord (s : Dev) (dest : Mode) (cause : Nat) : Nat := modeWordOf s.mode dest cause

/-- The MODE record of a change to a SITE_MODE word (R525). -/
def Dev.modeRecTo (s : Dev) (o : Origin) (word : Nat) : LogRec := mkRec o 5 (unitId 0 0 0xFF) 0 (some (s.rd .SITE_MODE 0)) word 0

/-- The MODE record of a change from the present mode. -/
def Dev.modeRec (s : Dev) (o : Origin) (dest : Mode) (cause : Nat) : LogRec := s.modeRecTo o (s.modeWord dest cause)

/-- The device is in a new mode from this volley on (R32). -/
def Dev.setMode (s : Dev) (dest : Mode) (cause : Nat) : Dev :=
  (s.wr .SITE_MODE 0 (s.modeWord dest cause)).wr .SITE_MODE_VN 0 s.vn

/-! ### Where a request leads (R33 to R35) -/

/-- A unit counts as fenced for the modes until a clear removes its cause (R480). -/
def Dev.fencedCause (s : Dev) : Bool := s.ref.causes.any (fun c => c.action = 1)

/-- Where SET_MODE leads from a mode: nothing when the table of R33 has no such transition. -/
def setModeFrom (fenced : Bool) (mode dest : Mode) : Option Mode :=
  match mode, dest with
  | .bringup, .service => some .service
  | .service, .maintenance => some .maintenance
  | .maintenance, .service => if fenced then some .degraded else some .service
  | .degraded, .maintenance => some .maintenance
  | _, _ => none

/-- Where a request of a cause leads from a mode: a fence, the clear of the REF status, the entry to DORMANT, or a SET_MODE. -/
def judgeFrom (fenced : Bool) (mode dest : Mode) (cause : Nat) : Option Mode :=
  match cause with
  | 2 => if mode = .service then some .degraded else none
  | 3 => if mode = .degraded ∧ fenced = false then some .service else none
  | _ => if dest = .dormant then (if mode = .service then some .dormant else none) else setModeFrom fenced mode dest

/-- The cause that SITE_MODE shows of a change (R32, R33). -/
def causeOf (dest : Mode) (cause : Nat) : Nat := if dest = .degraded then 2 else cause

/-- The mode that the requests already triggered produce (R35). -/
def Dev.modeAhead (s : Dev) : Mode :=
  (inModeOrder s.modeReqs).foldl (fun m r => (judgeFrom s.fencedCause m r.newMode r.cause).getD m) s.mode

/-- The mode that a request made now leads to, as far as can be told. -/
def Dev.modeTold (s : Dev) (dest : Mode) (cause : Nat) : Mode := (judgeFrom s.fencedCause s.modeAhead dest cause).getD dest

/-- A change of mode is triggered: its record is raised at once with the mode it leads to, and it is due at the next boundary (R33,
R36). -/
def Dev.requestMode (s : Dev) (o : Origin) (dest : Mode) (cause : Nat) : Dev :=
  let n := s.log.nextId
  let t := s.modeTold dest cause
  { s.logPrio (s.modeRecTo o (modeWordOf s.modeAhead t (causeOf t cause))) with
    modeReqs := s.modeReqs ++ [⟨dest, cause, s.vn + 1, n, t, o⟩] }

/-! ### The self-checks of SET_MODE SERVICE (R34) -/

/-- The class of a unit is ready (R34): clocked, its own bring-up work ended, and no cause of a unit of it OPEN. -/
def Dev.classReady (s : Dev) (c : Nat) : Bool :=
  let src := s.fld .CLK_SRC c 1 0
  let free := c = 0x00 || c = 0x0E || c = 0x11 || c = 0x12
  (src = 2 || (free && src = 1))
    && !s.ref.causes.any (fun x => x.isOpen && bits x.source 23 16 = c)
    && (c ≠ 0x0D || s.cry.zeroing.isNone && s.cry.noPitch.isSome)
    && (c ≠ 0x10 || s.jnl.restored)
    && (c ≠ 0x01 || s.bcp.trim.isSome)

/-- The journal runs on a bank: its unit is not fenced (R470, R491). -/
def Dev.bankOn (s : Dev) (b : Nat) : Bool := !s.isFenced (unitId 0x10 0 b)

/-- The self-checks of SET_MODE SERVICE (R34). Basecamp executes the capsule, so the lockstep pair has reported no mismatch since
it started. -/
def Dev.selfCheck (s : Dev) : Bool :=
  s.bankOn 0 && s.bankOn 1 && s.bcp.trim.isSome && (List.range 19).all s.classReady
    && s.cry.kek.isSome && s.fld .CRY_ALARM_STATUS 0 4 0 = 0

/-! ### The start of SERVICE (R496, R505) -/

/-- SERVICE begins after BRINGUP: the SEAL words of both flush images are cleared, and every ring that holds items replays. -/
def Dev.startService (s : Dev) : Dev :=
  let rs := (s.rng.rings.filter (fun e => !(s.itemsIn [e.1]).isEmpty)).map (fun e => e.1)
  { s with jnl := { s.jnl with slots := s.jnl.slots.map (fun (e : Nat × FlushImg) => (e.1, { e.2 with good := false }))
                               replay := rs } }

/-! ### The entry to LOCKDOWN (R26, R33, R252, R308, R375, R498) -/

/-- A Window commit that waits is refused: its snapshot returns to the pending copy, where a later write keeps its value (R26). -/
def Dev.refuseWindow (s : Dev) : Dev :=
  match s.hif.waiting with
  | some (tag, m, _) =>
    let s := s.logPrio (applyRec .device 18 0x101 0 tag 2 s.vn)
    let pend := m.foldl (fun p e => if (Sparse.get? p e.1).isSome then p else Sparse.put p e.1 (some e.2)) s.hif.pend
    { s with hif := { s.hif with waiting := none, pend := pend, dirty := true } }.winStatus tag 0xFD 7
  | none => s

/-- A work ring that LOCKDOWN keeps: a CMD ring of LOC ADMIN (R498). -/
def Ring.kept (x : Ring) : Bool := x.kind = 2 && x.loc = 1 && x.ctx ≠ 0

/-- The completion rings of the kept rings. -/
def Dev.keptCqs (s : Dev) : List Nat := (s.rng.rings.filter (fun e => e.2.kept)).map (fun e => e.2.cqNo)

/-- The rings and items that depended on the erased keys go (R498, steps 1 and 2). -/
def Dev.dropRings (s : Dev) : Dev :=
  let rs := (s.rng.rings.filter (fun e => !e.2.kept)).map (fun e => e.1)
  let s := s.discardItems rs (fun s x => (s.countLost x).bump .JNL_DISCARDED 0)
  let kept := s.keptCqs
  { s with rng := { s.rng with rings := s.rng.rings.filter (fun e => e.2.kept), cqs := s.rng.cqs.filter (fun e => kept.contains e.1),
                               accBusy := none, work := [] } }

/-- The connections, the FLOW table, spill and the open PAUSE staging set go (R498, steps 3 to 5). A pause whose apply has begun
completes it (R109), so its closed set stays. -/
def Dev.dropHbm (s : Dev) : Dev :=
  let s := { s with stx := { s.stx with conns := [], removing := none, draining := false } }
  let s := { s with tbl := { s.tbl with entries := s.tbl.entries.filter (fun e => !decide (e.1 / 2 ^ 32 = 4)) } }
  let s := forEach (s.framesIf (fun f => f.spilled)) s (fun s e => s.loseFrame e.1)
  if s.fld .EPC_MODE 0 0 0 = 1 then s.mapEntries (fun e => { e with staged := none }) else s

/-- Every DMA channel is reset as by RESET on the entry to LOCKDOWN (R375). -/
def Dev.resetChannels (s : Dev) : Dev :=
  forEach (List.range 1088) s (fun s n =>
    if s.chState n = 0 ∧ s.armed n = false ∧ s.fld .DMA_CH_STATUS n 10 10 = 0 then s else s.resetChannel n)

/-- A device-warm reset that already runs as LOCKDOWN is entered will end it: the MODE record of that change is raised, and the reset
waits for it (R36). -/
def Dev.resetTold (s : Dev) : Dev :=
  forEach (s.jnl.resets.filter (fun z => z.link.isNone)) s (fun s z =>
    let n := s.log.nextId
    let s := s.logPrio (s.modeRec z.o .bringup 6)
    { s with jnl := { s.jnl with resets := s.jnl.resets.map (fun y => if y.link.isNone then { y with recNo := n } else y) } })

/-- LOCKDOWN is entered (R33). What waits is refused, the cores stop, and what depended on the erased keys is discarded. The MODE
record is raised after the erase has begun (R36). -/
def Dev.enterLockdown (s : Dev) : Dev :=
  let s := s.logPrio (s.modeRec .device .lockdown 4)
  let s := { s with modeReqs := [] }.setMode .lockdown 4
  let s := s.resetTold
  let s := s.refuseWaits.refuseGates.refuseCommits.refuseWindow
  let s := s.stopAllCores.resetChannels
  s.dropRings.dropHbm

/-! ### MODE_CHANGE (R33, R35) -/

/-- Where a request leads now, judged against the mode that earlier triggers produced (R35). -/
def Dev.judgeMode (s : Dev) (r : ModeReq) : Option Mode := judgeFrom s.fencedCause s.mode r.newMode r.cause

/-- The SET_MODE capsule of a request. -/
def modeCap (r : ModeReq) (c : CapRun) : Bool := c.opcode = 0x0001 && c.param 0 1 = r.newMode.code

/-- A request that leads elsewhere than its record says takes a new record, and waits for it (R36; DESIGN CHOICE, log entry 111). -/
def Dev.retellMode (s : Dev) (r : ModeReq) (m : Mode) : Dev :=
  { s.logPrio (s.modeRec r.o m (causeOf m r.cause)) with
    modeReqs := s.modeReqs ++ [{ r with due := s.vn + 1, recNo := s.log.nextId, told := m }] }

/-- Take a request of a change of mode. -/
def Dev.takeMode (s : Dev) (r : ModeReq) : Dev :=
  let s := { s with modeReqs := s.modeReqs.filter (fun x => decide (x ≠ r)) }
  let before := s.mode
  match s.judgeMode r with
  | some m =>
    if m ≠ r.told then s.retellMode r m
    else
      let s := s.setMode m (causeOf m r.cause)
      let s := if before = .bringup then s.startService else s
      if r.cause = 1 then s.capEnd (modeCap r) 0 0 0 [] else s
  | none => if r.cause = 1 then s.capEnd (modeCap r) 0x000D 0 0 [] else s

end Sys2Proof.Machine
end

