-- ==== Sys2Proof/Machine/Ref.lean ====
section
/-! DEFINITION. The Referee (R461 to R482): the whistle collector and its windows, lasting faults, fences, substitution, repair,
readmission, and the REF status. -/

namespace Sys2Proof.Machine

open Host

/-! ### Units (R4, R5, R470) -/

/-- Class, instance and unit of an identifier. -/
def unitClass (u : Nat) : Nat := bits u 23 16
/-- The instance of an identifier. -/
def unitInst (u : Nat) : Nat := bits u 15 8
/-- The unit number of an identifier. -/
def unitNo (u : Nat) : Nat := bits u 7 0

/-- A unit of a class that can be fenced (R470). -/
def fenceable (u : Nat) : Bool :=
  hasBench u || (unitClass u = 5 && unitNo u < 8) || (unitClass u = 0x10 && unitNo u < 2) || (unitClass u = 0x0A && unitNo u < 128)
    || (unitClass u = 1 && (unitNo u < 8 || (16 ≤ unitNo u && unitNo u < 24)))

/-- The units of the instance that can serve the place of a position while they serve none (R475): any core of the cluster, any
lane, any pseudo-channel of the stack, since a readmitted unit is a bench unit (R479); of the pipelines the bench unit of the direction
alone. -/
def benchUnits (pos : Nat) : List Nat :=
  if pos < 0x100 then (List.range 34).map (fun n => unitId 7 (pos / 32) n)
  else if pos < 0x104 then [unitId 3 0 8]
  else if pos < 0x108 then [unitId 3 0 9]
  else if pos < 0x120 then (List.range 18).map (fun n => unitId 0x0B 0 n)
  else (List.range 16).map (fun n => unitId 0x0D ((pos - 0x120) / 15) n)

/-- The unit that serves, or served last, a position (R473). -/
def Dev.posUnit (s : Dev) (pos : Nat) : Nat :=
  let u := s.fld .REF_MAP pos 7 0
  if pos < 0x100 then unitId 7 (pos / 32) u
  else if pos < 0x110 then unitId 3 0 u
  else if pos < 0x120 then unitId 0x0B 0 u
  else unitId 0x0D ((pos - 0x120) / 15) u

/-- A bench unit that is free: not fenced, serving no position, and taken by no substitution under way. -/
def Dev.benchFree (s : Dev) (u : Nat) : Bool :=
  !s.isFenced u && (servedPos s u).isNone && !s.ref.due.any (fun d => d.unit = u)

/-- The lowest free bench unit for a position (R475). -/
def Dev.freeBench (s : Dev) (pos : Nat) : Option Nat :=
  (benchUnits pos).find? (fun u => s.benchFree u && !s.ref.subst.any (fun x => x.taker = some u))

/-- The BENCH_READMIT capsule of a unit (R479, R557). -/
def testCap (u : Nat) (c : CapRun) : Bool := c.opcode = 0x0F01 && c.param 0 3 = u

/-- A unit is under test, or under repair. -/
def Dev.underTest (s : Dev) (u : Nat) : Bool := s.ref.testing.any (fun e => e.1 = u)
/-- A unit is being repaired (R472). -/
def Dev.underRepair (s : Dev) (u : Nat) : Bool := s.ref.repairing.any (fun e => e.1 = u)

/-- STATE of a unit (R481): 0 ACTIVE, 1 BENCH, 2 FENCED, 3 TESTING, 4 REPAIRING. -/
def Dev.physState (s : Dev) (u : Nat) : Nat :=
  if s.underTest u then 3
  else if s.isFenced u then 2
  else if s.underRepair u then 4
  else if hasBench u ∧ (servedPos s u).isNone then 1 else 0

/-- REF_STATUS.UNSERVED (R481): a position, or a fenced unit of a class without bench units, that nothing serves. -/
def Dev.unserved (s : Dev) : Bool :=
  s.ref.fenced.any (fun u => !hasBench u) || (List.range 348).any (fun n => s.fld .REF_MAP n 17 17 = 1)

/-- REF_STATUS.BUSY (R481): a copy, repair or self-test runs. -/
def Dev.refBusy (s : Dev) : Bool :=
  !s.ref.copies.isEmpty || !s.ref.repairing.isEmpty || !s.ref.testing.isEmpty || !s.ref.passed.isEmpty

/-- A unit's state with, for a unit of a class without bench units, its identity epoch (R525). -/
def refWord (u st epoch : Nat) : Nat := if hasBench u then st else st + epoch % 256 * 4294967296

/-- A REFEREE record of a fence, a repair or a readmission (R525): the unit's state before and after, with its identity epochs
for a unit of a class without bench units. -/
def Dev.refRec (s : Dev) (u kind after epoch : Nat) : LogRec :=
  mkRec .referee 4 u kind (some (refWord u (s.physState u) (identityEpoch s u))) (refWord u after epoch) 0

/-! ### Causes (R469, R478) -/

/-- List a cause: the first 64 are listed in REF_CAUSE, a further one sets CAUSE_OVERFLOW (R469). -/
def Dev.addCause (s : Dev) (u kind action : Nat) : Dev :=
  let room := decide ((s.ref.causes.filter (fun c => c.listed)).length < 64)
  let s := { s with ref := { s.ref with causes := s.ref.causes ++ [⟨u, kind, action, true, room⟩] } }
  if room then s else s.setFld .REF_STATUS 0 7 7 1

/-- The open causes of a unit become RESOLVED. -/
def Dev.resolve (s : Dev) (u : Nat) : Dev :=
  { s with ref := { s.ref with causes := s.ref.causes.map (fun c => if c.source = u then { c with isOpen := false } else c) } }

/-- Advance the identity epoch of a unit of a class without bench units (R473). -/
def Dev.nextEpoch (s : Dev) (u : Nat) : Dev :=
  { s with ref := { s.ref with epochs := Sparse.set (fun _ => 0) s.ref.epochs u ((identityEpoch s u + 1) % 256) } }

/-! ### Decisions (R468 to R472, R475) -/

/-- The record of a fence, and the fence held until its record is durable. -/
def Dev.addDue (s : Dev) (u kind : Nat) : Dev :=
  { (s.logPrio (s.refRec u kind 2 (identityEpoch s u))).event 2 u with
    ref := { s.ref with due := s.ref.due ++ [⟨u, kind, s.vn, s.log.nextId⟩] } }

/-- The fence of a unit is decided (R475, D): its record, and the change to DEGRADED that it causes from SERVICE (R33). -/
def Dev.decideFence (s : Dev) (u kind : Nat) : Dev :=
  if s.mode = .service then (s.addDue u kind).requestMode .referee .degraded 2 else s.addDue u kind

/-- The repair in place of a unit is decided: it begins when its record is sealed (R469, R472). -/
def Dev.decideRepair (s : Dev) (u kind : Nat) : Dev :=
  let e : LogEntry := ⟨s.log.nextId, s.refRec u kind 4 (identityEpoch s u + 1), some ⟨.referee, u, kind, 0, none⟩⟩
  { s with log := { s.log with prio := s.log.prio ++ [e], nextId := s.log.nextId + 1 } }.event 2 u

/-- The repair in place of a unit begins (R472), unless it has been fenced meanwhile. -/
def Dev.beginRepair (s : Dev) (u kind : Nat) : Dev :=
  if s.isFenced u then s
  else
    let s := s.nextEpoch u
    let s := { s with ref := { s.ref with repairing := s.ref.repairing ++ [(u, kind)] } }
    let s := s.bump .REF_REPAIRS 0
    if unitClass u = 0x0A then s.resetChannel (128 * unitInst u + unitNo u)
    else if unitNo u < 16 then s.retrainLane (8 * unitInst u + unitNo u)
    else s.portReset (8 * unitInst u + unitNo u - 16)

/-- The unit may be repaired: a channel, a lane or a port. -/
def repairable (u : Nat) : Bool := fenceable u && (unitClass u = 0x0A || unitClass u = 1)

/-- A unit had a repair that completed within the last second (R472). -/
def Dev.repairedLately (s : Dev) (u : Nat) : Bool :=
  match Sparse.get? s.ref.lastRepair u with
  | some v => decide (s.vn ≤ v + 25000000)
  | none => false

/-- The action that a lasting fault takes (R468, R469, R472): 0 RECORD, 1 FENCE, 2 REPAIR, 3 ESCALATE. -/
def Dev.actionOf (s : Dev) (u kind : Nat) : Nat :=
  match s.fld .REF_KIND_CFG kind 49 48 with
  | 1 => if fenceable u then 1 else 3
  | 2 => if repairable u then (if s.repairedLately u then 1 else 2) else 3
  | k => k

/-- Take the action of a lasting fault (R468). -/
def Dev.takeAction (s : Dev) (u kind action : Nat) : Dev :=
  match action with
  | 1 => s.decideFence u kind
  | 2 => s.decideRepair u kind
  | 3 => s.event 2 u
  | _ => s

/-- A unit is fenced, or its fence is decided. -/
def Dev.fenceKnown (s : Dev) (u : Nat) : Bool := s.isFenced u || s.ref.due.any (fun d => d.unit = u)

/-- A self-test ends as a failure (R479). -/
def Dev.testFailed (s : Dev) (u : Nat) : Dev :=
  { s with ref := { s.ref with testing := s.ref.testing.filter (fun e => e.1 ≠ u)
                               passed := s.ref.passed.filter (fun d => d.unit ≠ u) } }.capEnd (testCap u) 0x000F 0 0 []

/-- A lasting fault of a unit (R469). -/
def Dev.lasting (s : Dev) (u kind : Nat) : Dev :=
  let s := s.bump .REF_LASTING 0
  if s.underTest u then s.testFailed u
  else if s.fenceKnown u then s
  else
    let a := s.actionOf u kind
    let lists := decide (a = 1 ∨ a = 2)
    if s.mode = .lockdown then
      (if lists then { s.addCause u kind a with ref := { (s.addCause u kind a).ref with deferred := s.ref.deferred ++ [(u, kind)] } }
       else s)
    else (if lists then s.addCause u kind a else s).takeAction u kind a

/-- At the first boundary after LOCKDOWN the listed actions are taken, in order (R469). -/
def Dev.takeDeferred (s : Dev) : Dev :=
  if s.mode = .lockdown ∨ s.ref.deferred = [] then s
  else
    let l := s.ref.deferred
    let s := { s with ref := { s.ref with deferred := [] } }
    forEach l s (fun s e =>
      match s.ref.causes.find? (fun c => c.source = e.1 && c.kind = e.2 && c.isOpen) with
      | some c => if s.fenceKnown e.1 then s else s.takeAction e.1 e.2 c.action
      | none => s)

/-! ### Windows (R467) -/

/-- The lowest number that an ascending list, read from `n` on, does not hold. -/
def firstGap : Nat → List Nat → Nat
  | n, [] => n
  | n, x :: l => if x = n then firstGap (n + 1) l else n

/-- Set a window entry. -/
def Dev.setWin (s : Dev) (i unit kind count start : Nat) : Dev :=
  (s.wr .REF_WIN (2 * i) (unit + kind * 2 ^ 24 + count % 2 ^ 16 * 2 ^ 32 + 2 ^ 63)).wr .REF_WIN (2 * i + 1) start

/-- Count a COUNTED whistle in its window; the pair has a lasting fault when the count exceeds the threshold. -/
def Dev.countWindow (s : Dev) (w : WhistleMsg) (unit : Nat) : Dev :=
  let limit := s.fld .REF_KIND_CFG w.kind 47 32
  let used := s.winUsed
  match used.find? (fun i => s.fld .REF_WIN (2 * i) 23 0 = w.source && s.fld .REF_WIN (2 * i) 31 24 = w.kind) with
  | some i =>
    let n := s.fld .REF_WIN (2 * i) 47 32 + 1
    if limit < n then (s.setWin i w.source w.kind 0 s.vn).lasting unit w.kind
    else s.setWin i w.source w.kind n (s.rd .REF_WIN (2 * i + 1))
  | none =>
    let i := firstGap 0 used
    if 16384 ≤ i then (s.bump .REF_WIN_OVERFLOW 0).setFld .REF_STATUS 0 8 8 1
    else if limit = 0 then (s.setWin i w.source w.kind 0 s.vn).lasting unit w.kind
    else s.setWin i w.source w.kind 1 (s.vn + 1)

/-- WINDOW_END (R467): at a boundary, entry `i` whose window has ended is reset, or freed when it counted nothing. -/
def execWindowEnd (entry : Nat) (s : State) : Outcome State Fault Refusal := s.act fun s =>
  if 16384 ≤ entry then .fault .noSuchObject
  else
    let kind := s.fld .REF_WIN (2 * entry) 31 24
    if s.winDue entry = false then .next s
    else if s.fld .REF_WIN (2 * entry) 47 32 = 0 then .next ((s.wr .REF_WIN (2 * entry) 0).wr .REF_WIN (2 * entry + 1) 0)
    else .next (s.setWin entry (s.fld .REF_WIN (2 * entry) 23 0) kind 0 s.vn)

/-! ### The collector (R462 to R465) -/

/-- The 32 bytes of a whistle (R462). -/
def WhistleMsg.word (w : WhistleMsg) : Nat :=
  w.vn + w.source * 2 ^ 64 + w.kind * 2 ^ 88 + w.severity * 2 ^ 96 + w.idEpoch * 2 ^ 100 + w.addr * 2 ^ 112
    + w.detail * 2 ^ 160 + w.seq * 2 ^ 192

/-- Write a whistle to the whistle log. -/
def Dev.logWhistle (s : Dev) (w : WhistleMsg) : Dev :=
  let n := s.rd .REF_LOG_WIDX 0
  let s := forEach (List.range 4) s (fun s k => s.wr .REF_LOG (4 * (n % 4096) + k) (w.word / 2 ^ (64 * k)))
  s.wr .REF_LOG_WIDX 0 (n + 1)

/-- Count the gap that a whistle shows in its source's sequence (R464). -/
def Dev.countGap (s : Dev) (w : WhistleMsg) : Dev :=
  let before := Sparse.get (fun _ => 0) s.ref.seen w.source
  let s := { s with ref := { s.ref with seen := Sparse.set (fun _ => 0) s.ref.seen w.source w.seq } }
  s.add .REF_WHISTLE_LOST 0 ((w.seq + 2 ^ 16 - before - 1) % 2 ^ 16)

/-- A message of a fenced unit, or under an old epoch, is dropped (R465, R470, R474); the first after each fence is logged as
FENCED_TALK (R477). -/
def Dev.dropTalk (s : Dev) (u : Nat) : Dev :=
  let s := s.bump .REF_FENCED_TALK 0
  if s.isFenced u ∧ ¬ s.ref.talked.contains u then
    { s with ref := { s.ref with talked := s.ref.talked ++ [u] } }.whistle 0x1E (unitId 0x0F 0 0) 0 u
  else s

/-- The unit that a lasting fault of this whistle acts on (R462). -/
def WhistleMsg.acts (w : WhistleMsg) : Nat := if w.kind = 0x13 then w.detail % 2 ^ 24 else w.source

/-- The collector receives a whistle (R465, R463). -/
def Dev.collect (s : Dev) (w : WhistleMsg) : Dev :=
  let s := s.countGap w
  if s.isFenced w.source ∨ w.idEpoch ≠ identityEpoch s w.source then s.dropTalk w.source
  else
    let s := (s.bump .REF_WHISTLES 0).logWhistle w
    match w.severity with
    | 1 => s.countWindow w w.acts
    | 2 => s.lasting w.acts w.kind
    | 3 => s.event 1 w.source
    | _ => s

/-! ### The checks of a unit's own state (R466, R471) -/

/-- The units that raise each kind of which no other event of the device is the cause (R466); of DOR_MEM_PARITY it is a core's fetch
(log entry 151). -/
def UnitCheck.wf (c : UnitCheck) : Bool :=
  let no := unitNo c.source
  c.source < 2 ^ 24 &&
  match c.kind with
  | 0x0C => unitClass c.source = 7 && unitInst c.source < 8 && no < 34 && c.addr = 0 && c.detail = 1
  | 0x13 => true
  | 0x14 => unitClass c.source = 9 || unitClass c.source = 0x0A || unitClass c.source = 7
  | 0x16 => c.source = unitId 0x0B 0 0x20
  | 0x17 => unitClass c.source = 3 && no < 10
  | 0x18 => unitClass c.source = 0x0A && no < 128
  | 0x19 => unitClass c.source = 1 && 16 ≤ no && no < 24
  | 0x1A => unitClass c.source = 5 && no < 8
  | _ => false

/-- What the store does whose word failed its code once more (R471): after the reload, a ring whose context is lost enters ERROR and a
channel's transfer fails; a key slot is erased. A core whose fetch fails raises MEM_ERROR (R290). -/
def Dev.checkFailed (s : Dev) (c : UnitCheck) : Dev :=
  match c.kind with
  | 0x0C =>
    let i := unitInst c.source
    match (List.range 32).find? (fun l => s.physCore i l = unitNo c.source) with
    | some l => s.fetchFails i l
    | none => s
  | 0x14 =>
    if c.detail % 256 ≠ 2 then s
    else if unitClass c.source = 9 then (if (s.ring c.addr).st = 1 then s.ringError c.addr 8 (s.ring c.addr).c else s)
    else if unitClass c.source = 0x0A then
      (let n := 128 * unitInst c.source + unitNo c.source
       if s.chState n = 1 then s.chFail n 6 else s)
    else s
  | 0x16 => if c.addr < 0x40000 then s.eraseSlot c.addr else s
  | _ => s

/-- WHISTLE (R465): the collector receives the next whistle that has been sent; with `check`, a unit raises a whistle of a check of its
own state, and its store does what R471 says. -/
def execWhistle (check : Option UnitCheck) (s : State) : Outcome State Fault Refusal := s.act fun s =>
  match check, s.whistles with
  | some c, _ => if c.wf then .next ((s.whistle c.kind c.source c.addr c.detail).checkFailed c) else .next s
  | none, w :: l => .next ({ s with whistles := l }.collect w)
  | none, [] => .next s

/-! ### Fences in force (R470, R476) -/

/-- Frames that a fence drops (R476): those of the network are counted, those of an item are carried out again. -/
def Dev.fenceDrop (s : Dev) (l : List (Nat × Frame)) (count : Dev → Dev) : Dev :=
  (forEach l s (fun s e =>
    match e.2.item with
    | some r => if (s.frame e.1).isSome then s.retryFrame r else s
    | none => count (s.dropFrame e.1))).xonCheck

/-- The jobs of a fenced crypto lane (R476): an item is carried out again, a frame of the network is dropped. -/
def Dev.fenceLane (s : Dev) (lane : Nat) : Dev :=
  let l := s.cry.jobs.filter (fun j => j.lane = lane)
  let s := { s with cry := { s.cry with jobs := s.cry.jobs.filter (fun j => j.lane ≠ lane) } }
  forEach l s (fun s j =>
    match j.frame with
    | some f => s.fenceDrop ((s.frame f).map (fun x => (f, x))).toList (fun s => s.bump .REF_FENCE_DROPS 0)
    | none => s.retryItem j.item)

/-- The next path in ascending order that is not fenced (R170). -/
def Dev.nextPath (s : Dev) (p : Nat) : Nat :=
  (((List.range 8).map (fun k => (p + k) % 8)).find? (fun q => !s.isFenced (unitId 5 0 q))).getD p

/-- PATH_REPIN (R170): the buckets of a fenced path move to the next path that is not fenced, each behind a drain barrier. -/
def Dev.repin (s : Dev) (p : Nat) : Dev :=
  let q := s.nextPath p
  forEach ((List.range 256).filter (fun b => s.pathOf b = p)) s (fun s b =>
    (s.raiseBarrier b p).setFld .SWB_PATH_MAP (b / 8) (4 * (b % 8) + 2) (4 * (b % 8)) q)

/-- The port of a fenced port or lane is held down in STATE 0x1 (R470). -/
def Dev.holdDown (s : Dev) (p : Nat) : Dev :=
  if s.portState p = 0 ∨ s.portState p = 1 then s
  else (if s.portState p = 4 then s.portDown p false else s).setPort p 1 0 0 0

/-- What the fence of a unit does to the work inside it (R470, R476). -/
def Dev.fenceWork (s : Dev) (u : Nat) : Dev :=
  match unitClass u with
  | 3 =>
    (match servedPos s u with
      | some n => if n < 0x104 then s.fenceDrop (s.framesIf (fun f => f.loc = .flowMiss && f.pipeline = n - 0x100))
          (fun s => s.bump .REF_FENCE_DROPS 0) else s
      | none => s)
  | 0x0B =>
    (match servedPos s u with
      | some n => s.fenceLane (n - 0x110)
      | none => s)
  | 5 =>
    let p := unitNo u
    (s.fenceDrop (s.framesIf (fun f => f.loc = .path p)) (fun s => s.bump .SWB_PATH_FULL_DROP p)).repin p
  | 1 =>
    if unitNo u < 16 then
      (match s.lanePort (8 * unitInst u + unitNo u) with
        | some p => s.holdDown p
        | none => s)
    else s.holdDown (8 * unitInst u + unitNo u - 16)
  | 0x0A =>
    let n := 128 * unitInst u + unitNo u
    if (s.chan n).work.isSome then s.resetChannel n else s
  | _ => s

/-- The record of a substitution that can be made (R525). -/
def Dev.substRec (s : Dev) (pos y kind : Nat) : LogRec :=
  let old := s.rd .REF_MAP pos
  let new := unitNo y + (bits old 15 8 + 1) % 256 * 2 ^ 8 + 2 ^ 16
  mkRec .referee 4 y kind (some old) new 0

/-- The substitution that follows a fence (R475, D + 1), for a class with bench units. -/
def Dev.planSubst (s : Dev) (pos : Option Nat) (u kind d : Nat) : Dev :=
  match pos.bind s.freeBench with
  | some y =>
    let n := s.log.nextId
    let s := s.logPrio (s.substRec (pos.getD 0) y kind)
    { s with ref := { s.ref with subst := s.ref.subst ++ [⟨u, pos, d, some n, some y⟩] } }
  | none => { s with ref := { s.ref with subst := s.ref.subst ++ [⟨u, pos, d, none, none⟩] } }

/-- FENCE_IN_FORCE (R470, R475): at a boundary, the next fence decided before it, its record sealed, takes force. -/
def execFenceInForce (s : State) : Outcome State Fault Refusal := s.act fun s =>
  match s.fenceNext with
  | none => .next s
  | some d =>
    let pos := servedPos s d.unit
    let s := { s with ref := { s.ref with due := s.ref.due.filter (fun x => decide (x ≠ d)), fenced := s.ref.fenced ++ [d.unit] } }
    let s := s.fenceWork d.unit
    .next (if hasBench d.unit then s.planSubst pos d.unit d.kind d.d else s)

/-! ### Substitution (R475) -/

/-- The place of a position left without a unit (R475): the contexts of a core are STOPPED with their steps held. -/
def Dev.leaveUnserved (s : Dev) (pos : Nat) : Dev :=
  let s := s.setFld .REF_MAP pos 17 17 1
  if pos < 0x100 then
    forEach (List.range 8) s (fun s t =>
      let k := ctxKey (pos / 32) (8 * (pos % 32) + t)
      let x := s.ctx k
      if x.st = 0 ∨ x.st = 7 then s else s.setCtx k { x with was := x.st, st := 7 })
  else s

/-- A bench unit takes a position (R475, D + 2). -/
def Dev.substitute (s : Dev) (x : Subst) (pos y : Nat) : Dev :=
  let e := (s.fld .REF_MAP pos 15 8 + 1) % 256
  let s := s.wr .REF_MAP pos (unitNo y + e * 2 ^ 8 + 2 ^ 16)
  let s := (s.whistle 0x1D (unitId 0x0F 0 0) 0 pos).bump .REF_SUBSTITUTIONS 0
  if 0x120 ≤ pos then { s with ref := { s.ref with copies := s.ref.copies ++ [(x.unit, y)] } }
  else
    let s := s.resolve x.unit
    if pos < 0x100 then { s with dor := { s.dor with restarts := s.dor.restarts ++ [pos] } } else s

/-- The substitution of a position that no unit has taken (R475, R478): it is left unserved; a bench unit that has become free
meanwhile takes it in its turn. -/
def Dev.noTaker (s : Dev) (x : Subst) (pos : Nat) : Dev :=
  let s := s.leaveUnserved pos
  if (s.freeBench pos).isSome then s.planSubst (some pos) x.unit 0 (s.vn - 1) else s

/-- SUBSTITUTION (R475, R478). -/
def execSubstitution (s : State) : Outcome State Fault Refusal := s.act fun s =>
  match s.substNext with
  | none => .next s
  | some x =>
    let s := { s with ref := { s.ref with subst := s.ref.subst.filter (fun y => decide (y ≠ x)) } }
    match x.pos with
    | none => .next (s.resolve x.unit)
    | some pos =>
      match x.taker with
      | some y => .next (if s.benchFree y then s.substitute x pos y else s.noTaker x pos)
      | none => .next (s.noTaker x pos)

/-- COPY_COMPLETE (R475, R478): the oldest copy of a pseudo-channel ends; `lost` are the 64-byte lines that could not be copied, whose
reads fail until they are written again. -/
def execCopyComplete (lost : List Nat) (s : State) : Outcome State Fault Refusal := s.act fun s =>
  match s.ref.copies with
  | [] => .next s
  | (x, y) :: l =>
    let here := fun (line : Nat) => match servedPos s y with
      | some n => decide (0x120 + pseudoChannel (64 * line) = n)
      | none => false
    let s := { s with mem := { s.mem with bad := s.mem.bad ++ lost.filter (fun a => here a && !s.mem.bad.contains a) } }
    .next ({ s with ref := { s.ref with copies := l } }.resolve x)

/-! ### Repair, test and readmission (R472, R478, R479) -/

/-- The reset of a unit under repair has completed. -/
def Dev.repairDone (s : Dev) (u : Nat) : Bool :=
  if unitClass u = 0x0A then !(s.chan (128 * unitInst u + unitNo u)).resetting
  else if unitNo u < 16 then (s.wlane (8 * unitInst u + unitNo u)).retrain.isNone
  else
    let p := 8 * unitInst u + unitNo u - 16
    s.fld .WIRE_PORT_STATUS p 3 3 = 0 && s.portState p ≠ 5

/-- REPAIR_COMPLETE (R472): the cause is RESOLVED. -/
def execRepairComplete (unit : Nat) (s : State) : Outcome State Fault Refusal := s.act fun s =>
  if s.underRepair unit ∧ s.repairDone unit then
    .next ({ s with ref := { s.ref with repairing := s.ref.repairing.filter (fun e => e.1 ≠ unit)
                                        lastRepair := Sparse.put s.ref.lastRepair unit (some s.vn) } }.resolve unit)
  else .next s

/-- SELF_TEST_END (R479): a unit in TESTING passes or fails its test. After a pass the record of the readmission is raised. -/
def execSelfTestEnd (unit : Nat) (pass : Bool) (s : State) : Outcome State Fault Refusal := s.act fun s =>
  if s.underTest unit = false ∨ s.ref.passed.any (fun d => d.unit = unit) then .next s
  else if pass = false then .next (s.testFailed unit)
  else
    let n := s.log.nextId
    let after := if hasBench unit then 1 else 0
    let s := s.logPrio (s.refRec unit 0 after (identityEpoch s unit + 1))
    .next { s with ref := { s.ref with passed := s.ref.passed ++ [⟨unit, 0, s.vn, n⟩] } }

/-- A position of the same instance that is left unserved and that a readmitted bench unit can take. -/
def Dev.waitingPos (s : Dev) (u : Nat) : Option Nat :=
  (List.range 348).find? (fun n => s.fld .REF_MAP n 17 17 = 1 && (benchUnits n).contains u)

/-- The fence of a unit is lifted (R479); a bench core holds its cluster's image from the last load (R257). -/
def Dev.readmit (s : Dev) (u : Nat) : Dev :=
  let s := { s with ref := { s.ref with fenced := s.ref.fenced.filter (fun x => x ≠ u), talked := s.ref.talked.filter (fun x => x ≠ u)
                                        testing := s.ref.testing.filter (fun e => e.1 ≠ u) } }
  let s := if unitClass u = 0x07 then s.loadCore (unitInst u) (unitNo u) else s
  let s := (s.bump .REF_READMITS 0).capEnd (testCap u) 0 0 0 []
  if hasBench u then
    match s.waitingPos u with
    | some n => s.planSubst (some n) (s.posUnit n) 0 (s.vn - 1)
    | none => s
  else (s.nextEpoch u).resolve u

/-- READMISSION (R479): at the boundary after a passed test, its record sealed. -/
def execReadmission (s : State) : Outcome State Fault Refusal := s.act fun s =>
  match s.readmitNext with
  | none => .next s
  | some d => .next ({ s with ref := { s.ref with passed := s.ref.passed.filter (fun x => decide (x ≠ d)) } }.readmit d.unit)

/-! ### REF_CLEAR (R480) -/

/-- The effect of a write of REF_CLEAR.GO. -/
def Dev.refClear (s : Dev) (o : Origin) : Dev :=
  if s.mode = .lockdown ∨ s.mode = .dormant then s.setFld .REF_STATUS 0 14 12 4
  else if s.ref.causes.any (fun c => c.isOpen) ∨ s.unserved then s.setFld .REF_STATUS 0 14 12 2
  else if s.refBusy then s.setFld .REF_STATUS 0 14 12 3
  else
    let s := { s with ref := { s.ref with causes := [] } }
    let s := ((s.setFld .REF_STATUS 0 8 7 0).setFld .REF_STATUS 0 14 12 1)
    if s.mode = .degraded then s.requestMode o .service 3 else s

/-- REF_CLEAR (R480). -/
def execRefClear (o : Origin) (s : State) : Outcome State Fault Refusal := s.act fun s =>
  .next (s.regWrite o .REF_CLEAR 0 4 1 fun s => s.refClear o)

end Sys2Proof.Machine
end

