-- ==== Sys2Proof/Machine/Resets.lean ====
section
/-! DEFINITION. Function resets and device-warm resets (R27, R494 to R497): their start, their boundary, what each reaches and
keeps, the loss of journal records (R491), and the replay (R493, R496). -/

namespace Sys2Proof.Machine

open Host

/-! ### Scope (R494) -/

/-- A work ring is in the scope of a reset: every ring of a device-warm reset; of a function reset, those of LOC ADMIN on the
link and those of pitches bound to it. -/
def Dev.inScope (s : Dev) (link : Option Nat) (x : Ring) : Bool :=
  match link with
  | none => true
  | some k => x.ctx ≠ 0 && x.loc ≠ 2 && decide (s.ringLink x = k)

/-- The work rings in the scope of a reset. -/
def Dev.scopeRings (s : Dev) (link : Option Nat) : List Nat :=
  (s.rng.rings.filter (fun e => s.inScope link e.2)).map (fun e => e.1)

/-- The pitches bound to a link that are STOPPED (R448). -/
def Dev.stoppedOn (s : Dev) (link : Option Nat) : List Nat :=
  match link with
  | none => []
  | some k => (List.range 4096).filter (fun p => s.pitState p = 9 && pmapValid (s.pmap p) && pmapLink (s.pmap p) = k)

/-! ### The start of a reset (R494, R495) -/

/-- The record of a reset (R495, V). A device-warm reset names SITE_RESET; a function reset names the HIF unit of its link
(DESIGN CHOICE, log entry 36). -/
def resetRec (o : Origin) (link : Option Nat) : LogRec :=
  match link with
  | none => mkRec o 1 (unitId 0 0 0xFF) 0x10100 (some 0) 1 4
  | some k => mkRec o 1 (unitId 8 0 k) 0x10100 (some 0) 1 4

/-- A reset is taken (R495, V): its record is raised, with the MODE record of the change that a device-warm reset makes in LOCKDOWN
(R33, R36), and the rings in scope accept nothing more. A reset of the same reach that already runs takes no second one. -/
def Dev.takeReset (s : Dev) (o : Origin) (link : Option Nat) : Dev :=
  if s.jnl.resets.any (fun z => z.link = link) then s
  else
    let s := s.logPrio (resetRec o link)
    let s := if link.isNone && s.mode == .lockdown then s.logPrio (s.modeRec o .bringup 6) else s
    { s with jnl := { s.jnl with resets := s.jnl.resets ++ [⟨link, s.vn, o, s.log.nextId - 1⟩] } }

/-- DEVICE_WARM_RESET (R495): a write of SITE_RESET.WARM from BAR0 or Basecamp; from any other origin it is dropped. -/
def execDeviceWarmReset (o : Origin) (s : State) : Outcome State Fault Refusal := s.act fun s =>
  .next (s.regWrite o .SITE_RESET 0 4 1 fun s =>
    match o with
    | .bar0 _ => s.takeReset o none
    | .basecamp => s.takeReset o none
    | _ => s)

/-- FUNCTION_RESET (R494): a Function Level Reset on a link. -/
def execFunctionReset (link : Nat) (s : State) : Outcome State Fault Refusal := s.act fun s =>
  if 4 ≤ link then .fault .noSuchObject
  else if s.awake ∧ s.linkPresent link then .next (s.takeReset .device (some link))
  else .next s

/-- A link goes down as its port's PERST# is asserted (R294, R314). -/
def Dev.perstLink (s : Dev) (k : Nat) : Dev :=
  if s.linkPresent k then s.wr .HIF_LINK_STATUS k (s.fld .HIF_LINK_STATUS k 1 0 + s.fld .HIF_LINK_STATUS k 3 3 * 8 + 0x100) else s

/-- PERST_ASSERT (R494): PERST# of port A (0) or B (1) is asserted: a device-warm reset when the other port's is asserted too, and
otherwise a function reset of each link of the port. -/
def execPerstAssert (port : Nat) (s : State) : Outcome State Fault Refusal := s.act fun s =>
  if 2 ≤ port then .fault .noSuchObject
  else if s.bcp.perst.contains port then .next s
  else
    let s := { s with bcp := { s.bcp with perst := port :: s.bcp.perst } }
    if !s.awake then .next s
    else
      let s := (s.perstLink (2 * port)).perstLink (2 * port + 1)
      if s.bcp.perst.contains (1 - port) then .next (s.takeReset .device none)
      else
        let s := s.takeReset .device (some (2 * port))
        .next (if s.linkPresent (2 * port + 1) then s.takeReset .device (some (2 * port + 1)) else s)

/-! ### Lost records (R491) -/

/-- A journal record whose words fail in both banks is freed (R491). -/
def Dev.loseRecord (s : Dev) (r : ItemRef) : Dev :=
  match s.item r with
  | some _ => (((s.dropWork (fun q => q = r)).stopItem r).dropCap r).setItem r none |>.whistle 0x15 (unitId 0x10 0 0) 0 3
  | none => s

/-- The record that stands for an index that has lost its own: it completes with JOURNAL_LOST, in a batch of its own. -/
def lostItem (x : Ring) (ring index vn : Nat) : Item :=
  let y : Item := { ring, index, kind := x.kind, stage := 2, desc := [], frags := [], acceptVn := vn, user := 0, first := true, last := true
                    result := 0, retries := 0, ext := none, busy := true, filled := true, ord := 0
                    sentMac := 0, sentTime := 0 }
  { y with result := itemEntry y 0x0305 0 0 }

/-- The indices of a ring from DONE to C − 1 that have no record. -/
def Dev.lostOf (s : Dev) (ring : Nat) : List Nat :=
  let x := s.ring ring
  ((List.range (ixSub x.c x.done)).map (fun j => (x.done + j) % 2 ^ 32)).filter (fun i => (s.item ⟨ring, i⟩).isNone)

/-- JOURNAL_LOST (R491): each index without a record completes with that status. -/
def Dev.journalLost (s : Dev) : Dev :=
  forEach s.rng.rings s (fun s e => forEach (s.lostOf e.1) s (fun s i =>
    (s.setItem ⟨e.1, i⟩ (some (lostItem (s.ring e.1) e.1 i s.vn))).bump .JNL_LOST_ITEMS 0))

/-! ### The boundary of a reset (R495) -/

/-- The frames of a reset: all of them, or those of an item in scope. -/
def Dev.scopeFrames (s : Dev) (link : Option Nat) : List (Nat × Frame) :=
  match link with
  | none => s.frames
  | some _ =>
    let rs := s.scopeRings link
    s.framesIf (fun f => match f.item with
      | some r => rs.contains r.ring
      | none => false)

/-- The frames of a reset are dropped and counted (R495); their items stay as they are. -/
def Dev.dropScope (s : Dev) (link : Option Nat) : Dev :=
  let l := s.scopeFrames link
  (forEach l s (fun s e => s.dropFrame e.1)).add .JNL_RESET_DROPS 0 l.length

/-- The outstanding requests of a link are abandoned, and their tags quarantined (R495, R311). -/
def Dev.abandonReqs (s : Dev) (k : Nat) : Dev :=
  forEach (s.hif.reqs.filter (fun e => e.1 / 16384 = k)) s (fun s e => (s.quarantineTag k (e.1 % 16384) e.2).settle e.2 none)

/-- The channels with a HOST end on a link are reset (R494, R374); the movements of the items in scope are not run again: the replay
begins them anew. -/
def Dev.resetLinkChannels (s : Dev) (k : Nat) : Dev :=
  let rs := s.scopeRings (some k)
  let s := forEach (s.dma.chans.filter (fun e => s.chArb e.1 = k && s.chState e.1 ≠ 0)) s (fun s e => s.resetChannel e.1)
  { s with rng := { s.rng with work := s.rng.work.filter (fun w => !rs.contains w.item.ring) } }

/-- The items of rings stand as accepted, with nothing begun (R493). -/
def Dev.rewindItems (s : Dev) (rs : List Nat) : Dev :=
  forEach ((s.itemsIn rs).filter (fun x => x.stage = 1)) s (fun s x =>
    (s.stopItem x.ref).setItem x.ref (some { x with busy := false, filled := false }))

/-- Steps 1 and 2 of the replay (R496): F is C, no lookahead copies, and the open batch is closed. -/
def Dev.rewindRing (s : Dev) (r : Nat) : Dev :=
  let s := s.closeBatch r
  s.setRing r { s.ring r with f := (s.ring r).c, la := [] }

/-- The rings of a reset that hold items replay them before they accept again (R496). -/
def Dev.queueReplay (s : Dev) (rs : List Nat) : Dev :=
  let rs := rs.filter (fun r => !(s.itemsOf r).isEmpty && !s.jnl.replay.contains r)
  { s with jnl := { s.jnl with replay := s.jnl.replay ++ rs } }

/-- What a function reset does to the unit of its link (R494): configuration space, MSI-X table, HIF unit and arbiter. -/
def Dev.resetLink (s : Dev) (k : Nat) : Dev :=
  let s := { s with rng := { s.rng with turn := Sparse.put s.rng.turn k none } }
  let s := s.setFld .HIF_LINK_STATUS k 3 3 0
  s.resetCells (fun r i => match r with
    | .HIF_LPM => i == k | .HIF_CPL_TMO => i == k | .HIF_CFG => i / 1024 == k
    | .HIF_MSIX_ADDR => i / 8192 == k | .HIF_MSIX_CTL => i / 8192 == k | .HIF_MSIX_PBA => i / 128 == k
    | _ => false)

/-- The boundary of a function reset of link `k`. The items of its STOPPED pitches are discarded, and those pitches are ACTIVE
(R448; DEDUCED, log entry 37). -/
def Dev.functionReset (s : Dev) (k : Nat) : Dev :=
  let rs := s.scopeRings (some k)
  let s := s.dropScope (some k)
  let s := (s.resetLinkChannels k).abandonReqs k
  let s := forEach (s.stoppedOn (some k)) s (fun s p => (s.discardPitch p).movePit .device p 1)
  let s := (s.rewindItems rs).resetLink k
  (forEach rs s Dev.rewindRing).queueReplay rs

/-- The registers that a device-warm reset keeps (R13, R495, and the chapters that R495 cites). -/
def keptWarm (r : Reg) : Bool :=
  r.info.counter || r.info.cls == 99 || match r with
    | .SITE_MODE | .SITE_MODE_VN
    | .CLK_SRC | .CLK_PLL_CTL | .CLK_PLL_STATUS | .CLK_TIME_STATUS | .CLK_PHASE_ERR | .CLK_LOCK_TIMEOUT | .CLK_TOUT_PERIOD
    | .CLK_TOUT_WIDTH
    | .WIRE_PG_MAP | .WIRE_PORT_CFG | .WIRE_LANE_CTL | .WIRE_TS_ADJ | .WIRE_LANE_DEGRADE_LIMIT | .WIRE_PORT_STATUS
    | .TBL_AGE_NOW | .TBL_SHADOW_STATUS
    | .HIF_PMAP_ENTRY | .HIF_WIN_ENTRY | .PIT_STATE | .PIT_QUOTA | .HIF_LINK_STATUS
    | .DMA_CH_OWNER
    | .CRY_SA_ENTRY | .CRY_KEYINFO | .CRY_KEK_STATUS | .CRY_ALARM_STATUS | .CRY_ALARM_VN | .PIT_MIGKEY_STATUS
    | .REF_MAP | .REF_CAUSE | .REF_LOG | .REF_LOG_WIDX
    | .BCP_LOG_WIDX
    | .PWR_WAKE_STATUS => true
    | _ => false

/-- The actions that wait for a boundary are cancelled, each with its record (R27, R119, R228, R525). -/
def Dev.cancelWaits (s : Dev) : Dev :=
  let s := forEach (List.range 40) s Dev.resetHeader
  let s := match s.epc.closed with
    | some c => s.logPrio (s.epcRec .device c.pause c.count 1 s.vn)
    | none => s
  let s := forEach s.sch.change s (fun s e => s.logPrio (applyRec .device 9 (0x200 + e.1) 0 e.2.tag 1 s.vn))
  match s.hif.waiting with
  | some (tag, _, _) => s.logPrio (applyRec .device 18 0x101 0 tag 1 s.vn)
  | none => s

/-- A pitch operation that a device-warm reset meets ends, its pitch back in the state it began from (DESIGN CHOICE, log entry 38). -/
def Dev.dropPitOp (s : Dev) : Dev :=
  let s := match s.pit.op with
    | some x => s.movePit .device x.pitch x.start
    | none => s
  { s with pit := { op := none, thawed := none } }

/-- The network side after a device-warm reset: ports down to train again, queues, schedules and parser empty. -/
def Dev.resetNetwork (s : Dev) : Dev :=
  let s := forEach (List.range 32) s (fun s p => if (s.portSpeed p).isSome then s.portDown p false else s)
  { s with
    wire := { ports := s.wire.ports.map (fun (e : Nat × WirePort) => (e.1, { e.2 with ts := [] })), lanes := [] }
    prs := Dev.reset.prs, swb := Dev.reset.swb, sch := Dev.reset.sch
    tbl := { s.tbl with tokens := [], parityLog := [], frozenLog := [] } }

/-- The links after a device-warm reset: down, with what the straps gave them. -/
def Dev.linkReset (s : Dev) (k : Nat) : Dev := s.wr .HIF_LINK_STATUS k (s.fld .HIF_LINK_STATUS k 1 0 + 0x100)

/-- The host side after a device-warm reset: links down to train again, configuration and MSI-X at reset, no request, no channel
at work. Windows, the Pitch Map and the owner table are kept. -/
def Dev.resetHosts (s : Dev) : Dev :=
  let s := forEach (List.range 4) s (fun s k => (s.linkReset k).abandonReqs k)
  { s with
    hif := { s.hif with pend := [], dirty := false, waiting := none, inflight := [] }
    rng := { s.rng with turn := [], errLog := [], work := [], accBusy := none }
    dma := Dev.reset.dma }

/-- Basecamp and the collector after a device-warm reset: Basecamp boots, and what was on its way to it is gone. -/
def Dev.resetCores (s : Dev) : Dev :=
  let s := s.dropUpdate
  let s := { s with
    bcp := { s.bcp with crossed := [], caps := [], dormant := none }
    whistles := [], whistleSeq := [], events := [], modeReqs := []
    ref := { s.ref with seen := [], talked := [] }
    cry := { s.cry with holder := none, op := none, relDue := false, limitLog := [], jobs := [], arrived := [] }
    jnl := { s.jnl with ckptRun := none, ckptLate := false }
    dor := { s.dor with cycles := Sparse.put s.dor.cycles 8 none } }
  s.setCtx 2048 Ctx.blank

/-- The frames inside no longer stand for their items. -/
def Dev.detachFrames (s : Dev) : Dev :=
  { s with frames := s.frames.map (fun (e : Nat × Frame) => (e.1, { e.2 with item := none })) }

/-- Every frame inside is gone, and counted (R495). -/
def Dev.clearFrames (s : Dev) (n : Nat) : Dev := { s with frames := [] }.add .JNL_RESET_DROPS 0 n

/-- The data read for items is gone. -/
def Dev.clearBufs (s : Dev) : Dev := { s with rng := { s.rng with bufs := [] } }

/-- LOCKDOWN becomes BRINGUP at the boundary of a device-warm reset (R33). -/
def Dev.leaveLockdown (s : Dev) : Dev := if s.mode = .lockdown then s.setMode .bringup 6 else s

/-- In BRINGUP the Trim Set is loaded anew before any lane trains (R55). -/
def Dev.reloadTrim (s : Dev) : Dev :=
  if s.mode = .bringup then { s with bcp := { s.bcp with trim := none, trimDone := false } } else s

/-- The boundary of a device-warm reset (R495): every block returns to reset but for what R495 keeps, the tables, keys and maps
among it; LOCKDOWN becomes BRINGUP (R33). -/
def Dev.warmReset (s : Dev) : Dev :=
  let rs := s.scopeRings none
  let n := s.frames.length
  let s := (forEach (List.range 8) s.detachFrames.cancelWaits.dropPitOp Dev.resetDor).clearFrames n
  let s := (forEach rs (s.rewindItems rs) Dev.rewindRing).resetNetwork.resetHosts.resetCores
  let s := s.resetEpochs.resetTbl.resetCells (fun r _ => !keptWarm r)
  (s.clearBufs.queueReplay rs).leaveLockdown.reloadTrim

/-- RESET_BOUNDARY (R495, B): at a boundary, the next reset that is due. `bad` names the journal records found to fail in both
banks (R491). -/
def execResetBoundary (bad : List ItemRef) (s : State) : Outcome State Fault Refusal := s.act fun s =>
  match s.resetNext with
  | none => .next s
  | some z =>
    let s := { s with jnl := { s.jnl with resets := s.jnl.resets.filter (fun y => decide (y ≠ z)) } }
    let s := match z.link with
      | some k => s.functionReset k
      | none => { s with jnl := { s.jnl with resets := [] } }.warmReset
    .next (forEach bad s Dev.loseRecord).journalLost

/-! ### The replay (R493, R496) -/

/-- The replay may run: when the blocks are ready, in BRINGUP from the boundary at which SERVICE begins on (R496). -/
def Dev.replayOpen (s : Dev) : Bool := s.awake && s.mode != .bringup && s.jnl.fail == 0

/-- Step 3 of the replay for one item. -/
def Dev.replayItem (s : Dev) (x : Item) : Dev :=
  if x.stage = 2 then s.bump .JNL_REPLAY_RELEASED 0 else (s.startItem x.ref).bump .JNL_REPLAY_EXECUTED 0

/-- REPLAY (R496): the replay of a ring that waits for it; then the ring accepts again. -/
def execReplay (ring : Nat) (s : State) : Outcome State Fault Refusal := s.act fun s =>
  if s.jnl.replay.contains ring ∧ s.replayOpen then
    let s := s.journalLost
    let s := forEach (s.itemsOf ring) s Dev.replayItem
    .next { s with jnl := { s.jnl with replay := s.jnl.replay.filter (fun r => r ≠ ring) } }
  else .next s

end Sys2Proof.Machine
end

