-- ==== Sys2Proof/Machine/Jnl.lean ====
section
/-! DEFINITION. The Journal Store (R500 to R506): counter checkpoints, the power-fail sequence, loss of power and power-on, and
the restore. -/

namespace Sys2Proof.Machine

open Host

/-! ### Counter checkpoints (R500, R491) -/

/-- The slot the next checkpoint image goes to: they alternate, slot 0 first. -/
def Dev.ckptSlot (s : Dev) : Nat :=
  match Sparse.get? s.jnl.ckpts 0, Sparse.get? s.jnl.ckpts 1 with
  | some a, some b => if b.1 < a.1 then 1 else 0
  | some _, none => 1
  | none, _ => 0

/-- The counters of every block window as they stand. -/
def Dev.counters (s : Dev) : Sparse Word := s.regs.filter (fun e => (Reg.ofKey e.1).info.counter)

/-- A checkpoint image starts (R500). -/
def Dev.startCkpt (s : Dev) : Dev :=
  { s with jnl := { s.jnl with ckptRun := some (s.ckptSlot, s.vn, s.counters), ckptLate := false } }

/-- CHECKPOINT (R500, R491, R20): at a boundary whose VN is a multiple of 25,000, once; while the image before is still being
written, the volley counts as an overrun and the next starts as soon as that one ends. `bad` names the journal records found to
fail in both banks. -/
def execCheckpoint (bad : List ItemRef) (s : State) : Outcome State Fault Refusal := s.act fun s =>
  if s.ckptDue = false then .next s
  else match s.jnl.ckptRun with
    | some _ => .next (({ s with jnl := { s.jnl with ckptLate := true } } : Dev).lateUnit (unitId 0x10 0 0xFF))
    | none => .next ((forEach bad s Dev.loseRecord).journalLost.startCkpt)

/-- CHECKPOINT_DONE (R500): the image is written. -/
def execCheckpointDone (s : State) : Outcome State Fault Refusal := s.act fun s =>
  match s.jnl.ckptRun with
  | some (slot, v, m) =>
    let late := s.jnl.ckptLate
    let s := { s with jnl := { s.jnl with ckptRun := none, ckpts := Sparse.put s.jnl.ckpts slot (some (v, m)) } }.wr .JNL_CKPT_VN 0 v
    .next (if late then s.startCkpt else s)
  | none => .next s

/-! ### The power-fail sequence (R502, R503, R567) -/

/-- PWRFAIL (R502, R566): PWRFAIL_N has been low for 200 ns. It is ignored once Basecamp's WAIT has committed (R567). -/
def execPwrfail (s : State) : Outcome State Fault Refusal := s.act fun s =>
  if s.awake ∧ s.jnl.fail = 0 then .next { s with jnl := { s.jnl with fail := 1, failVn := s.vn + 1 } } else .next s

/-- PWRFAIL_BOUNDARY (R502, V0): acceptance, admission and new transmissions stop, BAR0 writes and capsules that would change state
are dropped, and a checkpoint in progress is abandoned. -/
def execPwrfailBoundary (s : State) : Outcome State Fault Refusal := s.act fun s =>
  if s.jnl.fail = 1 ∧ s.jnl.failVn ≤ s.vn then
    .next { s with jnl := { s.jnl with fail := 2, failVn := s.vn, ckptRun := none, ckptLate := false }
                   bcp := { s.bcp with caps := s.bcp.caps.filter (fun c => c.stage ≠ 0) } }
  else .next s

/-- The state a pitch has in the image: a transient state gives way to the state its operation began from (R503, R505). -/
def Dev.imagePit (s : Dev) (p : Nat) : Nat :=
  match s.pit.op with
  | some x => if x.pitch = p then x.start else s.pitState p
  | none => s.pitState p

/-- The cells of a flush image: the Pitch Map, and state and quota of each pitch (R503). -/
def Dev.imageCells (s : Dev) : List (Nat × Word) :=
  (s.regs.filter (fun e => match Reg.ofKey e.1 with
    | .HIF_PMAP_ENTRY | .PIT_STATE | .PIT_QUOTA => true
    | _ => false)).map (fun e => if Reg.ofKey e.1 = .PIT_STATE then (e.1, BitVec.ofNat 64 (s.imagePit (Reg.ixOf e.1))) else e)

/-- The flush image of the state as it is frozen (R503). -/
def Dev.flushImage (s : Dev) (good : Bool) : FlushImg :=
  { vn := s.vn, good, items := s.rng.items, rings := s.rng.rings.map (fun (e : Nat × Ring) => (e.1, { e.2 with la := [] }))
    cqs := s.rng.cqs, conns := s.stx.conns.map (fun (e : Nat × Conn) => (e.1, e.2.img)), cells := s.imageCells }

/-- The slot of the next flush image (R502): the one that holds no valid image, or slot A. -/
def Dev.flushSlot (s : Dev) : Nat :=
  let good := fun k => (Sparse.get? s.jnl.slots k).any (fun x => x.good)
  if good 0 && !good 1 then 1 else 0

/-- A flush image begins in a slot; it has no SEAL yet. -/
def Dev.beginFlush (s : Dev) : Dev :=
  let k := s.flushSlot
  { s with jnl := { s.jnl with slots := Sparse.put s.jnl.slots k (some (s.flushImage false)), flushing := some k } }

/-- The flush image is sealed, its header last. -/
def Dev.sealFlush (s : Dev) : Dev :=
  match s.jnl.flushing with
  | some k =>
    match Sparse.get? s.jnl.slots k with
    | some x => { s with jnl := { s.jnl with slots := Sparse.put s.jnl.slots k (some { x with good := true }) } }
    | none => s
  | none => s

/-- FLUSH_START (R502, V1): the committed steps are released; the stages are frozen, the frames inside are lost, and the image is
begun. In BRINGUP before the restore has ended no image is written (R567). -/
def execFlushStart (s : State) : Outcome State Fault Refusal := s.act fun s =>
  if s.jnl.fail = 2 ∧ s.jnl.failVn < s.vn ∧ s.dor.releases = [] then
    let s := { s with frames := [] }
    let s := if s.mode = .bringup ∧ s.jnl.restored = false then { s with jnl := { s.jnl with flushing := none } } else s.beginFlush
    .next { s with jnl := { s.jnl with fail := 3, failVn := s.vn } }
  else .next s

/-- DORMANT is armed once its POWER record is sealed (R523, R537): the write of PWR_MODE waits for it. -/
def Dev.dormantArm (s : Dev) : Dev :=
  let old := s.rd .PWR_MODE 0
  let new := putBits old 8 8 1
  let r := mkRec .basecamp 7 (unitId 0x12 0 0xFF) (s.rd .PWR_WAKE_STATUS 0) (some old) new 0
  { s with log := { s.log with prio := s.log.prio ++ [⟨s.log.nextId, r, some ⟨.basecamp, Reg.PWR_MODE.key 0, new, Reg.PWR_MODE.ones, none⟩⟩], nextId := s.log.nextId + 1 } }

/-- FLUSHED (R502, R537): the image is sealed. After a power failure every block halts; on the way to DORMANT the POWER record is
written next. -/
def execFlushed (s : State) : Outcome State Fault Refusal := s.act fun s =>
  if s.jnl.fail = 3 then .next { s.sealFlush with jnl := { s.sealFlush.jnl with fail := 4 } }
  else match s.bcp.dormant with
    | some (2, _, o) =>
      let s := s.sealFlush.dormantArm
      .next { s with bcp := { s.bcp with dormant := some (3, s.vn, o) } }
    | _ => .next s

/-! ### Loss of power and power-on (R13, R504, R506, R562, R564) -/

/-- What non-volatile storage holds through a loss of power, and the pins. The images, the Logbook, the flash and the fuses stay;
everything else is at reset. -/
def Dev.keepStores (s : Dev) : Dev :=
  { Dev.reset with
    log := { Dev.reset.log with store := s.log.store, nextId := s.log.nextId + 1, nextSeq := s.rd .BCP_LOG_WIDX 0 + 1
                                prio := [⟨s.log.nextId, powerUpRec, none⟩] }
    jnl := { Dev.reset.jnl with slots := s.jnl.slots, ckpts := s.jnl.ckpts }
    bcp := { Dev.reset.bcp with flash := s.dropUpdate.bcp.flash, active := s.bcp.active, trialBack := s.bcp.trialBack, keys := s.bcp.keys
                                minSvn := s.bcp.minSvn, perst := s.bcp.perst, pkg := s.bcp.pkg }
    out := s.out, free := s.free, nextFrame := s.nextFrame, nextOrd := s.nextOrd }

/-- The registers that come up with a value of the part: the SEQ of the last record sealed, and what the straps gave (R543, R562). -/
def Dev.upRegs (s old : Dev) : Dev :=
  forEach (List.range 4) (s.wr .BCP_LOG_WIDX 0 (old.rd .BCP_LOG_WIDX 0)) (fun s k =>
    s.wr .HIF_LINK_STATUS k (old.fld .HIF_LINK_STATUS k 1 0 + 0x100))

/-- The device as power-on reset leaves it: BRINGUP, with what non-volatile storage holds. -/
def Dev.powerOn (s : Dev) : Dev := s.keepStores.upRegs s

/-- Records that were being written as the rails fell lie in their slots without a SEAL (R506, R527). -/
def Dev.cutRecords (s : Dev) (n : Nat) : Dev :=
  let l := stampRecs s.vn s.log.nextSeq ((s.log.prio ++ s.log.ord).take n)
  { s with log := { s.log with store := s.log.store ++ l.map (fun (e : LogEntry) => e.body) } }

/-- The rails are down: nothing runs until the release. -/
def Dev.unpower (s : Dev) : Dev :=
  { s with bcp := { s.bcp with off := true, active := s.bcp.active }, log := { s.log with prio := [] } }

/-- POWER_LOSS (R504 to R506): the rails leave specification. `cut` counts the records, at most 4, whose words were written and
whose SEAL was not; under PWRFAIL_N, once latched to V0, the seals in progress complete. -/
def execPowerLoss (cut : Nat) (s : State) : Outcome State Fault Refusal := s.act fun s =>
  if s.bcp.off then .next s
  else .next ((s.cutRecords (if 2 ≤ s.jnl.fail ∨ s.mode = .dormant then 0 else min cut 4)).powerOn.unpower)

/-- PWRFAIL_RECOVER (R502): PWRFAIL_N has been high for 10 ms with the rails in specification, and the device restarts as from
power-on. -/
def execPwrfailRecover (s : State) : Outcome State Fault Refusal := s.act fun s =>
  if s.jnl.fail = 4 ∧ s.bcp.off = false then .next s.powerOn else .next s

/-- The links that a strap gives its port (R293, R562): one x16 link, or two x8 links. -/
def Dev.strapPort (s : Dev) (port : Nat) (bifur : Bool) : Dev :=
  (s.wr .HIF_LINK_STATUS (2 * port) (0x101 + 2 * b2n bifur)).wr .HIF_LINK_STATUS (2 * port + 1) (0x100 + 3 * b2n bifur)

/-- POWER_ON_RELEASE (R562, R564): the PWR supervisor releases power-on reset and the straps are sampled. -/
def execPowerOnRelease (bifurA bifurB : Bool) (pkg : Nat) (s : State) : Outcome State Fault Refusal := s.act fun s =>
  if s.bcp.off = false then .next s
  else
    let s := (s.powerOn.strapPort 0 bifurA).strapPort 1 bifurB
    .next { s with bcp := { s.bcp with pkg := pkg % 8 } }

/-! ### The restore (R505, R506) -/

/-- The image the restore uses: sealed and matching, the one with the higher VN of two. -/
def Dev.restoreImage (s : Dev) (corrupt : List Nat) : Option FlushImg :=
  let l := (s.jnl.slots.filter (fun e => e.2.good && !corrupt.contains e.1)).map (fun e => e.2)
  match l with
  | [a, b] => some (if a.vn < b.vn then b else a)
  | a :: _ => some a
  | [] => none

/-- A connection context as it returns (R415): in ERROR with ERR_CODE 0x08 unless it was FREE. -/
def restoredConn (v : Nat) : Conn :=
  if connState v = 0 then { Conn.blank with img := v } else { Conn.blank with img := putBits v 655 640 (2 + 8 * 2 ^ 8) }

/-- The state of an image is loaded (R505); items that had begun stand as accepted. -/
def Dev.loadImage (s : Dev) (x : FlushImg) : Dev :=
  { s with
    rng := { s.rng with items := x.items.map (fun (e : Nat × Item) => (e.1, { e.2 with busy := false, filled := false }))
                        rings := x.rings, cqs := x.cqs }
    stx := { s.stx with conns := x.conns.map (fun (e : Nat × Nat) => (e.1, restoredConn e.2)) }
    regs := x.cells.foldl (fun m e => Sparse.set Reg.dflt m e.1 e.2) s.regs
    jnl := { s.jnl with restored := true, restRings := x.rings.map (fun (e : Nat × Ring) => e.1)
                        restCqs := x.cqs.map (fun (e : Nat × Cq) => e.1) } }

/-- Every pitch that is not UNBOUND receives a fresh memory key (R498, R505). -/
def Dev.freshKeys (s : Dev) : Dev :=
  forEach ((List.range 4096).filter (fun p => s.pitState p ≠ 0)) s Dev.genMemKey

/-- The restore ends with a RESTORE value (R507). -/
def Dev.restoreEnd (s : Dev) (r : Nat) : Dev :=
  { s with jnl := { s.jnl with restored := true } }.setFld .JNL_STATUS 0 3 2 r

/-- JOURNAL_RESTORE (R505, R506): in BRINGUP after power-on or a wake, once, after the Trim Set load. `corrupt` names the slots
whose sealed image does not match its MAGIC, FORMAT, serial number or CRC. -/
def execJournalRestore (corrupt : List Nat) (s : State) : Outcome State Fault Refusal := s.act fun s =>
  if s.mode ≠ .bringup ∨ s.bcp.off ∨ s.jnl.restored ∨ s.jnl.fail ≠ 0 then .next s
  else match s.restoreImage corrupt with
    | some x =>
      let s := (s.loadImage x).freshKeys
      .next ((s.wr .JNL_RESTORE_VN 0 x.vn).restoreEnd 1)
    | none => .next (s.restoreEnd (if s.jnl.slots.any (fun e => e.2.good) then 3 else 0))

/-- The effect of a write of JNL_CTL.DISCARD (R505). -/
def Dev.jnlDiscard (s : Dev) : Dev :=
  if s.mode = .bringup ∧ s.fld .JNL_STATUS 0 3 2 = 1 then
    let s := s.discardItems (s.rng.rings.map (fun e => e.1)) (fun s x => (s.countLost x).bump .JNL_DISCARDED 0)
    let s := forEach s.jnl.restRings s Dev.disableRing
    (forEach s.jnl.restCqs s Dev.disableCq).setFld .JNL_STATUS 0 3 2 2
  else s

/-- JNL_DISCARD (R505). -/
def execJnlDiscard (o : Origin) (s : State) : Outcome State Fault Refusal := s.act fun s =>
  .next (s.regWrite o .JNL_CTL 0 4 1 Dev.jnlDiscard)

end Sys2Proof.Machine
end

