-- ==== Sys2Proof/Machine/Checks.lean ====
section
/-! DEFINITION. The checks of the apply groups (R23): what the snapshot of a group must hold before it may take effect. Each
list gives the checks in the order the chapter numbers them. -/

namespace Sys2Proof.Machine

open Host

/-- The elements of a register that the register file or a pending copy lists; every other element is at reset. -/
def Dev.viewCells (s : Dev) (r : Reg) : List Nat :=
  let mine := fun (m : List (Nat × Word)) => (m.filter (fun e => e.1 / 2 ^ 24 = r.ctorIdx)).map (fun e => e.1 % 2 ^ 24)
  (mine s.regs ++ mine s.pend).eraseDups

/-- The elements of a register that a pending copy lists. -/
def Dev.pendCells (s : Dev) (r : Reg) : List Nat :=
  (s.pend.filter (fun e => e.1 / 2 ^ 24 = r.ctorIdx)).map (fun e => e.1 % 2 ^ 24)

/-- CLK group 0 (R31). -/
def Dev.clkChecks (s : Dev) : List Bool :=
  let w := s.view .CLK_TOUT_WIDTH 0
  [w < s.view .CLK_TOUT_PERIOD 0, 1 ≤ w]

/-- WIRE group 0 of a port group (R40). -/
def Dev.mapChecks (s : Dev) (g : Nat) : List Bool :=
  let m := s.view .WIRE_PG_MAP g
  let h0 := bits m 2 0; let h1 := bits m 6 4
  [!bit m 8 || (h0 == 0 && h1 == 0), h0 ≤ 5 && h1 ≤ 5]

/-- WIRE group 1 + offset of a port (R46). -/
def Dev.portChecks (s : Dev) (p : Nat) : List Bool :=
  let v := s.view .WIRE_PORT_CFG p
  [64 ≤ bits v 31 18 && bits v 31 18 ≤ 9000, bits v 7 6 ≠ 2 || bit v 0 = false, bits v 5 4 ≤ 2]

/-- A next node that exists, or END (R70). -/
def nextOk (n : Nat) : Bool := n < 0x40 || n = 0x7F

/-- Two of the VALID transitions of a node carry one VALUE (R70, check 7). -/
def Dev.transClash (s : Dev) (n : Nat) : Bool :=
  let l := ((List.range 8).map (fun k => s.view .PRS_TRANS (8 * n + k))).filter (fun t => bit t 0)
  decide ((l.map (fun t => bits t 31 16)).eraseDups.length ≠ l.length)

/-- PARSE group 0 (R70). -/
def Dev.graphChecks (s : Dev) : List Bool :=
  let nodes := List.range 64
  let len := fun n => s.view .PRS_NODE_LEN n
  let nxt := fun n => s.view .PRS_NODE_NEXT n
  let chk := fun n => s.view .PRS_NODE_CHK n
  let trans := (List.range 512).filter (fun t => bit (s.view .PRS_TRANS t) 0)
  let xts := (List.range 320).filter (fun t => bit (s.view .PRS_NODE_XT t) 0)
  let d := s.viewFld .PRS_DEPTH 0 9 0
  [ 64 ≤ d && d ≤ 512 && d % 8 == 0,
    nodes.all (fun n => nextOk (bits (nxt n) 22 16)) && trans.all (fun t => nextOk (s.viewFld .PRS_TRANS t 15 9)),
    nodes.all (fun n => bits (len n) 5 4 ≠ 3 && bits (chk n) 9 8 ≠ 3 && bits (nxt n) 8 7 ≠ 3 && bits (nxt n) 11 9 < 6),
    nodes.all (fun n => bits (len n) 5 4 ≠ 2 || bits (len n) 13 10 ≤ 3),
    nodes.all (fun n => bits (len n) 22 14 + bits (len n) 13 10 + 1 ≤ 512 && bits (nxt n) 31 23 + bits (nxt n) 15 12 + 1 ≤ 512
      && bits (chk n) 22 14 + bits (chk n) 13 10 + 1 ≤ 512),
    xts.all (fun t => let v := s.view .PRS_NODE_XT t
      bits v 31 23 + bits v 22 16 + 1 ≤ 512 && bits v 15 6 + bits v 22 16 + 1 ≤ 576),
    nodes.all (fun n => !s.transClash n),
    trans.all (fun t => s.viewFld .PRS_TRANS t 31 16 < 2 ^ (bits (nxt (t / 8)) 15 12 + 1)) ]

/-- PARSE group 1 (R89). -/
def Dev.prsPortChecks (s : Dev) : List Bool :=
  let l := (List.range 64).map (fun p => s.view .PRS_PORT_CFG p)
  [ l.all (fun v => 1 ≤ bits v 2 0 && bits v 2 0 ≤ 4), l.all (fun v => destOk (bits v 2 0) (bits v 4 3) (bits v 22 5)) ]

/-- PARSE group 2 (R74): ACTION DROP, PUNT and MIRROR as base actions. -/
def Dev.malformedChecks (s : Dev) : List Bool :=
  let v := s.view .PRS_MALFORMED_ACTION 0
  let base := match bits v 1 0 with | 0 => 1 | 1 => 3 | _ => 4
  [bits v 1 0 ≠ 3, destOk base (bits v 3 2) (bits v 21 4)]

/-- The key length of a lookup other than FLOW (R78). -/
def lookupBits : Nat → Nat
  | 0 => 24 | 1 => 60 | 2 => 60 | 3 => 44 | _ => 140

/-- PARSE group 3 (R78). -/
def Dev.kselChecks (s : Dev) : List Bool :=
  let range := fun i => s.view .PRS_KSEL_RANGE i
  let total := fun l => sumNat ((List.range 4).map (fun k => bits (range (4 * l + k)) 18 10))
  [ (List.range 24).all (fun i => bits (range i) 9 0 + bits (range i) 18 10 ≤ 640),
    (List.range 6).all (fun l => s.viewFld .PRS_KSEL_EN l 31 31 = 0 ||
      (if l = 5 then 1 ≤ total l && total l ≤ 320 else total l = lookupBits l)) ]

/-- TBL groups 0 and 1 (R155): `scan` is the scan period. -/
def Dev.ageChecks (s : Dev) (r : Reg) (scan : Nat) : List Bool :=
  let v := s.view r 0
  let limit := bits v 15 8
  [1 ≤ limit && limit ≤ 254, scan < (256 - limit) * bits v 63 32]

/-- FLOW entries in use. -/
def Dev.flowEntries (s : Dev) : Nat := ((s.tblList 4).filter (fun e => !Sys2Proof.Machine.slotFree 4 e.2)).length

/-- TBL group 4 (R161). -/
def Dev.flowChecks (s : Dev) : List Bool :=
  let n := s.viewFld .TBL_FLOW_CFG 0 4 0
  let base := s.view .TBL_FLOW_BASE 0
  [ 10 ≤ n && n ≤ 24, base % 2 ^ (n + 9) = 0 && base + 2 ^ (n + 9) ≤ hbmSize,
    s.flowEntries = 0 || (n = s.fld .TBL_FLOW_CFG 0 4 0 && base = s.rd .TBL_FLOW_BASE 0) ]

/-- No drain or cluster barrier is held (R167, R194). -/
def Dev.noClusterBarrier (s : Dev) : Bool := s.swb.enBarrier.isNone && s.swb.cluBarrier.isNone

/-- SWB group 0 (R167). -/
def Dev.hashChecks (s : Dev) : List Bool :=
  let len := fun k => s.viewFld .SWB_HASH_RANGE k 18 10
  [ (List.range 8).all (fun k => s.viewFld .SWB_HASH_RANGE k 9 0 + len k ≤ 640),
    sumNat ((List.range 8).map (fun k => (len k + 7) / 8)) ≤ 40,
    (List.range 4).all (fun j => s.viewFld .SWB_HASH_CTL 0 j j = 0 || (len (2 * j) = len (2 * j + 1) && len (2 * j) ≠ 0)),
    s.swb.barrier.isEmpty && s.noClusterBarrier ]

/-- SWB group 1 (R170). -/
def Dev.pathChecks (s : Dev) : List Bool :=
  [(List.range 256).all (fun b => !s.isFenced (unitId 5 0 (s.viewFld .SWB_PATH_MAP (b / 8) (4 * (b % 8) + 2) (4 * (b % 8)))))]

/-- The sum of MIN over all queues of a view of SWB group 2 (R172). -/
def Dev.reservedView (s : Dev) : Nat :=
  let min := fun i => s.viewFld .SWB_BPROF i 43 24
  let l := s.viewCells .SWB_QCFG
  (33280 - l.length) * min 0 + sumNat (l.map (fun q => min (s.viewFld .SWB_QCFG q 5 0)))

/-- SWB group 2 (R195). -/
def Dev.bufferChecks (s : Dev) : List Bool :=
  let head := s.viewFld .SWB_POOL_HEADROOM 0 19 0
  let loss := fun p => s.viewFld .SWB_PORT_CFG p 15 8
  [ head + s.reservedView + 65536 ≤ 655360,
    sumNat ((List.range 32).map (fun p => s.viewFld .SWB_PORT_PFC p 19 0 * popCount 8 (loss p))) ≤ head,
    (List.range 32).all (fun p => loss p = 0 || s.viewFld .SWB_PORT_PFC p 39 20 < s.viewFld .SWB_PORT_PFC p 59 40),
    (List.range 64).all (fun i => s.viewFld .SWB_BPROF i 43 24 ≤ s.viewFld .SWB_BPROF i 63 44) ]

/-- SWB group 3 (R195). -/
def Dev.wredChecks (s : Dev) : List Bool :=
  [ (s.viewCells .SWB_WRED).all (fun i => s.viewFld .SWB_WRED i 0 0 = 0 || s.viewFld .SWB_WRED i 43 24 < s.viewFld .SWB_WRED i 63 44),
    (s.viewCells .SWB_WRED_CTL).all (fun i => s.viewFld .SWB_WRED_CTL i 3 0 ≤ 15) ]

/-- The base and the size of a spill region. -/
def spillRegion (v : Nat) : Nat × Nat := (bits v 47 26 * 2 ^ 26, 2 ^ bits v 5 0)

/-- SWB group 4 (R179). -/
def Dev.spillChecks (s : Dev) : List Bool :=
  let l := (List.range 16).map (fun i => s.view .SWB_SPILL i)
  let on := ((List.range 16).zip l).filter (fun e => bit e.2 6)
  [ l.all (fun v => 26 ≤ bits v 5 0 && bits v 5 0 ≤ 34),
    l.all (fun v => (spillRegion v).1 % (spillRegion v).2 = 0 && (spillRegion v).1 + (spillRegion v).2 ≤ hbmSize),
    on.all (fun a => on.all (fun b => a.1 = b.1 || (spillRegion a.2).1 + (spillRegion a.2).2 ≤ (spillRegion b.2).1
      || (spillRegion b.2).1 + (spillRegion b.2).2 ≤ (spillRegion a.2).1)),
    (List.range 16).all (fun i => s.spillCells i = 0 || spillRegion (s.view .SWB_SPILL i) = spillRegion (s.rd .SWB_SPILL i)) ]

/-- SWB group 5 (R187). -/
def Dev.mirrorChecks (s : Dev) : List Bool :=
  let l := (List.range 64).map (fun i => s.view .SWB_MIRROR i)
  [ l.all (fun v => match bits v 12 11 with
      | 0 => bits v 31 20 < 32
      | 1 => bits v 31 20 < 4096
      | 2 => bits v 31 20 < 8
      | _ => false),
    l.all (fun v => bits v 45 32 = 0 || (64 ≤ bits v 45 32 && bits v 45 32 ≤ 9000)) ]

/-- SWB group 6 (R194). -/
def Dev.clusterChecks (s : Dev) : List Bool :=
  let limit := s.viewFld .SWB_CLUSTER_CTL 0 31 15
  [1 ≤ limit && limit ≤ 65536, s.noClusterBarrier]

/-- A rate in units of 2^-32 bytes per volley that R212 and R225 allow: 1 kb/s to 1.6 Tb/s. -/
def rateOk (r : Nat) : Bool := 21475 ≤ r && r ≤ 34359738368000

/-- The node has a PARENT of its own: a queue of a host virtual port, or a pool node in use (R212). -/
def Dev.freeParent (s : Dev) (n : Nat) : Bool := (512 ≤ n && n < 0x8200) || (0x8440 ≤ n && shpValid (s.shaperView n))

/-- PARENT names a class node, or a VALID pool node, at a lower level number; 0 is the default parent of a queue, and a pool node has
none (R212). -/
def Dev.parentOk (s : Dev) (n : Nat) : Bool :=
  let p := shpParent (s.shaperView n)
  (p = 0 && decide (n < 0x8200)) || (0x8240 ≤ p && p < 0x83B0)
    || (0x8440 ≤ p && shpValid (s.shaperView p) && s.shpLevelOf p < s.shpLevelOf n)

/-- The class node that the chain from a node ends at, when it ends within `k` steps; a PARENT of 0 ends that of a queue at the
default, and that of a pool node nowhere. -/
def Dev.chainEnd (s : Dev) (dflt : Nat) : Nat → Nat → Nat
  | 0, _ => 0
  | k + 1, n =>
    let p := shpParent (s.shaperView n)
    if p = 0 then (if n < 0x8200 then dflt else 0) else if 0x8240 ≤ p ∧ p < 0x8440 then p else s.chainEnd dflt k p

/-- The chain of a queue of a host virtual port ends at the class node of its own class and its pitch's link (R212). -/
def Dev.chainOk (s : Dev) (q : Nat) : Bool :=
  let d := 0x8240 + 8 * (42 + pmapLink (s.pmap ((q - 512) / 8))) + q % 8
  s.chainEnd d 4 q = d

/-- SCH group 0 (R212). Checks 1 to 4 look at the entries written, which alone can break them; checks 5 and 6 at every entry, since a
write of one node can break the PARENT of another (DEDUCED, log entry 39). -/
def Dev.shaperChecks (s : Dev) : List Bool :=
  let all := ((s.viewCells .SCH_SHP_ENTRY).map (· / 2)).eraseDups
  let new := ((s.pendCells .SCH_SHP_ENTRY).map (· / 2)).eraseDups
  let v := fun n => s.shaperView n
  [ new.all (fun n => !shpShape (v n) || rateOk (shpInc (v n))),
    new.all (fun n => !shpShape (v n) || (64 ≤ shpBurst (v n) && shpBurst (v n) ≤ 16777216)),
    new.all (fun n => 1 ≤ shpWeight (v n)),
    new.all (fun n => n < 0x8440 || !shpValid (v n) || 2 ≤ shpLevel (v n)),
    all.all (fun n => !s.freeParent n || s.parentOk n) && all.all (fun n => n < 512 || 0x8200 ≤ n || s.chainOk n),
    all.all (fun n => !s.freeParent n || shpParent (v n) < 0x8440 || shpValid (v (shpParent (v n)))) ]

/-- A policer entry of the snapshot. -/
def Dev.policerView (s : Dev) (n : Nat) : Nat := policerOf (fun w => s.view .SCH_POL_ENTRY (4 * n + w))

/-- SCH group 1 (R225). -/
def Dev.policerChecks (s : Dev) : List Bool :=
  let l := ((s.pendCells .SCH_POL_ENTRY).map (· / 4)).eraseDups.map (fun n => (n, s.policerView n))
  [ l.all (fun e => (bits e.2 47 0 = 0 || rateOk (bits e.2 47 0)) && (bits e.2 95 48 = 0 || rateOk (bits e.2 95 48))),
    l.all (fun e => bits e.2 120 96 ≤ 16777216 && bits e.2 145 121 ≤ 16777216),
    l.all (fun e => bit e.2 193 || bits e.2 47 0 ≤ bits e.2 95 48),
    l.all (fun e => bits e.2 198 197 ≠ 3 && bits e.2 200 199 ≠ 3 && bits e.2 202 201 ≠ 3 && bits e.2 196 195 ≠ 3),
    l.all (fun e => !bit e.2 208 || bits e.2 185 164 + 2 < 4194304),
    l.all (fun e => !bit e.2 207 || bits e.2 163 146 ≠ e.1) ]

/-- No pair of bits of a word holds 0b11. -/
def colorsOk (n v : Nat) : Bool := (List.range n).all (fun k => bits v (2 * k + 1) (2 * k) ≠ 3)

/-- SCH group 2 (R226). -/
def Dev.colorChecks (s : Dev) : List Bool :=
  let v := s.view .SCH_COLOR_SEL 0
  [ (s.viewCells .SCH_PCP_MAP).all (fun i => colorsOk 16 (s.view .SCH_PCP_MAP i))
      && (s.viewCells .SCH_DSCP_MAP).all (fun i => colorsOk 32 (s.view .SCH_DSCP_MAP i)),
    bits v 9 0 + 4 ≤ 640 && bits v 29 20 + 6 ≤ 640 && bits v 19 10 < 640 && bits v 39 30 < 640 ]

/-- A context owns a VALID slot of its core (R232, R250). -/
def Dev.ownsSlot (s : Dev) (c t : Nat) : Bool :=
  (List.range 32).any (fun k =>
    s.viewFld .DOR_SLOT (4 * (32 * c + t / 8) + k / 8) (4 * (k % 8) + 3) (4 * (k % 8)) = 8 + t % 8)

/-- DOR group 0 of a cluster (R250). -/
def Dev.dorChecks (s : Dev) (c : Nat) : List Bool :=
  let ts := List.range 256
  let blocks := s.viewFld .DOR_BUF_CFG c 14 0
  let sh := fun t => s.view .DOR_CTX_SHARE (256 * c + t)
  let cfg := fun t => s.view .DOR_CTX_CFG (256 * c + t)
  let sup := s.viewFld .DOR_SUP_CFG c 7 0
  [ blocks ≤ 28672 && s.viewFld .DOR_BUF_CFG c 30 16 + sumNat (ts.map (fun t => bits (sh t) 46 32)) ≤ blocks,
    sumNat (ts.map (fun t => bits (sh t) 13 0)) ≤ 8192,
    ts.all (fun t => bits (sh t) 46 32 ≤ bits (sh t) 62 48 && bits (sh t) 62 48 ≤ blocks && bits (sh t) 13 0 ≤ bits (sh t) 29 16
      && bits (sh t) 29 16 ≤ 8192),
    ts.all (fun t => !(bit (cfg t) 18 && bit (cfg t) 19)),
    ts.all (fun t => !bit (cfg t) 18 || s.ownsSlot c t),
    !bit (cfg sup) 18 && !bit (cfg sup) 19,
    ts.all (fun t => bits (cfg t) 19 18 = s.fld .DOR_CTX_CFG (256 * c + t) 19 18 || (s.ctx (ctxKey c t)).st = 0),
    sup = s.fld .DOR_SUP_CFG c 7 0 || (s.fq c).isEmpty ]

/-- The kinds that may FENCE and those that may REPAIR (R468). -/
def fenceKinds : List Nat := [0x0C, 0x0F, 0x12, 0x13, 0x15, 0x17, 0x1A]
/-- The kinds that may REPAIR (R468). -/
def repairKinds : List Nat := [0x03, 0x18, 0x19]

/-- REF group 0 (R468). -/
def Dev.kindChecks (s : Dev) : List Bool :=
  let ks := List.range 256
  let v := fun k => s.view .REF_KIND_CFG k
  [ ks.all (fun k => kindSeverity k ≠ 1 || (1 ≤ bits (v k) 21 0 && bits (v k) 21 0 ≤ 3600000)),
    ks.all (fun k => bits (v k) 49 48 ≠ 1 || fenceKinds.contains k),
    ks.all (fun k => bits (v k) 49 48 ≠ 2 || repairKinds.contains k) ]

/-- The checks of group `g` of block `b` (R23). -/
def Dev.groupChecks (s : Dev) (b g : Nat) : List Bool :=
  match (blkClass b).1, g with
  | 0x11, _ => s.clkChecks
  | 0x01, 0 => s.mapChecks (blkClass b).2
  | 0x01, g + 1 => s.portChecks (8 * (blkClass b).2 + g)
  | 0x02, 0 => s.graphChecks
  | 0x02, 1 => s.prsPortChecks
  | 0x02, 2 => s.malformedChecks
  | 0x02, _ => s.kselChecks
  | 0x04, 0 => s.ageChecks .TBL_AGE_STN 262144
  | 0x04, 1 => s.ageChecks .TBL_AGE_FLOW 2097152
  | 0x04, 2 => [(List.range 32).all (fun p => s.viewFld .TBL_LEARN_CFG p 3 2 ≤ 1)]
  | 0x04, 3 => [s.viewFld .TBL_NOTICE_CFG 0 31 30 ≠ 1 || s.viewFld .TBL_NOTICE_CFG 0 15 0 ≤ 7]
  | 0x04, 4 => s.flowChecks
  | 0x04, _ => [s.view .TBL_SHADOW_BASE 0 % 4096 = 0]
  | 0x05, 0 => s.hashChecks
  | 0x05, 1 => s.pathChecks
  | 0x05, 2 => s.bufferChecks
  | 0x05, 3 => s.wredChecks
  | 0x05, 4 => s.spillChecks
  | 0x05, 5 => s.mirrorChecks
  | 0x05, _ => s.clusterChecks
  | 0x06, 0 => s.shaperChecks
  | 0x06, 1 => s.policerChecks
  | 0x06, _ => s.colorChecks
  | 0x07, _ => s.dorChecks (blkClass b).2
  | 0x0F, _ => s.kindChecks
  | _, _ => []

end Sys2Proof.Machine
end

