-- ==== Sys2Proof/Machine/Apply.lean ====
section
/-! DEFINITION. GROUP_APPLY (R23 to R28) and what an apply does as it takes effect (R31, R42, R61, R160, R169, R172, R194, R216,
R225). -/

namespace Sys2Proof.Machine

open Host

/-! ### The requests -/

/-- The VN at which an apply would take effect: its target, or the boundary of an untimed one (R24). -/
def Dev.applyDue (s : Dev) (b : Nat) (timed early : Bool) : Nat :=
  if timed then s.rd .GROUP_TARGET_VN b else s.untimedDue early

/-- A timed target is refused (R24): 0xFE too early, 0xFF too far, or 0. -/
def Dev.targetBar (s : Dev) (b : Nat) (timed early : Bool) : Nat :=
  if timed = false then 0
  else if s.rd .GROUP_TARGET_VN b < s.untimedDue early then 0xFE
  else if s.vn + 2 ^ 32 < s.rd .GROUP_TARGET_VN b then 0xFF else 0

/-- The checks have passed: the group is WAITING with its snapshot, and its record is raised (R22, R23, R28). -/
def Dev.groupWait (s : Dev) (o : Origin) (b g tag due : Nat) : Dev :=
  let snap := s.pendOf b g
  let n := s.log.nextId
  let s := s.logPrio (applyRec o b g 0 tag 0 due)
  let s : Dev := { s with waits := s.waits ++ [⟨b, g, tag, due, snap, n⟩], pend := s.pend.filter (fun e => !decide (keyGroup e.1 = some (b, g))) }
  s.groupStatus b tag 0 g 1

/-- The outcome of an APPLY, in the order of R26. -/
def Dev.groupApply (s : Dev) (o : Origin) (b g tag : Nat) (timed early : Bool) : Dev :=
  if blkGroups b ≤ g then s.groupStatus b tag 0xFC g 7
  else if s.mode = .lockdown ∧ lockdownClass (blkClass b).1 then s.groupStatus b tag 0xFD g 7
  else if (s.waitOf b g).isSome then s.groupStatus b tag 0 g 6
  else if (s.pendOf b g).isEmpty then s.groupStatus b tag 0 g 4
  else if s.targetBar b timed early ≠ 0 then s.groupStatus b tag (s.targetBar b timed early) g 7
  else match firstFail (s.groupChecks b g) with
    | 0 => s.groupWait o b g tag (s.applyDue b timed early)
    | n => (s.groupStatus b tag n g 3).bump .GROUP_REJECT_COUNT b

/-- The outcome of a DISCARD (R26): the pending copy goes, and a WAITING apply at least 2 volleys away is cancelled. -/
def Dev.groupDiscard (s : Dev) (o : Origin) (b g tag : Nat) : Dev :=
  if blkGroups b ≤ g then s.groupStatus b tag 0xFC g 7
  else
    let s := { s with pend := s.pend.filter (fun e => !decide (keyGroup e.1 = some (b, g))) }
    let s := match s.waitOf b g with
      | some w =>
        if s.vn + 2 ≤ w.due then
          { s.logPrio (applyRec o b g 0 w.tag 1 s.vn) with waits := s.waits.filter (fun x => !(x.blk = b && x.group = g)) }
        else s
      | none => s
    s.groupStatus b tag 0 g 5

/-- The effect of a write of GROUP_APPLY of a block. -/
def Dev.groupCtl (s : Dev) (o : Origin) (b v : Nat) (early : Bool) : Dev :=
  match bits v 2 1 with
  | 1 => s.groupApply o b (bits v 7 3) (bits v 31 16) (bit v 0) early
  | 2 => s.groupDiscard o b (bits v 7 3) (bits v 31 16)
  | _ => s

/-- The value of GROUP_APPLY for a request. -/
def groupWord (action group tag : Nat) (timed : Bool) : Nat :=
  tag % 2 ^ 16 * 2 ^ 16 + group % 32 * 2 ^ 3 + action * 2 + b2n timed

/-- A write of GROUP_APPLY waits for its record, whatever its origin (R28); SEAL_ACK carries it out. -/
def Dev.groupReq (s : Dev) (o : Origin) (b v : Nat) : Dev :=
  if s.hears o then s.holdWrite o .GROUP_APPLY b 4 v Reg.GROUP_APPLY.ones else s

/-- APPLY (R23 to R26, R28): a write of GROUP_APPLY of block number `block` (R549) with ACTION APPLY. -/
def execApply (o : Origin) (block group tag : Nat) (timed : Bool) (s : State) : Outcome State Fault Refusal := s.act fun s =>
  if 40 ≤ block then .fault .noSuchObject else .next (s.groupReq o block (groupWord 1 group tag timed))

/-- DISCARD (R26). -/
def execDiscard (o : Origin) (block group tag : Nat) (s : State) : Outcome State Fault Refusal := s.act fun s =>
  if 40 ≤ block then .fault .noSuchObject else .next (s.groupReq o block (groupWord 2 group tag false))

/-! ### The effect of an apply -/

/-- The mode in force in the volley before this boundary (R37). -/
def Dev.modeBefore (s : Dev) : Mode :=
  if s.rd .SITE_MODE_VN 0 = s.vn then (Mode.ofCode (s.fld .SITE_MODE 0 7 4)).getD s.mode else s.mode

/-- Put a snapshot in force. -/
def Dev.putCells (s : Dev) (l : List (Nat × Word)) : Dev :=
  { s with regs := l.foldl (fun m e => Sparse.set Reg.dflt m e.1 e.2) s.regs }

/-- A PARSE apply (R61): the values it replaces are kept for the frames that began under them. -/
def Dev.parseApplied (s : Dev) (l : List (Nat × Word)) : Dev :=
  let v := s.prs.ver
  let old := l.map (fun e => (e.1, Sparse.get Reg.dflt s.regs e.1))
  let used := fun (n : Nat) => s.frames.any (fun e => e.2.loc ≠ .frontEnd && decide (e.2.cfgVer ≤ n))
  let s := s.putCells l
  { s with prs := { s.prs with ver := v + 1, olds := (s.prs.olds ++ [(v, old)]).filter (fun o => used o.1) } }

/-- The drain barriers of buckets whose path changes (R169). -/
def Dev.raiseBarriers (s : Dev) (bs : List (Nat × Nat)) : Dev := forEach bs s (fun s b => s.raiseBarrier b.1 b.2)

/-- An apply of SWB group 0 (R169, R194): every bucket takes a drain barrier, and the cluster barrier is raised. -/
def Dev.hashApplied (s : Dev) (l : List (Nat × Word)) : Dev :=
  let bs := (List.range 256).map (fun b => (b, s.pathOf b))
  let s := (s.putCells l).raiseBarriers bs
  { s with swb := { s.swb with cluBarrier := some s.clusterLoad } }

/-- An apply of SWB group 1 (R169): the buckets whose path changes take a drain barrier. -/
def Dev.pathsApplied (s : Dev) (l : List (Nat × Word)) : Dev :=
  let t := s.putCells l
  t.raiseBarriers (((List.range 256).filter (fun b => s.pathOf b ≠ t.pathOf b)).map (fun b => (b, s.pathOf b)))

/-- An apply of SWB group 2 (R172): the pools in force. -/
def Dev.poolsApplied (s : Dev) (l : List (Nat × Word)) : Dev :=
  let s := s.putCells l
  let r := ({ s with pend := [] } : Dev).reservedView
  let s := s.wr .SWB_POOL_RESERVED 0 r
  s.wr .SWB_POOL_SHARED 0 (655360 - s.fld .SWB_POOL_HEADROOM 0 19 0 - r)

/-- An apply of SWB group 6 (R194): a change of EN raises the cluster barrier. -/
def Dev.clustersApplied (s : Dev) (l : List (Nat × Word)) : Dev :=
  let old := s.fld .SWB_CLUSTER_CTL 0 7 0
  let t := s.putCells l
  if t.fld .SWB_CLUSTER_CTL 0 7 0 = old then t
  else { t with swb := { t.swb with enBarrier := some (old, t.orderLoad) } }

/-- SHAPER_REWRITE (R216, R217): the bucket of a node whose entry an apply changed. In BRINGUP and MAINTENANCE the refill of this
boundary, which R217 puts after the apply, is made here with the new entry. -/
def Dev.shaperApplied (s : Dev) (n before : Nat) (mode : Mode) : Dev :=
  if s.shaper n = before then s.refillNode n
  else
    let t := s.rewriteShaper n before mode
    let kept := mode != .service && mode != .degraded && shpShape (s.shaper n) && shpShape before
    if kept then t.refillNode n else t.forgive n

/-- An apply of SCH group 0. -/
def Dev.shapersApplied (s : Dev) (l : List (Nat × Word)) : Dev :=
  let mode := s.modeBefore
  let ns := (l.map (fun e => Reg.ixOf e.1 / 2)).eraseDups.map (fun n => (n, s.shaper n))
  forEach ns (s.putCells l) (fun s e => if shpShape (s.shaper e.1) || shpShape e.2 then s.shaperApplied e.1 e.2 mode else s)

/-- An apply of SCH group 1 (R225): a policer that changes has full buckets; the VN of its last charge stays. -/
def Dev.policersApplied (s : Dev) (l : List (Nat × Word)) : Dev :=
  let ns := (l.map (fun e => Reg.ixOf e.1 / 4)).eraseDups.map (fun n => (n, s.policer n))
  forEach ns (s.putCells l) (fun s e =>
    let v := s.policer e.1
    if v = e.2 then s else s.setPolState e.1 (bits v 120 96 * 2 ^ 32, bits v 145 121 * 2 ^ 32, (s.polState e.1).2.2))

/-- The level of the TIME_OUT ball in this volley (R31); low while the CLK class is not PLL-clocked (R561). -/
def Dev.timeOutLevel (s : Dev) : Bool :=
  decide (s.fld .CLK_SRC 0x11 1 0 = 2) && decide (s.vn % s.rd .CLK_TOUT_PERIOD 0 < s.rd .CLK_TOUT_WIDTH 0)

/-- The ball follows the registers. -/
def Dev.driveTimeOut (s : Dev) : Dev := { s with clk := { s.clk with timeOut := s.timeOutLevel } }

/-- The shadow's EN has been cleared by an apply (R160). -/
def Dev.shadowApplied (s : Dev) (l : List (Nat × Word)) : Dev :=
  let was := s.fld .TBL_SHADOW_CTL 0 0 0
  let t := s.putCells l
  if was = 1 ∧ t.fld .TBL_SHADOW_CTL 0 0 0 = 0 then t.shadowOff else t

/-- An apply of group 0 of a cluster (R237, R243): each core ends its rotation of 32 slots under the old slot words, and contexts that
are now free to be taken go to the waiting FORKWs. -/
def Dev.slotsApplied (s : Dev) (c : Nat) (l : List (Nat × Word)) : Dev :=
  let t := s.putCells l
  let olds := ((List.range 128).map (128 * c + ·)).foldl (fun m i =>
    Sparse.put m i (if s.rd .DOR_SLOT i = t.rd .DOR_SLOT i then none else some (s.rd .DOR_SLOT i))) s.dor.slotOld
  let start := (s.cyclesBefore c + 31) / 32 * 32
  Dev.serveAll { t with dor := { t.dor with slotOld := olds, slotFrom := Sparse.put t.dor.slotFrom c (some start) } } c

/-- A snapshot takes effect, with what that brings about in its block. -/
def Dev.snapEffect (s : Dev) (b g : Nat) (l : List (Nat × Word)) (rxBusy : List Nat) : Dev :=
  match (blkClass b).1, g with
  | 0x11, _ => (s.putCells l).driveTimeOut
  | 0x01, 0 => (s.putCells l).portMapChange (blkClass b).2 (s.rd .WIRE_PG_MAP (blkClass b).2) rxBusy
  | 0x02, _ => s.parseApplied l
  | 0x04, 5 => s.shadowApplied l
  | 0x05, 0 => s.hashApplied l
  | 0x05, 1 => s.pathsApplied l
  | 0x05, 2 => s.poolsApplied l
  | 0x05, 6 => s.clustersApplied l
  | 0x06, 0 => s.shapersApplied l
  | 0x06, 1 => s.policersApplied l
  | 0x07, _ => s.slotsApplied (blkClass b).2 l
  | _, _ => s.putCells l

/-- A WAITING apply takes effect (R23, R30). -/
def Dev.applyNow (s : Dev) (w : ApplyWait) (rxBusy : List Nat) : Dev :=
  let s := { s with waits := s.waits.filter (fun x => !(x.blk = w.blk && x.group = w.group)) }
  let s := s.snapEffect w.blk w.group w.snap rxBusy
  (s.groupStatus w.blk w.tag 0 w.group 2).wr .GROUP_APPLY_VN w.blk s.vn

/-- APPLIED (R23): the next WAITING apply that is due takes effect, every field of its snapshot together. `rxBusy` names the ports
that are receiving a frame at the boundary (R42). -/
def execApplied (rxBusy : List Nat) (s : State) : Outcome State Fault Refusal := s.act fun s =>
  match s.waits.find? s.waitDue with
  | some w => .next (s.applyNow w rxBusy)
  | none => .next s

/-- The shaper nodes whose rewrite is due at this boundary: their refill is the apply's (R217). -/
def Dev.rewriteDue (s : Dev) : List Nat :=
  (s.waits.filter (fun w => w.blk = 9 && w.group = 0 && s.waitDue w)).flatMap (fun w => (w.snap.map (fun e => Reg.ixOf e.1 / 2)).eraseDups)

end Sys2Proof.Machine
end

