-- ==== Sys2Proof/Machine/Clock.lean ====
section
/-! DEFINITION. The volley clock (R15 to R21): network time, holdover, and the volley boundary with the work that every boundary
does. -/

namespace Sys2Proof.Machine

open Host

/-! ### Network time (R16 to R18) -/

/-- CLK_PHASE_ERR as a signed number of ns. -/
def Dev.phaseErr (s : Dev) : Int := signed 32 (s.rd .CLK_PHASE_ERR 0)

/-- Set CLK_PHASE_ERR; it saturates (R19). -/
def Dev.setPhaseErr (s : Dev) (e : Int) : Dev :=
  s.wr .CLK_PHASE_ERR 0 (unsigned 32 (max (-2147483647) (min 2147483647 e)))

/-- CLK_TIME_STATUS.STATE: 0 UNSET, 1 LOCKED, 2 HOLDOVER. -/
def Dev.timeState (s : Dev) : Nat := s.fld .CLK_TIME_STATUS 0 1 0

/-- Start the count of the boundaries without a CLK_ADJ write. -/
def Dev.clkCount (s : Dev) (n : Nat) : Dev := { s with clk := { s.clk with sinceAdj := n } }

/-- The effect of a write of CLK_ADJ (R16, R18). -/
def Dev.clkAdj (s : Dev) (v : Nat) : Dev :=
  let s := (s.setPhaseErr (s.phaseErr + signed 32 (v % 2 ^ 32))).clkCount 0
  if s.timeState = 2 then s.setFld .CLK_TIME_STATUS 0 1 0 1 else s

/-- CLK_ADJ (R16, R18): a write of a signed offset in ns. -/
def execClkAdj (o : Origin) (v : Nat) (s : State) : Outcome State Fault Refusal := s.act fun s =>
  .next (s.regWrite o .CLK_ADJ 0 4 v fun s => s.clkAdj v)

/-- The effect of a write of CLK_TIME_LOAD (R17), `elapsed` ns before the next boundary. -/
def Dev.clkLoad (s : Dev) (v elapsed : Nat) : Dev :=
  if s.mode = .bringup then { s with clk := { s.clk with timeLoad := some (v % 2 ^ 64, elapsed) } }
  else s.setFld .CLK_TIME_STATUS 0 3 3 1

/-- CLK_TIME_LOAD (R17): the device time `t` at the moment of the write, and the ns from the write to the next boundary. -/
def execClkTimeLoad (o : Origin) (t elapsed : Nat) (s : State) : Outcome State Fault Refusal := s.act fun s =>
  .next (s.regWrite o .CLK_TIME_LOAD 0 8 t fun s => s.clkLoad t elapsed)

/-- HOLDOVER (R18): CLK_LOCK_TIMEOUT volleys without a CLK_ADJ write while LOCKED. -/
def execHoldover (s : State) : Outcome State Fault Refusal := s.act fun s =>
  if s.timeState = 1 ∧ max 25000 (s.rd .CLK_LOCK_TIMEOUT 0) ≤ s.clk.sinceAdj then
    .next ((s.setFld .CLK_TIME_STATUS 0 1 0 2).whistle 0x02 (unitId 0x11 0 0xFF) 0 1)
  else .next s

/-! ### The volley counter -/

/-- The length of a volley that begins with this CLK_PHASE_ERR (R15, R16). -/
def volleyLen (e : Int) : Nat := if 0 < e then 39 else if e < 0 then 41 else 40

/-- What a volley of this length has removed from CLK_PHASE_ERR. -/
def slewed (ns : Nat) (e : Int) : Int := if ns = 39 then e - 1 else if ns = 41 then e + 1 else e

/-- Device time moves on: a CLK_TIME_LOAD takes effect, or T advances by 40 ns (R16, R17); the next volley takes its length. -/
def Dev.tick (s : Dev) : Dev :=
  let s := match s.clk.timeLoad with
    | some (t, e) =>
      let s := ((s.setPhaseErr (((t + e) % 40 : Nat) : Int)).setFld .CLK_TIME_STATUS 0 1 0 1).clkCount 0
      { s with clk := { s.clk with vn := (t + e) / 40 % 2 ^ 64, timeLoad := none } }
    | none =>
      let s := s.setPhaseErr (slewed s.clk.volleyNs s.phaseErr)
      { s with clk := { s.clk with vn := s.clk.vn + 1, sinceAdj := s.clk.sinceAdj + b2n (s.timeState = 1) } }
  { s with clk := { s.clk with volleyNs := volleyLen s.phaseErr, lens := (s.clk.volleyNs :: s.clk.lens).take 32 } }

/-! ### Overruns (R20, R21) -/

/-- A unit identifier names a block of the device. -/
def unitOk (u : Nat) : Bool :=
  let c := bits u 23 16; let i := bits u 15 8
  decide (u < 2 ^ 24) && decide (c ≤ 0x12) && decide (blkClass (blkOf c i) = (c, i))

/-- A unit overran its volley: it counts the volley in its period. -/
def Dev.noteOverrun (s : Dev) (u : Nat) : Dev :=
  let e := match Sparse.get? s.clk.overruns u with
    | some (n, v) => (n + 1, v)
    | none => (1, s.vn)
  { s with clk := { s.clk with overruns := Sparse.put s.clk.overruns u (some e) } }

/-- Count an overrun volley in each block that has such a unit. -/
def Dev.countOverruns (s : Dev) (l : List Nat) : Dev :=
  let bs := (l.map (fun u => blkOf (bits u 23 16) (bits u 15 8))).eraseDups
  forEach bs (forEach l.eraseDups s Dev.noteOverrun) (fun s b => s.bump .VOLLEY_OVERRUN_COUNT b)

/-- At the end of a unit's period of 25,000 volleys: whistle VOLLEY_OVERRUN with the number of overrun volleys in it. -/
def Dev.tellOverruns (s : Dev) : Dev :=
  let l := s.clk.overruns.filter (fun e => e.2.2 + 25000 ≤ s.vn)
  forEach l { s with clk := { s.clk with overruns := s.clk.overruns.filter (fun e => s.vn < e.2.2 + 25000) } }
    (fun s e => s.whistle 0x01 e.1 0 e.2.1)

/-! ### What a volley counts at its end -/

/-- A link's next request waits because no tag is free (R311): that of a channel, or the read of a ring whose turn has come. -/
def Dev.tagWaits (s : Dev) (k : Nat) : Bool :=
  (s.freeTag k).isNone && (s.rng.rings.any (fun e => s.ringEligible e.2 && !s.ringHeld e.1 e.2
      && decide ((s.outLink e.2.owner e.2.link).1 = k) && decide (e.2.loc ≠ 2))
    || s.dma.chans.any (fun e =>
    decide (s.chState e.1 = 1) && e.2.failed.isNone && decide (s.chArb e.1 = k)
      && (s.needsFlush e.1 || (decide (s.rd .DMA_ACT_REMAIN e.1 ≠ 0) && decide ((s.actSpaces e.1).1 = 0)))))

/-- A frame stays at the head of a cluster port queue because no reorder slot is free (R190). -/
def Dev.rsqFull (s : Dev) : Bool :=
  (List.range 8).any (fun c => !s.slotFree c && !(s.schedHeads (32 + c)).isEmpty)

/-- An acceptance waits because the journal is full (R484, R359). -/
def Dev.jnlFull (s : Dev) : Bool :=
  decide (journalSlots ≤ s.rng.items.length) && s.rng.rings.any (fun e => s.ringEligible e.2 && !s.ringHeld e.1 e.2)

/-- A multicast frame waits for an extension (R489). -/
def Dev.extWaits (s : Dev) : Bool :=
  (List.range 8).any (fun p => match s.firstIf (fun f => f.loc = .path p) with
    | some (_, x) => actBase x.action = 2 && actCrypto x.action ≠ 2 && (s.forwardTo x).1 = 2 && s.extWait x
    | none => false)

/-- A volley in which a head frame was held from its first moment only by the guard band counts at its end, where no SCHEDULE_FRAME
has counted it (R206). -/
def Dev.countGuards (s : Dev) : Dev :=
  if s.held || !s.mode.traffic then s else forEach ((List.range 32).filter s.gated) s (fun s p => s.countGuard p 0)

/-- The counters of waiting volleys. -/
def Dev.countWaits (s : Dev) : Dev :=
  let ks := (List.range 4).filter s.tagWaits
  let full := s.rsqFull; let jnl := s.jnlFull; let ext := s.extWaits
  let s := forEach ks s (fun s k => s.bump .HIF_TAG_WAIT_VOLLEYS k)
  let s := if full then s.bump .SWB_RSQ_FULL_VOLLEYS 0 else s
  let s := if jnl then s.bump .JNL_FULL_VOLLEYS 0 else s
  if ext then s.bump .JNL_EXT_WAIT 0 else s

/-- The clusters whose core clocks run. -/
def Dev.runningClusters (s : Dev) : List Nat :=
  if s.clocked 7 then (List.range 8).filter (fun c => (Sparse.get? s.dor.asleep c).isNone) else []

/-- A cluster's cores have run `n` cycles: the cycles in which none issued are idle (R234). -/
def Dev.idleSlots (s : Dev) (n : Nat) : Dev :=
  forEach s.runningClusters s (fun s c => forEach (List.range 32) s (fun s l =>
    s.add .DOR_CORE_IDLE_SLOTS (32 * c + l) (n - Sparse.get (fun _ => 0) s.dor.issued (32 * c + l))))

/-- The cores' cycles of the volley (R15, R510): 120, 117 or 123 for Dorut; for Basecamp 16 on the PLL clock, 8 on the oscillator. -/
def Dev.countCycles (s : Dev) : Dev :=
  let n := 3 * s.clk.volleyNs
  let up := fun (m : Sparse Nat) (c k : Nat) => Sparse.put m c (some (Sparse.get (fun _ => 0) m c + k))
  let cs := s.runningClusters
  let s := s.idleSlots n
  let m := up (cs.foldl (fun m c => up m c n) s.dor.cycles) 8 (if s.fld .CLK_SRC 0x0E 1 0 = 2 then 16 else 8)
  { s with dor := { s.dor with cycles := m, issued := [], cyc := [] }, dma := { s.dma with bursts := [] } }

/-! ### The boundary -/

/-- Latch the counters of some blocks in this volley. -/
def Dev.latchBlocks (s : Dev) (bs : List Nat) : Dev :=
  let mine := fun (e : Nat × Word) => bs.contains ((Reg.ofKey e.1).blk (Reg.ixOf e.1))
  let kept := s.snap.filter (fun e => !mine e)
  let now := s.counters.filter mine
  let s := { s with snap := now.foldl (fun m e => Sparse.put m e.1 (some e.2)) kept
                    snapVn := bs.foldl (fun m b => Sparse.put m b (some s.vn)) s.snapVn }
  if bs.contains 7 then
    { s with tbl := { s.tbl with snapPairs := (s.tbl.entries.filter (fun e => e.1 / 2 ^ 32 = 5)).map (fun e => (e.1 % 2 ^ 32, e.2.at 0)) } }
  else s

/-- The blocks that do not finish their boundary work in this volley. -/
def Dev.lateBlocks (s : Dev) : List Nat := (s.clk.late.map (fun u => blkOf (bits u 23 16) (bits u 15 8))).eraseDups

/-- COUNTER_SNAPSHOT (R20, R21, R137): every counter is latched at a boundary whose VN is a multiple of 25,000; the snapshot of a block
that does not finish it is taken at the next boundary, with that VN. -/
def Dev.latchCounters (s : Dev) : Dev :=
  let bs := if s.vn % 25000 = 0 then List.range 40 else s.snapLate
  let late := s.lateBlocks
  let owed := bs.filter (fun b => late.contains b)
  { (if bs.isEmpty then s else s.latchBlocks (bs.filter (fun b => !late.contains b))) with snapLate := owed }

/-- The budgets of spill renew (R178; DESIGN CHOICE, log entry 25). -/
def Dev.renewSpill (s : Dev) : Dev :=
  { s with swb := { s.swb with spillWrite := s.swb.spillWrite - 8000, spillRead := s.swb.spillRead - 8000 } }

/-- The TCAM scan (R157): one entry per volley, found bad or not. -/
def Dev.tcamScan (s : Dev) (bad : Bool) : Dev := if bad then s.markBad 1 (s.vn % 32768) 0x3F else s

/-- The work of the volley that ends. -/
def Dev.volleyEnd (s : Dev) : Dev := s.logEnd.countGuards.countWaits.countCycles.countOverruns s.clk.late

/-- A volley begins: the units that will not finish their boundary work in it, and the admissions of R20 anew. -/
def Dev.newVolley (s : Dev) (late : List Nat) : Dev :=
  { s with clk := { s.clk with late := late }, prs := { s.prs with admitted := [] } }

/-- The work at the start of the volley that begins. -/
def Dev.volleyStart (s : Dev) (late : List Nat) (scanBad : Bool) : Dev :=
  let s := ((s.newVolley late).epochScan.tellOverruns.latchCounters.renewSpill.ageScan.tcamScan scanBad).driveTimeOut
  (s.refillShapers s.rewriteDue).countHalts.countStalls.pitTick.takeDeferred.commitBusy

/-- The clock runs: not in DORMANT, without power or after the flush has halted every block (R503, R537). -/
def Dev.ticking (s : Dev) : Bool := s.awake && decide (s.jnl.fail < 4)

/-- VOLLEY_BOUNDARY (R15 to R21): the volley ends and the next begins, once every action due at the boundary before has taken place
(log entry 6). `late` names the units that will not finish their boundary work in the volley that begins, so that they finish it
first in the next (R21); `scanBad` says that the TCAM scan finds its entry bad. -/
def execVolleyBoundary (late : List Nat) (scanBad : Bool) (s : State) : Outcome State Fault Refusal := s.act fun s =>
  if late.all unitOk = false then .fault .noSuchObject
  else if s.ticking && s.boundaryDone then .next (s.volleyEnd.tick.volleyStart late scanBad)
  else .next s

end Sys2Proof.Machine
end

