-- ==== Sys2Proof/Machine/Views.lean ====
section
/-! DEFINITION. Reading registers: the registers whose value is a view of other state, the FIFOs a read removes the head of, and
the Site Map (R299, R300). -/

namespace Sys2Proof.Machine

open Host

/-! ### The views -/

/-- A word with bit `n` set for every `n` below `k` that satisfies `p`. -/
def maskOf (k : Nat) (p : Nat → Bool) : Nat := sumNat ((List.range k).map (fun n => b2n (p n) * 2 ^ n))

/-- The heads of the transmit-timestamp FIFO of a port (R53). -/
def Dev.tsTag (s : Dev) (p : Nat) : Nat :=
  let q := (s.wport p).ts
  match q.head? with
  | some (tag, _) => tag * 2 ^ 16 + q.length * 2 + 1
  | none => 0

/-- The slots of a table that are not free (R145). -/
def Dev.slotsUsed (s : Dev) (code : Nat) : Nat :=
  ((s.tblList code).filter (fun e => !Sys2Proof.Machine.slotFree code e.2)).length

/-- SWB_PORT_STATUS (R188, R189): the hold left is in whole µs. -/
def Dev.swbPortStatus (s : Dev) (p : Nat) : Nat :=
  let hold := Sparse.get? s.swb.hold p
  let left := match hold with
    | some v => (v - s.vn) * 40 / 1000
    | none => 0
  left % 2 ^ 16 * 2 ^ 16 + maskOf 8 (fun c => (Sparse.get? s.swb.xoff (8 * p + c)).isSome) * 2 ^ 8 + b2n hold.isSome * 2
    + b2n (s.portAvailable p)

/-- SWB_CLUSTER_STATUS (R169, R194). -/
def Dev.clusterStatus (s : Dev) : Nat :=
  s.swb.slots.length % 2 ^ 17 + b2n (!s.swb.barrier.isEmpty) * 2 ^ 17
    + b2n (s.swb.enBarrier.isSome || s.swb.cluBarrier.isSome) * 2 ^ 18

/-- DOR_CLU_STATUS (R261). -/
def Dev.cluStatus (s : Dev) (c : Nat) : Nat :=
  let xs := (List.range 256).map (fun t => s.ctx (ctxKey c t))
  (xs.filter (fun x => x.step.isSome)).length * 2 ^ 16 + b2n (s.quiesced c) * 2 ^ 9
    + (xs.filter Ctx.live).length

/-- The frames held by a cluster (R261). -/
def Dev.cluFrames (s : Dev) (c : Nat) : Nat := (s.framesIf (fun f => f.loc.cluster = some c)).length

/-- DOR_CORE_STATUS (R262). -/
def Dev.coreStatus (s : Dev) (n : Nat) : Nat :=
  s.fld .DOR_CORE_STATUS n 11 8 * 2 ^ 8 + s.physCore (n / 32) (n % 32) * 2 ^ 16 + s.slotPhase (n / 32)

/-- DOR_CTX_STATE (R262). -/
def Dev.ctxState (s : Dev) (k : Nat) : Nat :=
  let x := s.ctx k
  x.events % 2 ^ 16 * 2 ^ 16 + b2n x.step.isSome * 2 ^ 4 + x.st

/-- PIT_USE (R439): 128 bits. -/
def Dev.pitUse (s : Dev) (p : Nat) : Nat :=
  s.pitchCells p % 2 ^ 20 + s.pitchSlots 0 p % 2 ^ 21 * 2 ^ 20 + s.pitchSlots 4 p % 2 ^ 28 * 2 ^ 41
    + s.queueChannels p 2048 % 2 ^ 10 * 2 ^ 69

/-- CRY_LANE_STATUS (R410, R473): the logical lane a physical lane serves. -/
def Dev.laneStatus (s : Dev) (l : Nat) : Nat :=
  let fenced := b2n (s.isFenced (unitId 0x0B 0 l))
  match (List.range 16).find? (fun n => s.fld .REF_MAP (0x110 + n) 7 0 = l && s.fld .REF_MAP (0x110 + n) 17 17 = 0) with
  | some n => n * 2 ^ 8 + fenced * 2 + 1
  | none => 0x1F * 2 ^ 8 + fenced * 2

/-- REF_STATUS (R481). -/
def Dev.refStatus (s : Dev) : Nat :=
  bits (s.rd .REF_STATUS 0) 14 12 * 2 ^ 12 + bits (s.rd .REF_STATUS 0) 8 7 * 2 ^ 7 + b2n s.unserved * 2 ^ 9 + b2n s.refBusy * 2 ^ 10
    + (s.ref.causes.filter (fun c => c.listed)).length % 2 ^ 7

/-- REF_CAUSE (R481). -/
def Dev.refCause (s : Dev) (i : Nat) : Nat :=
  match (s.ref.causes.filter (fun c => c.listed))[i]? with
  | some c => c.source + c.kind * 2 ^ 24 + (if c.isOpen then 1 else 2) * 2 ^ 32 + c.action * 2 ^ 34
  | none => 0

/-- REF_PHYS_STATE (R481) for the unit of REF_PHYS_QUERY. -/
def Dev.physView (s : Dev) : Nat :=
  let u := s.fld .REF_PHYS_QUERY 0 23 0
  u + s.physState u * 2 ^ 24

/-- The flush image is sealed (R503, R537). -/
def Dev.imageSealed (s : Dev) : Bool := decide (s.jnl.fail = 4)

/-- JNL_STATUS (R507). -/
def Dev.jnlStatus (s : Dev) : Nat :=
  let n := s.rng.items.length
  b2n (s.bankOn 0) + b2n (s.bankOn 1) * 2 + s.fld .JNL_STATUS 0 3 2 * 2 ^ 2 + b2n (s.jnl.fail ≠ 0) * 2 ^ 4
    + b2n s.imageSealed * 2 ^ 5 + b2n (journalSlots ≤ n) * 2 ^ 6 + n % 2 ^ 15 * 2 ^ 8

/-- The value of a register in force, as a read returns it. -/
def Dev.regView (s : Dev) (r : Reg) (i : Nat) : Nat :=
  match r with
  | .GROUP_PENDING_MASK => maskOf (blkGroups i) (fun g => !(s.pendOf i g).isEmpty)
  | .GROUP_WAITING_MASK => maskOf (blkGroups i) (fun g => (s.waitOf i g).isSome)
  | .CLK_VN => s.vn % 2 ^ 64
  | .CLK_TIME_STATUS => s.rd .CLK_TIME_STATUS 0 + 4 * b2n (s.rd .CLK_PHASE_ERR 0 ≠ 0)
  | .WIRE_LANE_CTL => if s.mode = .maintenance then s.rd .WIRE_LANE_CTL i else putBits (s.rd .WIRE_LANE_CTL i) 3 3 0
  | .WIRE_TS_TX_HEAD => ((s.wport i).ts.head?.map Prod.snd).getD 0
  | .WIRE_TS_TX_TAG => s.tsTag i
  | .EPC_LIVE => s.epc.cur % 256 + s.epc.oldest % 256 * 2 ^ 8 + (s.liveEpochs - 1) * 2 ^ 16
  | .EPC_STAGED => s.stagedCount
  | .EPC_EPOCH_COUNT => if i < s.liveEpochs then s.epochFrames (s.epc.cur - i) else 0
  | .EPC_PARKED => s.parked i
  | .TBL_STN_ENTRIES => s.slotsUsed 0
  | .TBL_FLOW_ENTRIES => s.slotsUsed 4
  | .SWB_SHARED_USED => s.sharedUsed
  | .SWB_PORT_STATUS => s.swbPortStatus i
  | .SWB_CLUSTER_STATUS => s.clusterStatus
  | .SCH_SHP_ACC_STATUS => s.rd .SCH_SHP_ACC_STATUS 0 + (s.pendEntries .SCH_SHP_ENTRY 2).length * 2 ^ 16
  | .SCH_POL_ACC_STATUS => s.rd .SCH_POL_ACC_STATUS 0 + (s.pendEntries .SCH_POL_ENTRY 4).length * 2 ^ 16
  | .DOR_CLU_STATUS => s.cluStatus i
  | .DOR_CLU_FRAMES => s.cluFrames i
  | .DOR_FQ_HEAD => bits ((s.fq (i / 4)).headD 0) (64 * (i % 4) + 63) (64 * (i % 4))
  | .DOR_FQ_STATUS => (s.fq i).length
  | .DOR_NQ_HEAD => bits ((s.nq (i / 2)).headD 0) (64 * (i % 2) + 63) (64 * (i % 2))
  | .DOR_NQ_STATUS => (s.nq i).length
  | .DOR_CORE_STATUS => s.coreStatus i
  | .DOR_CTX_STATE => s.ctxState i
  | .HIF_ALIVE => 0x5753
  | .HIF_WIN_INFLIGHT => s.winInflight
  | .HIF_MSIX_ADDR => if i % 8192 < s.vectors (i / 8192) then s.rd .HIF_MSIX_ADDR i else 0
  | .HIF_MSIX_CTL => if i % 8192 < s.vectors (i / 8192) then s.rd .HIF_MSIX_CTL i else 0
  | .PIT_USE => bits (s.pitUse (i / 2)) (64 * (i % 2) + 63) (64 * (i % 2))
  | .CRY_LANE_STATUS => s.laneStatus i
  | .REF_STATUS => s.refStatus
  | .REF_CAUSE => s.refCause i
  | .REF_PHYS_STATE => s.physView
  | .JNL_STATUS => s.jnlStatus
  | .PWR_STATUS => maskOf 8 (fun c => (Sparse.get? s.dor.asleep c).isSome)
  | _ => s.rd r i

/-! ### Reads that act -/

/-- A read of a register: its value, and the device after it. A log FIFO loses its head (R10); a read of CRY_KEYPORT_LOCK takes
the Key Port (R397). -/
def Dev.regRead (s : Dev) (o : Origin) (r : Reg) (i : Nat) : Nat × Dev :=
  match r with
  | .TBL_PARITY_LOG => (s.tbl.parityLog.headD 0, { s with tbl := { s.tbl with parityLog := s.tbl.parityLog.drop 1 } })
  | .TBL_FROZEN_LOG => (s.tbl.frozenLog.headD 0, { s with tbl := { s.tbl with frozenLog := s.tbl.frozenLog.drop 1 } })
  | .RNG_ERR_LOG => (s.rng.errLog.headD 0, { s with rng := { s.rng with errLog := s.rng.errLog.drop 1 } })
  | .DMA_HALT_LOG =>
    let q := Sparse.get (fun _ => []) s.dma.haltLog i
    (q.headD 0, { s with dma := { s.dma with haltLog := Sparse.set (fun _ => []) s.dma.haltLog i (q.drop 1) } })
  | .CRY_SA_LIMIT_LOG => (s.cry.limitLog.headD 0, { s with cry := { s.cry with limitLog := s.cry.limitLog.drop 1 } })
  | .STX_CONN_LOG => (s.stx.log.headD 0, { s with stx := { s.stx with log := s.stx.log.drop 1 } })
  | .BCP_EVENT_LOG => (s.events.headD 0, { s with events := s.events.drop 1 })
  | .CRY_KEYPORT_LOCK => if o.atPort.mayHold then s.keyLock o.atPort else (0, s)
  | _ => (s.regView r i % 2 ^ 64, s)

/-- A read of a register by an origin (R470, R540): 0 from a class that is OFF, and from a fenced unit, where it counts. -/
def Dev.regReadBy (s : Dev) (o : Origin) (r : Reg) (i : Nat) : Nat × Dev :=
  if s.regFenced r i then (0, s.bump .REF_FENCED_ACCESS 0)
  else if s.clocked (blkClass (r.blk i)).1 then s.regRead o r i else (0, s)

/-! ### The Site Map (R299, R300) -/

/-- Active and bench units of a class (R549). -/
def unitCounts (c i : Nat) : Nat × Nat :=
  match c with
  | 0x01 => (16, 0) | 0x02 => (4, 0) | 0x03 => (8, 2) | 0x04 => (24, 0) | 0x05 => (11, 0) | 0x06 => (34, 0) | 0x07 => (32, 2)
  | 0x08 => (6, 0) | 0x09 => (14, 0) | 0x0A => (if i = 8 then 64 else 128, 0) | 0x0B => (20, 2) | 0x0C => (5, 0)
  | 0x0D => (15, 1) | 0x0E => (6, 0) | 0x0F => (3, 0) | 0x10 => (2, 0)
  | _ => (0, 0)

/-- The Site Map entry of a block. -/
def siteEntry (b : Nat) : List Byte :=
  let u := unitCounts (blkClass b).1 (blkClass b).2
  leBytes 4 (blkId b) ++ leBytes 4 0x10000 ++ leBytes 4 (blkWindow b).1 ++ leBytes 4 (blkWindow b).2 ++ leBytes 2 u.1 ++ leBytes 2 u.2
    ++ leBytes 12 0

/-- The 40 entries. -/
def siteEntries : List Byte := (List.range 40).flatMap siteEntry

/-- The Site Map from offset 0x40 to the end of the entries. The grade, the stepping and the serial number are the part's
(Config). -/
def siteMap : List Byte :=
  leBytes 4 0x50414D53 ++ leBytes 2 1 ++ leBytes 2 40 ++ leBytes 2 0x1680 ++ leBytes 1 (if Config.gradeE then 0x45 else 0x43) ++ leBytes 1 Config.stepping
    ++ leBytes 4 (crc32c 0xFFFFFFFF (siteEntries.map BitVec.toNat)) ++ leBytes 8 Config.serial
    ++ [4096, 65536, 16384, 256, 8192, 512, 64, 262144, 60, 4096].flatMap (leBytes 4) ++ siteEntries

/-- Byte `a` of the Site Map proper, 0 beyond the entries. -/
def siteByte (a : Nat) : Byte := siteMap.getD (a - 0x40) 0

/-- The ball SMB_ALERT_N is asserted while the event log holds an entry (R561). -/
def Dev.smbAlert (s : Dev) : Bool := !s.events.isEmpty

end Sys2Proof.Machine
end

