-- ==== Sys2Proof/Machine/Bcp.lean ====
section
/-! DEFINITION. Basecamp (R509 to R535, R541) but for its capsules: the Trim Set, images, reboots, the watchdog, the sensors, and
power modes and clock sources (R536, R540). -/

namespace Sys2Proof.Machine

open Host

/-- Basecamp runs (R511); after the flush of a power failure every block is halted (R502). -/
def Dev.bcpRuns (s : Dev) : Bool := s.awake && decide (s.jnl.fail < 4) && decide (s.fld .BCP_STATUS 0 1 0 = 1)

/-! ### The Trim Set (R54, R55) -/

/-- The Trim Set as stored. -/
def Dev.trimStored (s : Dev) : List Byte := s.flashRead 0x10000 2560

/-- A Trim Set is valid (R54). -/
def trimValid (bs : List Byte) : Bool :=
  decide (leAt bs 0 2 = 0x5754) && decide (leAt bs 4 4 = crc32c 0xFFFFFFFF (((bs.drop 0x10).take 0x9F0).map BitVec.toNat))

/-- No lane trains or has trained (R55): every port is absent, down or resetting. -/
def Dev.noneTrained (s : Dev) : Bool := (List.range 32).all (fun p => s.portState p ≤ 1 || s.portState p = 5)

/-- TRIM_SET_LOAD (R55): in BRINGUP, before any lane trains. -/
def execTrimSetLoad (s : State) : Outcome State Fault Refusal := s.act fun s =>
  if s.bcpRuns && decide (s.mode = .bringup) && s.noneTrained then
    .next { s with bcp := { s.bcp with trim := if trimValid s.trimStored then some s.trimStored else none, trimDone := true } }
  else .next s

/-- The offset of a sensor, 0 without a Trim Set (R54, R55). -/
def Dev.sensorOffset (s : Dev) (i : Nat) : Int :=
  match s.bcp.trim with
  | some bs => signed 32 (leAt bs (0x840 + 4 * i) 4)
  | none => 0

/-! ### Images (R532, R533) -/

/-- What check 1 of an image asks (R532, R533): `kind` is 1 for Basecamp and 2 for a cluster. -/
def imageForm (kind : Nat) (img : List Byte) : Bool :=
  let body := leAt img 0x10 8
  let lens := if kind = 1 then decide (body ≤ 3145728)
    else decide (leAt img 0x20 8 ≤ 262144) && decide (leAt img 0x28 8 ≤ 8388608) && decide (leAt img 0x20 8 + leAt img 0x28 8 = body)
  decide (leAt img 0 4 = 0x4D495648) && decide (leAt img 4 2 = 1) && decide (leAt img 6 1 = kind) && lens
    && decide (512 + body ≤ img.length)

/-- The checks of an image, in order (R533). -/
def Dev.imageChecks (s : Dev) (kind : Nat) (img : List Byte) : List Bool :=
  let key := (img.drop 0x60).take 97
  [ imageForm kind img,
    Config.sha384 ((img.drop 512).take (leAt img 0x10 8)) = (img.drop 0x30).take 48,
    if kind = 1 then decide (Config.sha384 key = Config.vendorDigest) else s.bcp.keys.contains (Config.sha384 key),
    Config.verifies key (Config.sha384 (img.take 0xE0)) ((img.drop 0xE0).take 96),
    kind ≠ 1 || decide (s.bcp.minSvn ≤ leAt img 0xC 4) ]

/-- The verdict on an image: status and DETAIL; 0 when it is accepted. -/
def Dev.imageVerdict (s : Dev) (kind : Nat) (img : List Byte) : Nat × Nat :=
  match firstFail (s.imageChecks kind img) with
  | 0 => (0, 0)
  | 1 => (0x700, 1)
  | 2 => (0x700, 2)
  | 3 => (if kind = 2 ∧ s.bcp.keys.all List.isEmpty then 0x40A else 0x702, 3)
  | 4 => (0x702, 4)
  | n => (0x703, n)

/-- The image in a flash slot (R531). -/
def Dev.slotImage (s : Dev) (slot : Nat) : List Byte :=
  let a := 0x100000 + slot * 0x1000000
  let head := s.flashRead a 512
  head ++ s.flashRead (a + 512) (min (leAt head 0x10 8) 3145728)

/-- The slot the boot ROM starts (R535): the chosen one when its image verifies, else the other. -/
def Dev.bootSlot (s : Dev) : Option Nat :=
  let ok := fun n => (s.imageVerdict 1 (s.slotImage n)).1 = 0
  if ok s.bcp.active then some s.bcp.active else if ok (1 - s.bcp.active) then some (1 - s.bcp.active) else none

/-- The entry address of an image whose header is kept. -/
def imageEntry (head : List Byte) : Nat := leAt head 0x18 8

/-! ### Reboots (R511, R535) -/

/-- Start the supervisors of the clusters that hold an image and whose supervisor is FREE, as after a reset (R258). -/
def Dev.startClusters (s : Dev) : Dev :=
  forEach (List.range 8) s (fun s c =>
    match Sparse.get? s.bcp.images (1 + c) with
    | some head => if s.clocked 7 && (s.ctx (ctxKey c (s.supervisor c))).st = 0 then s.startSupervisor c (imageEntry head) else s
    | none => s)

/-- The image of a slot runs from its entry. -/
def Dev.bcpStart (s : Dev) (slot : Nat) : Dev :=
  let old := s.rd .BCP_STATUS 0
  let head := (s.slotImage slot).take 512
  let trial := b2n (s.bcp.trialBack.isSome && decide (slot = s.bcp.active))
  let s := s.wr .BCP_STATUS 0 (bits old 11 8 * 2 ^ 8 + trial * 2 ^ 3 + slot * 2 ^ 2 + 1)
  let s := { s with bcp := { s.bcp with started := s.vn, wdtAt := s.vn, images := Sparse.put s.bcp.images 0 (some head) } }
  let s := s.setCtx 2048 (newThread (imageEntry head) 0 0 none false 0)
  if bits old 1 0 = 2 then s.event 6 (bits old 11 8) else s

/-- BASECAMP_RUNNING (R511, R535, R564): the boot ROM has verified and started an image. With no image that verifies, Basecamp
does not run. -/
def execBasecampRunning (s : State) : Outcome State Fault Refusal := s.act fun s =>
  if s.awake = false ∨ s.fld .BCP_STATUS 0 1 0 = 1 then .next s
  else match s.bootSlot with
    | some slot => .next (s.bcpStart slot).startClusters
    | none => .next s

/-- LOCKSTEP_MISMATCH (R511, R292). -/
def execLockstepMismatch (s : State) : Outcome State Fault Refusal := s.act fun s =>
  if s.awake && decide (s.fld .BCP_STATUS 0 1 0 ≠ 2) then .next ((s.whistle 0x1B (unitId 0x0E 0 0) 0 1).bcpReboot 1) else .next s

/-- The end of the watchdog's period (R543). -/
def Dev.wdtEnd (s : Dev) : Nat := s.bcp.wdtAt + 25000 * max 10 (s.fld .BCP_WDT 0 15 0)

/-- WATCHDOG_EXPIRY (R511, R543). -/
def execWatchdogExpiry (s : State) : Outcome State Fault Refusal := s.act fun s =>
  if s.bcpRuns && decide (s.wdtEnd ≤ s.vn) then .next (s.bcpReboot 2) else .next s

/-- The effect of a write of BCP_WDT: every write restarts it. -/
def Dev.wdtWrite (s : Dev) (v : Nat) : Dev := { (s.setFld .BCP_WDT 0 15 0 v) with bcp := { s.bcp with wdtAt := s.vn } }

/-- WDT_WRITE (R543). -/
def execWdtWrite (o : Origin) (v : Nat) (s : State) : Outcome State Fault Refusal := s.act fun s =>
  .next (s.regWrite o .BCP_WDT 0 4 v fun s => s.wdtWrite v)

/-- The effect of a write of BCP_BOOT_CONFIRM (R535): the trial slot becomes active. -/
def Dev.bootConfirm (s : Dev) (o : Origin) (v : Nat) : Dev :=
  if bit v 0 ∧ o = .basecamp ∧ s.fld .BCP_STATUS 0 3 3 = 1 then
    { (s.setFld .BCP_STATUS 0 3 3 0) with bcp := { s.bcp with trialBack := none } }
  else s

/-- BOOT_CONFIRM (R535). -/
def execBootConfirm (o : Origin) (s : State) : Outcome State Fault Refusal := s.act fun s =>
  .next (s.regWrite o .BCP_BOOT_CONFIRM 0 4 1 fun s => s.bootConfirm o 1)

/-- Roll back to the previous slot (R535). -/
def Dev.rollBack (s : Dev) (back : Nat) : Dev :=
  ({ s with bcp := { s.bcp with active := back, trialBack := none } }.event 7 (back + 2)).bcpReboot 5

/-- TRIAL_TIMEOUT (R535): the trial image is not confirmed within 125,000,000 volleys of its start. -/
def execTrialTimeout (s : State) : Outcome State Fault Refusal := s.act fun s =>
  match s.bcp.trialBack with
  | some back => if s.bcpRuns && s.fld .BCP_STATUS 0 3 3 = 1 && decide (s.bcp.started + 125000000 ≤ s.vn) then .next (s.rollBack back) else .next s
  | none => .next s

/-! ### Torn records (R527) -/

/-- The records of the slots after BCP_LOG_WIDX that carry their slot's SEQ and no SEAL. -/
def Dev.tornRecs (s : Dev) : List Nat :=
  let w := s.rd .BCP_LOG_WIDX 0
  ((s.log.store.filter (fun r => w < r.seq && r.seq ≤ w + 4)).map (fun r => r.seq)).eraseDups

/-- TORN_SCAN (R527). -/
def execTornScan (s : State) : Outcome State Fault Refusal := s.act fun s =>
  let l := s.tornRecs
  if s.bcpRuns && decide (s.mode = .bringup) && !l.isEmpty then
    let top := l.foldl max 0
    let store := s.log.store.map (fun (r : LogRec) => if l.contains r.seq then { r with torn := true } else r)
    .next (({ s with log := { s.log with store := store, nextSeq := max s.log.nextSeq (top + 1) } }.add .BCP_LOG_TORN 0 l.length).wr
      .BCP_LOG_WIDX 0 top)
  else .next s

/-! ### Sensors (R528, R529) -/

/-- A reading crosses limit `n` of a sensor: 0 WARN.HI, 1 WARN.LO, 2 CRIT.HI, 3 CRIT.LO. -/
def Dev.sensorOut (s : Dev) (i n : Nat) (v : Int) : Bool :=
  let r : Reg := if n < 2 then .BCP_SENSOR_WARN else .BCP_SENSOR_CRIT
  if n % 2 = 0 then decide (signed 24 (s.fld r i 55 32) < v) else decide (v < signed 24 (s.fld r i 23 0))

/-- Judge one limit: each crossing is reported once, until 100 consecutive samples inside. -/
def Dev.sensorLimit (s : Dev) (i n : Nat) (v : Int) : Dev :=
  let k := 4 * i + n
  let put := fun (x : Option Nat) => { s with bcp := { s.bcp with crossed := Sparse.put s.bcp.crossed k x } }
  match s.sensorOut i n v, Sparse.get? s.bcp.crossed k with
  | true, some _ => put (some 0)
  | true, none =>
    if n < 2 then (put (some 0)).event 3 i else (put (some 0)).whistle 0x1C (unitId 0x0E 0 0x12) 0 (i + n % 2 * 2 ^ 8)
  | false, some m => put (if 100 ≤ m + 1 then none else some (m + 1))
  | false, none => s

/-- One sample of a sensor. -/
def Dev.sample (s : Dev) (i : Nat) (raw : Int) : Dev :=
  let v := signed 24 (unsigned 24 (raw + s.sensorOffset i))
  let s := s.wr .BCP_SENSOR i (2 ^ 31 + unsigned 24 v)
  forEach (List.range 4) s (fun s n => s.sensorLimit i n v)

/-- SENSOR_SAMPLE (R528, R529): at a boundary whose VN is a multiple of 25,000; `raw` gives what the 104 sensors read. -/
def execSensorSample (raw : List Int) (s : State) : Outcome State Fault Refusal := s.act fun s =>
  if s.ticking && decide (s.vn % 25000 = 0) then .next (forEach ((List.range 104).zip raw) s (fun s e => s.sample e.1 e.2)) else .next s

/-! ### Clock sources (R540) -/

/-- The effect of a write of CLK_PLL_CTL. -/
def Dev.pllCtl (s : Dev) (v : Nat) : Dev :=
  if bit v 0 then
    if s.rd .CLK_PLL_CTL 0 = 1 then s else { (s.wr .CLK_PLL_CTL 0 1) with bcp := { s.bcp with pll := some s.vn } }
  else if (List.range 19).any (fun k => s.fld .CLK_SRC k 1 0 = 2) then s.bump .CLK_SRC_DROPPED 0
  else { ((s.wr .CLK_PLL_CTL 0 0).wr .CLK_PLL_STATUS 0 0) with bcp := { s.bcp with pll := none } }

/-- PLL_ENABLE (R540): a write of CLK_PLL_CTL.EN. -/
def execPllEnable (o : Origin) (en : Bool) (s : State) : Outcome State Fault Refusal := s.act fun s =>
  .next (s.regWrite o .CLK_PLL_CTL 0 4 (b2n en) fun s => s.pllCtl (b2n en))

/-- PLL_LOCK (R540): every PLL has locked since EN was set. -/
def execPllLock (s : State) : Outcome State Fault Refusal := s.act fun s =>
  if s.bcp.pll.isSome then .next { (s.wr .CLK_PLL_STATUS 0 1) with bcp := { s.bcp with pll := none } } else .next s

/-- A class that may run on the oscillator. -/
def oscClass (k : Nat) : Bool := k = 0x00 || k = 0x0E || k = 0x11 || k = 0x12

/-- The effect of a write of CLK_SRC. -/
def Dev.clkSrc (s : Dev) (k v : Nat) : Dev :=
  let src := v % 4
  let dropped := src = 3 || (src = 2 && s.rd .CLK_PLL_STATUS 0 ≠ 1) || (src = 1 && !oscClass k)
  if dropped then s.bump .CLK_SRC_DROPPED 0 else s.wr .CLK_SRC k src

/-- CLK_SRC_WRITE (R540). -/
def execClkSrcWrite (o : Origin) (cls v : Nat) (s : State) : Outcome State Fault Refusal := s.act fun s =>
  if 19 ≤ cls then .fault .noSuchObject else .next (s.regWrite o .CLK_SRC cls 4 v fun s => s.clkSrc cls v)

/-! ### Sleep modes (R536, R538) -/

/-- Put a value into PWR_MODE: DORMANT set from 0 clears the wake latches and arms them, and a sleeping cluster whose CLU_IDLE bit
clears is to wake. -/
def Dev.setPwrMode (s : Dev) (v : Nat) : Dev :=
  let was := s.rd .PWR_MODE 0
  let s := s.wr .PWR_MODE 0 v
  let s := if bit v 8 && !bit was 8 then { (s.wr .PWR_WAKE_STATUS 0 0) with bcp := { s.bcp with armed := true } }
    else if bit v 8 then s else { s with bcp := { s.bcp with armed := false } }
  forEach ((List.range 8).filter (fun c => bit was c && !bit v c)) s Dev.wakeDue

/-- The effect of a write of PWR_MODE: Basecamp writes it whole, BAR0 all but DORMANT, and no other origin. -/
def Dev.pwrMode (s : Dev) (o : Origin) (v : Nat) : Dev :=
  match o with
  | .basecamp => s.setPwrMode (v % 2 ^ 9)
  | .bar0 _ => s.setPwrMode (v % 2 ^ 8 + s.fld .PWR_MODE 0 8 8 * 2 ^ 8)
  | _ => s

/-- PWR_MODE_WRITE (R536, R538). -/
def execPwrModeWrite (o : Origin) (v : Nat) (s : State) : Outcome State Fault Refusal := s.act fun s =>
  .next (s.regWrite o .PWR_MODE 0 4 v fun s => s.pwrMode o v)

/-- The effect of a write of BCP_DOM_CFG: in BRINGUP and MAINTENANCE only (R541). -/
def Dev.domCfg (s : Dev) (v : Nat) : Dev :=
  if s.mode = .bringup ∨ s.mode = .maintenance then s.wr .BCP_DOM_CFG 0 (v % 2 ^ 32) else s

end Sys2Proof.Machine
end

