-- ==== Sys2Proof/Machine/RegAccess.lean ====
section
/-! DEFINITION. Register accesses (R10, R298, R523, R548, R550): from an offset to the registers it covers, the effect of a write on
every register, and reads. -/

namespace Sys2Proof.Machine

open Host

/-! ### Offsets (R549 to R554) -/

/-- The flat element at a relative offset under dimensions, and the offset left within it. -/
def dimIndex : List (Nat × Nat) → Nat → Option (Nat × Nat)
  | [], rel => some (0, rel)
  | (n, st) :: d, rel =>
    if rel / st < n then (dimIndex d (rel % st)).map (fun e => (rel / st * dimCount d + e.1, e.2)) else none

/-- The element of a register that covers a BAR0 offset, and the byte within it. -/
def Reg.hit (r : Reg) (off : Nat) : Option (Reg × Nat × Nat) :=
  let x := r.info
  if off < x.base then none
  else match dimIndex x.dims (off - x.base) with
    | some (i, b) => if b < x.width / 8 then some (r, i, b) else none
    | none => none

/-- The block whose window holds a BAR0 offset. -/
def blkAt (off : Nat) : Option Nat :=
  (List.range 40).find? (fun b => decide ((blkWindow b).1 ≤ off) && decide (off < (blkWindow b).1 + (blkWindow b).2))

/-- The register of a block header at an offset of its window (R29). -/
def headerAt (b rel : Nat) : Option (Reg × Nat × Nat) :=
  (Reg.ofClass 99).findSome? (fun r =>
    let x := r.info
    if x.base ≤ rel ∧ rel < x.base + x.width / 8 then some (r, b, rel - x.base) else none)

/-- The register, element and byte at a BAR0 offset. -/
def Reg.at (off : Nat) : Option (Reg × Nat × Nat) :=
  match blkAt off with
  | none => none
  | some b =>
    if off < (blkWindow b).1 + 0x40 then headerAt b (off - (blkWindow b).1)
    else (Reg.ofClass (off / 0x200000)).findSome? (fun r => r.hit off)

/-- One register that a write reaches: the value in its place, and the bits written. -/
structure RegPart where
  r : Reg
  i : Nat
  v : Nat
  m : Nat
  deriving DecidableEq, Repr

/-- The part of a write of 4 bytes (R550, rule 3). -/
def part4 (off v : Nat) : List RegPart :=
  match Reg.at off with
  | some (r, i, b) => [⟨r, i, v % 2 ^ 32 * 2 ^ (8 * b), 0xFFFFFFFF * 2 ^ (8 * b)⟩]
  | none => []

/-- The registers that an aligned write reaches, in order (R550, rules 2 and 3). -/
def regParts (off width v : Nat) : List RegPart :=
  if width = 4 then part4 off v
  else match Reg.at off with
    | some (r, i, _) =>
      if r.info.width = 64 then [⟨r, i, v % 2 ^ 64, 2 ^ 64 - 1⟩] else part4 off v ++ part4 (off + 4) (v / 2 ^ 32)
    | none => part4 (off + 4) (v / 2 ^ 32)

/-- A write of 4 bytes to a 64-bit register with a WO field is dropped (R550, rule 4). -/
def halfBad (off width : Nat) : Bool :=
  width = 4 && (match Reg.at off with
    | some (r, _, _) => r.info.width = 64 && decide (r.info.wo ≠ 0)
    | none => false)

/-- An access is of 4 or 8 bytes and naturally aligned (R267, R298). -/
def regForm (off width : Nat) : Bool := (width = 4 || width = 8) && decide (off % width = 0)

/-! ### The effect of a write -/

/-- Replace the bits of a mask. -/
def mixBits (old v m : Nat) : Nat := (old &&& (2 ^ 64 - 1 - m)) ||| (v &&& m)

/-- A write of RW, W1C and RWS fields (R10, R22). -/
def Dev.plainWrite (s : Dev) (r : Reg) (i v m : Nat) : Dev :=
  let x := r.info
  let s := if x.rw = 0 ∧ x.w1c = 0 then s
    else s.wr r i (mixBits (s.rd r i) v (x.rw &&& m) &&& (2 ^ 64 - 1 - (x.w1c &&& v &&& m)))
  if x.rws &&& m = 0 then s else s.pendWrite r i (mixBits (s.pendBase (r.key i)).toNat v m)

/-- A write of SITE_RESET (R495). -/
def Dev.siteReset (s : Dev) (o : Origin) : Dev :=
  match o with
  | .bar0 _ => s.takeReset o none
  | .basecamp => s.takeReset o none
  | _ => s

/-- A write of SWB_MC_ACC_CTL (R193). -/
def Dev.mcCtl (s : Dev) (v : Nat) : Dev :=
  let i := bits v 18 0
  match bits v 20 19 with
  | 1 => s.wr .SWB_MC_ACC_DATA 0 (if bit v 21 then s.rd .SWB_MC_REPLICA i else if i < 65536 then s.rd .SWB_MC_GROUP i else 0)
  | 2 => s.mcWrite (bit v 21) i
  | _ => s

/-- A write of SCH_SHP_ACC_CTL (R215). -/
def Dev.shpCtl (s : Dev) (v : Nat) : Dev :=
  match bits v 18 17 with
  | 1 => s.shaperRead (bits v 16 0)
  | 2 => s.shaperWrite (bits v 16 0)
  | 3 => s.shaperState (bits v 16 0)
  | _ => s

/-- A write of SCH_POL_ACC_CTL (R225). -/
def Dev.polCtl (s : Dev) (v : Nat) : Dev :=
  match bits v 19 18 with
  | 1 => s.policerRead (bits v 17 0)
  | 2 => s.policerWrite (bits v 17 0)
  | 3 => s.policerState (bits v 17 0)
  | _ => s

/-- A write of SCH_GATE_CTL (R204): CHANGE, or else CANCEL. -/
def Dev.gateCtl (s : Dev) (o : Origin) (p v : Nat) (early : Bool) : Dev :=
  if bit v 0 then s.gateRequest o p (bits v 31 16) early else if bit v 1 then s.gateCancel o p else s

/-- A write of HIF_WIN_ACC_CTL (R305). -/
def Dev.winCtl (s : Dev) (v : Nat) : Dev :=
  match bits v 9 8 with
  | 1 => s.winData (s.win (bits v 7 0)) (bits v 31 16)
  | 2 => s.winPut (bits v 7 0) (bits v 31 16)
  | 3 => s.winData (s.winPend (bits v 7 0)) (bits v 31 16)
  | _ => s

/-- A write of HIF_WIN_COMMIT (R306). -/
def Dev.winGo (s : Dev) (o : Origin) (v : Nat) : Dev :=
  if bit v 0 then s.winCommit o (bits v 31 16)
  else if bit v 1 then s.winDiscard (bits v 31 16) else s

/-- A write of an MSI-X table entry (R313): a vector that its mask bit no longer holds back sends its pending message. A link has no
entries beyond its vectors. -/
def Dev.msixWrite (s : Dev) (r : Reg) (i v m : Nat) : Dev :=
  if s.vectors (i / 8192) ≤ i % 8192 then s
  else
    let s := s.plainWrite r i v m
    if r = .HIF_MSIX_CTL then s.msixOpen (i / 8192) (i % 8192) else s

/-- A write of HIF_PMAP_ACC_CTL (R303). -/
def Dev.pmapCtl (s : Dev) (o : Origin) (v : Nat) : Dev :=
  match bits v 13 12 with
  | 1 => (s.wr .HIF_PMAP_ACC_DATA 0 (s.pmap (bits v 11 0))).pmapStatus (bits v 31 16) 0
  | 2 => if o.pmapWriter then s.pmapWrite (bits v 11 0) (bits v 31 16) else s.bump .TBL_CMD_FOREIGN 0
  | _ => s

/-- A write of TBL_CMD_CTL (R138, R139). -/
def Dev.tblCtl (s : Dev) (o : Origin) (n v : Nat) : Dev :=
  if bit v 0 then s.tblGo o n (bits v 11 8) (bits v 15 12) (bits v 31 16) (bit v 1)
  else if s.ownsPort o n then s else s.bump .TBL_CMD_FOREIGN 0

/-- A write of DMA_CH_CTL (R364, R372, R374): the lowest bit set acts. -/
def Dev.chanCtl (s : Dev) (o : Origin) (n v : Nat) : Dev :=
  let tag := bits v 31 16
  if bit v 0 then s.arm o n tag
  else if bit v 1 then s.reclaim o n tag
  else if bit v 2 then (if s.mayReset o n then (s.chSet n 63 48 tag).resetChannel n else s)
  else if bit v 3 then (if s.isOwner o n then (s.chSet n 63 48 tag).resumeChannel n else s)
  else s.chSet n 63 48 tag

/-- The origins whose writes of RNG_RING_ACC_DATA are accepted (R352): a cluster supervisor's serve the rings of its own cluster. -/
def Dev.rngWriter (s : Dev) (o : Origin) : Bool :=
  match o with
  | .thread c t => decide (t = s.supervisor c)
  | _ => o.pmapWriter

/-- A write of a doorbell register of the RNG window (R320, R337). -/
def Dev.doorbell (s : Dev) (o : Origin) (cq admin : Bool) (v : Nat) : Dev :=
  let r := bits v 47 32
  let q := bits v 45 32
  match o with
  | .bar0 _ =>
    if admin && !cq && decide ((s.ring r).loc = 1) then s.judgeDoorbell r (bits v 31 0)
    else if admin && cq && decide ((s.cq q).loc = 1) then s.judgeCqDoorbell q (bits v 31 0) (bit v 47)
    else s.bump .RNG_DB_FOREIGN 0
  | .thread c t =>
    let k := ctxKey c t
    if !admin && !cq && decide ((s.ring r).loc = 2) && decide ((s.ring r).producer = k) then s.threadDoorbell k r (bits v 31 0)
    else if !admin && cq && decide ((s.cq q).loc = 2) && decide ((s.cq q).thread = k) then s.judgeCqDoorbell q (bits v 31 0) (bit v 47)
    else s.bump .RNG_DB_FOREIGN 0
  | _ => s.bump .RNG_DB_FOREIGN 0

/-- A write of RNG_FW_DONE (R341). -/
def Dev.fwDoneCtl (s : Dev) (o : Origin) (v : Nat) : Dev :=
  match o with
  | .thread c t => s.fwDone (ctxKey c t) v
  | _ => s.bump .RNG_FW_DONE_BAD 0

/-- The ns from a write to the next boundary; a free value where the command does not give the write's place in its volley. -/
def Dev.nsLeft (s : Dev) (left : Option Nat) : Nat × Dev :=
  match left with
  | some n => (n, s)
  | none => ((s.draw).1 % (s.clk.volleyNs + 1), (s.draw).2)

/-- A write whose effect depends on its place in the volley (R17, R24). -/
def Dev.placed (s : Dev) (left : Option Nat) (f : Dev → Nat → Dev) : Dev := f (s.nsLeft left).2 (s.nsLeft left).1

/-- The effect of a write of the bits `m` of a register by an origin, `left` ns before the volley ends (R24). -/
def Dev.regEffect (s : Dev) (o : Origin) (r : Reg) (i v m : Nat) (left : Option Nat) : Dev :=
  let c := v &&& m
  let w := mixBits (s.rd r i) v m
  match r with
  | .GROUP_APPLY => s.placed left fun s n => s.groupCtl o i c (inTime n)
  | .SITE_RESET => if bit c 0 then s.siteReset o else s
  | .CLK_TIME_LOAD => s.placed left fun s n => s.clkLoad c n
  | .CLK_ADJ => s.clkAdj c
  | .CLK_PLL_CTL => s.pllCtl c
  | .CLK_SRC => s.clkSrc i c
  | .WIRE_PORT_CTL => if bit c 0 then s.portReset i else s
  | .WIRE_TS_TX_POP => if bit c 0 then s.setWport i { s.wport i with ts := (s.wport i).ts.drop 1 } else s
  | .WIRE_LANE_CTL =>
    let s := s.plainWrite .WIRE_LANE_CTL i v m
    if bit c 2 then s.retrainLane i else s
  | .EPC_MODE => s.epcMode c
  | .EPC_COMMIT => if bit c 0 then s.placed left fun s n => s.epcCommit o (bits c 31 16) (bit c 1) (inTime n) else s
  | .TBL_CMD_CTL => s.tblCtl o i c
  | .TBL_CMD_INDEX => if s.ownsPort o i then s.plainWrite .TBL_CMD_INDEX i v m else s.bump .TBL_CMD_FOREIGN 0
  | .TBL_CMD_STATUS => if s.ownsPort o i then s.plainWrite .TBL_CMD_STATUS i v m else s.bump .TBL_CMD_FOREIGN 0
  | .TBL_CMD_MODE => if s.ownsPort o i then s.plainWrite .TBL_CMD_MODE i v m else s.bump .TBL_CMD_FOREIGN 0
  | .TBL_CMD_DATA => if s.ownsPort o (i / 64) then s.plainWrite .TBL_CMD_DATA i v m else s.bump .TBL_CMD_FOREIGN 0
  | .SWB_MC_ACC_CTL => s.mcCtl c
  | .SCH_SHP_ACC_CTL => s.shpCtl c
  | .SCH_POL_ACC_CTL => s.polCtl c
  | .SCH_GATE_CTL => s.placed left fun s n => s.gateCtl o i c (inTime n)
  | .DOR_CLU_CTL => s.cluCtl i c
  | .DOR_SUP_ACT => s.supAct o i (bits c 7 0) (bits c 10 8) (bit c 11) (bits c 31 16)
  | .DOR_FQ_POP => if bit c 0 then s.fqPop i else s
  | .DOR_NQ_POP => if bit c 0 then s.nqPop i else s
  | .DOR_CORE_CTL => if bit c 0 then s.coreCtl o (i / 32) (i % 32) else s
  | .HIF_WIN_ACC_CTL => s.winCtl c
  | .HIF_WIN_COMMIT => s.winGo o c
  | .HIF_PMAP_ACC_CTL => s.pmapCtl o c
  | .HIF_MSIX_ADDR => s.msixWrite .HIF_MSIX_ADDR i v m
  | .HIF_MSIX_CTL => s.msixWrite .HIF_MSIX_CTL i v m
  | .PIT_CTL => if bits c 15 12 = 0 ∨ 8 < bits c 15 12 then s else s.pitCtl o c
  | .PIT_QUOTA => s.plainWrite .PIT_QUOTA i v (if i % 2 = 1 then m % 2 ^ 15 else m)
  | .RNG_RING_ACC_CTL => s.ringCtl o c
  | .RNG_RING_ACC_DATA => if s.rngWriter o then s.plainWrite .RNG_RING_ACC_DATA i v m else s.bump .RNG_ACC_FOREIGN 0
  | .RNG_ADMIN_WORK_DB => s.doorbell o false true c
  | .RNG_ADMIN_CQ_DB => s.doorbell o true true c
  | .RNG_FW_WORK_DB => s.doorbell o false false c
  | .RNG_FW_CQ_DB => s.doorbell o true false c
  | .RNG_FW_DONE => s.fwDoneCtl o c
  | .DMA_SH_SRC => s.shadowWrite o i 0 w
  | .DMA_SH_DST => s.shadowWrite o i 1 w
  | .DMA_SH_LEN => s.shadowWrite o i 2 w
  | .DMA_SH_CFG => s.shadowWrite o i 3 w
  | .DMA_CH_CTL => s.chanCtl o i c
  | .DMA_CH_OWNER => s.ownerWrite o i w
  | .CRY_KEYPORT_LOCK => if bit c 31 then s.keyRelease o else s
  | .CRY_KEYPORT_CTL => s.keyCtl o c
  | .CRY_KEYPORT_DATA => if s.holds o then s.plainWrite .CRY_KEYPORT_DATA i v m else s.bump .CRY_KEYPORT_FOREIGN 0
  | .CRY_SA_ACC_CTL => s.saAcc o c
  | .STX_ACC_CTL => s.stxAcc o c
  | .BCP_WDT => s.wdtWrite c
  | .BCP_BOOT_CONFIRM => s.bootConfirm o c
  | .BCP_DOM_CFG => s.domCfg w
  | .PWR_MODE => s.pwrMode o w
  | .REF_CLEAR => if bit c 0 then s.refClear o else s
  | .JNL_CTL => if bit c 0 then s.jnlDiscard else s
  | _ => s.plainWrite r i v m

/-- A write reaches a register (R470, R540). -/
def Dev.partWrite (s : Dev) (o : Origin) (p : RegPart) (left : Option Nat) : Dev :=
  s.reach p.r p.i (fun s => s.regEffect o p.r p.i p.v p.m left)

/-- The command port whose registers a write of a part must leave alone while it is BUSY (R139): for a GO, a DATA write and a MODE
write. -/
def RegPart.cmdPort (p : RegPart) : Option Nat :=
  match p.r with
  | .TBL_CMD_CTL => if bit (p.v &&& p.m) 0 then some p.i else none
  | .TBL_CMD_MODE => some p.i
  | .TBL_CMD_DATA => some (p.i / 64)
  | _ => none

/-- An access reaches the registers it covers. One that meets a BUSY command port is dropped whole and sets OVERLAP (R139). -/
def Dev.accessWrite (s : Dev) (o : Origin) (l : List RegPart) (left : Option Nat) : Dev :=
  match (l.filterMap RegPart.cmdPort).find? (fun n => s.ownsPort o n && (s.tblCmd n).isSome) with
  | some n => s.reach .TBL_CMD_STATUS n (fun s => s.setFld .TBL_CMD_STATUS n 1 1 1)
  | none => forEach l s (fun s p => s.partWrite o p left)

/-- A write of a register by an origin: held behind its record where it needs one, else made at once (R28, R523). -/
def Dev.partOrHold (s : Dev) (o : Origin) (width : Nat) (left : Option Nat) (p : RegPart) : Dev :=
  if o.recorded p.r then s.holdWrite o p.r p.i width p.v p.m else s.partWrite o p left

/-- The effect of a write at a BAR0 offset whose record another command has written. -/
def Dev.offWrite (s : Dev) (o : Origin) (off width v : Nat) (left : Option Nat) : Dev :=
  if halfBad off width then (match o with | .bar0 l => s.bump .HIF_BAD_ACCESS l | _ => s)
  else s.accessWrite o (regParts off width v) left

/-- A write at a BAR0 offset by an origin other than BAR0, each register of it behind its record where it needs one (R28, R523,
R550). -/
def Dev.busWrite (s : Dev) (o : Origin) (off width v : Nat) (left : Option Nat) : Dev :=
  let l := regParts off width v
  if halfBad off width then s
  else if l.any (fun p => o.recorded p.r) then forEach l s (fun s p => s.partOrHold o width left p)
  else s.accessWrite o l left

/-! ### Reads -/

/-- A read of 4 bytes at a BAR0 offset: unused offsets read 0 (R550), the Site Map its bytes (R299). -/
def Dev.read4 (s : Dev) (o : Origin) (off : Nat) : Nat × Dev :=
  if 0x40 ≤ off ∧ off < 0x10000 then (leNat ((List.range 4).map (fun k => siteByte (off + k))), s)
  else match Reg.at off with
    | some (r, i, b) =>
      let (v, s) := s.regReadBy o r i
      (v / 2 ^ (8 * b) % 2 ^ 32, s)
    | none => (0, s)

/-- An aligned read of 4 or 8 bytes at a BAR0 offset. -/
def Dev.busRead (s : Dev) (o : Origin) (off width : Nat) : Nat × Dev :=
  if width = 4 then s.read4 o off
  else match Reg.at off with
    | some (r, i, _) =>
      if r.info.width = 64 then s.regReadBy o r i
      else
        let (a, s) := s.read4 o off
        let (b, s) := s.read4 o (off + 4)
        (a + b * 2 ^ 32, s)
    | none =>
      let (a, s) := s.read4 o off
      let (b, s) := s.read4 o (off + 4)
      (a + b * 2 ^ 32, s)

/-! ### The commands -/

/-- The record of a BAR0 write that reaches no register (R523): the block whose window holds the offset, or SITE. -/
def strayRec (o : Origin) (off width v : Nat) : LogRec :=
  let b := (blkAt off).getD 0
  mkRec o 1 (blkId b) (off - (blkWindow b).1) none v width

/-- The registers of a BAR0 access are written behind their records: two with the seal of the second, together (R139, R523). -/
def Dev.holdParts (s : Dev) (o : Origin) (width : Nat) : List RegPart → Dev
  | [p, q] =>
    let s := (s.heardFrom o).logOrd (s.regRec o p.r p.i width p.v) none
    s.logOrd (s.regRec o q.r q.i width q.v) (some ⟨o, q.r.key q.i, q.v, q.m, some (p.r.key p.i, p.v, p.m)⟩)
  | l => forEach l s (fun s p => s.holdWrite o p.r p.i width p.v p.m)

/-- A BAR0 write: its records, holding the write of its registers until the seal (R298, R523). -/
def Dev.bar0Write (s : Dev) (link off width v : Nat) : Dev :=
  let o := Origin.bar0 link
  if regForm off width = false ∨ halfBad off width then ((s.heardFrom o).logOrd (strayRec o off width v) none).bump .HIF_BAD_ACCESS link
  else if (regParts off width v).isEmpty then (s.heardFrom o).logOrd (strayRec o off width v) none
  else s.holdParts o width (regParts off width v)

/-- REGISTER_WRITE (R298, R523, R550): a write of `width` bytes at BAR0 offset `off`, `left` ns before the volley ends. A write that
needs a record takes effect when its record is sealed; any other at once. -/
def execRegisterWrite (o : Origin) (off width v left : Nat) (s : State) : Outcome State Fault Refusal := s.act fun s =>
  if s.hears o = false then .next s
  else match o with
    | .bar0 l => .next (s.bar0Write l off width v)
    | _ => .next (if regForm off width then s.busWrite o off width v (some left) else s)

/-- RWS_WRITE (R10, R22, R25, R28): a write to a register with RWS fields; its record holds it, and with the seal its pending copy
takes the value. -/
def execRwsWrite (o : Origin) (off width v : Nat) (s : State) : Outcome State Fault Refusal := s.act fun s =>
  if s.hears o = false ∨ regForm off width = false ∨ halfBad off width then .next s
  else .next (forEach ((regParts off width v).filter (fun p => p.r.info.rws ≠ 0)) s
    (fun s p => s.holdWrite o p.r p.i width p.v p.m))

/-- The registers that a held write writes. -/
def HeldWrite.parts (h : HeldWrite) : List RegPart :=
  (h.mate.map (fun m => (⟨Reg.ofKey m.1, Reg.ixOf m.1, m.2.1, m.2.2⟩ : RegPart))).toList
    ++ [⟨Reg.ofKey h.cell, Reg.ixOf h.cell, h.value, h.mask⟩]

/-- A held write takes effect, unless its origin is no longer heard; one of the device is a change of a pitch's state, one of the
Referee the start of a repair. -/
def Dev.heldEffect (s : Dev) (h : HeldWrite) (left : Nat) : Dev :=
  if h.origin = .device then s.pitSealed (Reg.ixOf h.cell) h.value
  else if h.origin = .referee then s.beginRepair h.cell h.value
  else if s.hears h.origin then s.accessWrite h.origin h.parts (some left) else s

/-- The acknowledgement of a seal: the capsule or the write that waits for it goes on. -/
def Dev.ackEntry (s : Dev) (e : LogEntry) (left : Nat) : Dev :=
  let s := s.capSealed e.id e.body.seq
  match e.held with
  | some h => s.heldEffect h left
  | none => s

/-- SEAL_ACK (R523): the seal of the oldest record taken is acknowledged, `left` ns before the volley ends. With none taken the
writer takes and seals its next record within the volley. None is written once a power failure has halted the device (R567). -/
def execSealAck (left : Nat) (s : State) : Outcome State Fault Refusal := s.act fun s =>
  if 4 ≤ s.jnl.fail then .next s else
  let s := if s.log.taken.isEmpty then s.logNext else s
  match s.log.taken with
  | [] => .next s
  | e :: rest => .next (({ s with log := { s.log with taken := rest } } : Dev).ackEntry e left)

end Sys2Proof.Machine
end

