-- ==== Sys2Proof/Machine/DorMem.lean ====
section
/-! DEFINITION. The instructions that reach memory or block registers (R266, R267, R270, R273, R289): loads, stores, atomics, WAIT,
and the release of a committed step. The operand `bad` of a load or an atomic tells that the word it reads fails parity again
after one re-read (R290). -/

namespace Sys2Proof.Machine

open Host

/-- Where an address of a data access leads (R266, R510). -/
inductive Place where
  /-- local memory of the core, or Basecamp's SRAM -/
  | loc (off : Nat)
  /-- shared memory of the cluster -/
  | shared (off : Nat)
  /-- HBM -/
  | hbm (a : Nat)
  /-- a block register, by BAR0 offset -/
  | reg (off : Nat)
  /-- register space beyond the window of a class (R548) -/
  | gap
  /-- the flash, and the Journal Store, which Basecamp may load from -/
  | flash (off : Nat)
  | store (off : Nat)
  /-- no place: exception ACCESS with its DETAIL, and ADDRESS -/
  | access (detail : Nat)
  | none
  deriving DecidableEq, Repr

/-- A block register (R266, R267, R548, R550): 4 and 8 bytes only, and no 4-byte write to one of 64 bits with a WO field. -/
def placeReg (a n : Nat) (store : Bool) : Place :=
  let rel := a % 2 ^ 24
  let off := (a - 0x020000000000) / 2 ^ 24 * 0x200000 + rel
  if n < 4 then .access 1
  else if 0x200000 ≤ rel then .gap
  else if store && halfBad off n then .access 1
  else .reg off

/-- An address lies in a region of the internal map that a thread may not name (R266, R545): the other on-chip memories, the shared
memories under their internal addresses, and the Journal Store. -/
def foreignMap (a : Nat) : Bool :=
  (decide (0x010000000000 ≤ a) && decide (a < 0x020000000000)) || (decide (0x030000000000 ≤ a) && decide (a < 0x030020000000))

/-- Where a naturally aligned access of `n` bytes at `a` leads; the Basecamp pair has its own map. An address of no region raises
ADDRESS (R545). -/
def placeOf (k a n : Nat) (store : Bool) : Place :=
  if a < hbmSize then (if a < deviceArea then .hbm a else .access 0)
  else if 0x020000000000 ≤ a ∧ a < 0x020013000000 then placeReg a n store
  else if localBase ≤ a ∧ a < localBase + fetchSize k then .loc (a - localBase)
  else if k ≠ 2048 ∧ sharedBase ≤ a ∧ a < sharedBase + 0x800000 then .shared (a - sharedBase)
  else if k = 2048 ∧ 0xFFFF000100000000 ≤ a ∧ a < 0xFFFF000108000000 then .flash (a - 0xFFFF000100000000)
  else if k = 2048 ∧ 0x030000000000 ≤ a ∧ a < 0x030020000000 then .store (a - 0x030000000000)
  else if foreignMap a then .access 0
  else .none

/-- The origin of a context's accesses (R266). -/
def ctxOrigin (k : Nat) : Origin := if k = 2048 then .basecamp else .thread (k / 256) (k % 256)

/-- The word of local memory or of Basecamp's SRAM. -/
def Dev.ownRead (s : Dev) (k off n : Nat) : List Byte :=
  if k = 2048 then Memory.readN s.mem.sram off n
  else s.localRead (k / 256) (s.physCore (k / 256) (k % 256 / 8)) off n

/-- Store to local memory or to Basecamp's SRAM. -/
def Dev.ownWrite (s : Dev) (k off : Nat) (bs : List Byte) : Dev :=
  if k = 2048 then { s with mem := { s.mem with sram := Memory.writeN s.mem.sram off bs } }
  else s.localWrite (k / 256) (s.physCore (k / 256) (k % 256 / 8)) off bs

/-- A load's value as a register holds it. -/
def loadWord (n : Nat) (sgn : Bool) (bs : List Byte) : Word :=
  if sgn then BitVec.ofInt 64 (signed (8 * n) (leNat bs)) else BitVec.ofNat 64 (leNat bs)

/-! ### The Journal Store as bytes (R501, R524, R526) -/

/-- The 64 bytes of a Logbook record. A torn record without its SEAL has SEAL 0 (R506, R527). -/
def LogRec.image (r : LogRec) (sealedRec : Bool) : Nat :=
  r.vn % 2 ^ 64 + r.seq % 2 ^ 48 * 2 ^ 64 + r.rights % 16 * 2 ^ 112 + r.path % 16 * 2 ^ 116 + r.link % 4 * 2 ^ 120 + r.typ % 16 * 2 ^ 124
    + r.originId % 2 ^ 20 * 2 ^ 128 + b2n r.torn * 2 ^ 148 + b2n r.truncated * 2 ^ 149 + b2n r.oldValid * 2 ^ 150
    + r.object % 2 ^ 24 * 2 ^ 152 + r.addr % 2 ^ 32 * 2 ^ 176 + r.op % 2 ^ 8 * 2 ^ 208 + b2n sealedRec * 0x5345414C * 2 ^ 224
    + r.old % 2 ^ 128 * 2 ^ 256 + r.new % 2 ^ 128 * 2 ^ 384

/-- The record in a slot of the Logbook, as bytes; a slot never written reads 0 (log entry 16). -/
def Dev.logSlot (s : Dev) (slot : Nat) : List Byte :=
  match s.log.store.reverse.find? (fun r => (r.seq - 1) % logSlots = slot) with
  | some r => leBytes 64 (r.image (decide (r.seq ≤ s.rd .BCP_LOG_WIDX 0)))
  | none => List.replicate 64 0

/-- The header of a flush image (R503), as far as the model knows its bytes: none for the CRC and for the rest of the slot. -/
def flushHeader (x : FlushImg) (o : Nat) : Option Byte :=
  if o < 0x18 then (leBytes 0x18 (0x4C4E524A + 2 ^ 32 + Config.serial % 2 ^ 64 * 2 ^ 64 + x.vn % 2 ^ 64 * 2 ^ 128))[o]?
  else if 0x1C ≤ o ∧ o < 0x20 then (leBytes 4 (b2n x.good * 0x5345414C))[o - 0x1C]?
  else none

/-- A byte of the Journal Store: the Logbook's records, the headers of the flush images and the checkpoints; else nothing that
the spec lays out byte by byte. -/
def Dev.storeByte (s : Dev) (off : Nat) : Option Byte :=
  if 0x08000000 ≤ off ∧ off < 0x10000000 then (s.logSlot ((off - 0x08000000) / 64))[off % 64]?
  else if off < 0x02000000 then (Sparse.get? s.jnl.slots (off / 0x01000000)).bind (fun x => flushHeader x (off % 0x01000000))
  else if off < 0x02800000 then
    (Sparse.get? s.jnl.ckpts ((off - 0x02000000) / 0x400000)).map (fun x => Config.ckptByte x.1 x.2 (off % 0x400000))
  else none

/-- A load from the Journal Store: the bytes that the spec does not lay out are free values. -/
def Dev.storeRead (s : Dev) (off n : Nat) : List Byte × Dev :=
  let (d, s) := s.draw
  ((List.range n).map (fun j => (s.storeByte (off + j)).getD (BitVec.ofNat 8 (d / 256 ^ j))), s)

/-! ### Loads -/

/-- The unit of a pseudo-channel that an HBM address lies on. -/
def Dev.hbmUnit (s : Dev) (a : Nat) : Nat :=
  unitId 0x0D (hbmStack a) (s.fld .REF_MAP (0x120 + pseudoChannel a) 7 0)

/-- The result of a load from HBM (R290, R402, R403, R470, R471): BUS_ERROR from a pseudo-channel that is not served, where a line
fails its code, and where the no-pitch key is EMPTY (DESIGN CHOICE, log entry 40). -/
def Dev.hbmLoad (s : Dev) (k : Nat) (a n : Nat) (ok : List Byte → Res) : Dev :=
  if s.hbmServed a n = false then s.vary k (resFault 8 a (s.hbmUnit a))
  else if s.hbmSound a n = false then (s.badLine a n).vary k (resFault 8 a (s.hbmUnit a))
  else match s.memKey none with
    | some key => s.vary k (ok (s.hbmRead key a n))
    | none => (s.keyEmpty a).vary k (resFault 8 a (s.hbmUnit a))

/-- The fenced unit that a register access would meet (R470). -/
def Dev.fencedAt (s : Dev) (off n : Nat) : Option Nat :=
  ((regParts off n 0).find? (fun p => s.regFenced p.r p.i)).bind (fun p => regUnit p.r p.i)

/-- A load from a block register. -/
def Dev.regLoad (s : Dev) (k off n a : Nat) (ok : List Byte → Res) : Dev :=
  match s.fencedAt off n with
  | some u => s.vary k (resFault 8 a u)
  | none =>
    let (v, s) := s.busRead (ctxOrigin k) off n
    s.vary k (ok (leBytes n v))

/-- A load whose address leads to a place. -/
def Dev.loadAt (s : Dev) (k : Nat) (p : Place) (a n : Nat) (rd : Fin 32) (sgn bad : Bool) : Dev :=
  let ok := fun (bs : List Byte) => resOf [(rd.val, loadWord n sgn bs)] none
  match p with
  | .loc off =>
    if bad && decide (k ≠ 2048) then (s.parityWhistle k).raise k 7 a 0 else s.fixed k rd (loadWord n sgn (s.ownRead k off n))
  | .shared off => if bad then (s.parityWhistle k).vary k (resFault 7 a 0) else s.vary k (ok (s.threadRead k off n))
  | .hbm h => s.hbmLoad k h n ok
  | .reg off => s.regLoad k off n a ok
  | .gap => s.vary k (ok (List.replicate n 0))
  | .flash off => s.vary k (ok (s.flashRead off n))
  | .store off =>
    let (bs, s) := s.storeRead off n
    s.vary k (ok bs)
  | .access d => s.raise k 6 a d
  | .none => s.raise k 5 a 0

/-- The common form of the loads: RD ← [RA + IMM16]. -/
def Dev.load (s : Dev) (k op n : Nat) (sgn : Bool) (rd ra : Fin 32) (imm : BitVec 16) (bad : Bool) : Outcome Dev Fault Refusal :=
  s.run k (wordI op rd ra imm) true true (fun s =>
    let a := (s.gr k ra + immS imm).toNat
    if a % n ≠ 0 then s.raise k 4 a n else s.loadAt k (placeOf k a n false) a n rd sgn bad)

/-- LD.B (R270). -/
def execLdB (k : Nat) (rd ra : Fin 32) (imm : BitVec 16) (bad : Bool) (s : State) : Outcome State Fault Refusal := s.act fun s =>
  s.load k 0x10 1 true rd ra imm bad
/-- LD.H (R270). -/
def execLdH (k : Nat) (rd ra : Fin 32) (imm : BitVec 16) (bad : Bool) (s : State) : Outcome State Fault Refusal := s.act fun s =>
  s.load k 0x11 2 true rd ra imm bad
/-- LD.W (R270). -/
def execLdW (k : Nat) (rd ra : Fin 32) (imm : BitVec 16) (bad : Bool) (s : State) : Outcome State Fault Refusal := s.act fun s =>
  s.load k 0x12 4 true rd ra imm bad
/-- LD.D (R270). -/
def execLdD (k : Nat) (rd ra : Fin 32) (imm : BitVec 16) (bad : Bool) (s : State) : Outcome State Fault Refusal := s.act fun s =>
  s.load k 0x13 8 true rd ra imm bad
/-- LD.BU (R270). -/
def execLdBu (k : Nat) (rd ra : Fin 32) (imm : BitVec 16) (bad : Bool) (s : State) : Outcome State Fault Refusal := s.act fun s =>
  s.load k 0x14 1 false rd ra imm bad
/-- LD.HU (R270). -/
def execLdHu (k : Nat) (rd ra : Fin 32) (imm : BitVec 16) (bad : Bool) (s : State) : Outcome State Fault Refusal := s.act fun s =>
  s.load k 0x15 2 false rd ra imm bad
/-- LD.WU (R270). -/
def execLdWu (k : Nat) (rd ra : Fin 32) (imm : BitVec 16) (bad : Bool) (s : State) : Outcome State Fault Refusal := s.act fun s =>
  s.load k 0x16 4 false rd ra imm bad

/-! ### Stores -/

/-- A posted store to HBM (R402, R403): it is discarded where its pseudo-channel is not served or the key is EMPTY. -/
def Dev.hbmStore (s : Dev) (a : Nat) (bs : List Byte) : Dev :=
  if s.hbmServed a (max 1 bs.length) = false then s
  else match s.memKey none with
    | some key => s.hbmWrite key a bs
    | none => s.keyEmpty a

/-- A write of DMA_CH_CTL.ARM whose destination is the shared memory of the thread's own cluster acts at once in a step (R254,
R364). -/
def Dev.armHere (s : Dev) (k off v : Nat) : Bool :=
  match Reg.at off with
  | some (.DMA_CH_CTL, n, 0) =>
    bit v 0 && decide (s.fld .DMA_SH_CFG n 3 2 = 2) && decide (s.fld .DMA_SH_CFG n 13 11 = k / 256)
  | _ => false

/-- A store to a block register: held inside a step, else made at once. A full step is found before a fenced unit (R291). -/
def Dev.regStore (s : Dev) (k off n v a : Nat) : Dev :=
  let done := fun (s : Dev) => s.vary k (resOf [] none)
  let meet := fun (next : Dev) => match s.fencedAt off n with
    | some u => s.vary k (resFault 8 a u)
    | none => next
  if s.inStep k ∧ s.armHere k off v = false then
    match s.hold k (.regWrite off n v) with
    | some t => meet (done t)
    | none => s.raise k 0x40 0 0
  else meet (done (s.afterStores k (.regWrite off n v) (fun s => s.busWrite (ctxOrigin k) off n v none)))

/-- A store whose address leads to a place. -/
def Dev.storeAt (s : Dev) (k : Nat) (p : Place) (a n v : Nat) : Dev :=
  match p with
  | .loc off => (s.ownWrite k off (leBytes n v)).skip k
  | .shared off =>
    match s.threadWrite k off (leBytes n v) with
    | some s => s.vary k (resOf [] none)
    | none => s.raise k 0x40 0 0
  | .hbm h => (s.hbmStore h (leBytes n v)).vary k (resOf [] none)
  | .reg off => s.regStore k off n v a
  | .gap => s.vary k (resOf [] none)
  | .flash _ => s.raise k 6 a 0
  | .store _ => s.raise k 6 a 0
  | .access d => s.raise k 6 a d
  | .none => s.raise k 5 a 0

/-- The common form of the stores: [RA + IMM16] ← RB. Inside a step a store to HBM is STEP_ILLEGAL (R267). -/
def Dev.put (s : Dev) (k op n : Nat) (rb ra : Fin 32) (imm : BitVec 16) : Outcome Dev Fault Refusal :=
  let w := wordI op rb ra imm
  s.run k w true true (fun s =>
    let a := (s.gr k ra + immS imm).toNat
    if s.inStep k ∧ a < hbmSize then s.raise k 0x41 0 w
    else if a % n ≠ 0 then s.raise k 4 a n
    else s.storeAt k (placeOf k a n true) a n ((s.gr k rb).toNat % 256 ^ n))

/-- ST.B (R270). -/
def execStB (k : Nat) (rb ra : Fin 32) (imm : BitVec 16) (s : State) : Outcome State Fault Refusal := s.act fun s => s.put k 0x18 1 rb ra imm
/-- ST.H (R270). -/
def execStH (k : Nat) (rb ra : Fin 32) (imm : BitVec 16) (s : State) : Outcome State Fault Refusal := s.act fun s => s.put k 0x19 2 rb ra imm
/-- ST.W (R270). -/
def execStW (k : Nat) (rb ra : Fin 32) (imm : BitVec 16) (s : State) : Outcome State Fault Refusal := s.act fun s => s.put k 0x1A 4 rb ra imm
/-- ST.D (R270). -/
def execStD (k : Nat) (rb ra : Fin 32) (imm : BitVec 16) (s : State) : Outcome State Fault Refusal := s.act fun s => s.put k 0x1B 8 rb ra imm

/-! ### Atomics (R273) -/

/-- The result of an atomic on local or shared memory: the old value, and F for CAS. -/
def Dev.atomDone (s : Dev) (k : Nat) (isLoc : Bool) (rd : Fin 32) (old : Word) (f : Option Bool) : Dev :=
  if isLoc then
    let x := (s.ctx k).setReg rd.val old
    s.setCtx k { x with pc := x.pc + 4, f := f.getD x.f }
  else s.vary k (resOf [(rd.val, old)] f)

/-- An atomic on local or shared memory: `f` gives the value to write, if any, from the old one, and what F becomes. -/
def Dev.atomAt (s : Dev) (k : Nat) (p : Place) (a : Nat) (rd : Fin 32) (bad : Bool) (f : Word → Option Word × Option Bool) : Dev :=
  match p with
  | .loc off =>
    let old := BitVec.ofNat 64 (leNat (s.ownRead k off 8))
    let s' := match (f old).1 with
      | some v => s.ownWrite k off (leBytes 8 v.toNat)
      | none => s
    if bad && decide (k ≠ 2048) then (s.parityWhistle k).raise k 7 a 0 else s'.atomDone k true rd old (f old).2
  | .shared off =>
    let old := BitVec.ofNat 64 (leNat (s.sharedRead (k / 256) off 8))
    let s' := match (f old).1 with
      | some v => s.sharedWrite (k / 256) off (leBytes 8 v.toNat)
      | none => s
    if bad then (s.parityWhistle k).vary k (resFault 7 a 0) else s'.atomDone k false rd old (f old).2
  | .none => s.raise k 5 a 0
  | .access d => s.raise k 6 a d
  | _ => s.raise k 6 a 0

/-- The common form of the atomics on the 8-byte word at RA. Inside a step one on shared memory or HBM is STEP_ILLEGAL (R267). -/
def Dev.atom (s : Dev) (k w : Nat) (legal : Bool) (rd ra : Fin 32) (bad : Bool) (f : Dev → Word → Option Word × Option Bool) :
    Outcome Dev Fault Refusal :=
  s.run k w legal true (fun s =>
    let a := (s.gr k ra).toNat
    if s.inStep k ∧ (a < hbmSize ∨ (sharedBase ≤ a ∧ a < sharedBase + 0x800000)) then s.raise k 0x41 0 w
    else if a % 8 ≠ 0 then s.raise k 4 a 8
    else s.atomAt k (placeOf k a 8 true) a rd bad (f s))

/-- The common form of AMO. -/
def Dev.amo (s : Dev) (k fn : Nat) (rd ra rb : Fin 32) (bad : Bool) (op : Word → Word → Word) : Outcome Dev Fault Refusal :=
  s.atom k (wordR 0x1C rd ra rb fn) true rd ra bad (fun s old => (some (op old (s.gr k rb)), none))

/-- AMO SWAP (R273). -/
def execAmoSwap (k : Nat) (rd ra rb : Fin 32) (bad : Bool) (s : State) : Outcome State Fault Refusal := s.act fun s =>
  s.amo k 0 rd ra rb bad (fun _ b => b)
/-- AMO ADD (R273). -/
def execAmoAdd (k : Nat) (rd ra rb : Fin 32) (bad : Bool) (s : State) : Outcome State Fault Refusal := s.act fun s =>
  s.amo k 1 rd ra rb bad (fun a b => a + b)
/-- AMO AND (R273). -/
def execAmoAnd (k : Nat) (rd ra rb : Fin 32) (bad : Bool) (s : State) : Outcome State Fault Refusal := s.act fun s =>
  s.amo k 2 rd ra rb bad (fun a b => a &&& b)
/-- AMO OR (R273). -/
def execAmoOr (k : Nat) (rd ra rb : Fin 32) (bad : Bool) (s : State) : Outcome State Fault Refusal := s.act fun s =>
  s.amo k 3 rd ra rb bad (fun a b => a ||| b)
/-- AMO XOR (R273). -/
def execAmoXor (k : Nat) (rd ra rb : Fin 32) (bad : Bool) (s : State) : Outcome State Fault Refusal := s.act fun s =>
  s.amo k 4 rd ra rb bad (fun a b => a ^^^ b)
/-- AMO MIN (R273). -/
def execAmoMin (k : Nat) (rd ra rb : Fin 32) (bad : Bool) (s : State) : Outcome State Fault Refusal := s.act fun s =>
  s.amo k 5 rd ra rb bad (fun a b => if a.slt b then a else b)
/-- AMO MAX (R273). -/
def execAmoMax (k : Nat) (rd ra rb : Fin 32) (bad : Bool) (s : State) : Outcome State Fault Refusal := s.act fun s =>
  s.amo k 6 rd ra rb bad (fun a b => if a.slt b then b else a)
/-- AMO MINU (R273). -/
def execAmoMinu (k : Nat) (rd ra rb : Fin 32) (bad : Bool) (s : State) : Outcome State Fault Refusal := s.act fun s =>
  s.amo k 7 rd ra rb bad (fun a b => if a.ult b then a else b)
/-- AMO MAXU (R273). -/
def execAmoMaxu (k : Nat) (rd ra rb : Fin 32) (bad : Bool) (s : State) : Outcome State Fault Refusal := s.act fun s =>
  s.amo k 8 rd ra rb bad (fun a b => if a.ult b then b else a)

/-- CAS (R273): the word at RA is compared with RD, which receives the old value in both cases. FN must be 0x000. -/
def execCas (k : Nat) (rd ra rb : Fin 32) (fn : BitVec 11) (bad : Bool) (s : State) : Outcome State Fault Refusal := s.act fun s =>
  s.atom k (wordR 0x1D rd ra rb fn.toNat) (fn = 0) rd ra bad (fun s old =>
    if old = s.gr k rd then (some (s.gr k rb), some false) else (none, some true))

/-! ### WAIT (R286, R536 to R538) -/

/-- A wake source of a cluster is latched: an event is pending in a context, or a frame waits at its port queue. -/
def Dev.wakeLatched (s : Dev) (c : Nat) : Bool :=
  (List.range 256).any (fun t =>
    let x := s.ctx (ctxKey c t)
    x.st ≠ 0 && x.st ≠ 5 && decide (x.events ≠ 0)) || !(s.schedHeads (32 + c)).isEmpty

/-- Something of a cluster other than its supervisor `k` is busy. -/
def Dev.cluBusy (s : Dev) (k : Nat) : Bool :=
  let c := k / 256
  (List.range 256).any (fun t =>
    let x := s.ctx (ctxKey c t)
    x.step.isSome || (decide (ctxKey c t ≠ k) && x.st ≠ 0 && x.st ≠ 5 && x.st ≠ 6))
    || !(s.framesIf (fun f => f.loc.cluster = some c)).isEmpty

/-- WAIT of a supervisor: the outcome bits, and the sleep of its cluster when all are 0. -/
def Dev.waitCluster (s : Dev) (k : Nat) (rd : Fin 32) : Dev :=
  let c := k / 256
  let out := b2n (s.wakeLatched c) + 2 * b2n (!(bit (s.rd .PWR_MODE 0) c)) + 4 * b2n (s.cluBusy k)
  if out ≠ 0 then s.vary k (resOf [(rd.val, BitVec.ofNat 64 out)] (some true))
  else
    let s := s.vary k (resOf [(rd.val, 0)] (some false))
    { s with dor := { s.dor with asleep := Sparse.put s.dor.asleep c (some false) } }

/-- Something holds Basecamp's WAIT back: a mode other than SERVICE, a power failure, or records in the journal (R33, R537; log entry
41). -/
def Dev.bcpBusy (s : Dev) : Bool := decide (s.mode ≠ .service) || decide (s.jnl.fail ≠ 0) || !s.rng.items.isEmpty

/-- A POWER record (R525). -/
def Dev.powerRec (s : Dev) (o : Origin) (old new : Nat) : Dev :=
  s.logPrio (mkRec o 7 (unitId 0x12 0 0xFF) (s.rd .PWR_WAKE_STATUS 0) (some old) new 0)

/-- DORMANT is abandoned (R537): the SEAL of the image is cleared, PWR_MODE.DORMANT cleared, acceptance released, and a POWER record
and the event DORMANT_ABANDONED say so. -/
def Dev.dormantAbandon (s : Dev) (why : Nat) : Dev :=
  let old := s.rd .PWR_MODE 0
  let s := match s.jnl.flushing with
    | some k =>
      match Sparse.get? s.jnl.slots k with
      | some x => { s with jnl := { s.jnl with slots := Sparse.put s.jnl.slots k (some { x with good := false }), flushing := none } }
      | none => s
    | none => s
  let s := s.setPwrMode (putBits old 8 8 0)
  let s := { s with bcp := { s.bcp with dormant := none } }
  (s.powerRec .basecamp old (s.rd .PWR_MODE 0)).event 5 why

/-- The WAIT of Basecamp commits (R36, R537): the change to DORMANT takes effect at a boundary, once its records are sealed. Until
then the pair waits, with the answer of a change that no longer leads anywhere. -/
def Dev.commitWait (s : Dev) (rd : Fin 32) : Dev :=
  let o := match s.bcp.dormant with | some (_, _, o) => o | none => .basecamp
  let m := s.rd .PWR_MODE 0
  let s := (s.powerRec .basecamp m m).requestMode o .dormant 1
  let s := s.setCtx 2048 { s.ctx 2048 with st := 2, res := some (resOf [(rd.val, 4)] (some true)) }
  { s with dor := { s.dor with asleep := Sparse.put s.dor.asleep 8 (some false) } }

/-- WAIT of the Basecamp pair (R286, R537, R538). -/
def Dev.waitBasecamp (s : Dev) (rd : Fin 32) : Dev :=
  let race := decide (s.fld .PWR_WAKE_STATUS 0 2 0 ≠ 0)
  let bare := decide (s.fld .PWR_MODE 0 8 8 = 0)
  let out := b2n race + 2 * b2n bare + 4 * b2n s.bcpBusy
  if out = 0 then s.commitWait rd
  else
    let s := if race then s.bump .PWR_WAKE_RACES 0 else s
    let s := s.vary 2048 (resOf [(rd.val, BitVec.ofNat 64 out)] (some true))
    if s.bcp.dormant.isSome then s.dormantAbandon (if race then 2 else 3) else s

/-- WAIT (R286): only in the supervisor of a cluster and in Basecamp, and not inside a step. -/
def execWait (k : Nat) (rd ra rb : Fin 32) (fn : BitVec 11) (s : State) : Outcome State Fault Refusal := s.act fun s =>
  let w := wordR 0x3C rd ra rb fn.toNat
  s.run k w (ra.val = 0 && rb.val = 0 && fn = 0) true (fun s =>
    if k = 2048 then s.waitBasecamp rd
    else if s.supervisor (k / 256) ≠ k % 256 then s.raise k 2 0 w
    else s.noStep k w (s.waitCluster k rd))

/-! ### The release of a step (R255) -/

/-- Make one held effect of a step. -/
def Dev.makeHeld (s : Dev) (k : Nat) (h : Held) : Dev :=
  match h with
  | .regWrite off n v => s.busWrite (ctxOrigin k) off n v none
  | .ctrAdd i p b => s.ctrAdd i p b
  | .sev t => s.sev k t
  | .ret f w last => s.doReturn (k / 256) f w last
  | .free f => s.discardFrame (k / 256) f

/-- The held lines of a step become visible. -/
def Dev.makeLines (s : Dev) (c : Nat) (m : Sparse Byte) : Dev :=
  forEach m s (fun s e => s.sharedWrite c e.1 [e.2])

/-- The release engine makes the held effects of a committed step, the lines at once and the others in program order (R255); a restart
of its thread that waited for it takes place (R256). -/
def Dev.releaseStep (s : Dev) (k : Nat) (r : StepRec) : Dev :=
  let s := { s with dor := { s.dor with releases := s.dor.releases.erase (k, r) } }
  (forEach r.outs (s.makeLines (k / 256) r.lines) (fun s h => s.makeHeld k h)).restartWaiting k

/-- Release every committed step of a cluster. -/
def Dev.releaseAll (s : Dev) (c : Nat) : Dev :=
  forEach (s.dor.releases.filter (fun e => decide (e.1 / 256 = c))) s (fun s e => s.releaseStep e.1 e.2)

/-- STEP_RELEASE (R255, R289): the oldest committed step of a cluster is released. -/
def execStepRelease (cluster : Nat) (s : State) : Outcome State Fault Refusal := s.act fun s =>
  if 8 ≤ cluster then .fault .noSuchObject
  else match s.dor.releases.find? (fun e => e.1 / 256 = cluster) with
    | none => .next s
    | some (k, r) => .next (s.releaseStep k r)

end Sys2Proof.Machine
end

