-- ==== Sys2Proof/Machine/Power.lean ====
section
/-! DEFINITION. The entry to DORMANT and the wakes (R33, R36, R536 to R539, R568), and MODE_CHANGE, which makes every due change of
mode. -/

namespace Sys2Proof.Machine

open Host

/-- A wake (R539): BRINGUP with CAUSE 0x05 and PREV 0x1 on the oscillator, a POWER record first and then the MODE record (R36). -/
def Dev.wake (s : Dev) : Dev :=
  let m := s.rd .PWR_MODE 0
  let s := ((s.wr .SITE_MODE 0 0x512).wr .SITE_MODE_VN 0 s.vn).wr .PWR_MODE 0 0
  let s := { s with bcp := { s.bcp with armed := false } }
  let s := s.powerRec .device m 0
  s.logPrio powerUpRec

/-- What the always-on island keeps through DORMANT (R543): the latches, PWR_MODE and the counters of PWR (log entry 41). -/
def Dev.keepIsland (s old : Dev) : Dev :=
  forEach [Reg.PWR_MODE, .PWR_WAKE_STATUS, .PWR_WAKE_RACES, .PWR_DORMANT_ENTRIES] s (fun t r => t.wr r 0 (old.rd r 0))

/-- Nothing but the always-on island runs: the latches are armed, and no record waits. -/
def Dev.islandOnly (s : Dev) : Dev :=
  { s with log := { s.log with prio := [] }, bcp := { s.bcp with armed := true } }

/-- The device enters DORMANT (R36, R394, R537): every domain but the always-on island loses power. A latch set since the commit
wakes the device (R538). -/
def Dev.enterDormant (s : Dev) : Dev :=
  let t := ((s.powerOn.islandOnly).keepIsland s).bump .PWR_DORMANT_ENTRIES 0
  let t := t.wr .SITE_MODE 0 (s.modeWord .dormant 1)
  if t.fld .PWR_WAKE_STATUS 0 2 0 ≠ 0 then t.wake else t

/-- The change to DORMANT is due: it is made from SERVICE only (R33); from a mode that a fence has brought meanwhile, WAIT returns
and DORMANT is abandoned (log entry 41). -/
def Dev.sleepNow (s : Dev) (r : ModeReq) : Dev :=
  let s := { s with modeReqs := s.modeReqs.filter (fun x => decide (x ≠ r)) }
  if s.mode = .service then s.enterDormant
  else
    let s := { s with dor := { s.dor with asleep := Sparse.put s.dor.asleep 8 none } }
    let s := match (s.ctx 2048).res with
      | some x => s.takeResult 2048 x
      | none => s
    s.dormantAbandon 3

/-- MODE_CHANGE (R33, R35, R36): at a boundary, the next due change of mode takes effect. -/
def execModeChange (s : State) : Outcome State Fault Refusal := s.act fun s =>
  match s.modeNext with
  | some r => .next (if r.newMode = .dormant then s.sleepNow r else s.takeMode r)
  | none => .next s

/-- JOURNAL_EMPTY_WAIT_END (R537, steps 2 and 3): the flush image is begun when the journal holds no record; after 250,000 volleys
DORMANT is abandoned. -/
def execJournalEmptyWaitEnd (s : State) : Outcome State Fault Refusal := s.act fun s =>
  match s.bcp.dormant with
  | some (1, v, o) =>
    if s.rng.items.isEmpty then
      let s := s.beginFlush
      .next { s with bcp := { s.bcp with dormant := some (2, s.vn, o) } }
    else if v + 250000 ≤ s.vn then .next (s.dormantAbandon 1)
    else .next s
  | _ => .next s

/-- A wake source acts (R538, R539): armed, its latch is set; in DORMANT the device wakes. -/
def Dev.wakeEvent (s : Dev) (b : Nat) : Dev :=
  if s.bcp.off ∨ s.bcp.armed = false then s
  else
    let s := s.setFld .PWR_WAKE_STATUS 0 b b 1
    if s.mode = .dormant then s.wake else s

/-- SMBUS_ADDRESS_MATCH (R539). -/
def execSmbusAddressMatch (s : State) : Outcome State Fault Refusal := s.act fun s => .next (s.wakeEvent 0)

/-- PERST_DEASSERT (R314, R539): the pin of the port goes high. -/
def execPerstDeassert (port : Nat) (s : State) : Outcome State Fault Refusal := s.act fun s =>
  if 2 ≤ port then .fault .noSuchObject
  else if s.bcp.perst.contains port then
    .next (({ s with bcp := { s.bcp with perst := s.bcp.perst.filter (fun p => !decide (p = port)) } } : Dev).wakeEvent 1)
  else .next s

/-- WAKE_IN (R539, R568): a rising edge. -/
def execWakeIn (s : State) : Outcome State Fault Refusal := s.act fun s => .next (s.wakeEvent 2)

end Sys2Proof.Machine
end

