-- ==== Sys2Proof/Machine/Alarm.lean ====
section
/-! DEFINITION. The alarm and the erase of every key (R394, R402, R404 to R406, R498), the zeroing of the device regions, and the
surprise removal of a host link (R314). -/

namespace Sys2Proof.Machine

open Host

/-! ### The alarm -/

/-- The sources of an alarm are latched (R404, R405). -/
def Dev.latchAlarm (s : Dev) (sources : Nat) : Dev :=
  let m := sources % 32
  (s.wr .CRY_ALARM_STATUS 0 (s.rd .CRY_ALARM_STATUS 0 ||| (m + m * 2 ^ 8))).wr .CRY_ALARM_VN 0 s.vn

/-- The changes of this pitch's state that wait for their records do not take place. -/
def Dev.dropMoves (s : Dev) (p : Nat) : Dev :=
  let cut := fun (l : List LogEntry) => l.map (fun e => match e.held with
    | some h => if h.origin = .device ∧ h.cell = Reg.PIT_STATE.key p then { e with held := none } else e
    | none => e)
  { s with log := { s.log with prio := cut s.log.prio, ord := cut s.log.ord, taken := cut s.log.taken } }

/-- A pitch operation that runs ends REFUSED, its states as they stand (R458). -/
def Dev.refusePit (s : Dev) : Dev :=
  match s.pit.op with
  | some x => (s.dropMoves x.pitch).pitEnd x.tag 0xFD 5
  | none => s

/-- ALARM (R404, R405, time 0): sources trip. They are latched, the lanes stop dispatch, a Key Port operation ends REFUSED, and the
erase begins. `sources` holds the tripped sources by their bits. -/
def execAlarm (sources : Nat) (s : State) : Outcome State Fault Refusal := s.act fun s =>
  if s.awake = false ∨ sources % 32 = 0 then .next s
  else
    let s := s.latchAlarm sources
    let s := { s with cry := { s.cry with erasing := true } }
    let s := if s.cry.op.isSome then s.keyEnd 5 else s
    .next s.refusePit

/-- The erase of the keys (R405): every slot, the KEK, the device keys, Key Port DATA and the migration key are zero. -/
def Dev.eraseKeys (s : Dev) : Dev :=
  let s := s.resetCells (fun r _ => decide (r = .CRY_KEYINFO) || decide (r = .CRY_KEYPORT_DATA) || decide (r = .CRY_KEK_STATUS)
    || decide (r = .PIT_MIGKEY_STATUS))
  { s with cry := { s.cry with slots := [], kek := none, migKey := none, noPitch := none, spill := none, erasing := false } }

/-- The frames inside the lanes are discarded, and the items in them stand as not begun (R405). -/
def Dev.emptyLanes (s : Dev) : Dev :=
  let jobs := s.cry.jobs
  let s := { s with cry := { s.cry with jobs := [] } }
  forEach jobs s (fun s j => match j.frame with
    | some f => s.loseFrame f
    | none => s)

/-- KEY_ERASE_DONE (R33, R36, R405, R498): the erase has completed. Whistle CRY_ALARM is raised, its DETAIL a free value; the mode is
LOCKDOWN. An erase in LOCKDOWN leaves the mode as it is. In a device whose flush image is written no record follows. -/
def execKeyEraseDone (s : State) : Outcome State Fault Refusal := s.act fun s =>
  if s.cry.erasing = false then .next s
  else
    let s := s.eraseKeys.emptyLanes.setFld .CRY_ALARM_STATUS 0 5 5 1
    let (d, s) := s.draw
    let s := s.whistle 0x0E (unitId 0x0B 0 0x22) 0 d
    .next (if s.mode = .lockdown then s else s.enterLockdown)

/-! ### The device keys and the zeroing (R402) -/

/-- Every pitch that is not UNBOUND and has no memory key receives a fresh one (R498). -/
def Dev.renewKeys (s : Dev) : Dev :=
  forEach ((List.range 4096).filter (fun p => s.pitState p ≠ 0 && decide (s.slotType (0x3F000 + p) = 0))) s Dev.genMemKey

/-- ZEROING (R402, R498): in a BRINGUP that follows power-on, an alarm or DORMANT, Basecamp generates the no-pitch key and the spill
key and starts the zeroing. -/
def execZeroing (s : State) : Outcome State Fault Refusal := s.act fun s =>
  if s.bcpRuns = false ∨ s.mode ≠ .bringup ∨ s.cry.noPitch.isSome then .next s
  else
    let (a, s) := s.randomKey 5
    let (b, s) := s.randomKey 5
    let s := { s with cry := { s.cry with noPitch := some a, spill := some b, zeroing := some s.vn } }
    .next s.renewKeys

/-- ZEROING_DONE (R402): the device regions hold zeros, and the counter pairs read 0. -/
def execZeroingDone (s : State) : Outcome State Fault Refusal := s.act fun s =>
  if s.cry.zeroing.isNone then .next s
  else
    .next { s with
      cry := { s.cry with zeroing := none }
      tbl := { s.tbl with entries := s.tbl.entries.filter (fun e => !decide (e.1 / 2 ^ 32 = 5)) }
      mem := { s.mem with hbm := s.mem.hbm.filter (fun e => !decide (deviceArea ≤ e.1)) } }

/-! ### Surprise removal (R314, R375, R458) -/

/-- A pitch that a removal stops: one with a tenant, whose Pitch Map entry names the link, that is not STOPPED yet (log entry 42). -/
def Dev.goesWith (s : Dev) (k p : Nat) : Bool :=
  let st := s.pitState p
  pmapLink (s.pmap p) = k && pmapValid (s.pmap p) && st ≠ 0 && st ≠ 9

/-- The pitches of the link are STOPPED, each with its record; the operation of one of them ends HOST_FAIL with HOST_GONE. -/
def Dev.stopPitches (s : Dev) (k : Nat) : Dev :=
  forEach ((List.range 4096).filter (s.goesWith k)) s (fun s p =>
    match s.pit.op with
    | some x => if x.pitch = p then (s.dropMoves p).pitClose .device x 9 2 7 else s.movePit .device p 9
    | none => s.movePit .device p 9)

/-- The outstanding requests of the link fail at once, and so do the transfers with a HOST end on it. -/
def Dev.failLink (s : Dev) (k : Nat) : Dev :=
  let s := forEach (s.hif.reqs.filter (fun e => e.1 / 16384 = k)) s (fun s e => (s.endReq k (e.1 % 16384)).settle e.2 (some 2))
  forEach (s.dma.chans.filter (fun e => s.chArb e.1 = k && s.chState e.1 = 1)) s (fun s e => s.chFail e.1 2)

/-- The configuration space of the link is at reset, and every vector of its MSI-X table masked. -/
def Dev.forgetHost (s : Dev) (k : Nat) : Dev :=
  let s := s.resetCells (fun r i => decide (r = .HIF_CFG) && decide (i / 1024 = k))
  forEach (s.regs.filter (fun e => Reg.ofKey e.1 = .HIF_MSIX_CTL && decide (Reg.ixOf e.1 / 8192 = k))) s (fun s e =>
    s.setFld .HIF_MSIX_CTL (Reg.ixOf e.1) 32 32 1)

/-- SURPRISE_REMOVAL (R314): a link leaves DL_Active while PERST# of its port stays deasserted. -/
def execSurpriseRemoval (link : Nat) (s : State) : Outcome State Fault Refusal := s.act fun s =>
  if 4 ≤ link then .fault .noSuchObject
  else if s.awake = false ∨ s.linkPresent link = false ∨ s.pstate link = 1 ∨ s.bcp.perst.contains (link / 2) then .next s
  else
    let s := s.wr .HIF_LINK_STATUS link (s.fld .HIF_LINK_STATUS link 1 0 + 8 + 0x100)
    let (d, s) := s.draw
    let s := (s.bump .HIF_GONE_EVENTS link).whistle 0x10 (unitId 0x08 0 link) 0 d
    .next (((s.stopPitches link).failLink link).forgetHost link)

end Sys2Proof.Machine
end

