-- ==== Sys2Proof/Machine/Capsule.lean ====
section
/-! DEFINITION. Capsules (R512 to R520, R556 to R558): where one comes from, the checks, its record, and how it goes on. A capsule's
row may be issued any number of times; each time the capsule goes as far as it can (log entry 43). -/

namespace Sys2Proof.Machine

open Host

/-! ### Origins -/

/-- The origin of a capsule of a CMD ring (R520): an admin ring or a pitch's. -/
def Dev.ringOrigin (s : Dev) (x : Ring) : Origin :=
  if x.loc = 1 then .adminRing x.link else .cmdRing (s.ringLink x) x.pitch (pmapPasid (s.pmap x.pitch))

/-- A management path (R521, R522). -/
def Origin.management : Origin → Bool
  | .mctpSmbus _ => true | .mctpVdm .. => true | .ncsi _ => true | _ => false

/-- A path of MCTP, whose endpoints have at most one capsule outstanding (R521). -/
def Origin.mctp : Origin → Bool
  | .mctpSmbus _ => true | .mctpVdm .. => true | _ => false

/-- The pitch whose rights an origin has, if it is a tenant (R518). -/
def Origin.tenant : Origin → Option Nat
  | .cmdRing _ p _ => some p
  | _ => none

/-- The 64 bytes of an item as a capsule; the STAMP of a stamped ring is no part of it (R328). -/
def capWord (x : Ring) (d : List Byte) : Nat := leNat (d.take 64) % 2 ^ (if x.stamped then 504 else 512)

/-- The capsule that a source names: an accepted CMD item that is not released, or a message of a management path. -/
def Dev.capOf (s : Dev) : CapSrc → Option CapRun
  | .ring r =>
    match s.item r with
    | some x =>
      if x.stage = 1 ∧ x.kind = 2 then
        some { o := s.ringOrigin (s.ring r.ring), item := some r, word := capWord (s.ring r.ring) x.desc, recNo := 0, logSeq := none
               stage := 0, start := s.vn, buf := .ok [] }
      else none
    | none => none
  | .path o w =>
    if o.management then
      some { o := o, item := none, word := w % 2 ^ 512, recNo := 0, logSeq := none, stage := 0, start := s.vn, buf := .ok [] }
    else none

/-- Two capsules are the same one. -/
def CapRun.same (a b : CapRun) : Bool := decide (a.o = b.o) && decide (a.item = b.item) && decide (a.word = b.word)

/-- CHECK_ONLY, PITCH_VALID and PITCH (R512). -/
def CapRun.checkOnly (c : CapRun) : Bool := bit c.word 16
/-- The pitch that a capsule is about: a tenant's own, or the one an operator names. -/
def CapRun.pitch (c : CapRun) : Option Nat :=
  match c.o.tenant with
  | some p => some p
  | none => if bit c.word 76 then some (bits c.word 75 64) else none
/-- BUF_LEN. -/
def CapRun.bufLen (c : CapRun) : Nat := c.param 8 4

/-! ### The opcode table (R556, R557) -/

/-- A row of the opcode table: tenants may issue it, rings only, the modes that allow it, the bits of PARAM it names, whether it
changes no state, and whether it takes its buffer's bytes. -/
structure CapRow where
  tenants : Bool
  ringOnly : Bool
  modes : List Mode
  mask : Nat
  reads : Bool
  input : Bool

/-- PARAM bytes `lo` to `lo + n - 1`. -/
def parBytes (lo n : Nat) : Nat := (2 ^ (8 * n) - 1) * 2 ^ (8 * lo)

/-- BUF_ADDR and BUF_LEN. -/
def parBuf : Nat := parBytes 0 12

/-- Every mode in which a path is served. -/
def allModes : List Mode := [.bringup, .service, .maintenance, .degraded, .lockdown]
/-- Every one but LOCKDOWN. -/
def notLockdown : List Mode := [.bringup, .service, .maintenance, .degraded]
/-- BRINGUP and MAINTENANCE. -/
def setupModes : List Mode := [.bringup, .maintenance]

/-- The opcode table. -/
def capRow (op : Nat) : Option CapRow :=
  if op = 0x0001 then some ⟨false, false, allModes, parBytes 0 1, false, false⟩
  else if op = 0x0002 then some ⟨true, false, allModes, parBytes 0 20, true, false⟩
  else if op = 0x0003 then some ⟨false, false, allModes, parBytes 0 5, true, false⟩
  else if op = 0x0004 then some ⟨false, false, allModes, parBytes 0 5 + parBytes 8 8, false, false⟩
  else if op = 0x0101 then some ⟨false, false, setupModes, parBuf, false, true⟩
  else if op = 0x0102 then some ⟨false, false, allModes, parBuf, true, false⟩
  else if op = 0x0701 then some ⟨false, true, notLockdown, parBytes 0 13, false, true⟩
  else if op = 0x0702 then some ⟨false, false, notLockdown, parBytes 12 2 + 15 * 2 ^ 112 + parBytes 16 16, false, false⟩
  else if op = 0x0801 then some ⟨true, false, notLockdown, 2 ^ 96, false, false⟩
  else if op = 0x0802 then some ⟨true, false, allModes, parBuf, true, false⟩
  else if op = 0x0803 then some ⟨false, false, notLockdown, parBytes 12 8, false, false⟩
  else if op = 0x0804 then some ⟨false, false, notLockdown, parBuf, false, true⟩
  else if op = 0x0B01 then some ⟨false, false, setupModes, parBuf, false, true⟩
  else if op = 0x0B02 then some ⟨false, false, allModes, 0, false, false⟩
  else if op = 0x0B03 then some ⟨true, false, notLockdown, parBytes 0 17 + 0x8FFF * 2 ^ 144, false, true⟩
  else if op = 0x0B04 then some ⟨true, false, notLockdown, parBytes 12 4, false, false⟩
  else if op = 0x0B05 then some ⟨true, false, notLockdown, parBytes 0 16, false, true⟩
  else if op = 0x0C01 then some ⟨true, false, notLockdown, parBytes 0 14, false, true⟩
  else if op = 0x0C02 then some ⟨true, false, notLockdown, parBytes 0 14, false, false⟩
  else if op = 0x0C03 then some ⟨true, false, notLockdown, parBytes 12 2 + parBytes 16 16, false, false⟩
  else if op = 0x0E01 then some ⟨false, false, allModes, 0, false, false⟩
  else if op = 0x0E02 then some ⟨false, false, setupModes, parBytes 0 13, false, true⟩
  else if op = 0x0E03 then some ⟨false, false, [.maintenance], 0, false, false⟩
  else if op = 0x0E04 then some ⟨true, false, allModes, parBuf + parBytes 16 12, true, false⟩
  else if op = 0x0F01 then some ⟨false, false, notLockdown, parBytes 0 3, false, false⟩
  else if op = 0x1001 then some ⟨false, false, allModes, parBytes 0 13 + parBytes 16 8, true, false⟩
  else if op = 0x1201 then some ⟨false, false, [.service], 0, false, false⟩
  else none

/-- BUF_LEN suits the opcode (R556). -/
def CapRun.bufOk (c : CapRun) : Bool :=
  let n := c.bufLen
  let op := c.opcode
  if op = 0x0002 then c.param 16 4 ≤ n else if op = 0x1001 then c.param 20 4 ≤ n
  else if op = 0x0101 then n = 2560 else if op = 0x0102 then 2560 ≤ n
  else if op = 0x0701 then 512 ≤ n else if op = 0x0802 then 176 ≤ n
  else if op = 0x0804 then n = 40 else if op = 0x0B01 then n = 160 else if op = 0x0B03 then n = 72
  else if op = 0x0B05 then n = 64 else if op = 0x0C01 then n = 96 else if op = 0x0C02 then 96 ≤ n
  else if op = 0x0E02 then n = 48 else if op = 0x0E04 then 64 ≤ n
  else true

/-- The PARAM fields of an opcode are in range (R557, R558). PIT_RESET and PIT_INFO of an operator name their pitch (log entry
44). -/
def CapRun.rangeOk (c : CapRun) : Bool :=
  let op := c.opcode
  let reg := fun (_ : Unit) => regForm (c.param 0 4) (c.param 4 1) && decide (c.param 0 4 < 0x04000000)
  if op = 0x0001 then decide (1 ≤ c.param 0 1) && decide (c.param 0 1 ≤ 6)
  else if op = 0x0002 then decide (1 ≤ c.param 16 4) && decide (c.param 12 4 + c.param 16 4 ≤ 65536)
  else if op = 0x0003 then reg () else if op = 0x0004 then reg ()
  else if op = 0x0701 then c.param 12 1 < 8
  else if op = 0x0702 then decide (c.param 12 1 < 8) && decide (1 ≤ c.param 14 1 % 8) && decide (c.param 14 1 % 8 ≤ 6)
  else if op = 0x0801 then c.pitch.isSome else if op = 0x0802 then c.pitch.isSome
  else if op = 0x0803 then decide (1 ≤ bits (c.param 12 8) 15 12) && decide (bits (c.param 12 8) 15 12 ≤ 8)
  else if op = 0x0E02 then c.param 12 1 < 4
  else if op = 0x0E04 then decide (1 ≤ c.param 24 4) && decide (c.param 24 4 ≤ 65536)
  else if op = 0x1001 then decide (c.param 12 1 < 2) && decide (1 ≤ c.param 20 4) && decide (c.param 20 4 ≤ 2097152)
  else true

/-- Check 6 (R515): reserved bits 0, PARAM with defined encodings, and on a management path a buffer of BUF_LEN bytes. -/
def CapRun.fieldsOk (c : CapRun) (row : CapRow) (buf : Fetch) : Bool :=
  decide (bits c.word 31 17 = 0) && decide (bits c.word 127 77 = 0) && decide (bits c.word 511 128 &&& (2 ^ 384 - 1 - row.mask) = 0)
    && c.rangeOk && c.bufOk
    && (!(row.input && c.o.management) || (match buf with | .ok bs => decide (bs.length = c.bufLen) | .fail _ => true))

/-! ### What an opcode does -/

/-- The parts of an opcode: whether it names a resource of another pitch, its own checks (STATUS, DETAIL and RESULT, STATUS 0 when
they pass), its effect, and how it goes on once its operation runs. -/
structure CapDef where
  foreign : Dev → Nat → CapRun → Fetch → Bool
  own : Dev → CapRun → Fetch → Nat × Nat × Nat
  run : Dev → CapRun → Fetch → Dev
  poll : Dev → CapRun → Dev

/-- An opcode without resources, own checks or an operation that runs on. -/
def CapDef.plain (run : Dev → CapRun → Fetch → Dev) : CapDef :=
  { foreign := fun _ _ _ _ => false, own := fun _ _ _ => (0, 0, 0), run := run, poll := fun s _ => s }

/-- The bytes of a buffer, none of a failed one. -/
def Fetch.bytes : Fetch → List Byte
  | .ok bs => bs
  | .fail _ => []

/-- A capsule that answers with data (R512): a failed buffer access ends it with the status of the failure. -/
def Dev.capData (s : Dev) (c : CapRun) (result : Nat) (data : List Byte) : Dev :=
  match c.item, s.outboundBar c.buffer.1 c.buffer.2 with
  | some _, some code => (s.countBar code).capReply c (hostStatus code) 0 0 []
  | _, _ => s.capReply c 0 0 result data

/-- The most bytes a path returns (R557). -/
def CapRun.most (c : CapRun) (n : Nat) : Nat := if c.o.management then min 4096 n else n

/-! ### The course of a capsule -/

/-- The first failing check of 2 to 7 (R515), by its status; 0 when all pass. -/
def Dev.capChecks (s : Dev) (c : CapRun) (buf : Fetch) (d : CapDef) : Nat :=
  match capRow c.opcode with
  | none => 1
  | some row =>
    if row.ringOnly ∧ c.o.management then 3
    else match c.o.tenant with
      | some p =>
        if row.tenants = false then 4
        else if (bit c.word 76 ∧ bits c.word 75 64 ≠ p) ∨ d.foreign s p c buf then 5
        else if c.fieldsOk row buf = false then 2
        else if row.modes.contains s.mode = false then 6 else 0
      | none => if c.fieldsOk row buf = false then 2 else if row.modes.contains s.mode = false then 6 else 0

/-- The record of a capsule (R525, R558). -/
def Dev.capRecord (s : Dev) (c : CapRun) (typ : Nat) : LogRec :=
  let op := c.opcode
  let cls := op / 2 ^ 8
  if op = 0x0004 ∧ typ = 2 then
    let off := c.param 0 4
    let b := (blkAt off).getD 0
    let old := match Reg.at off with
      | some (r, i, _) => some (s.rd r i)
      | none => none
    mkRec c.o 1 (blkId b) (off - (blkWindow b).1) old (c.param 8 8 % 256 ^ c.param 4 1) (c.param 4 1)
  else
    let obj := if op = 0x0701 ∨ op = 0x0702 then unitId cls (c.param 12 1) 0xFF
      else if op = 0x0F01 then unitId cls (c.param 1 1) (c.param 0 1) else unitId cls 0xFF 0xFF
    mkRec c.o typ obj c.id none (bits c.word 255 128) (op % 256)

/-- Raise a capsule's record and put it in progress, at a stage, with the buffer that has been read for it. -/
def Dev.capBegin (s : Dev) (c : CapRun) (buf : Fetch) (typ stage : Nat) : Dev :=
  let c := { c with recNo := s.log.nextId, stage := stage, buf := buf }
  let s := s.logOrd (s.capRecord c typ) none
  { s with bcp := { s.bcp with caps := s.bcp.caps ++ [c] } }

/-- A capsule refused at checks 1 to 7 (R515). -/
def Dev.capRefused (s : Dev) (c : CapRun) (status : Nat) : Dev :=
  (s.bump .BCP_CAPSULES_REFUSED 0).capReply c status 0 0 []

/-- The units that a capsule needs for itself (R514). -/
def CapRun.unit (c : CapRun) : Nat :=
  let op := c.opcode
  if op = 0x0801 ∨ op = 0x0803 then 1 else if op = 0x0B03 ∨ op = 0x0B04 then 2 else if op = 0x0C01 ∨ op = 0x0C02 ∨ op = 0x0C03 then 3
  else if op = 0x0701 then 16 + c.param 12 1 else 0

/-- The capsules of its ring before this one have started (R514). -/
def Dev.capFirst (s : Dev) (c : CapRun) : Bool :=
  match c.item with
  | none => true
  | some r =>
    let d := (s.ring r.ring).done
    (s.itemsIn [r.ring]).all (fun x => x.stage ≠ 1 || decide (ixSub r.index d ≤ ixSub x.index d)
      || s.bcp.caps.any (fun k => k.item = some x.ref))

/-- Basecamp can start a capsule now (R514). -/
def Dev.capRoom (s : Dev) (c : CapRun) : Bool :=
  s.bcpRuns && s.capFirst c && decide (s.bcp.caps.length < 8) && (c.unit = 0 || s.bcp.caps.all (fun k => k.unit ≠ c.unit))

/-- The read of a capsule's buffer (R302, R310, R512): what it gives and the device after it; nothing where no tag is free. On a
management path the buffer came with the capsule. -/
def Dev.bufRead (s : Dev) (c : CapRun) (row : CapRow) (buf : Fetch) : Option (Fetch × Dev) :=
  if row.input = false ∨ c.item.isNone then some (buf, s)
  else match s.outboundBar c.buffer.1 c.buffer.2 with
    | some code => some (.fail code, s.countBar code)
    | none =>
      let link := (s.outLink c.buffer.1 c.buffer.2).1
      (s.freeTag link).map (fun t => (buf, s.answered link t buf))

/-- What a capsule does once its checks have passed and its buffer has been read: an answer of its own checks, an answer of a read, or
its record. -/
def Dev.capPassed (s : Dev) (c : CapRun) (row : CapRow) (buf : Fetch) (d : CapDef) : Dev :=
  match row.input, buf with
  | true, .fail code => s.capReply c (hostStatus code) 0 0 []
  | _, _ =>
    let (st, detail, result) := d.own s c buf
    if st ≠ 0 ∨ c.checkOnly then s.capReply c st detail result []
    else if row.reads then d.run s c buf
    else s.capBegin c buf 2 0

/-- The buffer bytes that a ring capsule's fetch returns are BUF_LEN bytes. -/
def CapRun.fetched (c : CapRun) (row : CapRow) (buf : Fetch) : Bool :=
  !row.input || c.o.management || (match buf with | .ok bs => decide (bs.length = c.bufLen) | .fail _ => true)

/-- Judge a capsule that Basecamp starts (R515). -/
def Dev.capJudge (s : Dev) (c : CapRun) (buf : Fetch) (d : CapDef) : Dev :=
  match s.capChecks c buf d with
  | 0 =>
    match capRow c.opcode with
    | some row =>
      match s.bufRead c row buf with
      | some (b, s) => if c.fetched row b then s.capPassed c row b d else s
      | none => s
    | none => s
  | 4 => s.capBegin c buf 8 4
  | 5 => s.capBegin c buf 8 5
  | st => s.capRefused c st

/-- A capsule that is not in progress (R511, R514, R515, R521). From V0 of a power failure one that changes state is dropped
(R502). -/
def Dev.capArrive (s : Dev) (c : CapRun) (buf : Fetch) (d : CapDef) : Dev :=
  let reads := match capRow c.opcode with | some r => r.reads | none => true
  if s.awake = false ∨ (2 ≤ s.jnl.fail ∧ reads = false) then s
  else if c.o.management ∧ s.bcpRuns = false then s.capRefused c 0xB
  else if c.o.mctp ∧ s.bcp.caps.any (fun k => k.o = c.o) then s.capReply c 9 0 0 []
  else if s.capRoom c then s.capJudge c buf d else s

/-- A capsule in progress goes on: its effect once its record is sealed, its answer after a refusal, or its operation. -/
def Dev.capGoOn (s : Dev) (c : CapRun) (d : CapDef) : Dev :=
  if s.bcpRuns = false ∨ 2 ≤ s.jnl.fail then s
  else if c.stage = 1 then d.poll s c
  else if c.logSeq.isNone then s
  else if c.stage ≠ 0 then s.capRefused c c.stage
  else
    let (st, detail, result) := d.own s c c.buf
    if st ≠ 0 then s.capReply c st detail result [] else d.run s c c.buf

/-- The common form of the capsule rows. A row carries out its own opcode, and any row a capsule whose opcode is not listed. -/
def Dev.capsule (s : Dev) (op : Nat) (src : CapSrc) (buf : Fetch) (d : CapDef) : Outcome Dev Fault Refusal :=
  match s.capOf src with
  | none => .next s
  | some c =>
    if (capRow c.opcode).isSome ∧ c.opcode ≠ op then .next s
    else match s.bcp.caps.find? (fun k => k.same c) with
      | some k => .next (s.capGoOn k d)
      | none => .next (s.capArrive c buf d)

/-- The operation of a capsule runs from now on. -/
def CapRun.running (c : CapRun) : CapRun := { c with stage := 1 }

end Sys2Proof.Machine
end

