-- ==== Sys2Proof/Machine/CapBcp.lean ====
section
/-! DEFINITION. The capsules of the device, of its clusters and of Basecamp itself (R33, R56, R259, R479, R511, R526, R533, R537,
R556 to R558). -/

namespace Sys2Proof.Machine

open Host

/-! ### SITE -/

/-- SET_MODE's own checks (R33, R34), against the mode that the requests before it produce (R35). -/
def Dev.setModeOwn (s : Dev) (c : CapRun) : Nat × Nat × Nat :=
  match Mode.ofCode (c.param 0 1) with
  | none => (0xD, 0, 0)
  | some m =>
    if (setModeFrom s.fencedCause s.modeAhead m).isNone then (0xD, 0, 0)
    else if s.modeAhead = .bringup ∧ s.selfCheck = false then (0xE, 0, 0) else (0, 0, 0)

/-- SET_MODE takes its request (R33, R36). -/
def Dev.setModeRun (s : Dev) (c : CapRun) : Dev :=
  match Mode.ofCode (c.param 0 1) with
  | some m => (s.setCap c c.running).requestMode c.o m 1
  | none => s

/-- A request that the entry to LOCKDOWN has taken away ends REFUSED. -/
def Dev.setModePoll (s : Dev) (c : CapRun) : Dev :=
  if s.modeReqs.any (fun r => r.cause = 1 && modeCap r c) then s else s.capReply c 0xA 0xFD 0 []

/-- SET_MODE (R33, R34, R556). -/
def execSetMode (src : CapSrc) (s : State) : Outcome State Fault Refusal := s.act fun s =>
  s.capsule 0x0001 src (.ok [])
    { foreign := fun _ _ _ _ => false, own := fun s c _ => s.setModeOwn c, run := fun s c _ => s.setModeRun c, poll := Dev.setModePoll }

/-- A byte of the SITE window, its block header included. -/
def Dev.siteByteAt (s : Dev) (o : Origin) (a : Nat) : Byte :=
  if a < 0x40 then BitVec.ofNat 8 ((s.read4 o (a / 4 * 4)).1 / 256 ^ (a % 4)) else siteByte a

/-- SITE_INFO (R299, R556, R557): a copy of Site Map bytes. -/
def execSiteInfo (src : CapSrc) (s : State) : Outcome State Fault Refusal := s.act fun s =>
  s.capsule 0x0002 src (.ok []) (CapDef.plain (fun s c _ =>
    let n := c.most (c.param 16 4)
    s.capData c n ((List.range n).map (fun j => s.siteByteAt c.o (c.param 12 4 + j)))))

/-- SITE_REG_READ (R558): a BAR0 read on link A0. -/
def execSiteRegRead (src : CapSrc) (s : State) : Outcome State Fault Refusal := s.act fun s =>
  s.capsule 0x0003 src (.ok []) (CapDef.plain (fun s c _ =>
    let (v, s) := s.busRead (.bar0 0) (c.param 0 4) (c.param 4 1)
    s.capReply c 0 0 v []))

/-- SITE_REG_WRITE (R558): a BAR0 write on link A0, whose record is the capsule's. -/
def execSiteRegWrite (src : CapSrc) (left : Nat) (s : State) : Outcome State Fault Refusal := s.act fun s =>
  s.capsule 0x0004 src (.ok []) (CapDef.plain (fun s c _ =>
    let n := c.param 4 1
    (s.offWrite (.bar0 0) (c.param 0 4) n (c.param 8 8 % 256 ^ n) (some left)).capReply c 0 0 0 []))

/-! ### The Trim Set (R56) -/

/-- CAL_WRITE begins (R56): the partition is written in place, and until the end it holds no valid set (its MAGIC reads 0; DESIGN
CHOICE, log entry 105). -/
def Dev.calWriteRun (s : Dev) (c : CapRun) : Dev := (s.setCap c c.running).flashWrite 0x10000 [0, 0]

/-- CAL_WRITE ends: the new image stands in the partition. -/
def Dev.calWriteEnd (s : Dev) (c : CapRun) : Dev := (s.flashWrite 0x10000 c.buf.bytes).capReply c 0 0 0 []

/-- CAL_WRITE (R56): the image replaces the stored Trim Set; a loss of power or a reset before its end leaves no valid set. -/
def execCalWrite (src : CapSrc) (buf : Fetch) (s : State) : Outcome State Fault Refusal := s.act fun s =>
  s.capsule 0x0101 src buf
    { foreign := fun _ _ _ _ => false, own := fun _ _ _ => (0, 0, 0), run := fun s c _ => s.calWriteRun c, poll := Dev.calWriteEnd }

/-- CAL_READ (R556): the Trim Set as stored. -/
def execCalRead (src : CapSrc) (s : State) : Outcome State Fault Refusal := s.act fun s =>
  s.capsule 0x0102 src (.ok []) (CapDef.plain (fun s c _ => s.capData c 2560 s.trimStored))

/-! ### DOR (R253, R259) -/

/-- DOR_LOAD's own checks: QUIESCED, and the checks of R533. -/
def Dev.dorLoadOwn (s : Dev) (c : CapRun) (img : List Byte) : Nat × Nat × Nat :=
  if s.quiesced (c.param 12 1) = false then (7, 0, 0)
  else ((s.imageVerdict 2 img).1, (s.imageVerdict 2 img).2, 0)

/-- The image goes into the local memory of all 34 cores and into the shared memory of a cluster. -/
def Dev.placeImage (s : Dev) (c : Nat) (img : List Byte) : Dev :=
  let body := img.drop 512
  let n := leAt img 0x20 8
  let s := { s with dor := { s.dor with images := Sparse.put s.dor.images c (some (body.take n)) } }
  let s := forEach (List.range 34) s (fun s core => s.localWrite c core 0 (body.take n))
  s.sharedWrite c 0 ((body.drop n).take (leAt img 0x28 8))

/-- Every context of a cluster becomes FREE with the ring credits it holds, its frames discarded. -/
def Dev.emptyCluster (s : Dev) (c : Nat) : Dev :=
  let s := forEach (List.range 256) s (fun s t => s.discardOwn (ctxKey c t))
  forEach (List.range 256) (s.freeAll c) (fun t i =>
    let n := (s.ctx (ctxKey c i)).credits
    if n = 0 then t else t.setCtx (ctxKey c i) { Ctx.blank with credits := n })

/-- DOR_LOAD takes effect (R259); committed steps are released in full first (R255). -/
def Dev.dorLoadRun (s : Dev) (c : CapRun) (img : List Byte) : Dev :=
  let n := c.param 12 1
  let s := ((s.releaseAll n).placeImage n img).emptyCluster n
  let s := { s with bcp := { s.bcp with images := Sparse.put s.bcp.images (1 + n) (some (img.take 512)) } }
  (s.startSupervisor n (imageEntry img)).capReply c 0 0 0 []

/-- DOR_LOAD (R259, R533). -/
def execDorLoad (src : CapSrc) (buf : Fetch) (s : State) : Outcome State Fault Refusal := s.act fun s =>
  s.capsule 0x0701 src buf
    { foreign := fun _ _ _ _ => false, own := fun s c b => s.dorLoadOwn c b.bytes, run := fun s c b => s.dorLoadRun c b.bytes
      poll := fun s _ => s }

/-- The status of a DOR_SUP_STATUS result (R517): a name that is not in the list is BAD_STATE with the value in DETAIL. -/
def supCode : Nat → Nat × Nat
  | 0 => (0, 0) | 1 => (8, 0) | n => (8, n)

/-- DOR_THREAD_ACT takes effect (R253, R556): Basecamp writes DOR_SUP_PC, DOR_SUP_ARG and then DOR_SUP_ACT. -/
def Dev.threadActRun (s : Dev) (c : CapRun) : Dev :=
  let n := c.param 12 1
  let s := s.regWrite .basecamp .DOR_SUP_PC n 8 (c.param 16 8) fun s => s.wr .DOR_SUP_PC n (c.param 16 8)
  let s := s.regWrite .basecamp .DOR_SUP_ARG n 8 (c.param 24 8) fun s => s.wr .DOR_SUP_ARG n (c.param 24 8)
  let t := c.param 13 1
  let op := c.param 14 1 % 8
  let pc := bit (c.param 14 1) 3
  let s := s.regWrite .basecamp .DOR_SUP_ACT n 4 (t + op * 2 ^ 8 + b2n pc * 2 ^ 11) fun s => s.supAct .basecamp n t op pc 0
  let r := s.rd .DOR_SUP_STATUS n
  s.capReply c (supCode (r % 2 ^ 16)).1 (supCode (r % 2 ^ 16)).2 r []

/-- DOR_THREAD_ACT (R253, R556). -/
def execDorThreadAct (src : CapSrc) (s : State) : Outcome State Fault Refusal := s.act fun s =>
  s.capsule 0x0702 src (.ok []) (CapDef.plain (fun s c _ => s.threadActRun c))

/-! ### BCP (R511, R526, R533) -/

/-- BCP_REBOOT (R511): the capsule ends, and Basecamp reboots. -/
def execBcpReboot (src : CapSrc) (s : State) : Outcome State Fault Refusal := s.act fun s =>
  s.capsule 0x0E01 src (.ok []) (CapDef.plain (fun s c _ => (s.capReply c 0 0 0 []).bcpReboot 3))

/-- Put a digest into the key record. -/
def putKey (keys : List (List Byte)) (i : Nat) (d : List Byte) : List (List Byte) :=
  (List.range (max keys.length (i + 1))).map (fun j => if j = i then d else keys.getD j [])

/-- BCP_IMGKEY_SET (R533). -/
def execBcpImgkeySet (src : CapSrc) (buf : Fetch) (s : State) : Outcome State Fault Refusal := s.act fun s =>
  s.capsule 0x0E02 src buf (CapDef.plain (fun s c b =>
    ({ s with bcp := { s.bcp with keys := putKey s.bcp.keys (c.param 12 1) b.bytes } } : Dev).capReply c 0 0 0 []))

/-- The header of the running Basecamp image. -/
def Dev.runningHead (s : Dev) : List Byte := Sparse.get (fun _ => []) s.bcp.images 0

/-- BCP_SVN_COMMIT (R533): the fused minimum SVN rises to that of the running image, and never falls. -/
def execBcpSvnCommit (src : CapSrc) (s : State) : Outcome State Fault Refusal := s.act fun s =>
  s.capsule 0x0E03 src (.ok []) (CapDef.plain (fun s c _ =>
    ({ s with bcp := { s.bcp with minSvn := max s.bcp.minSvn (leAt s.runningHead 0xC 4) } } : Dev).capReply c 0 0 0 []))

/-- A tenant may read a record (R526): one of RIGHTS TENANT of its binding. -/
def Dev.mayReadRec (s : Dev) (o : Origin) (r : LogRec) : Bool :=
  match o.tenant with
  | some p => r.rights = 1 && r.originId = s.fld .PIT_STATE p 27 8 && r.link = s.fld .PIT_STATE p 29 28
  | none => true

/-- The records that LOG_READ returns (R526, R557): of the SEQs it names, as many as its buffer takes, those that are held. -/
def Dev.logRange (s : Dev) (c : CapRun) : List LogRec :=
  let n := min (c.param 24 4) (if c.o.management then 64 else c.bufLen / 64)
  let first := c.param 16 8
  s.log.store.filter (fun r => decide (first ≤ r.seq) && decide (r.seq < first + n) && decide (r.seq ≤ s.rd .BCP_LOG_WIDX 0)
    && s.mayReadRec c.o r)

/-- LOG_READ (R526). -/
def execLogRead (src : CapSrc) (s : State) : Outcome State Fault Refusal := s.act fun s =>
  s.capsule 0x0E04 src (.ok []) (CapDef.plain (fun s c _ =>
    let l := s.logRange c
    s.capData c ((l.head?.map (fun (r : LogRec) => r.seq)).getD 0) (l.flatMap (fun r => leBytes 64 (r.image true)))))

/-! ### REF, JNL and PWR -/

/-- BENCH_READMIT (R479): the self-test of a fenced unit. -/
def execBenchReadmit (src : CapSrc) (s : State) : Outcome State Fault Refusal := s.act fun s =>
  s.capsule 0x0F01 src (.ok [])
    { foreign := fun _ _ _ _ => false
      own := fun s c _ => if s.physState (c.param 0 3) = 2 then (0, 0, 0) else (8, 0, 0)
      run := fun s c _ => { s.setCap c c.running with ref := { s.ref with testing := s.ref.testing ++ [(c.param 0 3, s.vn)] } }
      poll := fun s _ => s }

/-- The VN of the checkpoint image in a slot; a slot that holds none has no VN the spec states, so it is a free value. -/
def Dev.ckptVn (s : Dev) (slot : Nat) : Nat × Dev :=
  match Sparse.get? s.jnl.ckpts slot with
  | some x => (x.1, s)
  | none => s.draw

/-- JNL_CKPT_READ (R500, R556, R557): bytes of a checkpoint image. -/
def execJnlCkptRead (src : CapSrc) (s : State) : Outcome State Fault Refusal := s.act fun s =>
  s.capsule 0x1001 src (.ok []) (CapDef.plain (fun s c _ =>
    let slot := c.param 12 1
    let (v, s) := s.ckptVn slot
    let (bs, s) := s.storeRead (0x02000000 + slot * 0x400000 + c.param 16 4) (c.most (c.param 20 4))
    s.capData c v bs))

/-- PWR_DORMANT (R537): acceptance is held and the entry to DORMANT begins; one that is already under way ends BUSY. -/
def execPwrDormant (src : CapSrc) (s : State) : Outcome State Fault Refusal := s.act fun s =>
  s.capsule 0x1201 src (.ok [])
    { foreign := fun _ _ _ _ => false
      own := fun s _ _ => if s.bcp.dormant.isSome then (9, 0, 0) else (0, 0, 0)
      run := fun s c _ => ({ s with bcp := { s.bcp with dormant := some (1, s.vn, c.o) } } : Dev).capReply c 0 0 0 []
      poll := fun s _ => s }

end Sys2Proof.Machine
end

