-- ==== Sys2Proof/Machine/CapKey.lean ====
section
/-! DEFINITION. The capsules of pitches, keys, security associations and storage (R382, R398, R400, R406, R414, R416, R442, R450,
R519, R556 to R558). -/

namespace Sys2Proof.Machine

open Host

/-! ### PIT (R442, R450) -/

/-- The checks of a pitch operation before it writes anything (R442, R443, R458). -/
def Dev.pitOwn (s : Dev) (op p : Nat) : Nat × Nat :=
  if s.pit.op.isSome then (9, 0)
  else if pitAllows op (s.pitState p) = false then (8, 0)
  else if op ≠ 1 ∧ op ≠ 8 ∧ s.isFrozen 9 p then (8, 1)
  else (0, 0)

/-- The PIT_CTL value of PIT_RESET: RESET_DRAIN or RESET_SQUASH of the capsule's pitch. -/
def CapRun.resetWord (c : CapRun) : Nat := pitWord (2 + c.param 12 1 % 2) (c.pitch.getD 0) 0 0

/-- A capsule starts a pitch operation. -/
def Dev.pitRun (s : Dev) (c : CapRun) (v : Nat) : Dev := (s.setCap c c.running).pitCtl c.o v

/-- PIT_RESET (R442, R519). -/
def execPitReset (src : CapSrc) (s : State) : Outcome State Fault Refusal := s.act fun s =>
  s.capsule 0x0801 src (.ok [])
    { foreign := fun _ _ _ _ => false
      own := fun s c _ => ((s.pitOwn (2 + c.param 12 1 % 2) (c.pitch.getD 0)).1, (s.pitOwn (2 + c.param 12 1 % 2) (c.pitch.getD 0)).2, 0)
      run := fun s c _ => s.pitRun c c.resetWord
      poll := fun s _ => s }

/-- PIT_OP (R442, R556). -/
def execPitOp (src : CapSrc) (s : State) : Outcome State Fault Refusal := s.act fun s =>
  s.capsule 0x0803 src (.ok [])
    { foreign := fun _ _ _ _ => false
      own := fun s c _ =>
        let v := c.param 12 8
        ((s.pitOwn (bits v 15 12) (bits v 11 0)).1, (s.pitOwn (bits v 15 12) (bits v 11 0)).2, s.rd .PIT_STATUS 0)
      run := fun s c _ => s.pitRun c (c.param 12 8)
      poll := fun s _ => s }

/-- The 176 bytes of PIT_INFO (R558). -/
def Dev.pitInfo (s : Dev) (p : Nat) : List Byte :=
  leBytes 4 (s.regView .PIT_STATE p) ++ leBytes 12 0 ++ leBytes 8 (s.rd .PIT_QUOTA (2 * p)) ++ leBytes 8 (s.rd .PIT_QUOTA (2 * p + 1))
    ++ leBytes 16 (s.pitUse p) ++ (pitCounters.map (fun r => leBytes 8 (s.regView r p))).flatten ++ leBytes 24 0

/-- PIT_INFO (R558). -/
def execPitInfo (src : CapSrc) (s : State) : Outcome State Fault Refusal := s.act fun s =>
  s.capsule 0x0802 src (.ok []) (CapDef.plain (fun s c _ =>
    let p := c.pitch.getD 0
    s.capData c (s.regView .PIT_STATE p) (s.pitInfo p)))

/-- The default initial value of RFC 3394. -/
def defaultIv : Nat := 0xA6A6A6A6A6A6A6A6

/-- What the wrapped migration key holds, or the failing status: no KEK, or a failed unwrap (R450). -/
def Dev.migUnwrap (s : Dev) (b : Fetch) : Except Nat (List Byte) :=
  match s.cry.kek with
  | none => .error 0x409
  | some k => match Config.keyUnwrap k defaultIv b.bytes with
    | some bs => .ok bs
    | none => .error 0x408

/-- The status of an unwrap. -/
def unwrapCode : Except Nat (List Byte) → Nat × Nat × Nat
  | .error st => (st, 0, 0)
  | .ok _ => (0, 0, 0)

/-- The migration key is loaded. -/
def Dev.migLoad (s : Dev) (c : CapRun) (b : Fetch) : Dev :=
  match s.migUnwrap b with
  | .ok bs => ({ s with cry := { s.cry with migKey := some (leNat (bs.take 32)) } }.wr .PIT_MIGKEY_STATUS 0 1).capReply c 0 0 0 []
  | .error st => s.capReply c st 0 0 []

/-- PIT_MIGKEY_LOAD (R450). -/
def execPitMigkeyLoad (src : CapSrc) (buf : Fetch) (s : State) : Outcome State Fault Refusal := s.act fun s =>
  s.capsule 0x0804 src buf
    { foreign := fun _ _ _ _ => false, own := fun s _ b => unwrapCode (s.migUnwrap b), run := Dev.migLoad, poll := fun s _ => s }

/-! ### The KEK (R400, R406) -/

/-- What the buffer of CRY_KEK_LOAD holds, or the failing status. -/
def Dev.kekUnwrap (s : Dev) (b : Fetch) : Except Nat (List Byte) :=
  if s.cry.kek.isSome then .error 0x40B
  else match Config.keyUnwrap (Config.kekWrappingKey (b.bytes.take 97)) defaultIv ((b.bytes.drop 100).take 40) with
    | some bs => .ok bs
    | none => .error 0x408

/-- The KEK is loaded. An alarm bit clears unless its source trips now (R406). -/
def Dev.kekLoad (s : Dev) (c : CapRun) (b : Fetch) (tripping : Nat) : Dev :=
  match s.kekUnwrap b with
  | .ok bs =>
    let s := { s with cry := { s.cry with kek := some (leNat (bs.take 32)) } }.wr .CRY_KEK_STATUS 0 1
    let s := s.setFld .CRY_ALARM_STATUS 0 4 0 (s.fld .CRY_ALARM_STATUS 0 4 0 &&& tripping)
    s.capReply c 0 0 0 []
  | .error st => s.capReply c st 0 0 []

/-- CRY_KEK_LOAD (R400, R406): `tripping` holds the alarm sources that trip as the load completes. -/
def execCryKekLoad (src : CapSrc) (buf : Fetch) (tripping : Nat) (s : State) : Outcome State Fault Refusal := s.act fun s =>
  s.capsule 0x0B01 src buf
    { foreign := fun _ _ _ _ => false, own := fun s _ b => unwrapCode (s.kekUnwrap b)
      run := fun s c b => s.kekLoad c b tripping, poll := fun s _ => s }

/-- CRY_KEK_ERASE (R400): the KEK goes; the slots stay loaded. -/
def execCryKekErase (src : CapSrc) (s : State) : Outcome State Fault Refusal := s.act fun s =>
  s.capsule 0x0B02 src (.ok []) (CapDef.plain (fun s c _ =>
    ({ s with cry := { s.cry with kek := none } }.wr .CRY_KEK_STATUS 0 0).capReply c 0 0 0 []))

/-! ### Key slots through the Key Port (R397, R398, R558) -/

/-- The status of a Key Port RESULT. -/
def keyCode : Nat → Nat
  | 0 => 0 | 1 => 0x406 | 2 => 0x407 | 3 => 0x408 | 4 => 0x409 | _ => 0xA

/-- A slot of a tenant: its own. -/
def Dev.hasSlot (s : Dev) (p i : Nat) : Bool := s.slotOwner i = some p

/-- A slot out of range is BAD_SLOT. -/
def slotOwn (c : CapRun) : Nat × Nat × Nat := if c.param 12 4 < 262144 then (0, 0, 0) else (0x406, 0, 0)

/-- A capsule acquires the Key Port and starts its operation; while another origin holds the port it waits, and after 25,000 volleys it
ends BUSY. -/
def Dev.keyCapsule (s : Dev) (c : CapRun) (v : Nat) (data : List Byte) : Dev :=
  let (g, s) := s.keyLock .basecamp
  if bit g 0 ∧ s.cry.op.isNone then
    let s := if data.isEmpty then s else s.putKeyData data
    (s.setCap c c.running).keyCtl .basecamp v
  else if c.start + 25000 ≤ s.vn then s.capReply c 9 0 0 [] else s

/-- The operation of a capsule on the Key Port has ended: the port is released, and the capsule ends with RESULT. -/
def Dev.keyCapPoll (s : Dev) (c : CapRun) : Dev :=
  if s.cry.op.isSome then s
  else
    let r := s.fld .CRY_KEYPORT_STATUS 0 7 4
    let s := if s.holds .basecamp then s.keyRelease .basecamp else s
    s.capReply c (keyCode r) 0 0 []

/-- The CRY_KEYPORT_CTL value of CRY_KEY_LOAD. -/
def CapRun.loadWord (c : CapRun) : Nat :=
  keyCtlWord 1 (c.param 12 4) (c.param 16 1) (c.param 18 2 % 4096) (bit (c.param 18 2) 15) 0

/-- CRY_KEY_LOAD names a resource of another pitch (R519, R557): an OWNER that is not the tenant's, or a slot of another. -/
def Dev.loadForeign (s : Dev) (p : Nat) (c : CapRun) : Bool :=
  c.param 18 2 ≠ p + 2 ^ 15 || (s.slotType (c.param 12 4) ≠ 0 && !s.hasSlot p (c.param 12 4))

/-- CRY_KEY_LOAD (R398, R519, R558). -/
def execCryKeyLoad (src : CapSrc) (buf : Fetch) (s : State) : Outcome State Fault Refusal := s.act fun s =>
  s.capsule 0x0B03 src buf
    { foreign := fun s p c _ => s.loadForeign p c, own := fun _ c _ => slotOwn c
      run := fun s c b => s.keyCapsule c c.loadWord b.bytes, poll := Dev.keyCapPoll }

/-- CRY_KEY_ERASE (R398, R519, R558). -/
def execCryKeyErase (src : CapSrc) (s : State) : Outcome State Fault Refusal := s.act fun s =>
  s.capsule 0x0B04 src (.ok [])
    { foreign := fun s p c _ => !s.hasSlot p (c.param 12 4), own := fun _ c _ => slotOwn c
      run := fun s c _ => s.keyCapsule c (keyCtlWord 2 (c.param 12 4) 0 0 false 0) [], poll := Dev.keyCapPoll }

/-! ### SAs (R382) -/

/-- The status of CRY_SA_ACC_STATUS: RESULT and DETAIL. -/
def saCode (r : Nat) : Nat × Nat :=
  match r % 16 with
  | 0 => (0, 0) | 1 => (0xC, 0) | 2 => (0x102, bits r 15 8) | _ => (0xA, 0)

/-- CRY_SA_WRITE's own checks. -/
def Dev.saOwn (s : Dev) (c : CapRun) (b : Fetch) : Nat × Nat × Nat :=
  if c.param 12 4 < 262144 then
    let r := (s.saWrite (c.param 12 4) (leNat b.bytes)).2
    ((saCode r).1, (saCode r).2, 0)
  else (0xC, 0, 0)

/-- CRY_SA_WRITE names a resource of another pitch (R519). -/
def Dev.saForeign (s : Dev) (p : Nat) (c : CapRun) (b : Fetch) : Bool :=
  let v := leNat b.bytes
  let old := s.sa (c.param 12 4)
  (bit old 27 && decide (saOwner old ≠ some p))
    || (match b with | .ok _ => decide (saOwner v ≠ some p) || !s.hasSlot p (saSlot v) | .fail _ => false)

/-- Basecamp writes the image and CRY_SA_ACC_CTL. -/
def Dev.saRun (s : Dev) (c : CapRun) (b : Fetch) : Dev :=
  let v := leNat b.bytes
  let s := forEach (List.range 8) s (fun s w => s.wr .CRY_SA_ACC_DATA w (bits v (64 * w + 63) (64 * w)))
  let s := s.saAcc .basecamp (c.param 12 4 + 2 ^ 19)
  let r := s.rd .CRY_SA_ACC_STATUS 0
  s.capReply c (saCode r).1 (saCode r).2 0 []

/-- CRY_SA_WRITE (R382, R519). -/
def execCrySaWrite (src : CapSrc) (buf : Fetch) (s : State) : Outcome State Fault Refusal := s.act fun s =>
  s.capsule 0x0B05 src buf { foreign := Dev.saForeign, own := Dev.saOwn, run := Dev.saRun, poll := fun s _ => s }

/-! ### Connections and namespaces (R414, R416) -/

/-- The status of a RESULT of STX_ACC_STATUS: 0 OK, 1 BUSY, 2 BAD_INDEX, 3 BAD_STATE, 4 INCONSISTENT, 5 REFUSED, 6 DUPLICATE. -/
def stxCode : Nat → Nat
  | 0 => 0 | 1 => 9 | 2 => 0xC | 3 => 8 | 4 => 0x102 | 5 => 0xA | _ => 0x108

/-- STX_CONN_INSTALL's own checks. -/
def Dev.installOwn (s : Dev) (c : CapRun) (b : Fetch) : Nat × Nat × Nat :=
  if s.stx.removing.isSome then (9, 0, 0)
  else
    let r := (s.connInstall (c.param 12 2) (leNat b.bytes)).2
    (stxCode r.2, r.1, 0)

/-- A connection in use belongs to another pitch. -/
def Dev.connForeign (s : Dev) (p i : Nat) : Bool := connState (s.conn i).img ≠ 0 && decide ((s.conn i).owner ≠ p)

/-- OWNER of a connection image. -/
def imageOwner (v : Nat) : Nat := ({ Conn.blank with img := v } : Conn).owner

/-- Basecamp writes STX_ACC_DATA and STX_ACC_CTL, and the capsule ends with what STX_ACC_STATUS says. -/
def Dev.stxRun (s : Dev) (c : CapRun) (data word : Nat) : Dev :=
  let s := (s.putStxData data).stxAcc .basecamp word
  let r := s.rd .STX_ACC_STATUS 0
  s.capReply c (stxCode (r % 16)) (bits r 15 8) 0 []

/-- STX_CONN_INSTALL (R414, R519). -/
def execStxConnInstall (src : CapSrc) (buf : Fetch) (s : State) : Outcome State Fault Refusal := s.act fun s =>
  s.capsule 0x0C01 src buf
    { foreign := fun s p c b => s.connForeign p (c.param 12 2)
        || (match b with | .ok bs => decide (imageOwner (leNat bs) ≠ p) | .fail _ => false)
      own := Dev.installOwn
      run := fun s c b => s.stxRun c (leNat b.bytes) (c.param 12 2 + 2 * 2 ^ 17)
      poll := fun s _ => s }

/-- STX_CONN_REMOVE (R414, R519): it ends, with the image, once the connection's last item has completed. -/
def execStxConnRemove (src : CapSrc) (s : State) : Outcome State Fault Refusal := s.act fun s =>
  s.capsule 0x0C02 src (.ok [])
    { foreign := fun s p c _ => connState (s.conn (c.param 12 2)).img = 0 || s.connForeign p (c.param 12 2)
      own := fun s c _ => if s.stx.removing.isSome then (9, 0, 0) else if connState (s.conn (c.param 12 2)).img = 0 then (8, 0, 0) else (0, 0, 0)
      run := fun s c _ => (s.setCap c c.running).stxAcc .basecamp (c.param 12 2 + 3 * 2 ^ 17)
      poll := fun s _ => s }

/-- The namespace image of STX_NS_WRITE. -/
def CapRun.nsImage (c : CapRun) : Nat := c.param 16 16

/-- STX_NS_WRITE's own checks. -/
def Dev.nsOwn (s : Dev) (c : CapRun) : Nat × Nat × Nat :=
  if s.stx.removing.isSome then (9, 0, 0)
  else if 4096 ≤ c.param 12 2 then (0xC, 0, 0)
  else match (s.nsWrite (c.param 12 2) c.nsImage).2 with
    | 0 => (0, 0, 0)
    | k => (0x102, k, 0)

/-- STX_NS_WRITE names a resource of another pitch (R519): an entry or an OWNER that is not the tenant's, or a key slot of another. -/
def Dev.nsForeign (s : Dev) (p : Nat) (c : CapRun) : Bool :=
  let old := s.ns (c.param 12 2)
  (bit old 53 && decide (bits old 43 32 ≠ p)) || decide (bits c.nsImage 43 32 ≠ p)
    || (bit c.nsImage 53 && bit c.nsImage 52 && !s.hasSlot p (bits c.nsImage 81 64))

/-- STX_NS_WRITE (R416, R519). -/
def execStxNsWrite (src : CapSrc) (s : State) : Outcome State Fault Refusal := s.act fun s =>
  s.capsule 0x0C03 src (.ok [])
    { foreign := fun s p c _ => s.nsForeign p c, own := fun s c _ => s.nsOwn c
      run := fun s c _ => s.stxRun c c.nsImage (c.param 12 2 + 2 ^ 16 + 2 * 2 ^ 17), poll := fun s _ => s }

end Sys2Proof.Machine
end

