-- ==== Sys2Proof/Machine/HostReq.lean ====
section
/-! DEFINITION. The requests that a host sends to the function of a link (R295 to R298, R305, R313): the configuration space, reads and
writes of the three BARs, and the reads of log FIFOs (R10). -/

namespace Sys2Proof.Machine

open Host

/-! ### The configuration space (R295, R296) -/

/-- The Subsystem Vendor ID and, above it, the Subsystem ID (R295): those of the board record in flash, 0xE7A5 and 0x0000 when it is
blank. -/
def Dev.subsystem (s : Dev) : Nat :=
  let b := s.flashRead 0x20000 65536
  if b.all (fun x => x == 0xFF) then 0xE7A5 else Config.boardIds b % 2 ^ 32

/-- What word `dw` of a link's configuration space reads (R295, R296, R313): the words whose value is a view, and the registers. -/
def Dev.cfgRead (s : Dev) (k dw : Nat) : Nat :=
  let v := s.rd .HIF_CFG (1024 * k + dw)
  match dw with
  | 11 => s.subsystem
  | 23 => putBits v 9 4 (if s.fld .HIF_LINK_STATUS k 1 1 = 1 then 8 else 16)
  | 24 => putBits (putBits v 19 16 (s.fld .HIF_LINK_STATUS k 7 4)) 25 20 (s.fld .HIF_LINK_STATUS k 16 12)
  | 36 => putBits v 28 16 (s.vectors k - 1)
  | 83 => Config.serial % 2 ^ 32
  | 84 => Config.serial / 2 ^ 32
  | 171 => putBits v 3 3 (b2n (s.linkCfg k).l0p)
  | _ => v

/-- A configuration write of the bits `m` of word `dw`: RW bits take the value, RW1C bits clear. Initiate Function Level Reset starts a
function reset (R296, R494); the MSI-X enable and Function Mask may let pending vectors go (R313). -/
def Dev.cfgWrite (s : Dev) (k dw v m : Nat) : Dev :=
  let old := s.rd .HIF_CFG (1024 * k + dw)
  let s := s.wr .HIF_CFG (1024 * k + dw) (mixBits old v (cfgRw dw &&& m) &&& (2 ^ 32 - 1 - (cfgW1c dw &&& v &&& m)))
  if dw = 22 ∧ bit (v &&& m) 15 then (if s.awake then s.takeReset .device (some k) else s)
  else if dw = 36 then s.msixOpenAll k else s

/-- The bits of a word that `n` bytes from byte `b` on cover. -/
def byteMask (b n : Nat) : Nat := (2 ^ (8 * n) - 1) * 2 ^ (8 * b) % 2 ^ 32

/-- A configuration request at byte `addr` (R295, R296). -/
def Dev.cfgRequest (s : Dev) (k addr len : Nat) (write : Bool) (data : List Byte) : Dev :=
  let dw := addr % 4096 / 4
  let b := addr % 4
  if write then (s.cfgWrite k dw (leNat data * 2 ^ (8 * b)) (byteMask b data.length)).sendOnLink k (.hostCpl k true [])
  else s.sendOnLink k (.hostCpl k true (leBytes len (s.cfgRead k dw / 2 ^ (8 * b))))

/-! ### The BARs (R297, R298) -/

/-- A request to BAR0 (R298): an access of 4 or 8 naturally aligned bytes; any other read completes with Unsupported Request. -/
def Dev.controlRequest (s : Dev) (k addr len : Nat) (write : Bool) (data : List Byte) : Dev :=
  if write then s.bar0Write k addr data.length (leNat data)
  else if regForm addr len = false then (s.bump .HIF_BAD_ACCESS k).unsupported k
  else
    let (v, s) := s.busRead (.bar0 k) addr len
    s.sendOnLink k (.hostCpl k true (leBytes len v))

/-- A request to BAR2 (R298, R322): a read returns 0; a write goes to the doorbells of its page. -/
def Dev.pageRequest (s : Dev) (k addr len : Nat) (write : Bool) (data : List Byte) : Dev :=
  if write = false then s.sendOnLink k (.hostCpl k true (List.replicate len 0))
  else if addr % 4096 = 8 then s.pageCpl k (addr / 4096) 8 data.length (leNat data)
  else s.pageWork k (addr / 4096) (addr % 4096) data.length (leNat data)

/-- The size of what a request may reach (R297). -/
def HostSpace.size : HostSpace → Nat
  | .bar0 => 2 ^ 26 | .bar2 => 2 ^ 24 | .bar4 => 2 ^ 36 | .cfg => 2 ^ 12

/-- Parity errors found in Pitch Map and Window entries freeze them at once (R159). -/
def Dev.parityFreeze (s : Dev) (parity : List (Nat × Nat)) : Dev :=
  forEach (parity.filter (fun e => (e.1 = 9 && decide (e.2 < 4096)) || (e.1 = 10 && decide (e.2 < 256)))) s (fun s e => s.freeze e.1 e.2)

/-- A request of a host on a link. -/
def Dev.hostRequest (s : Dev) (space : HostSpace) (k addr len : Nat) (pasid : Option Nat) (write atomic : Bool) (data : List Byte)
    (span : Nat) : Dev :=
  let s := s.useLink k
  if space.size < addr + max 1 (if write then data.length else len) then s.barUR k write
  else match space with
    | .bar4 => s.winRequest k addr len pasid write atomic data span
    | .bar0 => if atomic then (s.bump .HIF_BAD_ACCESS k).unsupported k else s.controlRequest k addr len write data
    | .bar2 => if atomic then s.unsupported k else s.pageRequest k addr len write data
    | .cfg => s.cfgRequest k addr len write data

/-- BAR4_REQUEST (R297, R298, R305, R306, R308): a host request on a link, to BAR4 or to another space of its function, for which the
table has no row of its own (DESIGN CHOICE, log entry 140). `data` is what a write carries, `len` what a read asks for; `atomic` marks an
atomic operation, `span` the volleys until its last byte is written or its last completion sent, and `parity` the Pitch Map and Window
entries (table, index) in which its lookups find a parity error. -/
def execBar4Request (space : HostSpace) (link addr len : Nat) (pasid : Option Nat) (write atomic : Bool) (data : List Byte) (span : Nat)
    (parity : List (Nat × Nat)) (s : State) : Outcome State Fault Refusal := s.act fun s =>
  if 4 ≤ link then .fault .noSuchObject
  else if s.hears (.bar2 link 0) = false then .next s
  else .next ((s.parityFreeze parity).hostRequest space link addr len pasid write atomic data span)

/-- MSIX_UNMASK (R313): the host clears the mask bit of a vector, a write of BAR0; with its seal a pending vector sends its message. -/
def execMsixUnmask (link vector : Nat) (s : State) : Outcome State Fault Refusal := s.act fun s =>
  if 4 ≤ link ∨ 8192 ≤ vector then .fault .noSuchObject
  else if s.hears (.bar0 link) = false then .next s
  else .next (s.bar0Write link (0x110000C + 0x40000 * link + 16 * vector) 4 0)

/-! ### Reads of log FIFOs (R10) -/

/-- A read of a log FIFO by host admin on a link: the head is returned and removed; an empty FIFO reads 0. -/
def Dev.logRead (s : Dev) (link : Nat) (r : Reg) (i : Nat) : Dev :=
  if s.hears (.bar0 link) = false then s
  else
    let (v, s) := s.regReadBy (.bar0 link) r i
    s.readReply (.bar0 link) 8 v

/-- A log read names a link. -/
def State.logAt (s : State) (link : Nat) (r : Reg) (i : Nat) : Outcome State Fault Refusal := s.act fun s =>
  if 4 ≤ link then .fault .noSuchObject else .next (s.logRead link r i)

/-- TBL_PARITY_LOG_READ (R161). -/
def execTblParityLogRead (link : Nat) (s : State) : Outcome State Fault Refusal := s.logAt link .TBL_PARITY_LOG 0
/-- TBL_FROZEN_LOG_READ (R161). -/
def execTblFrozenLogRead (link : Nat) (s : State) : Outcome State Fault Refusal := s.logAt link .TBL_FROZEN_LOG 0
/-- RNG_ERR_LOG_READ (R359). -/
def execRngErrLogRead (link : Nat) (s : State) : Outcome State Fault Refusal := s.logAt link .RNG_ERR_LOG 0
/-- STX_CONN_LOG_READ (R433). -/
def execStxConnLogRead (link : Nat) (s : State) : Outcome State Fault Refusal := s.logAt link .STX_CONN_LOG 0
/-- BCP_EVENT_LOG_READ (R530). -/
def execBcpEventLogRead (link : Nat) (s : State) : Outcome State Fault Refusal := s.logAt link .BCP_EVENT_LOG 0
/-- DMA_HALT_LOG_READ (R377). -/
def execDmaHaltLogRead (link inst : Nat) (s : State) : Outcome State Fault Refusal :=
  if 9 ≤ inst then .fault .noSuchObject else s.logAt link .DMA_HALT_LOG inst

end Sys2Proof.Machine
end

