-- ==== Sys2Proof/Machine/Mgmt.lean ====
section
/-! DEFINITION. The management messages: SPDM (R408), MCTP control and PLDM sensor reads (R521), and NC-SI (R522). The layouts of
the standards are not in the spec: a reply is Config.standardReply of the request and of what the device reports in it (log entry
45). -/

namespace Sys2Proof.Machine

open Host

/-- A reply of bytes. -/
def Dev.replyBytes (s : Dev) (code : Nat) (bs : List Byte) : Dev := s.emit (.reply code (bs.map (fun (b : Byte) => b.toNat)))

/-- Basecamp answers at all: it is powered, and a power failure has not halted it (R502, R520). -/
def Dev.mgmtUp (s : Dev) : Bool := s.awake && decide (s.jnl.fail < 4)

/-- The command of a management path: no answer while it is not served, NOT_READY while Basecamp does not run (R511, R520). -/
def Dev.managed (s : Dev) (run : Dev → Dev) : Dev :=
  if s.mgmtUp = false then s else if s.bcpRuns then run s else s.replyBytes 0xB []

/-! ### SPDM (R408) -/

/-- A message reaches Basecamp: over a link, its link is up. The Data Object Exchange has no NOT_READY: a request waits there. -/
def Dev.message (s : Dev) (p : MsgPath) (run : Dev → Dev) : Outcome Dev Fault Refusal :=
  match p with
  | .doe k => if 4 ≤ k then .fault .noSuchObject else .next (if s.linkUp k && s.bcpRuns then s.managed run else s)
  | .vdm k _ => if 4 ≤ k then .fault .noSuchObject else .next (if s.linkUp k then s.managed run else s)
  | .smbus _ => .next (s.managed run)

/-- An SPDM answer: the request code, the request, and what is reported. -/
def Dev.spdm (s : Dev) (code : Nat) (req : List Byte) (reports : List (List Byte)) : Dev :=
  s.replyBytes 0 (Config.standardReply 5 code req reports)

/-- A signed SPDM answer: a nonce, the reports, and the device's signature over the request, the nonce and the reports. -/
def Dev.spdmSigned (s : Dev) (code : Nat) (req : List Byte) (reports : List (List Byte)) : Dev :=
  let (n, s) := s.draw
  let nonce := leBytes 32 n
  s.spdm code req (nonce :: Config.signature (req ++ nonce ++ reports.flatten) :: reports)

/-- GET_VERSION (R408): versions 1.2 and 1.3. -/
def execGetVersion (p : MsgPath) (req : List Byte) (s : State) : Outcome State Fault Refusal := s.act fun s =>
  s.message p (fun s => s.spdm 0x84 req [[0x12], [0x13]])

/-- GET_CAPABILITIES (R408): certificates, challenges and signed measurements, and no sessions. -/
def execGetCapabilities (p : MsgPath) (req : List Byte) (s : State) : Outcome State Fault Refusal := s.act fun s =>
  s.message p (fun s => s.spdm 0xE1 req [])

/-- NEGOTIATE_ALGORITHMS (R408): ECDSA P-384 and SHA-384. -/
def execNegotiateAlgorithms (p : MsgPath) (req : List Byte) (s : State) : Outcome State Fault Refusal := s.act fun s =>
  s.message p (fun s => s.spdm 0xE3 req [])

/-- GET_DIGESTS (R408): the digest of the chain of slot 0. -/
def execGetDigests (p : MsgPath) (req : List Byte) (s : State) : Outcome State Fault Refusal := s.act fun s =>
  s.message p (fun s => s.spdm 0x81 req [Config.sha384 Config.certChain])

/-- GET_CERTIFICATE (R408): the chain of slot 0. -/
def execGetCertificate (p : MsgPath) (req : List Byte) (s : State) : Outcome State Fault Refusal := s.act fun s =>
  s.message p (fun s => s.spdm 0x82 req [Config.certChain])

/-- CHALLENGE (R408). -/
def execChallenge (p : MsgPath) (req : List Byte) (s : State) : Outcome State Fault Refusal := s.act fun s =>
  s.message p (fun s => s.spdmSigned 0x83 req [Config.sha384 Config.certChain])

/-- A measurement (R408): 1 the boot ROM, 2 the running Basecamp image, 3 the Trim Set, 4 + c the image loaded in cluster c. -/
def Dev.measurement (s : Dev) (i : Nat) : Option (List Byte) :=
  if i = 1 then some Config.bootRomDigest
  else if i = 2 then some ((s.runningHead.drop 0x30).take 48)
  else if i = 3 then some (Config.sha384 s.trimStored)
  else if 4 ≤ i ∧ i < 12 then (Sparse.get? s.bcp.images (i - 3)).map (fun (h : List Byte) => (h.drop 0x30).take 48)
  else none

/-- The measurements a request names (DSP0274): 0xFF all, else the one of that index; each with its index in front. -/
def Dev.measured (s : Dev) (i : Nat) : List (List Byte) :=
  (List.range 12).filterMap (fun j =>
    if i = 0xFF ∨ i = j then (s.measurement j).map (fun d => BitVec.ofNat 8 j :: d) else none)

/-- GET_MEASUREMENTS (R408): `index` is the measurement operation of the request. -/
def execGetMeasurements (p : MsgPath) (index : Nat) (req : List Byte) (s : State) : Outcome State Fault Refusal := s.act fun s =>
  s.message p (fun s => s.spdmSigned 0xE0 req (s.measured index))

/-! ### MCTP control and sensors (R521) -/

/-- MCTP_CONTROL (R521): answered by DSP0236; what its answer says of the endpoint is a free value. -/
def execMctpControl (p : MsgPath) (req : List Byte) (s : State) : Outcome State Fault Refusal := s.act fun s =>
  s.message p (fun s =>
    let (n, s) := s.draw
    s.replyBytes 0 (Config.standardReply 0 0 req [leBytes 8 n]))

/-- PLDM_SENSOR_READ (R521): a type 2 read of BCP_SENSOR. -/
def execPldmSensorRead (p : MsgPath) (sensor : Nat) (s : State) : Outcome State Fault Refusal := s.act fun s =>
  if 104 ≤ sensor then .fault .noSuchObject
  else s.message p (fun s => s.replyBytes 0 (leBytes 4 (s.rd .BCP_SENSOR sensor)))

/-! ### NC-SI (R522) -/

/-- A command to the package, and to one of its channels where it names one; another package's commands are not for the device. -/
def Dev.ncsi (s : Dev) (pkg channel : Nat) (run : Dev → Dev) : Outcome Dev Fault Refusal :=
  if 31 ≤ channel then .fault .noSuchObject
  else .next (if pkg = s.bcp.pkg then s.managed run else s)

/-- NC-SI's Command Unsupported (DSP0222). -/
def ncsiUnsupported : Nat := 3

/-- NCSI_COMMAND (R522): a required command without a row of its own is supported, for a channel or, with channel 0x1F, for the
package; DSP0222 gives its answer. -/
def execNcsiCommand (pkg channel cmd : Nat) (req : List Byte) (s : State) : Outcome State Fault Refusal := s.act fun s =>
  if 32 ≤ channel then .fault .noSuchObject
  else .next (if pkg = s.bcp.pkg then s.managed (fun s =>
    let (n, s) := s.draw
    s.replyBytes 0 (Config.standardReply 0x100 cmd req [leBytes 8 n])) else s)

/-- GET_LINK_STATUS (R522): WIRE_PORT_STATUS of the channel's port. -/
def execGetLinkStatus (pkg channel : Nat) (s : State) : Outcome State Fault Refusal := s.act fun s =>
  s.ncsi pkg channel (fun s =>
    let (v, s) := s.read4 (.ncsi channel) (Reg.WIRE_PORT_STATUS.bar0 channel)
    s.replyBytes 0 (leBytes 4 v))

/-- NCSI_GET_CAPABILITIES (R522): no pass-through filters, neither unicast, mixed, multicast nor VLAN. -/
def execNcsiGetCapabilities (pkg channel : Nat) (s : State) : Outcome State Fault Refusal := s.act fun s =>
  s.ncsi pkg channel (fun s => s.replyBytes 0 (leBytes 4 0))

/-- ENABLE_CHANNEL_NETWORK_TX (R522): Command Unsupported. -/
def execEnableChannelNetworkTx (pkg channel : Nat) (s : State) : Outcome State Fault Refusal := s.act fun s =>
  s.ncsi pkg channel (fun s => s.replyBytes ncsiUnsupported [])

/-- The capsule of a message, carried out by its opcode. -/
def carried (src : CapSrc) (buf : Fetch) (left : Nat) (tripping : Nat) (op : Nat) (s : State) : Outcome State Fault Refusal :=
  if op = 0x0002 then execSiteInfo src s else if op = 0x0003 then execSiteRegRead src s
  else if op = 0x0004 then execSiteRegWrite src left s else if op = 0x0101 then execCalWrite src buf s
  else if op = 0x0102 then execCalRead src s else if op = 0x0701 then execDorLoad src buf s
  else if op = 0x0702 then execDorThreadAct src s else if op = 0x0801 then execPitReset src s
  else if op = 0x0802 then execPitInfo src s else if op = 0x0803 then execPitOp src s
  else if op = 0x0804 then execPitMigkeyLoad src buf s else if op = 0x0B01 then execCryKekLoad src buf tripping s
  else if op = 0x0B02 then execCryKekErase src s else if op = 0x0B03 then execCryKeyLoad src buf s
  else if op = 0x0B04 then execCryKeyErase src s else if op = 0x0B05 then execCrySaWrite src buf s
  else if op = 0x0C01 then execStxConnInstall src buf s else if op = 0x0C02 then execStxConnRemove src s
  else if op = 0x0C03 then execStxNsWrite src s else if op = 0x0E01 then execBcpReboot src s
  else if op = 0x0E02 then execBcpImgkeySet src buf s else if op = 0x0E03 then execBcpSvnCommit src s
  else if op = 0x0E04 then execLogRead src s else if op = 0x0F01 then execBenchReadmit src s
  else if op = 0x1001 then execJnlCkptRead src s else if op = 0x1201 then execPwrDormant src s
  else execSetMode src s

/-- OEM_COMMAND (R522): with Hausk Volam's Manufacturer ID it carries a capsule and its inline buffer. -/
def execOemCommand (pkg channel mfr word : Nat) (buf : List Byte) (left : Nat) (tripping : Nat) (s : State) :
    Outcome State Fault Refusal :=
  if 31 ≤ channel then .fault .noSuchObject
  else if pkg ≠ s.dev.bcp.pkg then .next s
  else if mfr ≠ 0xE7A5 then s.act fun s => .next (s.managed (fun s => s.replyBytes ncsiUnsupported []))
  else carried (.path (.ncsi channel) word) (.ok buf) left tripping (word % 2 ^ 16) s

end Sys2Proof.Machine
end

