-- ==== Sys2Proof/Machine/Pldm.lean ====
section
/-! DEFINITION. Firmware update over PLDM (R534, R535). The order of its commands and its completion codes are those of DSP0267
(PRESUMED, log entry 46). RequestUpdate, ApplyComplete and ActivateFirmware take effect when their row is issued again after their
record is sealed. -/

namespace Sys2Proof.Machine

open Host

/-- The completion codes of DSP0267: not in update mode, already in update mode, data out of range, invalid transfer length,
invalid state for the command, unable to initiate an update. -/
def pldmIdle : Nat := 0x80
/-- ALREADY_IN_UPDATE_MODE. -/
def pldmBusy : Nat := 0x81
/-- INVALID_TRANSFER_LENGTH. -/
def pldmLength : Nat := 0x83
/-- INVALID_STATE_FOR_COMMAND. -/
def pldmState : Nat := 0x84
/-- UNABLE_TO_INITIATE_UPDATE. -/
def pldmUnable : Nat := 0x8A

/-- The MCTP origin of a message. -/
def MsgPath.origin : MsgPath → Origin
  | .doe k => .mctpVdm k 0
  | .smbus e => .mctpSmbus e
  | .vdm k e => .mctpVdm k e

/-- A PLDM command reaches Basecamp over MCTP; the Data Object Exchange carries SPDM only. -/
def Dev.pldm (s : Dev) (p : MsgPath) (run : Dev → Dev) : Outcome Dev Fault Refusal :=
  match p with
  | .doe k => if 4 ≤ k then .fault .noSuchObject else .next s
  | _ => s.message p run

/-- Put an update in place. -/
def Dev.setUpd (s : Dev) (u : Option Upd) : Dev := { s with bcp := { s.bcp with upd := u } }

/-- The stage of the update, 0 when none runs. -/
def Dev.updStage (s : Dev) : Nat := (s.bcp.upd.map Upd.stage).getD 0

/-- The first byte of the slot that is not active (R531). -/
def Dev.spareSlot (s : Dev) : Nat := 0x100000 + (1 - s.bcp.active) * 0x1000000

/-- A command that runs in one stage of an update. -/
def Dev.inStage (s : Dev) (ok : Nat → Bool) (run : Dev → Upd → Dev) : Dev :=
  match s.bcp.upd with
  | none => s.replyBytes pldmIdle []
  | some u => if ok u.stage then run s u else s.replyBytes pldmState []

/-- A command whose record must be sealed before it takes effect (R523, R534): raise the record first, then run. -/
def Dev.recorded (s : Dev) (p : MsgPath) (cmd : Nat) (u : Upd) (run : Dev → Dev) : Dev :=
  if 2 ≤ s.jnl.fail then s
  else match u.recNo with
    | none =>
      (s.setUpd (some { u with recNo := some s.log.nextId })).logOrd (mkRec p.origin 2 (unitId 0x0E 0xFF 0xFF) 0 none u.size cmd) none
    | some n => if s.isSealed n then run s else s

/-- QUERY_DEVICE_IDENTIFIERS (R534): the PCI vendor of the messages, 0xE7A5. -/
def execQueryDeviceIdentifiers (p : MsgPath) (s : State) : Outcome State Fault Refusal := s.act fun s =>
  s.pldm p (fun s => s.replyBytes 0 (Config.standardReply 1 1 [] [leBytes 2 0xE7A5]))

/-- GET_FIRMWARE_PARAMETERS (R532, R534): one component, classification 0x000A and identifier 0x0001, and its running version. -/
def execGetFirmwareParameters (p : MsgPath) (s : State) : Outcome State Fault Refusal := s.act fun s =>
  s.pldm p (fun s => s.replyBytes 0
    (Config.standardReply 1 2 [] [leBytes 2 0xA, leBytes 2 1, (s.runningHead.drop 8).take 4]))

/-- REQUEST_UPDATE (R534): refused in LOCKDOWN and while another update runs. -/
def execRequestUpdate (p : MsgPath) (s : State) : Outcome State Fault Refusal := s.act fun s =>
  s.pldm p (fun s =>
    if s.mode = .lockdown then s.replyBytes pldmUnable []
    else match s.bcp.upd with
      | none => s.recorded p 0x10 ⟨0, 0, 0, none⟩ id
      | some u => if u.stage = 0 then s.recorded p 0x10 u (fun s => (s.setUpd (some ⟨1, 0, 0, none⟩)).replyBytes 0 [])
        else s.replyBytes pldmBusy [])

/-- PASS_COMPONENT_TABLE (R534). -/
def execPassComponentTable (p : MsgPath) (s : State) : Outcome State Fault Refusal := s.act fun s =>
  s.pldm p (fun s => s.inStage (fun n => n = 1) (fun s u => (s.setUpd (some { u with stage := 2 })).replyBytes 0 []))

/-- UPDATE_COMPONENT (R534): the image of the one component, `size` bytes, is about to be transferred. -/
def execUpdateComponent (p : MsgPath) (size : Nat) (s : State) : Outcome State Fault Refusal := s.act fun s =>
  s.pldm p (fun s => s.inStage (fun n => n = 2) (fun s _ => (s.setUpd (some ⟨3, size, 0, none⟩)).replyBytes 0 []))

/-- The bytes of a chunk that lie within the image and within its slot (R531). -/
def chunkRoom (u : Upd) (data : List Byte) : List Byte := data.take (min (u.size - u.got) (0x1000000 - u.got))

/-- REQUEST_FIRMWARE_DATA (R534): a chunk of 256 to 4,096 bytes goes into the slot that is not active. -/
def execRequestFirmwareData (p : MsgPath) (data : List Byte) (s : State) : Outcome State Fault Refusal := s.act fun s =>
  s.pldm p (fun s => s.inStage (fun n => n = 3) (fun s u =>
    if data.length < 256 ∨ 4096 < data.length then s.replyBytes pldmLength []
    else if 2 ≤ s.jnl.fail then s
    else
      let bs := chunkRoom u data
      ((s.flashWrite (s.spareSlot + u.got) bs).setUpd (some { u with got := u.got + bs.length })).replyBytes 0 []))

/-- TRANSFER_COMPLETE (R534): the whole image has been transferred. -/
def execTransferComplete (p : MsgPath) (s : State) : Outcome State Fault Refusal := s.act fun s =>
  s.pldm p (fun s => s.inStage (fun n => n = 3) (fun s u =>
    if u.size ≤ u.got then (s.setUpd (some { u with stage := 4 })).replyBytes 0 [] else s.replyBytes pldmState []))

/-- VERIFY_COMPLETE (R533, R534): reports the verdict on the image; a failure ends the update, the active slot untouched. -/
def execVerifyComplete (p : MsgPath) (s : State) : Outcome State Fault Refusal := s.act fun s =>
  s.pldm p (fun s => s.inStage (fun n => n = 4) (fun s u =>
    match s.imageVerdict 1 (s.slotImage (1 - s.bcp.active)) with
    | (0, _) => (s.setUpd (some { u with stage := 5 })).replyBytes 0 [0]
    | (st, d) => (s.setUpd none).emit (.reply 0 [1, st, d])))

/-- APPLY_COMPLETE (R534). -/
def execApplyComplete (p : MsgPath) (s : State) : Outcome State Fault Refusal := s.act fun s =>
  s.pldm p (fun s => s.inStage (fun n => n = 5) (fun s u =>
    s.recorded p 0x18 u (fun s => (s.setUpd (some { u with stage := 6, recNo := none })).replyBytes 0 [])))

/-- The new slot is on trial, and Basecamp reboots into it (R535). -/
def Dev.activate (s : Dev) : Dev :=
  let s := { s with bcp := { s.bcp with upd := none, trialBack := some s.bcp.active, active := 1 - s.bcp.active } }
  ((s.replyBytes 0 []).event 7 s.bcp.active).bcpReboot 4

/-- ACTIVATE_FIRMWARE (R534, R535). -/
def execActivateFirmware (p : MsgPath) (s : State) : Outcome State Fault Refusal := s.act fun s =>
  s.pldm p (fun s => s.inStage (fun n => n = 6) (fun s u => s.recorded p 0x1A u Dev.activate))

/-- GET_STATUS (R534): the stage of the update. -/
def execGetStatus (p : MsgPath) (s : State) : Outcome State Fault Refusal := s.act fun s =>
  s.pldm p (fun s => s.replyBytes 0 [BitVec.ofNat 8 s.updStage])

/-- CANCEL_UPDATE_COMPONENT (R534): the transfer is given up, and the component may be sent again. -/
def execCancelUpdateComponent (p : MsgPath) (s : State) : Outcome State Fault Refusal := s.act fun s =>
  s.pldm p (fun s => s.inStage (fun n => 3 ≤ n) (fun s _ => (s.dropUpdate.setUpd (some ⟨2, 0, 0, none⟩)).replyBytes 0 []))

/-- CANCEL_UPDATE (R534): the update is over. -/
def execCancelUpdate (p : MsgPath) (s : State) : Outcome State Fault Refusal := s.act fun s =>
  s.pldm p (fun s => s.inStage (fun n => 1 ≤ n) (fun s _ => s.dropUpdate.replyBytes 0 []))

end Sys2Proof.Machine
end

