-- ==== Sys2Proof/Machine/Dispatch.lean ====
section
/-! DEFINITION. The dispatch of the commands: one arm for every row of spec/opcode_table.json, each one call of its
meaning. -/

namespace Sys2Proof.Machine

def exec (i : Instr) (s : State) : Host.Outcome State Fault Refusal :=
  match i with
  | .volleyBoundary late scanBad => Sys2Proof.Machine.execVolleyBoundary late scanBad s
  | .clkAdj o v => Sys2Proof.Machine.execClkAdj o v s
  | .clkTimeLoad o t elapsed => Sys2Proof.Machine.execClkTimeLoad o t elapsed s
  | .holdover => Sys2Proof.Machine.execHoldover s
  | .rwsWrite o off width v => Sys2Proof.Machine.execRwsWrite o off width v s
  | .apply o block group tag timed => Sys2Proof.Machine.execApply o block group tag timed s
  | .discard o block group tag => Sys2Proof.Machine.execDiscard o block group tag s
  | .applied rxBusy => Sys2Proof.Machine.execApplied rxBusy s
  | .setMode src => Sys2Proof.Machine.execSetMode src s
  | .modeChange => Sys2Proof.Machine.execModeChange s
  | .receiveFrame port bytes fcsOk cut ago sub => Sys2Proof.Machine.execReceiveFrame port bytes fcsOk cut ago sub s
  | .pauseFrameReceived port pfc quanta => Sys2Proof.Machine.execPauseFrameReceived port pfc quanta s
  | .pauseQuantaExpiry port cls => Sys2Proof.Machine.execPauseQuantaExpiry port cls s
  | .transmitFrame port ago sub => Sys2Proof.Machine.execTransmitFrame port ago sub s
  | .portReset o port => Sys2Proof.Machine.execPortReset o port s
  | .txDrainEnd port rxBusy => Sys2Proof.Machine.execTxDrainEnd port rxBusy s
  | .trainingStart port => Sys2Proof.Machine.execTrainingStart port s
  | .linkUp port => Sys2Proof.Machine.execLinkUp port s
  | .trainingRetry port => Sys2Proof.Machine.execTrainingRetry port s
  | .linkDown port rxBusy => Sys2Proof.Machine.execLinkDown port rxBusy s
  | .retrain o lane => Sys2Proof.Machine.execRetrain o lane s
  | .retrainComplete lane => Sys2Proof.Machine.execRetrainComplete lane s
  | .fecWindowEnd lane symbols corrected uncorrected => Sys2Proof.Machine.execFecWindowEnd lane symbols corrected uncorrected s
  | .tsTxPop o port => Sys2Proof.Machine.execTsTxPop o port s
  | .trimSetLoad => Sys2Proof.Machine.execTrimSetLoad s
  | .calWrite src buf => Sys2Proof.Machine.execCalWrite src buf s
  | .parseFrame frame => Sys2Proof.Machine.execParseFrame frame s
  | .headerAdmission frame miss parity => Sys2Proof.Machine.execHeaderAdmission frame miss parity s
  | .flowMissReturn frame parity => Sys2Proof.Machine.execFlowMissReturn frame parity s
  | .egressPipeline queue parity => Sys2Proof.Machine.execEgressPipeline queue parity s
  | .epcCommit o tag timed early => Sys2Proof.Machine.execEpcCommit o tag timed early s
  | .epcModeWrite o v => Sys2Proof.Machine.execEpcModeWrite o v s
  | .commitApplies => Sys2Proof.Machine.execCommitApplies s
  | .retirement => Sys2Proof.Machine.execRetirement s
  | .epochStall => Sys2Proof.Machine.execEpochStall s
  | .pauseHold => Sys2Proof.Machine.execPauseHold s
  | .pauseApply => Sys2Proof.Machine.execPauseApply s
  | .pauseResume => Sys2Proof.Machine.execPauseResume s
  | .pauseAbandoned => Sys2Proof.Machine.execPauseAbandoned s
  | .readIndex o port table tag snapView => Sys2Proof.Machine.execReadIndex o port table tag snapView s
  | .writeIndex o port table tag => Sys2Proof.Machine.execWriteIndex o port table tag s
  | .insert o port table tag => Sys2Proof.Machine.execInsert o port table tag s
  | .delete o port table tag => Sys2Proof.Machine.execDelete o port table tag s
  | .search o port table tag => Sys2Proof.Machine.execSearch o port table tag s
  | .update o port table tag => Sys2Proof.Machine.execUpdate o port table tag s
  | .tblCmdComplete port => Sys2Proof.Machine.execTblCmdComplete port s
  | .learn => Sys2Proof.Machine.execLearn s
  | .move => Sys2Proof.Machine.execMove s
  | .learnTokenRefill => Sys2Proof.Machine.execLearnTokenRefill s
  | .ageTick => Sys2Proof.Machine.execAgeTick s
  | .ageOut => Sys2Proof.Machine.execAgeOut s
  | .shadowSweep => Sys2Proof.Machine.execShadowSweep s
  | .shadowSweepEnd shadow => Sys2Proof.Machine.execShadowSweepEnd shadow s
  | .tblParityLogRead link => Sys2Proof.Machine.execTblParityLogRead link s
  | .tblFrozenLogRead link => Sys2Proof.Machine.execTblFrozenLogRead link s
  | .pathDeliver path ns => Sys2Proof.Machine.execPathDeliver path ns s
  | .spillReadback queue => Sys2Proof.Machine.execSpillReadback queue s
  | .pathBarrierEnd bucket => Sys2Proof.Machine.execPathBarrierEnd bucket s
  | .holdExpiry port => Sys2Proof.Machine.execHoldExpiry port s
  | .pfcRefresh port cls => Sys2Proof.Machine.execPfcRefresh port cls s
  | .mcAccRead o replica index => Sys2Proof.Machine.execMcAccRead o replica index s
  | .mcAccWrite o replica index => Sys2Proof.Machine.execMcAccWrite o replica index s
  | .puntHandover cluster ns cellBad => Sys2Proof.Machine.execPuntHandover cluster ns cellBad s
  | .rsqSkip cluster oq => Sys2Proof.Machine.execRsqSkip cluster oq s
  | .rsqStall cluster oq => Sys2Proof.Machine.execRsqStall cluster oq s
  | .clusterBarrierEnd => Sys2Proof.Machine.execClusterBarrierEnd s
  | .scheduleFrame dest ns cellBad => Sys2Proof.Machine.execScheduleFrame dest ns cellBad s
  | .gateTransition port => Sys2Proof.Machine.execGateTransition port s
  | .gateChange o port tag early => Sys2Proof.Machine.execGateChange o port tag early s
  | .gateCancel o port tag => Sys2Proof.Machine.execGateCancel o port tag s
  | .gateSwap port => Sys2Proof.Machine.execGateSwap port s
  | .shaperWrite o index => Sys2Proof.Machine.execShaperWrite o index s
  | .shaperRead o index => Sys2Proof.Machine.execShaperRead o index s
  | .shaperStateRead o index => Sys2Proof.Machine.execShaperStateRead o index s
  | .policerWrite o index => Sys2Proof.Machine.execPolicerWrite o index s
  | .policerRead o index => Sys2Proof.Machine.execPolicerRead o index s
  | .policerStateRead o index => Sys2Proof.Machine.execPolicerStateRead o index s
  | .timerFire thread => Sys2Proof.Machine.execTimerFire thread s
  | .resultReturn thread => Sys2Proof.Machine.execResultReturn thread s
  | .eventStall cluster core => Sys2Proof.Machine.execEventStall cluster core s
  | .eventStallEscalate cluster core => Sys2Proof.Machine.execEventStallEscalate cluster core s
  | .threadResume o cluster thread pcSet tag => Sys2Proof.Machine.execThreadResume o cluster thread pcSet tag s
  | .threadRestart o cluster thread tag => Sys2Proof.Machine.execThreadRestart o cluster thread tag s
  | .threadKill o cluster thread tag => Sys2Proof.Machine.execThreadKill o cluster thread tag s
  | .threadHalt o cluster thread tag => Sys2Proof.Machine.execThreadHalt o cluster thread tag s
  | .threadStart o cluster thread tag => Sys2Proof.Machine.execThreadStart o cluster thread tag s
  | .coreRestart o cluster thread tag => Sys2Proof.Machine.execCoreRestart o cluster thread tag s
  | .coreCtlRestart o cluster core => Sys2Proof.Machine.execCoreCtlRestart o cluster core s
  | .stepRelease cluster => Sys2Proof.Machine.execStepRelease cluster s
  | .benchCoreRestart cluster core => Sys2Proof.Machine.execBenchCoreRestart cluster core s
  | .fqPop o cluster => Sys2Proof.Machine.execFqPop o cluster s
  | .nqPop o cluster => Sys2Proof.Machine.execNqPop o cluster s
  | .quiesce o cluster => Sys2Proof.Machine.execQuiesce o cluster s
  | .quiesceRelease o cluster => Sys2Proof.Machine.execQuiesceRelease o cluster s
  | .clusterWake cluster => Sys2Proof.Machine.execClusterWake cluster s
  | .add k rd ra rb => Sys2Proof.Machine.execAdd k rd ra rb s
  | .sub k rd ra rb => Sys2Proof.Machine.execSub k rd ra rb s
  | .and k rd ra rb => Sys2Proof.Machine.execAnd k rd ra rb s
  | .or k rd ra rb => Sys2Proof.Machine.execOr k rd ra rb s
  | .xor k rd ra rb => Sys2Proof.Machine.execXor k rd ra rb s
  | .sll k rd ra rb => Sys2Proof.Machine.execSll k rd ra rb s
  | .srl k rd ra rb => Sys2Proof.Machine.execSrl k rd ra rb s
  | .sra k rd ra rb => Sys2Proof.Machine.execSra k rd ra rb s
  | .slt k rd ra rb => Sys2Proof.Machine.execSlt k rd ra rb s
  | .sltu k rd ra rb => Sys2Proof.Machine.execSltu k rd ra rb s
  | .min k rd ra rb => Sys2Proof.Machine.execMin k rd ra rb s
  | .max k rd ra rb => Sys2Proof.Machine.execMax k rd ra rb s
  | .minu k rd ra rb => Sys2Proof.Machine.execMinu k rd ra rb s
  | .maxu k rd ra rb => Sys2Proof.Machine.execMaxu k rd ra rb s
  | .mul k rd ra rb => Sys2Proof.Machine.execMul k rd ra rb s
  | .mulh k rd ra rb => Sys2Proof.Machine.execMulh k rd ra rb s
  | .mulhu k rd ra rb => Sys2Proof.Machine.execMulhu k rd ra rb s
  | .div k rd ra rb => Sys2Proof.Machine.execDiv k rd ra rb s
  | .divu k rd ra rb => Sys2Proof.Machine.execDivu k rd ra rb s
  | .rem k rd ra rb => Sys2Proof.Machine.execRem k rd ra rb s
  | .remu k rd ra rb => Sys2Proof.Machine.execRemu k rd ra rb s
  | .bswap k rd ra rb => Sys2Proof.Machine.execBswap k rd ra rb s
  | .popc k rd ra rb => Sys2Proof.Machine.execPopc k rd ra rb s
  | .clz k rd ra rb => Sys2Proof.Machine.execClz k rd ra rb s
  | .ctz k rd ra rb => Sys2Proof.Machine.execCtz k rd ra rb s
  | .addi k rd ra imm => Sys2Proof.Machine.execAddi k rd ra imm s
  | .andi k rd ra imm => Sys2Proof.Machine.execAndi k rd ra imm s
  | .ori k rd ra imm => Sys2Proof.Machine.execOri k rd ra imm s
  | .xori k rd ra imm => Sys2Proof.Machine.execXori k rd ra imm s
  | .slti k rd ra imm => Sys2Proof.Machine.execSlti k rd ra imm s
  | .sltiu k rd ra imm => Sys2Proof.Machine.execSltiu k rd ra imm s
  | .shi k rd ra imm => Sys2Proof.Machine.execShi k rd ra imm s
  | .lih k rd imm => Sys2Proof.Machine.execLih k rd imm s
  | .adr k rd imm => Sys2Proof.Machine.execAdr k rd imm s
  | .ldB k rd ra imm bad => Sys2Proof.Machine.execLdB k rd ra imm bad s
  | .ldH k rd ra imm bad => Sys2Proof.Machine.execLdH k rd ra imm bad s
  | .ldW k rd ra imm bad => Sys2Proof.Machine.execLdW k rd ra imm bad s
  | .ldD k rd ra imm bad => Sys2Proof.Machine.execLdD k rd ra imm bad s
  | .ldBu k rd ra imm bad => Sys2Proof.Machine.execLdBu k rd ra imm bad s
  | .ldHu k rd ra imm bad => Sys2Proof.Machine.execLdHu k rd ra imm bad s
  | .ldWu k rd ra imm bad => Sys2Proof.Machine.execLdWu k rd ra imm bad s
  | .stB k rb ra imm => Sys2Proof.Machine.execStB k rb ra imm s
  | .stH k rb ra imm => Sys2Proof.Machine.execStH k rb ra imm s
  | .stW k rb ra imm => Sys2Proof.Machine.execStW k rb ra imm s
  | .stD k rb ra imm => Sys2Proof.Machine.execStD k rb ra imm s
  | .amoSwap k rd ra rb bad => Sys2Proof.Machine.execAmoSwap k rd ra rb bad s
  | .amoAdd k rd ra rb bad => Sys2Proof.Machine.execAmoAdd k rd ra rb bad s
  | .amoAnd k rd ra rb bad => Sys2Proof.Machine.execAmoAnd k rd ra rb bad s
  | .amoOr k rd ra rb bad => Sys2Proof.Machine.execAmoOr k rd ra rb bad s
  | .amoXor k rd ra rb bad => Sys2Proof.Machine.execAmoXor k rd ra rb bad s
  | .amoMin k rd ra rb bad => Sys2Proof.Machine.execAmoMin k rd ra rb bad s
  | .amoMax k rd ra rb bad => Sys2Proof.Machine.execAmoMax k rd ra rb bad s
  | .amoMinu k rd ra rb bad => Sys2Proof.Machine.execAmoMinu k rd ra rb bad s
  | .amoMaxu k rd ra rb bad => Sys2Proof.Machine.execAmoMaxu k rd ra rb bad s
  | .cas k rd ra rb fn bad => Sys2Proof.Machine.execCas k rd ra rb fn bad s
  | .fence k rd ra rb => Sys2Proof.Machine.execFence k rd ra rb s
  | .beq k rb ra imm => Sys2Proof.Machine.execBeq k rb ra imm s
  | .bne k rb ra imm => Sys2Proof.Machine.execBne k rb ra imm s
  | .blt k rb ra imm => Sys2Proof.Machine.execBlt k rb ra imm s
  | .bge k rb ra imm => Sys2Proof.Machine.execBge k rb ra imm s
  | .bltu k rb ra imm => Sys2Proof.Machine.execBltu k rb ra imm s
  | .bgeu k rb ra imm => Sys2Proof.Machine.execBgeu k rb ra imm s
  | .bf k rb ra imm => Sys2Proof.Machine.execBf k rb ra imm s
  | .bnf k rb ra imm => Sys2Proof.Machine.execBnf k rb ra imm s
  | .jmp k off => Sys2Proof.Machine.execJmp k off s
  | .call k off => Sys2Proof.Machine.execCall k off s
  | .jr k rd ra rb => Sys2Proof.Machine.execJr k rd ra rb s
  | .jalr k rd ra rb => Sys2Proof.Machine.execJalr k rd ra rb s
  | .xtr k rd ra kbit w => Sys2Proof.Machine.execXtr k rd ra kbit w s
  | .ins k rd ra kbit w => Sys2Proof.Machine.execIns k rd ra kbit w s
  | .kvld k rd ra rb bad => Sys2Proof.Machine.execKvld k rd ra rb bad s
  | .kvst k rd ra rb => Sys2Proof.Machine.execKvst k rd ra rb s
  | .kvclr k rd ra rb => Sys2Proof.Machine.execKvclr k rd ra rb s
  | .lkp k rd ra rb fn parity => Sys2Proof.Machine.execLkp k rd ra rb fn parity s
  | .crc k rd ra rb fn => Sys2Proof.Machine.execCrc k rd ra rb fn s
  | .ctradd k rd ra rb => Sys2Proof.Machine.execCtradd k rd ra rb s
  | .ctraddBytes k rd ra rb => Sys2Proof.Machine.execCtraddBytes k rd ra rb s
  | .ptake k rd ra rb => Sys2Proof.Machine.execPtake k rd ra rb s
  | .pret k rd ra rb => Sys2Proof.Machine.execPret k rd ra rb s
  | .pretEnd k rd ra rb => Sys2Proof.Machine.execPretEnd k rd ra rb s
  | .pfree k rd ra rb => Sys2Proof.Machine.execPfree k rd ra rb s
  | .balloc k rd ra rb => Sys2Proof.Machine.execBalloc k rd ra rb s
  | .fork k rd ra rb => Sys2Proof.Machine.execFork k rd ra rb s
  | .forkD k rd ra rb => Sys2Proof.Machine.execForkD k rd ra rb s
  | .forkw k rd ra rb => Sys2Proof.Machine.execForkw k rd ra rb s
  | .forkwD k rd ra rb => Sys2Proof.Machine.execForkwD k rd ra rb s
  | .join k rd ra rb => Sys2Proof.Machine.execJoin k rd ra rb s
  | .exit k rd ra rb => Sys2Proof.Machine.execExit k rd ra rb s
  | .sev k rd ra rb => Sys2Proof.Machine.execSev k rd ra rb s
  | .tmarm k rd ra rb => Sys2Proof.Machine.execTmarm k rd ra rb s
  | .tmdis k rd ra rb => Sys2Proof.Machine.execTmdis k rd ra rb s
  | .wfe k rd ra imm => Sys2Proof.Machine.execWfe k rd ra imm s
  | .sbegin k rd ra rb => Sys2Proof.Machine.execSbegin k rd ra rb s
  | .scommit k rd ra rb => Sys2Proof.Machine.execScommit k rd ra rb s
  | .sabort k rd ra rb => Sys2Proof.Machine.execSabort k rd ra rb s
  | .sys k rd ra rb fn => Sys2Proof.Machine.execSys k rd ra rb fn s
  | .wait k rd ra rb fn => Sys2Proof.Machine.execWait k rd ra rb fn s
  | .brk k off => Sys2Proof.Machine.execBrk k off s
  | .surpriseRemoval link => Sys2Proof.Machine.execSurpriseRemoval link s
  | .pcieLinkUp link speed width flit l0p => Sys2Proof.Machine.execPcieLinkUp link speed width flit l0p s
  | .registerWrite o off width v left => Sys2Proof.Machine.execRegisterWrite o off width v left s
  | .workDoorbell o off width v => Sys2Proof.Machine.execWorkDoorbell o off width v s
  | .completionDoorbell o off width v => Sys2Proof.Machine.execCompletionDoorbell o off width v s
  | .bar4Request space link addr len pasid write atomic data span parity => Sys2Proof.Machine.execBar4Request space link addr len pasid write atomic data span parity s
  | .pmapRead o tag index => Sys2Proof.Machine.execPmapRead o tag index s
  | .pmapWrite o tag index => Sys2Proof.Machine.execPmapWrite o tag index s
  | .winWritePending o tag index => Sys2Proof.Machine.execWinWritePending o tag index s
  | .winRead o tag index => Sys2Proof.Machine.execWinRead o tag index s
  | .winReadPending o tag index => Sys2Proof.Machine.execWinReadPending o tag index s
  | .winCommit o tag => Sys2Proof.Machine.execWinCommit o tag s
  | .winDiscard o tag => Sys2Proof.Machine.execWinDiscard o tag s
  | .winCommitPoint => Sys2Proof.Machine.execWinCommitPoint s
  | .completionReceived link tag ok last data => Sys2Proof.Machine.execCompletionReceived link tag ok last data s
  | .completionTimeout link tag => Sys2Proof.Machine.execCompletionTimeout link tag s
  | .tagRelease link tag => Sys2Proof.Machine.execTagRelease link tag s
  | .l1Entry link => Sys2Proof.Machine.execL1Entry link s
  | .l0pReduce link low => Sys2Proof.Machine.execL0pReduce link low s
  | .l0pRestore link => Sys2Proof.Machine.execL0pRestore link s
  | .msixUnmask link vector => Sys2Proof.Machine.execMsixUnmask link vector s
  | .functionReset link => Sys2Proof.Machine.execFunctionReset link s
  | .perstAssert port => Sys2Proof.Machine.execPerstAssert port s
  | .ringTurn arbiter answers => Sys2Proof.Machine.execRingTurn arbiter answers s
  | .lookaheadRead ring answers => Sys2Proof.Machine.execLookaheadRead ring answers s
  | .idleClose ring => Sys2Proof.Machine.execIdleClose ring s
  | .postCompletion ring => Sys2Proof.Machine.execPostCompletion ring s
  | .modTimeExpiry cq => Sys2Proof.Machine.execModTimeExpiry cq s
  | .receiveDelivery ring => Sys2Proof.Machine.execReceiveDelivery ring s
  | .fwDone o index ring status => Sys2Proof.Machine.execFwDone o index ring status s
  | .ringRead o table index tag => Sys2Proof.Machine.execRingRead o table index tag s
  | .ringWrite o table index tag => Sys2Proof.Machine.execRingWrite o table index tag s
  | .ringState o table index tag => Sys2Proof.Machine.execRingState o table index tag s
  | .ringEnable o table index tag => Sys2Proof.Machine.execRingEnable o table index tag s
  | .ringDisable o table index tag => Sys2Proof.Machine.execRingDisable o table index tag s
  | .ringResume o table index tag skip => Sys2Proof.Machine.execRingResume o table index tag skip s
  | .ringReset o table index tag => Sys2Proof.Machine.execRingReset o table index tag s
  | .ringDrainEnd ring => Sys2Proof.Machine.execRingDrainEnd ring s
  | .rngErrLogRead link => Sys2Proof.Machine.execRngErrLogRead link s
  | .shadowWrite o inst unit which v => Sys2Proof.Machine.execShadowWrite o inst unit which v s
  | .arm o inst unit tag => Sys2Proof.Machine.execArm o inst unit tag s
  | .reclaim o inst unit tag => Sys2Proof.Machine.execReclaim o inst unit tag s
  | .channelReset o inst unit tag => Sys2Proof.Machine.execChannelReset o inst unit tag s
  | .channelResume o inst unit tag => Sys2Proof.Machine.execChannelResume o inst unit tag s
  | .ownerWrite o inst unit v => Sys2Proof.Machine.execOwnerWrite o inst unit v s
  | .completionPoint inst unit => Sys2Proof.Machine.execCompletionPoint inst unit s
  | .transferFailed inst unit => Sys2Proof.Machine.execTransferFailed inst unit s
  | .channelResetDone inst unit => Sys2Proof.Machine.execChannelResetDone inst unit s
  | .dmaOwnerHalt inst unit => Sys2Proof.Machine.execDmaOwnerHalt inst unit s
  | .dmaHaltLogRead link inst => Sys2Proof.Machine.execDmaHaltLogRead link inst s
  | .cryptoDispatch frame item => Sys2Proof.Machine.execCryptoDispatch frame item s
  | .laneOutput lane mismatch => Sys2Proof.Machine.execLaneOutput lane mismatch s
  | .saRead o index => Sys2Proof.Machine.execSaRead o index s
  | .saWrite o index => Sys2Proof.Machine.execSaWrite o index s
  | .keyportAcquire o => Sys2Proof.Machine.execKeyportAcquire o s
  | .keyportRelease o => Sys2Proof.Machine.execKeyportRelease o s
  | .keyportTimeout => Sys2Proof.Machine.execKeyportTimeout s
  | .keyportLoad o slot typ owner ownerValid tag => Sys2Proof.Machine.execKeyportLoad o slot typ owner ownerValid tag s
  | .keyportErase o slot tag => Sys2Proof.Machine.execKeyportErase o slot tag s
  | .keyportGenerate o slot typ owner ownerValid tag => Sys2Proof.Machine.execKeyportGenerate o slot typ owner ownerValid tag s
  | .keyportOpDone => Sys2Proof.Machine.execKeyportOpDone s
  | .cryKekLoad src buf tripping => Sys2Proof.Machine.execCryKekLoad src buf tripping s
  | .cryKekErase src => Sys2Proof.Machine.execCryKekErase src s
  | .alarm sources => Sys2Proof.Machine.execAlarm sources s
  | .keyEraseDone => Sys2Proof.Machine.execKeyEraseDone s
  | .zeroing => Sys2Proof.Machine.execZeroing s
  | .zeroingDone => Sys2Proof.Machine.execZeroingDone s
  | .getVersion p req => Sys2Proof.Machine.execGetVersion p req s
  | .getCapabilities p req => Sys2Proof.Machine.execGetCapabilities p req s
  | .negotiateAlgorithms p req => Sys2Proof.Machine.execNegotiateAlgorithms p req s
  | .getDigests p req => Sys2Proof.Machine.execGetDigests p req s
  | .getCertificate p req => Sys2Proof.Machine.execGetCertificate p req s
  | .challenge p req => Sys2Proof.Machine.execChallenge p req s
  | .getMeasurements p index req => Sys2Proof.Machine.execGetMeasurements p index req s
  | .connInstall o index tag => Sys2Proof.Machine.execConnInstall o index tag s
  | .stxRead o index namespc tag => Sys2Proof.Machine.execStxRead o index namespc tag s
  | .connRemove o index tag => Sys2Proof.Machine.execConnRemove o index tag s
  | .nsWrite o index tag => Sys2Proof.Machine.execNsWrite o index tag s
  | .stxConnLogRead link => Sys2Proof.Machine.execStxConnLogRead link s
  | .storeStart item sqe miss => Sys2Proof.Machine.execStoreStart item sqe miss s
  | .commandSend conn => Sys2Proof.Machine.execCommandSend conn s
  | .capsuleResp conn => Sys2Proof.Machine.execCapsuleResp conn s
  | .c2hData conn => Sys2Proof.Machine.execC2hData conn s
  | .receiveR2t conn => Sys2Proof.Machine.execReceiveR2t conn s
  | .tcpSegment conn miss => Sys2Proof.Machine.execTcpSegment conn miss s
  | .finReceived conn miss => Sys2Proof.Machine.execFinReceived conn miss s
  | .rstReceived conn miss => Sys2Proof.Machine.execRstReceived conn miss s
  | .delayedAck conn => Sys2Proof.Machine.execDelayedAck conn s
  | .rtoExpiry conn => Sys2Proof.Machine.execRtoExpiry conn s
  | .persistTimer conn => Sys2Proof.Machine.execPersistTimer conn s
  | .roceAckReceived conn miss => Sys2Proof.Machine.execRoceAckReceived conn miss s
  | .nakReceived conn miss => Sys2Proof.Machine.execNakReceived conn miss s
  | .cnpReceived conn miss => Sys2Proof.Machine.execCnpReceived conn miss s
  | .rdmaWrite conn miss => Sys2Proof.Machine.execRdmaWrite conn miss s
  | .rdmaReadRequest conn miss => Sys2Proof.Machine.execRdmaReadRequest conn miss s
  | .responseSend conn miss => Sys2Proof.Machine.execResponseSend conn miss s
  | .ackTimeout conn => Sys2Proof.Machine.execAckTimeout conn s
  | .rnrWaitEnd conn => Sys2Proof.Machine.execRnrWaitEnd conn s
  | .bind o pitch tag => Sys2Proof.Machine.execBind o pitch tag s
  | .resetDrain o pitch tag => Sys2Proof.Machine.execResetDrain o pitch tag s
  | .resetSquash o pitch tag => Sys2Proof.Machine.execResetSquash o pitch tag s
  | .pitchResetBegin => Sys2Proof.Machine.execPitchResetBegin s
  | .drainEnd => Sys2Proof.Machine.execDrainEnd s
  | .drainLimit => Sys2Proof.Machine.execDrainLimit s
  | .squashEnd => Sys2Proof.Machine.execSquashEnd s
  | .freeze o pitch tag => Sys2Proof.Machine.execFreeze o pitch tag s
  | .freezeBegin => Sys2Proof.Machine.execFreezeBegin s
  | .freezeEnd => Sys2Proof.Machine.execFreezeEnd s
  | .freezeLimit => Sys2Proof.Machine.execFreezeLimit s
  | .thaw o pitch tag => Sys2Proof.Machine.execThaw o pitch tag s
  | .save o pitch link tag => Sys2Proof.Machine.execSave o pitch link tag s
  | .saveDone fail => Sys2Proof.Machine.execSaveDone fail s
  | .restore o pitch link tag => Sys2Proof.Machine.execRestore o pitch link tag s
  | .restoreDone img => Sys2Proof.Machine.execRestoreDone img s
  | .release o pitch tag => Sys2Proof.Machine.execRelease o pitch tag s
  | .releaseDone => Sys2Proof.Machine.execReleaseDone s
  | .whistle check => Sys2Proof.Machine.execWhistle check s
  | .windowEnd entry => Sys2Proof.Machine.execWindowEnd entry s
  | .fenceInForce => Sys2Proof.Machine.execFenceInForce s
  | .substitution => Sys2Proof.Machine.execSubstitution s
  | .copyComplete lost => Sys2Proof.Machine.execCopyComplete lost s
  | .repairComplete unit => Sys2Proof.Machine.execRepairComplete unit s
  | .selfTestEnd unit pass => Sys2Proof.Machine.execSelfTestEnd unit pass s
  | .readmission => Sys2Proof.Machine.execReadmission s
  | .refClear o => Sys2Proof.Machine.execRefClear o s
  | .checkpoint bad => Sys2Proof.Machine.execCheckpoint bad s
  | .checkpointDone => Sys2Proof.Machine.execCheckpointDone s
  | .deviceWarmReset o => Sys2Proof.Machine.execDeviceWarmReset o s
  | .resetBoundary bad => Sys2Proof.Machine.execResetBoundary bad s
  | .replay ring => Sys2Proof.Machine.execReplay ring s
  | .pwrfail => Sys2Proof.Machine.execPwrfail s
  | .pwrfailBoundary => Sys2Proof.Machine.execPwrfailBoundary s
  | .flushStart => Sys2Proof.Machine.execFlushStart s
  | .flushed => Sys2Proof.Machine.execFlushed s
  | .pwrfailRecover => Sys2Proof.Machine.execPwrfailRecover s
  | .powerLoss cut => Sys2Proof.Machine.execPowerLoss cut s
  | .journalRestore corrupt => Sys2Proof.Machine.execJournalRestore corrupt s
  | .jnlDiscard o => Sys2Proof.Machine.execJnlDiscard o s
  | .siteInfo src => Sys2Proof.Machine.execSiteInfo src s
  | .siteRegRead src => Sys2Proof.Machine.execSiteRegRead src s
  | .siteRegWrite src left => Sys2Proof.Machine.execSiteRegWrite src left s
  | .calRead src => Sys2Proof.Machine.execCalRead src s
  | .dorLoad src buf => Sys2Proof.Machine.execDorLoad src buf s
  | .dorThreadAct src => Sys2Proof.Machine.execDorThreadAct src s
  | .pitReset src => Sys2Proof.Machine.execPitReset src s
  | .pitInfo src => Sys2Proof.Machine.execPitInfo src s
  | .pitOp src => Sys2Proof.Machine.execPitOp src s
  | .pitMigkeyLoad src buf => Sys2Proof.Machine.execPitMigkeyLoad src buf s
  | .cryKeyLoad src buf => Sys2Proof.Machine.execCryKeyLoad src buf s
  | .cryKeyErase src => Sys2Proof.Machine.execCryKeyErase src s
  | .crySaWrite src buf => Sys2Proof.Machine.execCrySaWrite src buf s
  | .stxConnInstall src buf => Sys2Proof.Machine.execStxConnInstall src buf s
  | .stxConnRemove src => Sys2Proof.Machine.execStxConnRemove src s
  | .stxNsWrite src => Sys2Proof.Machine.execStxNsWrite src s
  | .bcpReboot src => Sys2Proof.Machine.execBcpReboot src s
  | .bcpImgkeySet src buf => Sys2Proof.Machine.execBcpImgkeySet src buf s
  | .bcpSvnCommit src => Sys2Proof.Machine.execBcpSvnCommit src s
  | .logRead src => Sys2Proof.Machine.execLogRead src s
  | .benchReadmit src => Sys2Proof.Machine.execBenchReadmit src s
  | .jnlCkptRead src => Sys2Proof.Machine.execJnlCkptRead src s
  | .pwrDormant src => Sys2Proof.Machine.execPwrDormant src s
  | .journalEmptyWaitEnd => Sys2Proof.Machine.execJournalEmptyWaitEnd s
  | .sealAck left => Sys2Proof.Machine.execSealAck left s
  | .tornScan => Sys2Proof.Machine.execTornScan s
  | .sensorSample raw => Sys2Proof.Machine.execSensorSample raw s
  | .bcpEventLogRead link => Sys2Proof.Machine.execBcpEventLogRead link s
  | .lockstepMismatch => Sys2Proof.Machine.execLockstepMismatch s
  | .watchdogExpiry => Sys2Proof.Machine.execWatchdogExpiry s
  | .wdtWrite o v => Sys2Proof.Machine.execWdtWrite o v s
  | .basecampRunning => Sys2Proof.Machine.execBasecampRunning s
  | .bootConfirm o => Sys2Proof.Machine.execBootConfirm o s
  | .trialTimeout => Sys2Proof.Machine.execTrialTimeout s
  | .queryDeviceIdentifiers p => Sys2Proof.Machine.execQueryDeviceIdentifiers p s
  | .getFirmwareParameters p => Sys2Proof.Machine.execGetFirmwareParameters p s
  | .requestUpdate p => Sys2Proof.Machine.execRequestUpdate p s
  | .passComponentTable p => Sys2Proof.Machine.execPassComponentTable p s
  | .updateComponent p size => Sys2Proof.Machine.execUpdateComponent p size s
  | .requestFirmwareData p data => Sys2Proof.Machine.execRequestFirmwareData p data s
  | .transferComplete p => Sys2Proof.Machine.execTransferComplete p s
  | .verifyComplete p => Sys2Proof.Machine.execVerifyComplete p s
  | .applyComplete p => Sys2Proof.Machine.execApplyComplete p s
  | .activateFirmware p => Sys2Proof.Machine.execActivateFirmware p s
  | .getStatus p => Sys2Proof.Machine.execGetStatus p s
  | .cancelUpdateComponent p => Sys2Proof.Machine.execCancelUpdateComponent p s
  | .cancelUpdate p => Sys2Proof.Machine.execCancelUpdate p s
  | .pldmSensorRead p sensor => Sys2Proof.Machine.execPldmSensorRead p sensor s
  | .mctpControl p req => Sys2Proof.Machine.execMctpControl p req s
  | .ncsiCommand pkg channel cmd req => Sys2Proof.Machine.execNcsiCommand pkg channel cmd req s
  | .getLinkStatus pkg channel => Sys2Proof.Machine.execGetLinkStatus pkg channel s
  | .ncsiGetCapabilities pkg channel => Sys2Proof.Machine.execNcsiGetCapabilities pkg channel s
  | .enableChannelNetworkTx pkg channel => Sys2Proof.Machine.execEnableChannelNetworkTx pkg channel s
  | .oemCommand pkg channel mfr word buf left tripping => Sys2Proof.Machine.execOemCommand pkg channel mfr word buf left tripping s
  | .pwrModeWrite o v => Sys2Proof.Machine.execPwrModeWrite o v s
  | .smbusAddressMatch => Sys2Proof.Machine.execSmbusAddressMatch s
  | .perstDeassert port => Sys2Proof.Machine.execPerstDeassert port s
  | .wakeIn => Sys2Proof.Machine.execWakeIn s
  | .pllEnable o en => Sys2Proof.Machine.execPllEnable o en s
  | .pllLock => Sys2Proof.Machine.execPllLock s
  | .clkSrcWrite o cls v => Sys2Proof.Machine.execClkSrcWrite o cls v s
  | .powerOnRelease bifurA bifurB pkg => Sys2Proof.Machine.execPowerOnRelease bifurA bifurB pkg s
  | .dmaBurstIssue arbiter => Sys2Proof.Machine.execDmaBurstIssue arbiter s
  | .fecAlignLock port => Sys2Proof.Machine.execFecAlignLock port s

end Sys2Proof.Machine
end

