-- ==== Sys2Proof/Laws/Sparse.lean ====
section
/-! SUPPORT. Sparse data: a value written is read back, every other key keeps its value, and the canonical form is kept. -/

namespace Sys2Proof.Machine

variable {α : Type}

theorem Sparse.get?_erase_same (m : Sparse α) (q : Nat) : (m.erase q).get? q = none := by
  induction m with
  | nil => rfl
  | cons e m ih =>
    obtain ⟨k, v⟩ := e
    by_cases h : q = k <;> simp [Sparse.erase, Sparse.get?, h] <;> simpa [h] using ih

theorem Sparse.get?_erase_other (m : Sparse α) {q p : Nat} (h : p ≠ q) : (m.erase q).get? p = m.get? p := by
  induction m with
  | nil => rfl
  | cons e m ih =>
    obtain ⟨k, v⟩ := e
    by_cases hq : q = k
    · subst hq; simp [Sparse.erase, Sparse.get?, h, ih]
    · simp [Sparse.erase, Sparse.get?, hq, ih]

theorem Sparse.get?_insert_other (m : Sparse α) {q p : Nat} (v : α) (h : p ≠ q) : (m.insert q v).get? p = m.get? p := by
  induction m with
  | nil => simp [Sparse.insert, Sparse.get?, h]
  | cons e m ih =>
    obtain ⟨k, w⟩ := e
    by_cases hq : q < k <;> simp [Sparse.insert, Sparse.get?, hq, h, ih]

theorem Sparse.get?_insert_same (m : Sparse α) (q : Nat) (v : α) (h : m.get? q = none) : (m.insert q v).get? q = some v := by
  induction m with
  | nil => simp [Sparse.insert, Sparse.get?]
  | cons e m ih =>
    obtain ⟨k, w⟩ := e
    by_cases hk : q = k
    · simp [Sparse.get?, hk] at h
    · have h' : Sparse.get? m q = none := by simpa [Sparse.get?, hk] using h
      by_cases hq : q < k <;> simp [Sparse.insert, Sparse.get?, hq, hk, ih h']

@[simp] theorem Sparse.get?_put_same (m : Sparse α) (q : Nat) (o : Option α) : (m.put q o).get? q = o := by
  cases o with
  | none => exact get?_erase_same m q
  | some v => exact get?_insert_same _ q v (get?_erase_same m q)

theorem Sparse.get?_put_other (m : Sparse α) {q p : Nat} (o : Option α) (h : p ≠ q) : (m.put q o).get? p = m.get? p := by
  cases o with
  | none => exact get?_erase_other m h
  | some v => rw [Sparse.put, get?_insert_other _ v h, get?_erase_other m h]

@[simp] theorem Sparse.get_set_same [DecidableEq α] (d : Nat → α) (m : Sparse α) (q : Nat) (v : α) : (m.set d q v).get d q = v := by
  unfold Sparse.set Sparse.get
  by_cases h : v = d q <;> simp [h]

theorem Sparse.get_set_other [DecidableEq α] (d : Nat → α) (m : Sparse α) {q p : Nat} (v : α) (h : p ≠ q) :
    (m.set d q v).get d p = m.get d p := by
  simp [Sparse.set, Sparse.get, get?_put_other m _ h]

theorem Sparse.erase_erase (m : Sparse α) (q : Nat) : (m.erase q).erase q = m.erase q := by
  induction m with
  | nil => rfl
  | cons e m ih =>
    obtain ⟨k, v⟩ := e
    by_cases h : q = k <;> simp [Sparse.erase, h] <;> simpa [h] using ih

theorem Sparse.erase_insert (m : Sparse α) (q : Nat) (v : α) : (m.insert q v).erase q = m.erase q := by
  induction m with
  | nil => simp [Sparse.insert, Sparse.erase]
  | cons e m ih =>
    obtain ⟨k, w⟩ := e
    by_cases h : q < k
    · simp [Sparse.insert, Sparse.erase, h]
    · simp [Sparse.insert, Sparse.erase, h, ih]

theorem Sparse.put_put (m : Sparse α) (q : Nat) (a b : Option α) : (m.put q a).put q b = m.put q b := by
  cases a <;> cases b <;> simp [Sparse.put, erase_erase, erase_insert]

/-- The second of two writes of one key is the one that stays. -/
@[simp] theorem Sparse.set_set [DecidableEq α] (d : Nat → α) (m : Sparse α) (q : Nat) (v w : α) :
    (m.set d q v).set d q w = m.set d q w := by
  simp [Sparse.set, put_put]

/-- One law for a read after a write. -/
theorem Sparse.get_set [DecidableEq α] (d : Nat → α) (m : Sparse α) (q p : Nat) (v : α) :
    (m.set d q v).get d p = if p = q then v else m.get d p := by
  by_cases h : p = q
  · subst h; simp
  · simp [h, get_set_other d m v h]

/-! ### The canonical form -/

theorem Sparse.above_erase (m : Sparse α) (q k : Nat) (h : m.above k = true) : (m.erase q).above k = true := by
  induction m with
  | nil => rfl
  | cons e m ih =>
    obtain ⟨j, v⟩ := e
    simp only [Sparse.above, List.all_cons, Bool.and_eq_true] at h ih ⊢
    unfold Sparse.erase
    split
    · exact ih h.2
    · simp [h.1, ih h.2]

theorem Sparse.sorted_erase (m : Sparse α) (q : Nat) (h : m.sorted = true) : (m.erase q).sorted = true := by
  induction m with
  | nil => rfl
  | cons e m ih =>
    obtain ⟨j, v⟩ := e
    simp only [Sparse.sorted, Bool.and_eq_true] at h
    unfold Sparse.erase
    split
    · exact ih h.2
    · simp [Sparse.sorted, ih h.2, above_erase m q j h.1]

theorem Sparse.above_insert (m : Sparse α) {q k : Nat} (v : α) (hk : k < q) (h : m.above k = true) : (m.insert q v).above k = true := by
  induction m with
  | nil => simp [Sparse.insert, Sparse.above, hk]
  | cons e m ih =>
    obtain ⟨j, w⟩ := e
    simp only [Sparse.above, List.all_cons, Bool.and_eq_true, decide_eq_true_eq] at h ih ⊢
    unfold Sparse.insert
    split
    · simp [hk, h]
    · simp [h.1]; simpa using ih h.2

theorem Sparse.above_of_le (m : Sparse α) {q k : Nat} (hk : q ≤ k) (h : m.above k = true) : m.above q = true := by
  simp only [Sparse.above, List.all_eq_true, decide_eq_true_eq] at h ⊢
  exact fun e he => Nat.lt_of_le_of_lt hk (h e he)

theorem Sparse.sorted_insert (m : Sparse α) (q : Nat) (v : α) (h : m.sorted = true) (hq : m.get? q = none) :
    (m.insert q v).sorted = true := by
  induction m with
  | nil => simp [Sparse.insert, Sparse.sorted, Sparse.above]
  | cons e m ih =>
    obtain ⟨j, w⟩ := e
    simp only [Sparse.sorted, Bool.and_eq_true] at h
    have hj : q ≠ j := by intro hj; simp [Sparse.get?, hj] at hq
    have hm : Sparse.get? m q = none := by simpa [Sparse.get?, hj] using hq
    unfold Sparse.insert
    split
    · rename_i hlt
      have ha := above_of_le m (Nat.le_of_lt hlt) h.1
      have hj := h.1
      simp only [Sparse.above, List.all_eq_true, decide_eq_true_eq] at ha hj
      simp only [Sparse.sorted, h.2, Sparse.above, Bool.and_true, Bool.and_eq_true, List.all_cons, List.all_eq_true,
        decide_eq_true_eq]
      exact ⟨⟨hlt, ha⟩, hj⟩
    · rename_i hlt
      simp [Sparse.sorted, ih h.2 hm, above_insert m v (show j < q by omega) h.1]

theorem Sparse.all_erase (m : Sparse α) (q : Nat) (p : Nat × α → Bool) (h : m.all p = true) : (m.erase q).all p = true := by
  induction m with
  | nil => rfl
  | cons e m ih =>
    obtain ⟨j, v⟩ := e
    simp only [List.all_cons, Bool.and_eq_true] at h
    unfold Sparse.erase
    split
    · exact ih h.2
    · simp [h.1]; simpa using ih h.2

theorem Sparse.all_insert (m : Sparse α) (q : Nat) (v : α) (p : Nat × α → Bool) (hv : p (q, v) = true) (h : m.all p = true) :
    (m.insert q v).all p = true := by
  induction m with
  | nil => simp [Sparse.insert, hv]
  | cons e m ih =>
    obtain ⟨j, w⟩ := e
    simp only [List.all_cons, Bool.and_eq_true] at h
    unfold Sparse.insert
    split
    · simp [hv, h.1]; simpa using h.2
    · simp [h.1]; simpa using ih h.2

/-- A write keeps the canonical form. -/
theorem Sparse.wf_set [DecidableEq α] (d : Nat → α) (m : Sparse α) (q : Nat) (v : α) (h : Sparse.wf d m = true) :
    Sparse.wf d (m.set d q v) = true := by
  simp only [Sparse.wf, Bool.and_eq_true] at h ⊢
  unfold Sparse.set Sparse.put
  by_cases hv : v = d q
  · simp only [hv, if_true]
    exact ⟨sorted_erase m q h.1, all_erase m q _ h.2⟩
  · simp only [hv, if_false]
    exact ⟨sorted_insert _ q v (sorted_erase m q h.1) (get?_erase_same m q),
      all_insert _ q v _ (by simpa using hv) (all_erase m q _ h.2)⟩

/-! ### Memories -/

/-- A byte written is read back, and every other address reads as before. -/
theorem Memory.read_write (m : List Host.Cell) (a b : Nat) (x : Byte) :
    Memory.read (Memory.write m a x) b = if b = a then x else Memory.read m b :=
  Sparse.get_set Memory.blank m a b x

theorem Memory.wf_write (m : List Host.Cell) (a : Nat) (x : Byte) (h : Memory.wf m = true) : Memory.wf (Memory.write m a x) = true :=
  Sparse.wf_set Memory.blank m a x h

/-- Every write of bytes keeps the canonical form. -/
theorem Memory.wf_writeN (m : List Host.Cell) (a : Nat) (bs : List Byte) (h : Memory.wf m = true) :
    Memory.wf (Memory.writeN m a bs) = true := by
  induction bs generalizing m a with
  | nil => exact h
  | cons b bs ih => exact ih _ _ (wf_write m a b h)

/-- The same for the flash. -/
theorem Flash.wf_writeN (m : List Host.Cell) (a : Nat) (bs : List Byte) (h : Sparse.wf Config.factoryFlash m = true) :
    Sparse.wf Config.factoryFlash (Flash.writeN m a bs) = true := by
  induction bs generalizing m a with
  | nil => exact h
  | cons b bs ih => exact ih _ _ (Sparse.wf_set _ m a b h)

/-- Bytes outside those written read as before. -/
theorem Memory.read_writeN_other (m : List Host.Cell) (a b : Nat) (bs : List Byte) (h : b < a ∨ a + bs.length ≤ b) :
    Memory.read (Memory.writeN m a bs) b = Memory.read m b := by
  induction bs generalizing m a with
  | nil => rfl
  | cons x xs ih =>
    rw [Memory.writeN, ih _ _ (by simp at h; omega), Memory.read_write]
    simp at h; split <;> first | rfl | omega

end Sys2Proof.Machine
end

