-- ==== Sys2Proof/Laws/State.lean ====
section
/-! SUPPORT. The small laws of State: a command's effect and the queue, one law per field for each basic update, and the laws of a
register, a field and a context read after a write. -/

namespace Sys2Proof.Machine

open Host

/-! ### The queue -/

@[simp] theorem State.withDev_dev (s : State) (d : Dev) : (s.withDev d).dev = d := rfl
@[simp] theorem State.withDev_pending (s : State) (d : Dev) : (s.withDev d).pending = s.pending := rfl
@[simp] theorem State.withDev_withDev (s : State) (d e : Dev) : (s.withDev d).withDev e = s.withDev e := rfl

theorem State.act_next {s : State} {f : Dev → Outcome Dev Fault Refusal} {d : Dev} (h : f s.dev = .next d) :
    s.act f = .next (s.withDev d) := by simp [State.act, h]

theorem State.act_pending {s t : State} {f : Dev → Outcome Dev Fault Refusal} (h : s.act f = .next t) :
    t.pending = s.pending := by
  unfold State.act at h
  split at h <;> cases h
  rfl

/-! ### One law per field and update -/

@[simp] theorem Dev.setReg_pend (s : Dev) (r : Reg) (i : Nat) (v : Word) : (s.setReg r i v).pend = s.pend := rfl
@[simp] theorem Dev.setReg_waits (s : Dev) (r : Reg) (i : Nat) (v : Word) : (s.setReg r i v).waits = s.waits := rfl
@[simp] theorem Dev.setReg_snap (s : Dev) (r : Reg) (i : Nat) (v : Word) : (s.setReg r i v).snap = s.snap := rfl
@[simp] theorem Dev.setReg_snapVn (s : Dev) (r : Reg) (i : Nat) (v : Word) : (s.setReg r i v).snapVn = s.snapVn := rfl
@[simp] theorem Dev.setReg_snapLate (s : Dev) (r : Reg) (i : Nat) (v : Word) : (s.setReg r i v).snapLate = s.snapLate := rfl
@[simp] theorem Dev.setReg_clk (s : Dev) (r : Reg) (i : Nat) (v : Word) : (s.setReg r i v).clk = s.clk := rfl
@[simp] theorem Dev.setReg_log (s : Dev) (r : Reg) (i : Nat) (v : Word) : (s.setReg r i v).log = s.log := rfl
@[simp] theorem Dev.setReg_whistles (s : Dev) (r : Reg) (i : Nat) (v : Word) : (s.setReg r i v).whistles = s.whistles := rfl
@[simp] theorem Dev.setReg_whistleSeq (s : Dev) (r : Reg) (i : Nat) (v : Word) : (s.setReg r i v).whistleSeq = s.whistleSeq := rfl
@[simp] theorem Dev.setReg_wire (s : Dev) (r : Reg) (i : Nat) (v : Word) : (s.setReg r i v).wire = s.wire := rfl
@[simp] theorem Dev.setReg_prs (s : Dev) (r : Reg) (i : Nat) (v : Word) : (s.setReg r i v).prs = s.prs := rfl
@[simp] theorem Dev.setReg_epc (s : Dev) (r : Reg) (i : Nat) (v : Word) : (s.setReg r i v).epc = s.epc := rfl
@[simp] theorem Dev.setReg_tbl (s : Dev) (r : Reg) (i : Nat) (v : Word) : (s.setReg r i v).tbl = s.tbl := rfl
@[simp] theorem Dev.setReg_swb (s : Dev) (r : Reg) (i : Nat) (v : Word) : (s.setReg r i v).swb = s.swb := rfl
@[simp] theorem Dev.setReg_sch (s : Dev) (r : Reg) (i : Nat) (v : Word) : (s.setReg r i v).sch = s.sch := rfl
@[simp] theorem Dev.setReg_ref (s : Dev) (r : Reg) (i : Nat) (v : Word) : (s.setReg r i v).ref = s.ref := rfl
@[simp] theorem Dev.setReg_hif (s : Dev) (r : Reg) (i : Nat) (v : Word) : (s.setReg r i v).hif = s.hif := rfl
@[simp] theorem Dev.setReg_rng (s : Dev) (r : Reg) (i : Nat) (v : Word) : (s.setReg r i v).rng = s.rng := rfl
@[simp] theorem Dev.setReg_dma (s : Dev) (r : Reg) (i : Nat) (v : Word) : (s.setReg r i v).dma = s.dma := rfl
@[simp] theorem Dev.setReg_mem (s : Dev) (r : Reg) (i : Nat) (v : Word) : (s.setReg r i v).mem = s.mem := rfl
@[simp] theorem Dev.setReg_cry (s : Dev) (r : Reg) (i : Nat) (v : Word) : (s.setReg r i v).cry = s.cry := rfl
@[simp] theorem Dev.setReg_stx (s : Dev) (r : Reg) (i : Nat) (v : Word) : (s.setReg r i v).stx = s.stx := rfl
@[simp] theorem Dev.setReg_pit (s : Dev) (r : Reg) (i : Nat) (v : Word) : (s.setReg r i v).pit = s.pit := rfl
@[simp] theorem Dev.setReg_jnl (s : Dev) (r : Reg) (i : Nat) (v : Word) : (s.setReg r i v).jnl = s.jnl := rfl
@[simp] theorem Dev.setReg_dor (s : Dev) (r : Reg) (i : Nat) (v : Word) : (s.setReg r i v).dor = s.dor := rfl
@[simp] theorem Dev.setReg_bcp (s : Dev) (r : Reg) (i : Nat) (v : Word) : (s.setReg r i v).bcp = s.bcp := rfl
@[simp] theorem Dev.setReg_modeReqs (s : Dev) (r : Reg) (i : Nat) (v : Word) : (s.setReg r i v).modeReqs = s.modeReqs := rfl
@[simp] theorem Dev.setReg_events (s : Dev) (r : Reg) (i : Nat) (v : Word) : (s.setReg r i v).events = s.events := rfl
@[simp] theorem Dev.setReg_out (s : Dev) (r : Reg) (i : Nat) (v : Word) : (s.setReg r i v).out = s.out := rfl
@[simp] theorem Dev.setReg_frames (s : Dev) (r : Reg) (i : Nat) (v : Word) : (s.setReg r i v).frames = s.frames := rfl
@[simp] theorem Dev.setReg_nextFrame (s : Dev) (r : Reg) (i : Nat) (v : Word) : (s.setReg r i v).nextFrame = s.nextFrame := rfl
@[simp] theorem Dev.setReg_nextOrd (s : Dev) (r : Reg) (i : Nat) (v : Word) : (s.setReg r i v).nextOrd = s.nextOrd := rfl
@[simp] theorem Dev.setReg_free (s : Dev) (r : Reg) (i : Nat) (v : Word) : (s.setReg r i v).free = s.free := rfl

@[simp] theorem Dev.wr_pend (s : Dev) (r : Reg) (i v : Nat) : (s.wr r i v).pend = s.pend := rfl
@[simp] theorem Dev.wr_waits (s : Dev) (r : Reg) (i v : Nat) : (s.wr r i v).waits = s.waits := rfl
@[simp] theorem Dev.wr_snap (s : Dev) (r : Reg) (i v : Nat) : (s.wr r i v).snap = s.snap := rfl
@[simp] theorem Dev.wr_snapVn (s : Dev) (r : Reg) (i v : Nat) : (s.wr r i v).snapVn = s.snapVn := rfl
@[simp] theorem Dev.wr_snapLate (s : Dev) (r : Reg) (i v : Nat) : (s.wr r i v).snapLate = s.snapLate := rfl
@[simp] theorem Dev.wr_clk (s : Dev) (r : Reg) (i v : Nat) : (s.wr r i v).clk = s.clk := rfl
@[simp] theorem Dev.wr_log (s : Dev) (r : Reg) (i v : Nat) : (s.wr r i v).log = s.log := rfl
@[simp] theorem Dev.wr_whistles (s : Dev) (r : Reg) (i v : Nat) : (s.wr r i v).whistles = s.whistles := rfl
@[simp] theorem Dev.wr_whistleSeq (s : Dev) (r : Reg) (i v : Nat) : (s.wr r i v).whistleSeq = s.whistleSeq := rfl
@[simp] theorem Dev.wr_wire (s : Dev) (r : Reg) (i v : Nat) : (s.wr r i v).wire = s.wire := rfl
@[simp] theorem Dev.wr_prs (s : Dev) (r : Reg) (i v : Nat) : (s.wr r i v).prs = s.prs := rfl
@[simp] theorem Dev.wr_epc (s : Dev) (r : Reg) (i v : Nat) : (s.wr r i v).epc = s.epc := rfl
@[simp] theorem Dev.wr_tbl (s : Dev) (r : Reg) (i v : Nat) : (s.wr r i v).tbl = s.tbl := rfl
@[simp] theorem Dev.wr_swb (s : Dev) (r : Reg) (i v : Nat) : (s.wr r i v).swb = s.swb := rfl
@[simp] theorem Dev.wr_sch (s : Dev) (r : Reg) (i v : Nat) : (s.wr r i v).sch = s.sch := rfl
@[simp] theorem Dev.wr_ref (s : Dev) (r : Reg) (i v : Nat) : (s.wr r i v).ref = s.ref := rfl
@[simp] theorem Dev.wr_hif (s : Dev) (r : Reg) (i v : Nat) : (s.wr r i v).hif = s.hif := rfl
@[simp] theorem Dev.wr_rng (s : Dev) (r : Reg) (i v : Nat) : (s.wr r i v).rng = s.rng := rfl
@[simp] theorem Dev.wr_dma (s : Dev) (r : Reg) (i v : Nat) : (s.wr r i v).dma = s.dma := rfl
@[simp] theorem Dev.wr_mem (s : Dev) (r : Reg) (i v : Nat) : (s.wr r i v).mem = s.mem := rfl
@[simp] theorem Dev.wr_cry (s : Dev) (r : Reg) (i v : Nat) : (s.wr r i v).cry = s.cry := rfl
@[simp] theorem Dev.wr_stx (s : Dev) (r : Reg) (i v : Nat) : (s.wr r i v).stx = s.stx := rfl
@[simp] theorem Dev.wr_pit (s : Dev) (r : Reg) (i v : Nat) : (s.wr r i v).pit = s.pit := rfl
@[simp] theorem Dev.wr_jnl (s : Dev) (r : Reg) (i v : Nat) : (s.wr r i v).jnl = s.jnl := rfl
@[simp] theorem Dev.wr_dor (s : Dev) (r : Reg) (i v : Nat) : (s.wr r i v).dor = s.dor := rfl
@[simp] theorem Dev.wr_bcp (s : Dev) (r : Reg) (i v : Nat) : (s.wr r i v).bcp = s.bcp := rfl
@[simp] theorem Dev.wr_modeReqs (s : Dev) (r : Reg) (i v : Nat) : (s.wr r i v).modeReqs = s.modeReqs := rfl
@[simp] theorem Dev.wr_events (s : Dev) (r : Reg) (i v : Nat) : (s.wr r i v).events = s.events := rfl
@[simp] theorem Dev.wr_out (s : Dev) (r : Reg) (i v : Nat) : (s.wr r i v).out = s.out := rfl
@[simp] theorem Dev.wr_frames (s : Dev) (r : Reg) (i v : Nat) : (s.wr r i v).frames = s.frames := rfl
@[simp] theorem Dev.wr_nextFrame (s : Dev) (r : Reg) (i v : Nat) : (s.wr r i v).nextFrame = s.nextFrame := rfl
@[simp] theorem Dev.wr_nextOrd (s : Dev) (r : Reg) (i v : Nat) : (s.wr r i v).nextOrd = s.nextOrd := rfl
@[simp] theorem Dev.wr_free (s : Dev) (r : Reg) (i v : Nat) : (s.wr r i v).free = s.free := rfl

@[simp] theorem Dev.setFld_pend (s : Dev) (r : Reg) (i hi lo v : Nat) : (s.setFld r i hi lo v).pend = s.pend := rfl
@[simp] theorem Dev.setFld_waits (s : Dev) (r : Reg) (i hi lo v : Nat) : (s.setFld r i hi lo v).waits = s.waits := rfl
@[simp] theorem Dev.setFld_snap (s : Dev) (r : Reg) (i hi lo v : Nat) : (s.setFld r i hi lo v).snap = s.snap := rfl
@[simp] theorem Dev.setFld_snapVn (s : Dev) (r : Reg) (i hi lo v : Nat) : (s.setFld r i hi lo v).snapVn = s.snapVn := rfl
@[simp] theorem Dev.setFld_snapLate (s : Dev) (r : Reg) (i hi lo v : Nat) : (s.setFld r i hi lo v).snapLate = s.snapLate := rfl
@[simp] theorem Dev.setFld_clk (s : Dev) (r : Reg) (i hi lo v : Nat) : (s.setFld r i hi lo v).clk = s.clk := rfl
@[simp] theorem Dev.setFld_log (s : Dev) (r : Reg) (i hi lo v : Nat) : (s.setFld r i hi lo v).log = s.log := rfl
@[simp] theorem Dev.setFld_whistles (s : Dev) (r : Reg) (i hi lo v : Nat) : (s.setFld r i hi lo v).whistles = s.whistles := rfl
@[simp] theorem Dev.setFld_whistleSeq (s : Dev) (r : Reg) (i hi lo v : Nat) : (s.setFld r i hi lo v).whistleSeq = s.whistleSeq := rfl
@[simp] theorem Dev.setFld_wire (s : Dev) (r : Reg) (i hi lo v : Nat) : (s.setFld r i hi lo v).wire = s.wire := rfl
@[simp] theorem Dev.setFld_prs (s : Dev) (r : Reg) (i hi lo v : Nat) : (s.setFld r i hi lo v).prs = s.prs := rfl
@[simp] theorem Dev.setFld_epc (s : Dev) (r : Reg) (i hi lo v : Nat) : (s.setFld r i hi lo v).epc = s.epc := rfl
@[simp] theorem Dev.setFld_tbl (s : Dev) (r : Reg) (i hi lo v : Nat) : (s.setFld r i hi lo v).tbl = s.tbl := rfl
@[simp] theorem Dev.setFld_swb (s : Dev) (r : Reg) (i hi lo v : Nat) : (s.setFld r i hi lo v).swb = s.swb := rfl
@[simp] theorem Dev.setFld_sch (s : Dev) (r : Reg) (i hi lo v : Nat) : (s.setFld r i hi lo v).sch = s.sch := rfl
@[simp] theorem Dev.setFld_ref (s : Dev) (r : Reg) (i hi lo v : Nat) : (s.setFld r i hi lo v).ref = s.ref := rfl
@[simp] theorem Dev.setFld_hif (s : Dev) (r : Reg) (i hi lo v : Nat) : (s.setFld r i hi lo v).hif = s.hif := rfl
@[simp] theorem Dev.setFld_rng (s : Dev) (r : Reg) (i hi lo v : Nat) : (s.setFld r i hi lo v).rng = s.rng := rfl
@[simp] theorem Dev.setFld_dma (s : Dev) (r : Reg) (i hi lo v : Nat) : (s.setFld r i hi lo v).dma = s.dma := rfl
@[simp] theorem Dev.setFld_mem (s : Dev) (r : Reg) (i hi lo v : Nat) : (s.setFld r i hi lo v).mem = s.mem := rfl
@[simp] theorem Dev.setFld_cry (s : Dev) (r : Reg) (i hi lo v : Nat) : (s.setFld r i hi lo v).cry = s.cry := rfl
@[simp] theorem Dev.setFld_stx (s : Dev) (r : Reg) (i hi lo v : Nat) : (s.setFld r i hi lo v).stx = s.stx := rfl
@[simp] theorem Dev.setFld_pit (s : Dev) (r : Reg) (i hi lo v : Nat) : (s.setFld r i hi lo v).pit = s.pit := rfl
@[simp] theorem Dev.setFld_jnl (s : Dev) (r : Reg) (i hi lo v : Nat) : (s.setFld r i hi lo v).jnl = s.jnl := rfl
@[simp] theorem Dev.setFld_dor (s : Dev) (r : Reg) (i hi lo v : Nat) : (s.setFld r i hi lo v).dor = s.dor := rfl
@[simp] theorem Dev.setFld_bcp (s : Dev) (r : Reg) (i hi lo v : Nat) : (s.setFld r i hi lo v).bcp = s.bcp := rfl
@[simp] theorem Dev.setFld_modeReqs (s : Dev) (r : Reg) (i hi lo v : Nat) : (s.setFld r i hi lo v).modeReqs = s.modeReqs := rfl
@[simp] theorem Dev.setFld_events (s : Dev) (r : Reg) (i hi lo v : Nat) : (s.setFld r i hi lo v).events = s.events := rfl
@[simp] theorem Dev.setFld_out (s : Dev) (r : Reg) (i hi lo v : Nat) : (s.setFld r i hi lo v).out = s.out := rfl
@[simp] theorem Dev.setFld_frames (s : Dev) (r : Reg) (i hi lo v : Nat) : (s.setFld r i hi lo v).frames = s.frames := rfl
@[simp] theorem Dev.setFld_nextFrame (s : Dev) (r : Reg) (i hi lo v : Nat) : (s.setFld r i hi lo v).nextFrame = s.nextFrame := rfl
@[simp] theorem Dev.setFld_nextOrd (s : Dev) (r : Reg) (i hi lo v : Nat) : (s.setFld r i hi lo v).nextOrd = s.nextOrd := rfl
@[simp] theorem Dev.setFld_free (s : Dev) (r : Reg) (i hi lo v : Nat) : (s.setFld r i hi lo v).free = s.free := rfl

@[simp] theorem Dev.add_pend (s : Dev) (r : Reg) (i n : Nat) : (s.add r i n).pend = s.pend := rfl
@[simp] theorem Dev.add_waits (s : Dev) (r : Reg) (i n : Nat) : (s.add r i n).waits = s.waits := rfl
@[simp] theorem Dev.add_snap (s : Dev) (r : Reg) (i n : Nat) : (s.add r i n).snap = s.snap := rfl
@[simp] theorem Dev.add_snapVn (s : Dev) (r : Reg) (i n : Nat) : (s.add r i n).snapVn = s.snapVn := rfl
@[simp] theorem Dev.add_snapLate (s : Dev) (r : Reg) (i n : Nat) : (s.add r i n).snapLate = s.snapLate := rfl
@[simp] theorem Dev.add_clk (s : Dev) (r : Reg) (i n : Nat) : (s.add r i n).clk = s.clk := rfl
@[simp] theorem Dev.add_log (s : Dev) (r : Reg) (i n : Nat) : (s.add r i n).log = s.log := rfl
@[simp] theorem Dev.add_whistles (s : Dev) (r : Reg) (i n : Nat) : (s.add r i n).whistles = s.whistles := rfl
@[simp] theorem Dev.add_whistleSeq (s : Dev) (r : Reg) (i n : Nat) : (s.add r i n).whistleSeq = s.whistleSeq := rfl
@[simp] theorem Dev.add_wire (s : Dev) (r : Reg) (i n : Nat) : (s.add r i n).wire = s.wire := rfl
@[simp] theorem Dev.add_prs (s : Dev) (r : Reg) (i n : Nat) : (s.add r i n).prs = s.prs := rfl
@[simp] theorem Dev.add_epc (s : Dev) (r : Reg) (i n : Nat) : (s.add r i n).epc = s.epc := rfl
@[simp] theorem Dev.add_tbl (s : Dev) (r : Reg) (i n : Nat) : (s.add r i n).tbl = s.tbl := rfl
@[simp] theorem Dev.add_swb (s : Dev) (r : Reg) (i n : Nat) : (s.add r i n).swb = s.swb := rfl
@[simp] theorem Dev.add_sch (s : Dev) (r : Reg) (i n : Nat) : (s.add r i n).sch = s.sch := rfl
@[simp] theorem Dev.add_ref (s : Dev) (r : Reg) (i n : Nat) : (s.add r i n).ref = s.ref := rfl
@[simp] theorem Dev.add_hif (s : Dev) (r : Reg) (i n : Nat) : (s.add r i n).hif = s.hif := rfl
@[simp] theorem Dev.add_rng (s : Dev) (r : Reg) (i n : Nat) : (s.add r i n).rng = s.rng := rfl
@[simp] theorem Dev.add_dma (s : Dev) (r : Reg) (i n : Nat) : (s.add r i n).dma = s.dma := rfl
@[simp] theorem Dev.add_mem (s : Dev) (r : Reg) (i n : Nat) : (s.add r i n).mem = s.mem := rfl
@[simp] theorem Dev.add_cry (s : Dev) (r : Reg) (i n : Nat) : (s.add r i n).cry = s.cry := rfl
@[simp] theorem Dev.add_stx (s : Dev) (r : Reg) (i n : Nat) : (s.add r i n).stx = s.stx := rfl
@[simp] theorem Dev.add_pit (s : Dev) (r : Reg) (i n : Nat) : (s.add r i n).pit = s.pit := rfl
@[simp] theorem Dev.add_jnl (s : Dev) (r : Reg) (i n : Nat) : (s.add r i n).jnl = s.jnl := rfl
@[simp] theorem Dev.add_dor (s : Dev) (r : Reg) (i n : Nat) : (s.add r i n).dor = s.dor := rfl
@[simp] theorem Dev.add_bcp (s : Dev) (r : Reg) (i n : Nat) : (s.add r i n).bcp = s.bcp := rfl
@[simp] theorem Dev.add_modeReqs (s : Dev) (r : Reg) (i n : Nat) : (s.add r i n).modeReqs = s.modeReqs := rfl
@[simp] theorem Dev.add_events (s : Dev) (r : Reg) (i n : Nat) : (s.add r i n).events = s.events := rfl
@[simp] theorem Dev.add_out (s : Dev) (r : Reg) (i n : Nat) : (s.add r i n).out = s.out := rfl
@[simp] theorem Dev.add_frames (s : Dev) (r : Reg) (i n : Nat) : (s.add r i n).frames = s.frames := rfl
@[simp] theorem Dev.add_nextFrame (s : Dev) (r : Reg) (i n : Nat) : (s.add r i n).nextFrame = s.nextFrame := rfl
@[simp] theorem Dev.add_nextOrd (s : Dev) (r : Reg) (i n : Nat) : (s.add r i n).nextOrd = s.nextOrd := rfl
@[simp] theorem Dev.add_free (s : Dev) (r : Reg) (i n : Nat) : (s.add r i n).free = s.free := rfl

@[simp] theorem Dev.bump_pend (s : Dev) (r : Reg) (i : Nat) : (s.bump r i).pend = s.pend := rfl
@[simp] theorem Dev.bump_waits (s : Dev) (r : Reg) (i : Nat) : (s.bump r i).waits = s.waits := rfl
@[simp] theorem Dev.bump_snap (s : Dev) (r : Reg) (i : Nat) : (s.bump r i).snap = s.snap := rfl
@[simp] theorem Dev.bump_snapVn (s : Dev) (r : Reg) (i : Nat) : (s.bump r i).snapVn = s.snapVn := rfl
@[simp] theorem Dev.bump_snapLate (s : Dev) (r : Reg) (i : Nat) : (s.bump r i).snapLate = s.snapLate := rfl
@[simp] theorem Dev.bump_clk (s : Dev) (r : Reg) (i : Nat) : (s.bump r i).clk = s.clk := rfl
@[simp] theorem Dev.bump_log (s : Dev) (r : Reg) (i : Nat) : (s.bump r i).log = s.log := rfl
@[simp] theorem Dev.bump_whistles (s : Dev) (r : Reg) (i : Nat) : (s.bump r i).whistles = s.whistles := rfl
@[simp] theorem Dev.bump_whistleSeq (s : Dev) (r : Reg) (i : Nat) : (s.bump r i).whistleSeq = s.whistleSeq := rfl
@[simp] theorem Dev.bump_wire (s : Dev) (r : Reg) (i : Nat) : (s.bump r i).wire = s.wire := rfl
@[simp] theorem Dev.bump_prs (s : Dev) (r : Reg) (i : Nat) : (s.bump r i).prs = s.prs := rfl
@[simp] theorem Dev.bump_epc (s : Dev) (r : Reg) (i : Nat) : (s.bump r i).epc = s.epc := rfl
@[simp] theorem Dev.bump_tbl (s : Dev) (r : Reg) (i : Nat) : (s.bump r i).tbl = s.tbl := rfl
@[simp] theorem Dev.bump_swb (s : Dev) (r : Reg) (i : Nat) : (s.bump r i).swb = s.swb := rfl
@[simp] theorem Dev.bump_sch (s : Dev) (r : Reg) (i : Nat) : (s.bump r i).sch = s.sch := rfl
@[simp] theorem Dev.bump_ref (s : Dev) (r : Reg) (i : Nat) : (s.bump r i).ref = s.ref := rfl
@[simp] theorem Dev.bump_hif (s : Dev) (r : Reg) (i : Nat) : (s.bump r i).hif = s.hif := rfl
@[simp] theorem Dev.bump_rng (s : Dev) (r : Reg) (i : Nat) : (s.bump r i).rng = s.rng := rfl
@[simp] theorem Dev.bump_dma (s : Dev) (r : Reg) (i : Nat) : (s.bump r i).dma = s.dma := rfl
@[simp] theorem Dev.bump_mem (s : Dev) (r : Reg) (i : Nat) : (s.bump r i).mem = s.mem := rfl
@[simp] theorem Dev.bump_cry (s : Dev) (r : Reg) (i : Nat) : (s.bump r i).cry = s.cry := rfl
@[simp] theorem Dev.bump_stx (s : Dev) (r : Reg) (i : Nat) : (s.bump r i).stx = s.stx := rfl
@[simp] theorem Dev.bump_pit (s : Dev) (r : Reg) (i : Nat) : (s.bump r i).pit = s.pit := rfl
@[simp] theorem Dev.bump_jnl (s : Dev) (r : Reg) (i : Nat) : (s.bump r i).jnl = s.jnl := rfl
@[simp] theorem Dev.bump_dor (s : Dev) (r : Reg) (i : Nat) : (s.bump r i).dor = s.dor := rfl
@[simp] theorem Dev.bump_bcp (s : Dev) (r : Reg) (i : Nat) : (s.bump r i).bcp = s.bcp := rfl
@[simp] theorem Dev.bump_modeReqs (s : Dev) (r : Reg) (i : Nat) : (s.bump r i).modeReqs = s.modeReqs := rfl
@[simp] theorem Dev.bump_events (s : Dev) (r : Reg) (i : Nat) : (s.bump r i).events = s.events := rfl
@[simp] theorem Dev.bump_out (s : Dev) (r : Reg) (i : Nat) : (s.bump r i).out = s.out := rfl
@[simp] theorem Dev.bump_frames (s : Dev) (r : Reg) (i : Nat) : (s.bump r i).frames = s.frames := rfl
@[simp] theorem Dev.bump_nextFrame (s : Dev) (r : Reg) (i : Nat) : (s.bump r i).nextFrame = s.nextFrame := rfl
@[simp] theorem Dev.bump_nextOrd (s : Dev) (r : Reg) (i : Nat) : (s.bump r i).nextOrd = s.nextOrd := rfl
@[simp] theorem Dev.bump_free (s : Dev) (r : Reg) (i : Nat) : (s.bump r i).free = s.free := rfl

@[simp] theorem Dev.emit_regs (s : Dev) (o : Out) : (s.emit o).regs = s.regs := rfl
@[simp] theorem Dev.emit_pend (s : Dev) (o : Out) : (s.emit o).pend = s.pend := rfl
@[simp] theorem Dev.emit_waits (s : Dev) (o : Out) : (s.emit o).waits = s.waits := rfl
@[simp] theorem Dev.emit_snap (s : Dev) (o : Out) : (s.emit o).snap = s.snap := rfl
@[simp] theorem Dev.emit_snapVn (s : Dev) (o : Out) : (s.emit o).snapVn = s.snapVn := rfl
@[simp] theorem Dev.emit_snapLate (s : Dev) (o : Out) : (s.emit o).snapLate = s.snapLate := rfl
@[simp] theorem Dev.emit_clk (s : Dev) (o : Out) : (s.emit o).clk = s.clk := rfl
@[simp] theorem Dev.emit_log (s : Dev) (o : Out) : (s.emit o).log = s.log := rfl
@[simp] theorem Dev.emit_whistles (s : Dev) (o : Out) : (s.emit o).whistles = s.whistles := rfl
@[simp] theorem Dev.emit_whistleSeq (s : Dev) (o : Out) : (s.emit o).whistleSeq = s.whistleSeq := rfl
@[simp] theorem Dev.emit_wire (s : Dev) (o : Out) : (s.emit o).wire = s.wire := rfl
@[simp] theorem Dev.emit_prs (s : Dev) (o : Out) : (s.emit o).prs = s.prs := rfl
@[simp] theorem Dev.emit_epc (s : Dev) (o : Out) : (s.emit o).epc = s.epc := rfl
@[simp] theorem Dev.emit_tbl (s : Dev) (o : Out) : (s.emit o).tbl = s.tbl := rfl
@[simp] theorem Dev.emit_swb (s : Dev) (o : Out) : (s.emit o).swb = s.swb := rfl
@[simp] theorem Dev.emit_sch (s : Dev) (o : Out) : (s.emit o).sch = s.sch := rfl
@[simp] theorem Dev.emit_ref (s : Dev) (o : Out) : (s.emit o).ref = s.ref := rfl
@[simp] theorem Dev.emit_hif (s : Dev) (o : Out) : (s.emit o).hif = s.hif := rfl
@[simp] theorem Dev.emit_rng (s : Dev) (o : Out) : (s.emit o).rng = s.rng := rfl
@[simp] theorem Dev.emit_dma (s : Dev) (o : Out) : (s.emit o).dma = s.dma := rfl
@[simp] theorem Dev.emit_mem (s : Dev) (o : Out) : (s.emit o).mem = s.mem := rfl
@[simp] theorem Dev.emit_cry (s : Dev) (o : Out) : (s.emit o).cry = s.cry := rfl
@[simp] theorem Dev.emit_stx (s : Dev) (o : Out) : (s.emit o).stx = s.stx := rfl
@[simp] theorem Dev.emit_pit (s : Dev) (o : Out) : (s.emit o).pit = s.pit := rfl
@[simp] theorem Dev.emit_jnl (s : Dev) (o : Out) : (s.emit o).jnl = s.jnl := rfl
@[simp] theorem Dev.emit_dor (s : Dev) (o : Out) : (s.emit o).dor = s.dor := rfl
@[simp] theorem Dev.emit_bcp (s : Dev) (o : Out) : (s.emit o).bcp = s.bcp := rfl
@[simp] theorem Dev.emit_modeReqs (s : Dev) (o : Out) : (s.emit o).modeReqs = s.modeReqs := rfl
@[simp] theorem Dev.emit_events (s : Dev) (o : Out) : (s.emit o).events = s.events := rfl
@[simp] theorem Dev.emit_frames (s : Dev) (o : Out) : (s.emit o).frames = s.frames := rfl
@[simp] theorem Dev.emit_nextFrame (s : Dev) (o : Out) : (s.emit o).nextFrame = s.nextFrame := rfl
@[simp] theorem Dev.emit_nextOrd (s : Dev) (o : Out) : (s.emit o).nextOrd = s.nextOrd := rfl
@[simp] theorem Dev.emit_free (s : Dev) (o : Out) : (s.emit o).free = s.free := rfl

@[simp] theorem Dev.logPrio_regs (s : Dev) (r : LogRec) : (s.logPrio r).regs = s.regs := rfl
@[simp] theorem Dev.logPrio_pend (s : Dev) (r : LogRec) : (s.logPrio r).pend = s.pend := rfl
@[simp] theorem Dev.logPrio_waits (s : Dev) (r : LogRec) : (s.logPrio r).waits = s.waits := rfl
@[simp] theorem Dev.logPrio_snap (s : Dev) (r : LogRec) : (s.logPrio r).snap = s.snap := rfl
@[simp] theorem Dev.logPrio_snapVn (s : Dev) (r : LogRec) : (s.logPrio r).snapVn = s.snapVn := rfl
@[simp] theorem Dev.logPrio_snapLate (s : Dev) (r : LogRec) : (s.logPrio r).snapLate = s.snapLate := rfl
@[simp] theorem Dev.logPrio_clk (s : Dev) (r : LogRec) : (s.logPrio r).clk = s.clk := rfl
@[simp] theorem Dev.logPrio_whistles (s : Dev) (r : LogRec) : (s.logPrio r).whistles = s.whistles := rfl
@[simp] theorem Dev.logPrio_whistleSeq (s : Dev) (r : LogRec) : (s.logPrio r).whistleSeq = s.whistleSeq := rfl
@[simp] theorem Dev.logPrio_wire (s : Dev) (r : LogRec) : (s.logPrio r).wire = s.wire := rfl
@[simp] theorem Dev.logPrio_prs (s : Dev) (r : LogRec) : (s.logPrio r).prs = s.prs := rfl
@[simp] theorem Dev.logPrio_epc (s : Dev) (r : LogRec) : (s.logPrio r).epc = s.epc := rfl
@[simp] theorem Dev.logPrio_tbl (s : Dev) (r : LogRec) : (s.logPrio r).tbl = s.tbl := rfl
@[simp] theorem Dev.logPrio_swb (s : Dev) (r : LogRec) : (s.logPrio r).swb = s.swb := rfl
@[simp] theorem Dev.logPrio_sch (s : Dev) (r : LogRec) : (s.logPrio r).sch = s.sch := rfl
@[simp] theorem Dev.logPrio_ref (s : Dev) (r : LogRec) : (s.logPrio r).ref = s.ref := rfl
@[simp] theorem Dev.logPrio_hif (s : Dev) (r : LogRec) : (s.logPrio r).hif = s.hif := rfl
@[simp] theorem Dev.logPrio_rng (s : Dev) (r : LogRec) : (s.logPrio r).rng = s.rng := rfl
@[simp] theorem Dev.logPrio_dma (s : Dev) (r : LogRec) : (s.logPrio r).dma = s.dma := rfl
@[simp] theorem Dev.logPrio_mem (s : Dev) (r : LogRec) : (s.logPrio r).mem = s.mem := rfl
@[simp] theorem Dev.logPrio_cry (s : Dev) (r : LogRec) : (s.logPrio r).cry = s.cry := rfl
@[simp] theorem Dev.logPrio_stx (s : Dev) (r : LogRec) : (s.logPrio r).stx = s.stx := rfl
@[simp] theorem Dev.logPrio_pit (s : Dev) (r : LogRec) : (s.logPrio r).pit = s.pit := rfl
@[simp] theorem Dev.logPrio_jnl (s : Dev) (r : LogRec) : (s.logPrio r).jnl = s.jnl := rfl
@[simp] theorem Dev.logPrio_dor (s : Dev) (r : LogRec) : (s.logPrio r).dor = s.dor := rfl
@[simp] theorem Dev.logPrio_bcp (s : Dev) (r : LogRec) : (s.logPrio r).bcp = s.bcp := rfl
@[simp] theorem Dev.logPrio_modeReqs (s : Dev) (r : LogRec) : (s.logPrio r).modeReqs = s.modeReqs := rfl
@[simp] theorem Dev.logPrio_events (s : Dev) (r : LogRec) : (s.logPrio r).events = s.events := rfl
@[simp] theorem Dev.logPrio_out (s : Dev) (r : LogRec) : (s.logPrio r).out = s.out := rfl
@[simp] theorem Dev.logPrio_frames (s : Dev) (r : LogRec) : (s.logPrio r).frames = s.frames := rfl
@[simp] theorem Dev.logPrio_nextFrame (s : Dev) (r : LogRec) : (s.logPrio r).nextFrame = s.nextFrame := rfl
@[simp] theorem Dev.logPrio_nextOrd (s : Dev) (r : LogRec) : (s.logPrio r).nextOrd = s.nextOrd := rfl
@[simp] theorem Dev.logPrio_free (s : Dev) (r : LogRec) : (s.logPrio r).free = s.free := rfl

@[simp] theorem Dev.logOrd_regs (s : Dev) (r : LogRec) (h : Option HeldWrite) : (s.logOrd r h).regs = s.regs := rfl
@[simp] theorem Dev.logOrd_pend (s : Dev) (r : LogRec) (h : Option HeldWrite) : (s.logOrd r h).pend = s.pend := rfl
@[simp] theorem Dev.logOrd_waits (s : Dev) (r : LogRec) (h : Option HeldWrite) : (s.logOrd r h).waits = s.waits := rfl
@[simp] theorem Dev.logOrd_snap (s : Dev) (r : LogRec) (h : Option HeldWrite) : (s.logOrd r h).snap = s.snap := rfl
@[simp] theorem Dev.logOrd_snapVn (s : Dev) (r : LogRec) (h : Option HeldWrite) : (s.logOrd r h).snapVn = s.snapVn := rfl
@[simp] theorem Dev.logOrd_snapLate (s : Dev) (r : LogRec) (h : Option HeldWrite) : (s.logOrd r h).snapLate = s.snapLate := rfl
@[simp] theorem Dev.logOrd_clk (s : Dev) (r : LogRec) (h : Option HeldWrite) : (s.logOrd r h).clk = s.clk := rfl
@[simp] theorem Dev.logOrd_whistles (s : Dev) (r : LogRec) (h : Option HeldWrite) : (s.logOrd r h).whistles = s.whistles := rfl
@[simp] theorem Dev.logOrd_whistleSeq (s : Dev) (r : LogRec) (h : Option HeldWrite) : (s.logOrd r h).whistleSeq = s.whistleSeq := rfl
@[simp] theorem Dev.logOrd_wire (s : Dev) (r : LogRec) (h : Option HeldWrite) : (s.logOrd r h).wire = s.wire := rfl
@[simp] theorem Dev.logOrd_prs (s : Dev) (r : LogRec) (h : Option HeldWrite) : (s.logOrd r h).prs = s.prs := rfl
@[simp] theorem Dev.logOrd_epc (s : Dev) (r : LogRec) (h : Option HeldWrite) : (s.logOrd r h).epc = s.epc := rfl
@[simp] theorem Dev.logOrd_tbl (s : Dev) (r : LogRec) (h : Option HeldWrite) : (s.logOrd r h).tbl = s.tbl := rfl
@[simp] theorem Dev.logOrd_swb (s : Dev) (r : LogRec) (h : Option HeldWrite) : (s.logOrd r h).swb = s.swb := rfl
@[simp] theorem Dev.logOrd_sch (s : Dev) (r : LogRec) (h : Option HeldWrite) : (s.logOrd r h).sch = s.sch := rfl
@[simp] theorem Dev.logOrd_ref (s : Dev) (r : LogRec) (h : Option HeldWrite) : (s.logOrd r h).ref = s.ref := rfl
@[simp] theorem Dev.logOrd_hif (s : Dev) (r : LogRec) (h : Option HeldWrite) : (s.logOrd r h).hif = s.hif := rfl
@[simp] theorem Dev.logOrd_rng (s : Dev) (r : LogRec) (h : Option HeldWrite) : (s.logOrd r h).rng = s.rng := rfl
@[simp] theorem Dev.logOrd_dma (s : Dev) (r : LogRec) (h : Option HeldWrite) : (s.logOrd r h).dma = s.dma := rfl
@[simp] theorem Dev.logOrd_mem (s : Dev) (r : LogRec) (h : Option HeldWrite) : (s.logOrd r h).mem = s.mem := rfl
@[simp] theorem Dev.logOrd_cry (s : Dev) (r : LogRec) (h : Option HeldWrite) : (s.logOrd r h).cry = s.cry := rfl
@[simp] theorem Dev.logOrd_stx (s : Dev) (r : LogRec) (h : Option HeldWrite) : (s.logOrd r h).stx = s.stx := rfl
@[simp] theorem Dev.logOrd_pit (s : Dev) (r : LogRec) (h : Option HeldWrite) : (s.logOrd r h).pit = s.pit := rfl
@[simp] theorem Dev.logOrd_jnl (s : Dev) (r : LogRec) (h : Option HeldWrite) : (s.logOrd r h).jnl = s.jnl := rfl
@[simp] theorem Dev.logOrd_dor (s : Dev) (r : LogRec) (h : Option HeldWrite) : (s.logOrd r h).dor = s.dor := rfl
@[simp] theorem Dev.logOrd_bcp (s : Dev) (r : LogRec) (h : Option HeldWrite) : (s.logOrd r h).bcp = s.bcp := rfl
@[simp] theorem Dev.logOrd_modeReqs (s : Dev) (r : LogRec) (h : Option HeldWrite) : (s.logOrd r h).modeReqs = s.modeReqs := rfl
@[simp] theorem Dev.logOrd_events (s : Dev) (r : LogRec) (h : Option HeldWrite) : (s.logOrd r h).events = s.events := rfl
@[simp] theorem Dev.logOrd_out (s : Dev) (r : LogRec) (h : Option HeldWrite) : (s.logOrd r h).out = s.out := rfl
@[simp] theorem Dev.logOrd_frames (s : Dev) (r : LogRec) (h : Option HeldWrite) : (s.logOrd r h).frames = s.frames := rfl
@[simp] theorem Dev.logOrd_nextFrame (s : Dev) (r : LogRec) (h : Option HeldWrite) : (s.logOrd r h).nextFrame = s.nextFrame := rfl
@[simp] theorem Dev.logOrd_nextOrd (s : Dev) (r : LogRec) (h : Option HeldWrite) : (s.logOrd r h).nextOrd = s.nextOrd := rfl
@[simp] theorem Dev.logOrd_free (s : Dev) (r : LogRec) (h : Option HeldWrite) : (s.logOrd r h).free = s.free := rfl

@[simp] theorem Dev.setFrame_regs (s : Dev) (f : Nat) (x : Frame) : (s.setFrame f x).regs = s.regs := rfl
@[simp] theorem Dev.setFrame_pend (s : Dev) (f : Nat) (x : Frame) : (s.setFrame f x).pend = s.pend := rfl
@[simp] theorem Dev.setFrame_waits (s : Dev) (f : Nat) (x : Frame) : (s.setFrame f x).waits = s.waits := rfl
@[simp] theorem Dev.setFrame_snap (s : Dev) (f : Nat) (x : Frame) : (s.setFrame f x).snap = s.snap := rfl
@[simp] theorem Dev.setFrame_snapVn (s : Dev) (f : Nat) (x : Frame) : (s.setFrame f x).snapVn = s.snapVn := rfl
@[simp] theorem Dev.setFrame_snapLate (s : Dev) (f : Nat) (x : Frame) : (s.setFrame f x).snapLate = s.snapLate := rfl
@[simp] theorem Dev.setFrame_clk (s : Dev) (f : Nat) (x : Frame) : (s.setFrame f x).clk = s.clk := rfl
@[simp] theorem Dev.setFrame_log (s : Dev) (f : Nat) (x : Frame) : (s.setFrame f x).log = s.log := rfl
@[simp] theorem Dev.setFrame_whistles (s : Dev) (f : Nat) (x : Frame) : (s.setFrame f x).whistles = s.whistles := rfl
@[simp] theorem Dev.setFrame_whistleSeq (s : Dev) (f : Nat) (x : Frame) : (s.setFrame f x).whistleSeq = s.whistleSeq := rfl
@[simp] theorem Dev.setFrame_wire (s : Dev) (f : Nat) (x : Frame) : (s.setFrame f x).wire = s.wire := rfl
@[simp] theorem Dev.setFrame_prs (s : Dev) (f : Nat) (x : Frame) : (s.setFrame f x).prs = s.prs := rfl
@[simp] theorem Dev.setFrame_epc (s : Dev) (f : Nat) (x : Frame) : (s.setFrame f x).epc = s.epc := rfl
@[simp] theorem Dev.setFrame_tbl (s : Dev) (f : Nat) (x : Frame) : (s.setFrame f x).tbl = s.tbl := rfl
@[simp] theorem Dev.setFrame_swb (s : Dev) (f : Nat) (x : Frame) : (s.setFrame f x).swb = s.swb := rfl
@[simp] theorem Dev.setFrame_sch (s : Dev) (f : Nat) (x : Frame) : (s.setFrame f x).sch = s.sch := rfl
@[simp] theorem Dev.setFrame_ref (s : Dev) (f : Nat) (x : Frame) : (s.setFrame f x).ref = s.ref := rfl
@[simp] theorem Dev.setFrame_hif (s : Dev) (f : Nat) (x : Frame) : (s.setFrame f x).hif = s.hif := rfl
@[simp] theorem Dev.setFrame_rng (s : Dev) (f : Nat) (x : Frame) : (s.setFrame f x).rng = s.rng := rfl
@[simp] theorem Dev.setFrame_dma (s : Dev) (f : Nat) (x : Frame) : (s.setFrame f x).dma = s.dma := rfl
@[simp] theorem Dev.setFrame_mem (s : Dev) (f : Nat) (x : Frame) : (s.setFrame f x).mem = s.mem := rfl
@[simp] theorem Dev.setFrame_cry (s : Dev) (f : Nat) (x : Frame) : (s.setFrame f x).cry = s.cry := rfl
@[simp] theorem Dev.setFrame_stx (s : Dev) (f : Nat) (x : Frame) : (s.setFrame f x).stx = s.stx := rfl
@[simp] theorem Dev.setFrame_pit (s : Dev) (f : Nat) (x : Frame) : (s.setFrame f x).pit = s.pit := rfl
@[simp] theorem Dev.setFrame_jnl (s : Dev) (f : Nat) (x : Frame) : (s.setFrame f x).jnl = s.jnl := rfl
@[simp] theorem Dev.setFrame_dor (s : Dev) (f : Nat) (x : Frame) : (s.setFrame f x).dor = s.dor := rfl
@[simp] theorem Dev.setFrame_bcp (s : Dev) (f : Nat) (x : Frame) : (s.setFrame f x).bcp = s.bcp := rfl
@[simp] theorem Dev.setFrame_modeReqs (s : Dev) (f : Nat) (x : Frame) : (s.setFrame f x).modeReqs = s.modeReqs := rfl
@[simp] theorem Dev.setFrame_events (s : Dev) (f : Nat) (x : Frame) : (s.setFrame f x).events = s.events := rfl
@[simp] theorem Dev.setFrame_out (s : Dev) (f : Nat) (x : Frame) : (s.setFrame f x).out = s.out := rfl
@[simp] theorem Dev.setFrame_nextFrame (s : Dev) (f : Nat) (x : Frame) : (s.setFrame f x).nextFrame = s.nextFrame := rfl
@[simp] theorem Dev.setFrame_nextOrd (s : Dev) (f : Nat) (x : Frame) : (s.setFrame f x).nextOrd = s.nextOrd := rfl
@[simp] theorem Dev.setFrame_free (s : Dev) (f : Nat) (x : Frame) : (s.setFrame f x).free = s.free := rfl

/-- A frame that leaves its place changes at most the average depth of its queue. -/
theorem Dev.leaveQueue_eq (s : Dev) (f : Nat) : ∃ a, s.leaveQueue f = { s with swb := { s.swb with avg := a } } := by
  unfold Dev.leaveQueue
  split
  · split
    · exact ⟨_, rfl⟩
    · exact ⟨s.swb.avg, rfl⟩
  · exact ⟨s.swb.avg, rfl⟩
@[simp] theorem Dev.leaveQueue_pend (s : Dev) (f : Nat) : (s.leaveQueue f).pend = s.pend := by
  obtain ⟨a, h⟩ := s.leaveQueue_eq f; rw [h]
@[simp] theorem Dev.leaveQueue_waits (s : Dev) (f : Nat) : (s.leaveQueue f).waits = s.waits := by
  obtain ⟨a, h⟩ := s.leaveQueue_eq f; rw [h]
@[simp] theorem Dev.leaveQueue_snap (s : Dev) (f : Nat) : (s.leaveQueue f).snap = s.snap := by
  obtain ⟨a, h⟩ := s.leaveQueue_eq f; rw [h]
@[simp] theorem Dev.leaveQueue_snapVn (s : Dev) (f : Nat) : (s.leaveQueue f).snapVn = s.snapVn := by
  obtain ⟨a, h⟩ := s.leaveQueue_eq f; rw [h]
@[simp] theorem Dev.leaveQueue_snapLate (s : Dev) (f : Nat) : (s.leaveQueue f).snapLate = s.snapLate := by
  obtain ⟨a, h⟩ := s.leaveQueue_eq f; rw [h]
@[simp] theorem Dev.leaveQueue_clk (s : Dev) (f : Nat) : (s.leaveQueue f).clk = s.clk := by
  obtain ⟨a, h⟩ := s.leaveQueue_eq f; rw [h]
@[simp] theorem Dev.leaveQueue_log (s : Dev) (f : Nat) : (s.leaveQueue f).log = s.log := by
  obtain ⟨a, h⟩ := s.leaveQueue_eq f; rw [h]
@[simp] theorem Dev.leaveQueue_whistles (s : Dev) (f : Nat) : (s.leaveQueue f).whistles = s.whistles := by
  obtain ⟨a, h⟩ := s.leaveQueue_eq f; rw [h]
@[simp] theorem Dev.leaveQueue_whistleSeq (s : Dev) (f : Nat) : (s.leaveQueue f).whistleSeq = s.whistleSeq := by
  obtain ⟨a, h⟩ := s.leaveQueue_eq f; rw [h]
@[simp] theorem Dev.leaveQueue_wire (s : Dev) (f : Nat) : (s.leaveQueue f).wire = s.wire := by
  obtain ⟨a, h⟩ := s.leaveQueue_eq f; rw [h]
@[simp] theorem Dev.leaveQueue_prs (s : Dev) (f : Nat) : (s.leaveQueue f).prs = s.prs := by
  obtain ⟨a, h⟩ := s.leaveQueue_eq f; rw [h]
@[simp] theorem Dev.leaveQueue_epc (s : Dev) (f : Nat) : (s.leaveQueue f).epc = s.epc := by
  obtain ⟨a, h⟩ := s.leaveQueue_eq f; rw [h]
@[simp] theorem Dev.leaveQueue_tbl (s : Dev) (f : Nat) : (s.leaveQueue f).tbl = s.tbl := by
  obtain ⟨a, h⟩ := s.leaveQueue_eq f; rw [h]
@[simp] theorem Dev.leaveQueue_sch (s : Dev) (f : Nat) : (s.leaveQueue f).sch = s.sch := by
  obtain ⟨a, h⟩ := s.leaveQueue_eq f; rw [h]
@[simp] theorem Dev.leaveQueue_ref (s : Dev) (f : Nat) : (s.leaveQueue f).ref = s.ref := by
  obtain ⟨a, h⟩ := s.leaveQueue_eq f; rw [h]
@[simp] theorem Dev.leaveQueue_hif (s : Dev) (f : Nat) : (s.leaveQueue f).hif = s.hif := by
  obtain ⟨a, h⟩ := s.leaveQueue_eq f; rw [h]
@[simp] theorem Dev.leaveQueue_rng (s : Dev) (f : Nat) : (s.leaveQueue f).rng = s.rng := by
  obtain ⟨a, h⟩ := s.leaveQueue_eq f; rw [h]
@[simp] theorem Dev.leaveQueue_dma (s : Dev) (f : Nat) : (s.leaveQueue f).dma = s.dma := by
  obtain ⟨a, h⟩ := s.leaveQueue_eq f; rw [h]
@[simp] theorem Dev.leaveQueue_mem (s : Dev) (f : Nat) : (s.leaveQueue f).mem = s.mem := by
  obtain ⟨a, h⟩ := s.leaveQueue_eq f; rw [h]
@[simp] theorem Dev.leaveQueue_cry (s : Dev) (f : Nat) : (s.leaveQueue f).cry = s.cry := by
  obtain ⟨a, h⟩ := s.leaveQueue_eq f; rw [h]
@[simp] theorem Dev.leaveQueue_stx (s : Dev) (f : Nat) : (s.leaveQueue f).stx = s.stx := by
  obtain ⟨a, h⟩ := s.leaveQueue_eq f; rw [h]
@[simp] theorem Dev.leaveQueue_pit (s : Dev) (f : Nat) : (s.leaveQueue f).pit = s.pit := by
  obtain ⟨a, h⟩ := s.leaveQueue_eq f; rw [h]
@[simp] theorem Dev.leaveQueue_jnl (s : Dev) (f : Nat) : (s.leaveQueue f).jnl = s.jnl := by
  obtain ⟨a, h⟩ := s.leaveQueue_eq f; rw [h]
@[simp] theorem Dev.leaveQueue_dor (s : Dev) (f : Nat) : (s.leaveQueue f).dor = s.dor := by
  obtain ⟨a, h⟩ := s.leaveQueue_eq f; rw [h]
@[simp] theorem Dev.leaveQueue_bcp (s : Dev) (f : Nat) : (s.leaveQueue f).bcp = s.bcp := by
  obtain ⟨a, h⟩ := s.leaveQueue_eq f; rw [h]
@[simp] theorem Dev.leaveQueue_modeReqs (s : Dev) (f : Nat) : (s.leaveQueue f).modeReqs = s.modeReqs := by
  obtain ⟨a, h⟩ := s.leaveQueue_eq f; rw [h]
@[simp] theorem Dev.leaveQueue_events (s : Dev) (f : Nat) : (s.leaveQueue f).events = s.events := by
  obtain ⟨a, h⟩ := s.leaveQueue_eq f; rw [h]
@[simp] theorem Dev.leaveQueue_out (s : Dev) (f : Nat) : (s.leaveQueue f).out = s.out := by
  obtain ⟨a, h⟩ := s.leaveQueue_eq f; rw [h]
@[simp] theorem Dev.leaveQueue_frames (s : Dev) (f : Nat) : (s.leaveQueue f).frames = s.frames := by
  obtain ⟨a, h⟩ := s.leaveQueue_eq f; rw [h]
@[simp] theorem Dev.leaveQueue_nextFrame (s : Dev) (f : Nat) : (s.leaveQueue f).nextFrame = s.nextFrame := by
  obtain ⟨a, h⟩ := s.leaveQueue_eq f; rw [h]
@[simp] theorem Dev.leaveQueue_nextOrd (s : Dev) (f : Nat) : (s.leaveQueue f).nextOrd = s.nextOrd := by
  obtain ⟨a, h⟩ := s.leaveQueue_eq f; rw [h]
@[simp] theorem Dev.leaveQueue_free (s : Dev) (f : Nat) : (s.leaveQueue f).free = s.free := by
  obtain ⟨a, h⟩ := s.leaveQueue_eq f; rw [h]
@[simp] theorem Dev.leaveQueue_regs (s : Dev) (f : Nat) : (s.leaveQueue f).regs = s.regs := by
  obtain ⟨a, h⟩ := s.leaveQueue_eq f; rw [h]
@[simp] theorem Dev.moveFrame_regs (s : Dev) (f : Nat) (x : Frame) (l : FrameLoc) : (s.moveFrame f x l).regs = s.regs := by simp [Dev.moveFrame]
@[simp] theorem Dev.moveFrame_pend (s : Dev) (f : Nat) (x : Frame) (l : FrameLoc) : (s.moveFrame f x l).pend = s.pend := by simp [Dev.moveFrame]
@[simp] theorem Dev.moveFrame_waits (s : Dev) (f : Nat) (x : Frame) (l : FrameLoc) : (s.moveFrame f x l).waits = s.waits := by simp [Dev.moveFrame]
@[simp] theorem Dev.moveFrame_snap (s : Dev) (f : Nat) (x : Frame) (l : FrameLoc) : (s.moveFrame f x l).snap = s.snap := by simp [Dev.moveFrame]
@[simp] theorem Dev.moveFrame_snapVn (s : Dev) (f : Nat) (x : Frame) (l : FrameLoc) : (s.moveFrame f x l).snapVn = s.snapVn := by simp [Dev.moveFrame]
@[simp] theorem Dev.moveFrame_snapLate (s : Dev) (f : Nat) (x : Frame) (l : FrameLoc) : (s.moveFrame f x l).snapLate = s.snapLate := by simp [Dev.moveFrame]
@[simp] theorem Dev.moveFrame_clk (s : Dev) (f : Nat) (x : Frame) (l : FrameLoc) : (s.moveFrame f x l).clk = s.clk := by simp [Dev.moveFrame]
@[simp] theorem Dev.moveFrame_log (s : Dev) (f : Nat) (x : Frame) (l : FrameLoc) : (s.moveFrame f x l).log = s.log := by simp [Dev.moveFrame]
@[simp] theorem Dev.moveFrame_whistles (s : Dev) (f : Nat) (x : Frame) (l : FrameLoc) : (s.moveFrame f x l).whistles = s.whistles := by simp [Dev.moveFrame]
@[simp] theorem Dev.moveFrame_whistleSeq (s : Dev) (f : Nat) (x : Frame) (l : FrameLoc) : (s.moveFrame f x l).whistleSeq = s.whistleSeq := by simp [Dev.moveFrame]
@[simp] theorem Dev.moveFrame_wire (s : Dev) (f : Nat) (x : Frame) (l : FrameLoc) : (s.moveFrame f x l).wire = s.wire := by simp [Dev.moveFrame]
@[simp] theorem Dev.moveFrame_prs (s : Dev) (f : Nat) (x : Frame) (l : FrameLoc) : (s.moveFrame f x l).prs = s.prs := by simp [Dev.moveFrame]
@[simp] theorem Dev.moveFrame_epc (s : Dev) (f : Nat) (x : Frame) (l : FrameLoc) : (s.moveFrame f x l).epc = s.epc := by simp [Dev.moveFrame]
@[simp] theorem Dev.moveFrame_tbl (s : Dev) (f : Nat) (x : Frame) (l : FrameLoc) : (s.moveFrame f x l).tbl = s.tbl := by simp [Dev.moveFrame]
@[simp] theorem Dev.moveFrame_sch (s : Dev) (f : Nat) (x : Frame) (l : FrameLoc) : (s.moveFrame f x l).sch = s.sch := by simp [Dev.moveFrame]
@[simp] theorem Dev.moveFrame_ref (s : Dev) (f : Nat) (x : Frame) (l : FrameLoc) : (s.moveFrame f x l).ref = s.ref := by simp [Dev.moveFrame]
@[simp] theorem Dev.moveFrame_hif (s : Dev) (f : Nat) (x : Frame) (l : FrameLoc) : (s.moveFrame f x l).hif = s.hif := by simp [Dev.moveFrame]
@[simp] theorem Dev.moveFrame_rng (s : Dev) (f : Nat) (x : Frame) (l : FrameLoc) : (s.moveFrame f x l).rng = s.rng := by simp [Dev.moveFrame]
@[simp] theorem Dev.moveFrame_dma (s : Dev) (f : Nat) (x : Frame) (l : FrameLoc) : (s.moveFrame f x l).dma = s.dma := by simp [Dev.moveFrame]
@[simp] theorem Dev.moveFrame_mem (s : Dev) (f : Nat) (x : Frame) (l : FrameLoc) : (s.moveFrame f x l).mem = s.mem := by simp [Dev.moveFrame]
@[simp] theorem Dev.moveFrame_cry (s : Dev) (f : Nat) (x : Frame) (l : FrameLoc) : (s.moveFrame f x l).cry = s.cry := by simp [Dev.moveFrame]
@[simp] theorem Dev.moveFrame_stx (s : Dev) (f : Nat) (x : Frame) (l : FrameLoc) : (s.moveFrame f x l).stx = s.stx := by simp [Dev.moveFrame]
@[simp] theorem Dev.moveFrame_pit (s : Dev) (f : Nat) (x : Frame) (l : FrameLoc) : (s.moveFrame f x l).pit = s.pit := by simp [Dev.moveFrame]
@[simp] theorem Dev.moveFrame_jnl (s : Dev) (f : Nat) (x : Frame) (l : FrameLoc) : (s.moveFrame f x l).jnl = s.jnl := by simp [Dev.moveFrame]
@[simp] theorem Dev.moveFrame_dor (s : Dev) (f : Nat) (x : Frame) (l : FrameLoc) : (s.moveFrame f x l).dor = s.dor := by simp [Dev.moveFrame]
@[simp] theorem Dev.moveFrame_bcp (s : Dev) (f : Nat) (x : Frame) (l : FrameLoc) : (s.moveFrame f x l).bcp = s.bcp := by simp [Dev.moveFrame]
@[simp] theorem Dev.moveFrame_modeReqs (s : Dev) (f : Nat) (x : Frame) (l : FrameLoc) : (s.moveFrame f x l).modeReqs = s.modeReqs := by simp [Dev.moveFrame]
@[simp] theorem Dev.moveFrame_events (s : Dev) (f : Nat) (x : Frame) (l : FrameLoc) : (s.moveFrame f x l).events = s.events := by simp [Dev.moveFrame]
@[simp] theorem Dev.moveFrame_out (s : Dev) (f : Nat) (x : Frame) (l : FrameLoc) : (s.moveFrame f x l).out = s.out := by simp [Dev.moveFrame]
@[simp] theorem Dev.moveFrame_nextFrame (s : Dev) (f : Nat) (x : Frame) (l : FrameLoc) : (s.moveFrame f x l).nextFrame = s.nextFrame := by simp [Dev.moveFrame]
@[simp] theorem Dev.moveFrame_free (s : Dev) (f : Nat) (x : Frame) (l : FrameLoc) : (s.moveFrame f x l).free = s.free := by simp [Dev.moveFrame]

@[simp] theorem Dev.dropFrame_regs (s : Dev) (f : Nat) : (s.dropFrame f).regs = s.regs := by simp [Dev.dropFrame]
@[simp] theorem Dev.dropFrame_pend (s : Dev) (f : Nat) : (s.dropFrame f).pend = s.pend := by simp [Dev.dropFrame]
@[simp] theorem Dev.dropFrame_waits (s : Dev) (f : Nat) : (s.dropFrame f).waits = s.waits := by simp [Dev.dropFrame]
@[simp] theorem Dev.dropFrame_snap (s : Dev) (f : Nat) : (s.dropFrame f).snap = s.snap := by simp [Dev.dropFrame]
@[simp] theorem Dev.dropFrame_snapVn (s : Dev) (f : Nat) : (s.dropFrame f).snapVn = s.snapVn := by simp [Dev.dropFrame]
@[simp] theorem Dev.dropFrame_snapLate (s : Dev) (f : Nat) : (s.dropFrame f).snapLate = s.snapLate := by simp [Dev.dropFrame]
@[simp] theorem Dev.dropFrame_clk (s : Dev) (f : Nat) : (s.dropFrame f).clk = s.clk := by simp [Dev.dropFrame]
@[simp] theorem Dev.dropFrame_log (s : Dev) (f : Nat) : (s.dropFrame f).log = s.log := by simp [Dev.dropFrame]
@[simp] theorem Dev.dropFrame_whistles (s : Dev) (f : Nat) : (s.dropFrame f).whistles = s.whistles := by simp [Dev.dropFrame]
@[simp] theorem Dev.dropFrame_whistleSeq (s : Dev) (f : Nat) : (s.dropFrame f).whistleSeq = s.whistleSeq := by simp [Dev.dropFrame]
@[simp] theorem Dev.dropFrame_wire (s : Dev) (f : Nat) : (s.dropFrame f).wire = s.wire := by simp [Dev.dropFrame]
@[simp] theorem Dev.dropFrame_prs (s : Dev) (f : Nat) : (s.dropFrame f).prs = s.prs := by simp [Dev.dropFrame]
@[simp] theorem Dev.dropFrame_epc (s : Dev) (f : Nat) : (s.dropFrame f).epc = s.epc := by simp [Dev.dropFrame]
@[simp] theorem Dev.dropFrame_tbl (s : Dev) (f : Nat) : (s.dropFrame f).tbl = s.tbl := by simp [Dev.dropFrame]
@[simp] theorem Dev.dropFrame_sch (s : Dev) (f : Nat) : (s.dropFrame f).sch = s.sch := by simp [Dev.dropFrame]
@[simp] theorem Dev.dropFrame_ref (s : Dev) (f : Nat) : (s.dropFrame f).ref = s.ref := by simp [Dev.dropFrame]
@[simp] theorem Dev.dropFrame_hif (s : Dev) (f : Nat) : (s.dropFrame f).hif = s.hif := by simp [Dev.dropFrame]
@[simp] theorem Dev.dropFrame_rng (s : Dev) (f : Nat) : (s.dropFrame f).rng = s.rng := by simp [Dev.dropFrame]
@[simp] theorem Dev.dropFrame_dma (s : Dev) (f : Nat) : (s.dropFrame f).dma = s.dma := by simp [Dev.dropFrame]
@[simp] theorem Dev.dropFrame_mem (s : Dev) (f : Nat) : (s.dropFrame f).mem = s.mem := by simp [Dev.dropFrame]
@[simp] theorem Dev.dropFrame_cry (s : Dev) (f : Nat) : (s.dropFrame f).cry = s.cry := by simp [Dev.dropFrame]
@[simp] theorem Dev.dropFrame_stx (s : Dev) (f : Nat) : (s.dropFrame f).stx = s.stx := by simp [Dev.dropFrame]
@[simp] theorem Dev.dropFrame_pit (s : Dev) (f : Nat) : (s.dropFrame f).pit = s.pit := by simp [Dev.dropFrame]
@[simp] theorem Dev.dropFrame_jnl (s : Dev) (f : Nat) : (s.dropFrame f).jnl = s.jnl := by simp [Dev.dropFrame]
@[simp] theorem Dev.dropFrame_dor (s : Dev) (f : Nat) : (s.dropFrame f).dor = s.dor := by simp [Dev.dropFrame]
@[simp] theorem Dev.dropFrame_bcp (s : Dev) (f : Nat) : (s.dropFrame f).bcp = s.bcp := by simp [Dev.dropFrame]
@[simp] theorem Dev.dropFrame_modeReqs (s : Dev) (f : Nat) : (s.dropFrame f).modeReqs = s.modeReqs := by simp [Dev.dropFrame]
@[simp] theorem Dev.dropFrame_events (s : Dev) (f : Nat) : (s.dropFrame f).events = s.events := by simp [Dev.dropFrame]
@[simp] theorem Dev.dropFrame_out (s : Dev) (f : Nat) : (s.dropFrame f).out = s.out := by simp [Dev.dropFrame]
@[simp] theorem Dev.dropFrame_nextFrame (s : Dev) (f : Nat) : (s.dropFrame f).nextFrame = s.nextFrame := by simp [Dev.dropFrame]
@[simp] theorem Dev.dropFrame_nextOrd (s : Dev) (f : Nat) : (s.dropFrame f).nextOrd = s.nextOrd := by simp [Dev.dropFrame]
@[simp] theorem Dev.dropFrame_free (s : Dev) (f : Nat) : (s.dropFrame f).free = s.free := by simp [Dev.dropFrame]

@[simp] theorem Dev.setCtx_regs (s : Dev) (k : Nat) (x : Ctx) : (s.setCtx k x).regs = s.regs := rfl
@[simp] theorem Dev.setCtx_pend (s : Dev) (k : Nat) (x : Ctx) : (s.setCtx k x).pend = s.pend := rfl
@[simp] theorem Dev.setCtx_waits (s : Dev) (k : Nat) (x : Ctx) : (s.setCtx k x).waits = s.waits := rfl
@[simp] theorem Dev.setCtx_snap (s : Dev) (k : Nat) (x : Ctx) : (s.setCtx k x).snap = s.snap := rfl
@[simp] theorem Dev.setCtx_snapVn (s : Dev) (k : Nat) (x : Ctx) : (s.setCtx k x).snapVn = s.snapVn := rfl
@[simp] theorem Dev.setCtx_snapLate (s : Dev) (k : Nat) (x : Ctx) : (s.setCtx k x).snapLate = s.snapLate := rfl
@[simp] theorem Dev.setCtx_clk (s : Dev) (k : Nat) (x : Ctx) : (s.setCtx k x).clk = s.clk := rfl
@[simp] theorem Dev.setCtx_log (s : Dev) (k : Nat) (x : Ctx) : (s.setCtx k x).log = s.log := rfl
@[simp] theorem Dev.setCtx_whistles (s : Dev) (k : Nat) (x : Ctx) : (s.setCtx k x).whistles = s.whistles := rfl
@[simp] theorem Dev.setCtx_whistleSeq (s : Dev) (k : Nat) (x : Ctx) : (s.setCtx k x).whistleSeq = s.whistleSeq := rfl
@[simp] theorem Dev.setCtx_wire (s : Dev) (k : Nat) (x : Ctx) : (s.setCtx k x).wire = s.wire := rfl
@[simp] theorem Dev.setCtx_prs (s : Dev) (k : Nat) (x : Ctx) : (s.setCtx k x).prs = s.prs := rfl
@[simp] theorem Dev.setCtx_epc (s : Dev) (k : Nat) (x : Ctx) : (s.setCtx k x).epc = s.epc := rfl
@[simp] theorem Dev.setCtx_tbl (s : Dev) (k : Nat) (x : Ctx) : (s.setCtx k x).tbl = s.tbl := rfl
@[simp] theorem Dev.setCtx_swb (s : Dev) (k : Nat) (x : Ctx) : (s.setCtx k x).swb = s.swb := rfl
@[simp] theorem Dev.setCtx_sch (s : Dev) (k : Nat) (x : Ctx) : (s.setCtx k x).sch = s.sch := rfl
@[simp] theorem Dev.setCtx_ref (s : Dev) (k : Nat) (x : Ctx) : (s.setCtx k x).ref = s.ref := rfl
@[simp] theorem Dev.setCtx_hif (s : Dev) (k : Nat) (x : Ctx) : (s.setCtx k x).hif = s.hif := rfl
@[simp] theorem Dev.setCtx_rng (s : Dev) (k : Nat) (x : Ctx) : (s.setCtx k x).rng = s.rng := rfl
@[simp] theorem Dev.setCtx_dma (s : Dev) (k : Nat) (x : Ctx) : (s.setCtx k x).dma = s.dma := rfl
@[simp] theorem Dev.setCtx_mem (s : Dev) (k : Nat) (x : Ctx) : (s.setCtx k x).mem = s.mem := rfl
@[simp] theorem Dev.setCtx_cry (s : Dev) (k : Nat) (x : Ctx) : (s.setCtx k x).cry = s.cry := rfl
@[simp] theorem Dev.setCtx_stx (s : Dev) (k : Nat) (x : Ctx) : (s.setCtx k x).stx = s.stx := rfl
@[simp] theorem Dev.setCtx_pit (s : Dev) (k : Nat) (x : Ctx) : (s.setCtx k x).pit = s.pit := rfl
@[simp] theorem Dev.setCtx_jnl (s : Dev) (k : Nat) (x : Ctx) : (s.setCtx k x).jnl = s.jnl := rfl
@[simp] theorem Dev.setCtx_bcp (s : Dev) (k : Nat) (x : Ctx) : (s.setCtx k x).bcp = s.bcp := rfl
@[simp] theorem Dev.setCtx_modeReqs (s : Dev) (k : Nat) (x : Ctx) : (s.setCtx k x).modeReqs = s.modeReqs := rfl
@[simp] theorem Dev.setCtx_events (s : Dev) (k : Nat) (x : Ctx) : (s.setCtx k x).events = s.events := rfl
@[simp] theorem Dev.setCtx_out (s : Dev) (k : Nat) (x : Ctx) : (s.setCtx k x).out = s.out := rfl
@[simp] theorem Dev.setCtx_frames (s : Dev) (k : Nat) (x : Ctx) : (s.setCtx k x).frames = s.frames := rfl
@[simp] theorem Dev.setCtx_nextFrame (s : Dev) (k : Nat) (x : Ctx) : (s.setCtx k x).nextFrame = s.nextFrame := rfl
@[simp] theorem Dev.setCtx_nextOrd (s : Dev) (k : Nat) (x : Ctx) : (s.setCtx k x).nextOrd = s.nextOrd := rfl
@[simp] theorem Dev.setCtx_free (s : Dev) (k : Nat) (x : Ctx) : (s.setCtx k x).free = s.free := rfl

/-! ### Registers -/

@[simp] theorem Reg.key_inj (r q : Reg) (i j : Nat) (hi : i < 2 ^ 24) (hj : j < 2 ^ 24) :
    r.key i = q.key j ↔ r = q ∧ i = j := by
  constructor
  · intro h
    simp only [Reg.key] at h
    have hc : r.ctorIdx = q.ctorIdx := by omega
    have hr : r = q := by
      have := congrArg Reg.ofNat hc
      rwa [Reg.ofNat_ctorIdx, Reg.ofNat_ctorIdx] at this
    exact ⟨hr, by omega⟩
  · rintro ⟨rfl, rfl⟩; rfl

@[simp] theorem Dev.reg_setReg_same (s : Dev) (r : Reg) (i : Nat) (v : Word) : (s.setReg r i v).reg r i = v :=
  Sparse.get_set_same _ _ _ _

theorem Dev.reg_setReg (s : Dev) (r q : Reg) (i j : Nat) (v : Word) :
    (s.setReg r i v).reg q j = if q.key j = r.key i then v else s.reg q j :=
  Sparse.get_set _ _ _ _ _

/-- A register reads what was written to it, cut to 64 bits; every other register reads as before. -/
theorem Dev.rd_wr (s : Dev) (r q : Reg) (i j v : Nat) :
    (s.wr r i v).rd q j = if q.key j = r.key i then v % 2 ^ 64 else s.rd q j := by
  simp only [Dev.rd, Dev.wr, Dev.reg_setReg]
  split <;> simp

@[simp] theorem Dev.rd_wr_same (s : Dev) (r : Reg) (i v : Nat) : (s.wr r i v).rd r i = v % 2 ^ 64 := by
  simp [Dev.rd_wr]

theorem Dev.rd_lt (s : Dev) (r : Reg) (i : Nat) : s.rd r i < 2 ^ 64 := BitVec.isLt _

/-! ### Contexts -/

@[simp] theorem Dev.ctx_setCtx_same (s : Dev) (k : Nat) (x : Ctx) : (s.setCtx k x).ctx k = x :=
  Sparse.get_set_same _ _ _ _

theorem Dev.ctx_setCtx (s : Dev) (k j : Nat) (x : Ctx) : (s.setCtx k x).ctx j = if j = k then x else s.ctx j :=
  Sparse.get_set _ _ _ _ _

@[simp] theorem Dev.ctx_setReg (s : Dev) (r : Reg) (i : Nat) (v : Word) (k : Nat) : (s.setReg r i v).ctx k = s.ctx k := rfl
@[simp] theorem Dev.ctx_wr (s : Dev) (r : Reg) (i v k : Nat) : (s.wr r i v).ctx k = s.ctx k := rfl
@[simp] theorem Dev.ctx_bump (s : Dev) (r : Reg) (i k : Nat) : (s.bump r i).ctx k = s.ctx k := rfl

@[simp] theorem Ctx.reg_zero (x : Ctx) : x.reg 0 = 0 := rfl

/-- A general register reads what was written to it; g0 reads 0 whatever is written (R264). -/
theorem Ctx.reg_setReg (x : Ctx) (n m : Nat) (v : Word) :
    (x.setReg n v).reg m = if m = n ∧ m ≠ 0 then v else x.reg m := by
  unfold Ctx.setReg Ctx.reg
  by_cases hm : m = 0
  · simp [hm]
  · by_cases hn : n = 0
    · have : m ≠ n := by omega
      simp [hm, hn]
    · simp only [hn, hm, if_false, Sparse.get_set]
      by_cases h : m = n <;> simp [h, hn]

/-- What the passing of an issue's cycle changes: the cycle, and after a filler cycle the mark on the round robin. -/
theorem Dev.takeCycle_eq (s : Dev) (k : Nat) :
    ∃ c f, s.takeCycle k = { s with dor := { s.dor with cyc := c, fill := f } } := by
  simp only [Dev.takeCycle]
  split <;> split <;> exact ⟨_, _, rfl⟩

@[simp] theorem Dev.ctx_countIssue (s : Dev) (k j : Nat) : (s.countIssue k).ctx j = s.ctx j := by
  unfold Dev.countIssue
  split
  · rfl
  · obtain ⟨c, f, h⟩ := s.takeCycle_eq k
    rw [h]; rfl

end Sys2Proof.Machine
end

