-- ==== Sys2Proof/WellFormed.lean ====
section
/-! DEFINITION. When a command is well formed: every operand names an object that the device has. A command that is not is stopped by the
fault noSuchObject or names nothing. -/

namespace Sys2Proof

open Machine

/-- An origin that exists: links 0 to 3, pages and pitches 0 to 4,095, clusters 0 to 7, threads 0 to 255, channels 0 to 30. -/
def Machine.Origin.ok : Origin → Bool
  | .bar0 k => k < 4
  | .bar2 k p => k < 4 && p < 4096
  | .adminRing k => k < 4
  | .cmdRing k p a => k < 4 && p < 4096 && a < 2 ^ 20
  | .mctpSmbus e => e < 256
  | .mctpVdm k e => k < 4 && e < 256
  | .ncsi c => c < 31
  | .thread c t => c < 8 && t < 256
  | _ => true

/-- A management message's path that exists. -/
def Machine.MsgPath.ok : MsgPath → Bool
  | .doe k => k < 4
  | .smbus e => e < 256
  | .vdm k e => k < 4 && e < 256

/-- A source of a capsule that exists. -/
def Machine.CapSrc.ok : CapSrc → Bool
  | .ring r => r.ring < 65536
  | .path o w => o.ok && w < 2 ^ 512

/-- A command is well formed. -/
def Instr.wf : Instr → Bool
  | .volleyBoundary late _ => late.all Machine.unitOk
  | .clkAdj o _ => o.ok
  | .clkTimeLoad o _ _ => o.ok
  | .holdover => true
  | .rwsWrite o _ _ _ => o.ok
  | .apply o block group tag _ => o.ok && block < 40 && group < 32 && tag < 65536
  | .discard o block group tag => o.ok && block < 40 && group < 32 && tag < 65536
  | .applied rxBusy => rxBusy.all (fun p => p < 32)
  | .setMode src => src.ok
  | .modeChange => true
  | .receiveFrame port _ _ _ _ _ => port < 32
  | .pauseFrameReceived port _ _ => port < 32
  | .pauseQuantaExpiry port cls => port < 32 && cls < 8
  | .transmitFrame port _ _ => port < 32
  | .portReset o port => o.ok && port < 32
  | .txDrainEnd port _ => port < 32
  | .trainingStart port => port < 32
  | .linkUp port => port < 32
  | .trainingRetry port => port < 32
  | .linkDown port _ => port < 32
  | .retrain o lane => o.ok && lane < 32
  | .retrainComplete lane => lane < 32
  | .fecWindowEnd lane _ _ _ => lane < 32
  | .tsTxPop o port => o.ok && port < 32
  | .trimSetLoad => true
  | .calWrite src _ => src.ok
  | .parseFrame _ => true
  | .headerAdmission _ _ _ => true
  | .flowMissReturn _ _ => true
  | .egressPipeline queue _ => queue < 33280
  | .epcCommit o tag _ _ => o.ok && tag < 65536
  | .epcModeWrite o _ => o.ok
  | .commitApplies => true
  | .retirement => true
  | .epochStall => true
  | .pauseHold => true
  | .pauseApply => true
  | .pauseResume => true
  | .pauseAbandoned => true
  | .readIndex o port _ tag _ => o.ok && port < 16 && tag < 65536
  | .writeIndex o port _ tag => o.ok && port < 16 && tag < 65536
  | .insert o port _ tag => o.ok && port < 16 && tag < 65536
  | .delete o port _ tag => o.ok && port < 16 && tag < 65536
  | .search o port _ tag => o.ok && port < 16 && tag < 65536
  | .update o port _ tag => o.ok && port < 16 && tag < 65536
  | .tblCmdComplete port => port < 16
  | .learn => true
  | .move => true
  | .learnTokenRefill => true
  | .ageTick => true
  | .ageOut => true
  | .shadowSweep => true
  | .shadowSweepEnd _ => true
  | .tblParityLogRead link => link < 4
  | .tblFrozenLogRead link => link < 4
  | .pathDeliver path _ => path < 8
  | .spillReadback queue => queue < 33280
  | .pathBarrierEnd bucket => bucket < 256
  | .holdExpiry port => port < 32
  | .pfcRefresh port cls => port < 32 && cls < 8
  | .mcAccRead o _ _ => o.ok
  | .mcAccWrite o _ _ => o.ok
  | .puntHandover cluster _ _ => cluster < 8
  | .rsqSkip cluster oq => cluster < 8 && oq < 4096
  | .rsqStall cluster oq => cluster < 8 && oq < 4096
  | .clusterBarrierEnd => true
  | .scheduleFrame dest _ _ => (dest < 32 || (40 ≤ dest && dest < 46))
  | .gateTransition port => port < 32
  | .gateChange o port tag _ => o.ok && port < 32 && tag < 65536
  | .gateCancel o port tag => o.ok && port < 32 && tag < 65536
  | .gateSwap port => port < 32
  | .shaperWrite o _ => o.ok
  | .shaperRead o _ => o.ok
  | .shaperStateRead o _ => o.ok
  | .policerWrite o _ => o.ok
  | .policerRead o _ => o.ok
  | .policerStateRead o _ => o.ok
  | .timerFire thread => thread ≤ 2048
  | .resultReturn thread => thread ≤ 2048
  | .eventStall cluster core => cluster < 8 && core < 32
  | .eventStallEscalate cluster core => cluster < 8 && core < 32
  | .threadResume o cluster thread _ tag => o.ok && cluster < 8 && thread < 256 && tag < 65536
  | .threadRestart o cluster thread tag => o.ok && cluster < 8 && thread < 256 && tag < 65536
  | .threadKill o cluster thread tag => o.ok && cluster < 8 && thread < 256 && tag < 65536
  | .threadHalt o cluster thread tag => o.ok && cluster < 8 && thread < 256 && tag < 65536
  | .threadStart o cluster thread tag => o.ok && cluster < 8 && thread < 256 && tag < 65536
  | .coreRestart o cluster thread tag => o.ok && cluster < 8 && thread < 256 && tag < 65536
  | .coreCtlRestart o cluster core => o.ok && cluster < 8 && core < 32
  | .stepRelease cluster => cluster < 8
  | .benchCoreRestart cluster core => cluster < 8 && core < 32
  | .fqPop o cluster => o.ok && cluster < 8
  | .nqPop o cluster => o.ok && cluster < 8
  | .quiesce o cluster => o.ok && cluster < 8
  | .quiesceRelease o cluster => o.ok && cluster < 8
  | .clusterWake cluster => cluster < 8
  | .add k _ _ _ => k ≤ 2048
  | .sub k _ _ _ => k ≤ 2048
  | .and k _ _ _ => k ≤ 2048
  | .or k _ _ _ => k ≤ 2048
  | .xor k _ _ _ => k ≤ 2048
  | .sll k _ _ _ => k ≤ 2048
  | .srl k _ _ _ => k ≤ 2048
  | .sra k _ _ _ => k ≤ 2048
  | .slt k _ _ _ => k ≤ 2048
  | .sltu k _ _ _ => k ≤ 2048
  | .min k _ _ _ => k ≤ 2048
  | .max k _ _ _ => k ≤ 2048
  | .minu k _ _ _ => k ≤ 2048
  | .maxu k _ _ _ => k ≤ 2048
  | .mul k _ _ _ => k ≤ 2048
  | .mulh k _ _ _ => k ≤ 2048
  | .mulhu k _ _ _ => k ≤ 2048
  | .div k _ _ _ => k ≤ 2048
  | .divu k _ _ _ => k ≤ 2048
  | .rem k _ _ _ => k ≤ 2048
  | .remu k _ _ _ => k ≤ 2048
  | .bswap k _ _ _ => k ≤ 2048
  | .popc k _ _ _ => k ≤ 2048
  | .clz k _ _ _ => k ≤ 2048
  | .ctz k _ _ _ => k ≤ 2048
  | .addi k _ _ _ => k ≤ 2048
  | .andi k _ _ _ => k ≤ 2048
  | .ori k _ _ _ => k ≤ 2048
  | .xori k _ _ _ => k ≤ 2048
  | .slti k _ _ _ => k ≤ 2048
  | .sltiu k _ _ _ => k ≤ 2048
  | .shi k _ _ _ => k ≤ 2048
  | .lih k _ _ => k ≤ 2048
  | .adr k _ _ => k ≤ 2048
  | .ldB k _ _ _ _ => k ≤ 2048
  | .ldH k _ _ _ _ => k ≤ 2048
  | .ldW k _ _ _ _ => k ≤ 2048
  | .ldD k _ _ _ _ => k ≤ 2048
  | .ldBu k _ _ _ _ => k ≤ 2048
  | .ldHu k _ _ _ _ => k ≤ 2048
  | .ldWu k _ _ _ _ => k ≤ 2048
  | .stB k _ _ _ => k ≤ 2048
  | .stH k _ _ _ => k ≤ 2048
  | .stW k _ _ _ => k ≤ 2048
  | .stD k _ _ _ => k ≤ 2048
  | .amoSwap k _ _ _ _ => k ≤ 2048
  | .amoAdd k _ _ _ _ => k ≤ 2048
  | .amoAnd k _ _ _ _ => k ≤ 2048
  | .amoOr k _ _ _ _ => k ≤ 2048
  | .amoXor k _ _ _ _ => k ≤ 2048
  | .amoMin k _ _ _ _ => k ≤ 2048
  | .amoMax k _ _ _ _ => k ≤ 2048
  | .amoMinu k _ _ _ _ => k ≤ 2048
  | .amoMaxu k _ _ _ _ => k ≤ 2048
  | .cas k _ _ _ _ _ => k ≤ 2048
  | .fence k _ _ _ => k ≤ 2048
  | .beq k _ _ _ => k ≤ 2048
  | .bne k _ _ _ => k ≤ 2048
  | .blt k _ _ _ => k ≤ 2048
  | .bge k _ _ _ => k ≤ 2048
  | .bltu k _ _ _ => k ≤ 2048
  | .bgeu k _ _ _ => k ≤ 2048
  | .bf k _ _ _ => k ≤ 2048
  | .bnf k _ _ _ => k ≤ 2048
  | .jmp k _ => k ≤ 2048
  | .call k _ => k ≤ 2048
  | .jr k _ _ _ => k ≤ 2048
  | .jalr k _ _ _ => k ≤ 2048
  | .xtr k _ _ _ _ => k ≤ 2048
  | .ins k _ _ _ _ => k ≤ 2048
  | .kvld k _ _ _ _ => k ≤ 2048
  | .kvst k _ _ _ => k ≤ 2048
  | .kvclr k _ _ _ => k ≤ 2048
  | .lkp k _ _ _ _ _ => k ≤ 2048
  | .crc k _ _ _ _ => k ≤ 2048
  | .ctradd k _ _ _ => k ≤ 2048
  | .ctraddBytes k _ _ _ => k ≤ 2048
  | .ptake k _ _ _ => k ≤ 2048
  | .pret k _ _ _ => k ≤ 2048
  | .pretEnd k _ _ _ => k ≤ 2048
  | .pfree k _ _ _ => k ≤ 2048
  | .balloc k _ _ _ => k ≤ 2048
  | .fork k _ _ _ => k ≤ 2048
  | .forkD k _ _ _ => k ≤ 2048
  | .forkw k _ _ _ => k ≤ 2048
  | .forkwD k _ _ _ => k ≤ 2048
  | .join k _ _ _ => k ≤ 2048
  | .exit k _ _ _ => k ≤ 2048
  | .sev k _ _ _ => k ≤ 2048
  | .tmarm k _ _ _ => k ≤ 2048
  | .tmdis k _ _ _ => k ≤ 2048
  | .wfe k _ _ _ => k ≤ 2048
  | .sbegin k _ _ _ => k ≤ 2048
  | .scommit k _ _ _ => k ≤ 2048
  | .sabort k _ _ _ => k ≤ 2048
  | .sys k _ _ _ _ => k ≤ 2048
  | .wait k _ _ _ _ => k ≤ 2048
  | .brk k _ => k ≤ 2048
  | .surpriseRemoval link => link < 4
  | .pcieLinkUp link _ _ _ _ => link < 4
  | .registerWrite o _ _ _ _ => o.ok
  | .workDoorbell o _ _ _ => o.ok
  | .completionDoorbell o _ _ _ => o.ok
  | .bar4Request _ link _ _ _ _ _ _ _ _ => link < 4
  | .pmapRead o tag _ => o.ok && tag < 65536
  | .pmapWrite o tag _ => o.ok && tag < 65536
  | .winWritePending o tag _ => o.ok && tag < 65536
  | .winRead o tag _ => o.ok && tag < 65536
  | .winReadPending o tag _ => o.ok && tag < 65536
  | .winCommit o tag => o.ok && tag < 65536
  | .winDiscard o tag => o.ok && tag < 65536
  | .winCommitPoint => true
  | .completionReceived link _ _ _ _ => link < 4
  | .completionTimeout link _ => link < 4
  | .tagRelease link _ => link < 4
  | .l1Entry link => link < 4
  | .l0pReduce link _ => link < 4
  | .l0pRestore link => link < 4
  | .msixUnmask link vector => link < 4 && vector < 8192
  | .functionReset link => link < 4
  | .perstAssert port => port < 2
  | .ringTurn arbiter _ => (arbiter < 4 || (8 ≤ arbiter && arbiter < 16))
  | .lookaheadRead ring _ => ring < 65536
  | .idleClose ring => ring < 65536
  | .postCompletion ring => ring < 65536
  | .modTimeExpiry cq => cq < 16384
  | .receiveDelivery ring => ring < 65536
  | .fwDone o _ ring _ => o.ok && ring < 65536
  | .ringRead o _ _ tag => o.ok && tag < 65536
  | .ringWrite o _ _ tag => o.ok && tag < 65536
  | .ringState o _ _ tag => o.ok && tag < 65536
  | .ringEnable o _ _ tag => o.ok && tag < 65536
  | .ringDisable o _ _ tag => o.ok && tag < 65536
  | .ringResume o _ _ tag _ => o.ok && tag < 65536
  | .ringReset o _ _ tag => o.ok && tag < 65536
  | .ringDrainEnd ring => ring < 65536
  | .rngErrLogRead link => link < 4
  | .shadowWrite o inst unit which _ => o.ok && Machine.chanOk inst unit && which < 4
  | .arm o inst unit tag => o.ok && Machine.chanOk inst unit && tag < 65536
  | .reclaim o inst unit tag => o.ok && Machine.chanOk inst unit && tag < 65536
  | .channelReset o inst unit tag => o.ok && Machine.chanOk inst unit && tag < 65536
  | .channelResume o inst unit tag => o.ok && Machine.chanOk inst unit && tag < 65536
  | .ownerWrite o inst unit _ => o.ok && Machine.chanOk inst unit
  | .completionPoint inst unit => Machine.chanOk inst unit
  | .transferFailed inst unit => Machine.chanOk inst unit
  | .channelResetDone inst unit => Machine.chanOk inst unit
  | .dmaOwnerHalt inst unit => Machine.chanOk inst unit
  | .dmaHaltLogRead link inst => link < 4 && inst < 9
  | .cryptoDispatch _ _ => true
  | .laneOutput lane _ => lane < 18
  | .saRead o index => o.ok && index < 262144
  | .saWrite o index => o.ok && index < 262144
  | .keyportAcquire o => o.ok
  | .keyportRelease o => o.ok
  | .keyportTimeout => true
  | .keyportLoad o _ _ _ _ tag => o.ok && tag < 65536
  | .keyportErase o _ tag => o.ok && tag < 65536
  | .keyportGenerate o _ _ _ _ tag => o.ok && tag < 65536
  | .keyportOpDone => true
  | .cryKekLoad src _ _ => src.ok
  | .cryKekErase src => src.ok
  | .alarm _ => true
  | .keyEraseDone => true
  | .zeroing => true
  | .zeroingDone => true
  | .getVersion p _ => p.ok
  | .getCapabilities p _ => p.ok
  | .negotiateAlgorithms p _ => p.ok
  | .getDigests p _ => p.ok
  | .getCertificate p _ => p.ok
  | .challenge p _ => p.ok
  | .getMeasurements p _ _ => p.ok
  | .connInstall o _ tag => o.ok && tag < 65536
  | .stxRead o _ _ tag => o.ok && tag < 65536
  | .connRemove o _ tag => o.ok && tag < 65536
  | .nsWrite o _ tag => o.ok && tag < 65536
  | .stxConnLogRead link => link < 4
  | .storeStart _ _ _ => true
  | .commandSend conn => conn < 65536
  | .capsuleResp conn => conn < 65536
  | .c2hData conn => conn < 65536
  | .receiveR2t conn => conn < 65536
  | .tcpSegment conn _ => conn < 65536
  | .finReceived conn _ => conn < 65536
  | .rstReceived conn _ => conn < 65536
  | .delayedAck conn => conn < 65536
  | .rtoExpiry conn => conn < 65536
  | .persistTimer conn => conn < 65536
  | .roceAckReceived conn _ => conn < 65536
  | .nakReceived conn _ => conn < 65536
  | .cnpReceived conn _ => conn < 65536
  | .rdmaWrite conn _ => conn < 65536
  | .rdmaReadRequest conn _ => conn < 65536
  | .responseSend conn _ => conn < 65536
  | .ackTimeout conn => conn < 65536
  | .rnrWaitEnd conn => conn < 65536
  | .bind o pitch tag => o.ok && pitch < 4096 && tag < 65536
  | .resetDrain o pitch tag => o.ok && pitch < 4096 && tag < 65536
  | .resetSquash o pitch tag => o.ok && pitch < 4096 && tag < 65536
  | .pitchResetBegin => true
  | .drainEnd => true
  | .drainLimit => true
  | .squashEnd => true
  | .freeze o pitch tag => o.ok && pitch < 4096 && tag < 65536
  | .freezeBegin => true
  | .freezeEnd => true
  | .freezeLimit => true
  | .thaw o pitch tag => o.ok && pitch < 4096 && tag < 65536
  | .save o pitch link tag => o.ok && pitch < 4096 && link < 4 && tag < 65536
  | .saveDone _ => true
  | .restore o pitch link tag => o.ok && pitch < 4096 && link < 4 && tag < 65536
  | .restoreDone _ => true
  | .release o pitch tag => o.ok && pitch < 4096 && tag < 65536
  | .releaseDone => true
  | .whistle c => c.all (fun c => decide (c.source < 2 ^ 24 ∧ c.addr < 2 ^ 48 ∧ c.detail < 2 ^ 32))
  | .windowEnd entry => entry < 16384
  | .fenceInForce => true
  | .substitution => true
  | .copyComplete _ => true
  | .repairComplete _ => true
  | .selfTestEnd _ _ => true
  | .readmission => true
  | .refClear o => o.ok
  | .checkpoint _ => true
  | .checkpointDone => true
  | .deviceWarmReset o => o.ok
  | .resetBoundary _ => true
  | .replay ring => ring < 65536
  | .pwrfail => true
  | .pwrfailBoundary => true
  | .flushStart => true
  | .flushed => true
  | .pwrfailRecover => true
  | .powerLoss _ => true
  | .journalRestore _ => true
  | .jnlDiscard o => o.ok
  | .siteInfo src => src.ok
  | .siteRegRead src => src.ok
  | .siteRegWrite src _ => src.ok
  | .calRead src => src.ok
  | .dorLoad src _ => src.ok
  | .dorThreadAct src => src.ok
  | .pitReset src => src.ok
  | .pitInfo src => src.ok
  | .pitOp src => src.ok
  | .pitMigkeyLoad src _ => src.ok
  | .cryKeyLoad src _ => src.ok
  | .cryKeyErase src => src.ok
  | .crySaWrite src _ => src.ok
  | .stxConnInstall src _ => src.ok
  | .stxConnRemove src => src.ok
  | .stxNsWrite src => src.ok
  | .bcpReboot src => src.ok
  | .bcpImgkeySet src _ => src.ok
  | .bcpSvnCommit src => src.ok
  | .logRead src => src.ok
  | .benchReadmit src => src.ok
  | .jnlCkptRead src => src.ok
  | .pwrDormant src => src.ok
  | .journalEmptyWaitEnd => true
  | .sealAck _ => true
  | .tornScan => true
  | .sensorSample _ => true
  | .bcpEventLogRead link => link < 4
  | .lockstepMismatch => true
  | .watchdogExpiry => true
  | .wdtWrite o _ => o.ok
  | .basecampRunning => true
  | .bootConfirm o => o.ok
  | .trialTimeout => true
  | .queryDeviceIdentifiers p => p.ok
  | .getFirmwareParameters p => p.ok
  | .requestUpdate p => p.ok
  | .passComponentTable p => p.ok
  | .updateComponent p _ => p.ok
  | .requestFirmwareData p _ => p.ok
  | .transferComplete p => p.ok
  | .verifyComplete p => p.ok
  | .applyComplete p => p.ok
  | .activateFirmware p => p.ok
  | .getStatus p => p.ok
  | .cancelUpdateComponent p => p.ok
  | .cancelUpdate p => p.ok
  | .pldmSensorRead p sensor => p.ok && sensor < 104
  | .mctpControl p _ => p.ok
  | .ncsiCommand _ channel _ _ => channel < 32
  | .getLinkStatus _ channel => channel < 31
  | .ncsiGetCapabilities _ channel => channel < 31
  | .enableChannelNetworkTx _ channel => channel < 31
  | .oemCommand _ channel _ _ _ _ _ => channel < 31
  | .pwrModeWrite o _ => o.ok
  | .smbusAddressMatch => true
  | .perstDeassert port => port < 2
  | .wakeIn => true
  | .pllEnable o _ => o.ok
  | .pllLock => true
  | .clkSrcWrite o cls _ => o.ok && cls < 19
  | .powerOnRelease _ _ _ => true
  | .dmaBurstIssue arbiter => arbiter < 5
  | .fecAlignLock port => port < 32

end Sys2Proof
end

