-- ==== Sys2Proof/Safety.lean ====
section
/-! DEFINITION. What the claims call safe: a queue of well-formed commands, memories in their canonical form, and what no command may
lower. -/

namespace Sys2Proof.Machine

/-- Every command that waits is well formed. -/
def State.queueOk (s : State) : Bool := s.pending.all Instr.wf

/-- Every memory is in its canonical form: rising addresses, and no byte equal to what an unlisted address reads as. -/
def State.memOk (s : State) : Bool :=
  Memory.wf s.dev.mem.hbm && Memory.wf s.dev.mem.shared && Memory.wf s.dev.mem.loc && Memory.wf s.dev.mem.sram
    && Sparse.wf Config.factoryFlash s.dev.bcp.flash

/-- A register write of an origin takes effect at once (R28, R298, R470, R502, R523, R540): the device hears the origin, the write waits for no
record, the register's unit is not fenced, and its class runs on a clock. -/
def Dev.takesWrite (s : Dev) (o : Origin) (r : Reg) (i : Nat) : Prop :=
  s.hears o = true ∧ o.recorded r = false ∧ s.regFenced r i = false ∧ s.clocked (blkClass (r.blk i)).1 = true

/-- A register read from BAR0 of a link reaches the register (R298, R470, R502, R540): the device hears the link, the register's unit is not fenced,
and its class runs on a clock. -/
def Dev.takesRead (s : Dev) (l : Nat) (r : Reg) (i : Nat) : Prop :=
  s.hears (.bar0 l) = true ∧ s.regFenced r i = false ∧ s.clocked (blkClass (r.blk i)).1 = true

/-! ### The shapes of a completed instruction -/

/-- A context may issue a word: it exists, it is READY on a core that runs and next there, its PC is an address it fetches from, and the
word stands there (R234, R266, R268). -/
def Dev.mayIssue (s : Dev) (k word : Nat) : Prop :=
  k ≤ 2048 ∧ s.ready k = true ∧ pcOk k (s.ctx k).pc = true ∧ s.fetchWord k = word

/-- The device after a context has issued an instruction: the issue is counted, the context is as given, and nothing else has
changed. -/
def Dev.afterIssue (s : Dev) (k : Nat) (x : Ctx) : Dev := (s.countIssue k).setCtx k x

/-- A context whose instruction wrote a register and ended: PC at the next instruction. -/
def Ctx.wrote (x : Ctx) (rd : Fin 32) (v : Word) : Ctx := { x.setReg rd.val v with pc := x.pc + 4 }

/-- A context that waits for the result of a variable-latency instruction (R233). -/
def Ctx.awaits (x : Ctx) (r : Res) : Ctx := { x with st := 2, res := some r }

/-! ### The course of a capsule -/

/-- A capsule in progress that its row carries on, at a stage: its source names it, and Basecamp runs (R514, R515). -/
def Dev.capIn (s : Dev) (src : CapSrc) (op : Nat) (k : CapRun) (stage : Nat) : Prop :=
  ∃ c, s.capOf src = some c ∧ c.opcode = op ∧ s.bcp.caps.find? (fun x => x.same c) = some k ∧ k.stage = stage ∧ s.bcpRuns = true ∧
    s.jnl.fail < 2

/-- A state-changing capsule whose effect is due: its record is sealed (R515, R523). -/
def Dev.capDue (s : Dev) (src : CapSrc) (op : Nat) (k : CapRun) : Prop := s.capIn src op k 0 ∧ k.logSeq.isSome = true

/-- A capsule that Basecamp can start: its source names it, it is not in progress, and there is room for it (R511, R514, R521). -/
def Dev.capNew (s : Dev) (src : CapSrc) (op : Nat) (c : CapRun) : Prop :=
  s.capOf src = some c ∧ c.opcode = op ∧ s.bcp.caps.find? (fun x => x.same c) = none ∧ s.awake = true ∧ s.jnl.fail < 2 ∧
    s.capRoom c = true ∧ (c.o.mctp = true → s.bcp.caps.any (fun k => k.o = c.o) = false)

/-- An operator's capsule passes the checks of R515 that its opcode table row gives; `buf` is the buffer that came with it. -/
def Dev.capMay (s : Dev) (c : CapRun) (buf : Fetch) : Prop :=
  c.o.tenant = none ∧ ∃ row, capRow c.opcode = some row ∧ (row.ringOnly = true → c.o.management = false) ∧
    c.fieldsOk row buf = true ∧ row.modes.contains s.mode = true

end Sys2Proof.Machine
end

