-- ==== Sys2Proof/Certificates/Slice0/Obligations.lean ====
section
/-! DEFINITION. The statements for the provers. Each docstring names the rules of the spec that it formalises. A statement about a
command whose conclusion is an equation with a next state says at once what the command does and that nothing else changes. -/

/-! ### Integer instructions -/

namespace Sys2Proof.Machine

/-- The ALU instructions of two operands, each with what the table of R271 puts into RD. -/
def aluTable : List ((Nat → Fin 32 → Fin 32 → Fin 32 → Instr) × Nat × (Word → Word → Word)) :=
  [(.add, 0x000, fun a b => a + b), (.sub, 0x001, fun a b => a - b), (.and, 0x002, fun a b => a &&& b),
   (.or, 0x003, fun a b => a ||| b), (.xor, 0x004, fun a b => a ^^^ b), (.sll, 0x005, fun a b => a <<< (b.toNat % 64)),
   (.srl, 0x006, fun a b => a >>> (b.toNat % 64)), (.sra, 0x007, fun a b => a.sshiftRight (b.toNat % 64)),
   (.slt, 0x008, fun a b => if a.toInt < b.toInt then 1 else 0), (.sltu, 0x009, fun a b => if a.toNat < b.toNat then 1 else 0),
   (.min, 0x00A, fun a b => if a.toInt < b.toInt then a else b), (.max, 0x00B, fun a b => if a.toInt < b.toInt then b else a),
   (.minu, 0x00C, fun a b => if a.toNat < b.toNat then a else b), (.maxu, 0x00D, fun a b => if a.toNat < b.toNat then b else a),
   (.mul, 0x010, fun a b => a * b), (.mulh, 0x011, fun a b => BitVec.ofInt 64 (a.toInt * b.toInt / 2 ^ 64)),
   (.mulhu, 0x012, fun a b => BitVec.ofNat 64 (a.toNat * b.toNat / 2 ^ 64))]

/-- The ALU instructions of one operand (R271). -/
def aluTable1 : List ((Nat → Fin 32 → Fin 32 → Fin 32 → Instr) × Nat × (Word → Word)) :=
  [(.bswap, 0x018, fun a => BitVec.ofNat 64 (beNat (leBytes 8 a.toNat))),
   (.popc, 0x019, fun a => BitVec.ofNat 64 (popCount 64 a.toNat)),
   (.clz, 0x01A, fun a => if a = 0 then 64 else BitVec.ofNat 64 (63 - Nat.log2 a.toNat)),
   (.ctz, 0x01B, fun a => BitVec.ofNat 64 (((List.range 64).find? (fun i => a.toNat.testBit i)).getD 64))]

/-- The instructions of the variable-latency class that divide (R271). -/
def divTable : List ((Nat → Fin 32 → Fin 32 → Fin 32 → Instr) × Nat × (Word → Word → Word)) :=
  [(.div, 0x014, fun a b => if b = 0 then BitVec.allOnes 64 else BitVec.ofInt 64 (a.toInt.tdiv b.toInt)),
   (.divu, 0x015, fun a b => if b = 0 then BitVec.allOnes 64 else BitVec.ofNat 64 (a.toNat / b.toNat)),
   (.rem, 0x016, fun a b => if b = 0 then a else BitVec.ofInt 64 (a.toInt.tmod b.toInt)),
   (.remu, 0x017, fun a b => if b = 0 then a else BitVec.ofNat 64 (a.toNat % b.toNat))]

/-- The instructions with an immediate: IMM16 is sign-extended but in ANDI, ORI and XORI (R269, R270, R272). -/
def immTable : List ((Nat → Fin 32 → Fin 32 → BitVec 16 → Instr) × Nat × (Word → BitVec 16 → Word)) :=
  [(.addi, 0x02, fun a i => a + i.signExtend 64), (.andi, 0x03, fun a i => a &&& i.zeroExtend 64),
   (.ori, 0x04, fun a i => a ||| i.zeroExtend 64), (.xori, 0x05, fun a i => a ^^^ i.zeroExtend 64),
   (.slti, 0x06, fun a i => if a.toInt < i.toInt then 1 else 0),
   (.sltiu, 0x07, fun a i => if a.toNat < (i.signExtend 64).toNat then 1 else 0)]

/-- The kinds of shift of SHI (R272), by IMM16[7:6]. -/
def shiTable : List (Nat × (Word → Nat → Word)) :=
  [(0, fun a n => a <<< n), (1, fun a n => a >>> n), (2, fun a n => a.sshiftRight n), (3, fun a n => a.rotateRight n)]

end Sys2Proof.Machine

open Sys2Proof Sys2Proof.Machine

/-- R268, R269, R271: the result of every ALU instruction of fixed latency, and its frame: the destination and the PC, the count of
the issue, and nothing else. A write to g0 is discarded, for setReg of register 0 changes nothing (R264). BSWAP, POPC, CLZ and CTZ
with an RB other than g0 raise ILLEGAL with the instruction word in DETAIL. Where a word of a reserved OP or FN stands at the PC, it is
ILLEGAL with that word in DETAIL; where another instruction stands there, the command does nothing (the model's choice, log entry
132). -/
def Obligations.AluResult : Prop :=
  ∀ (k : Nat) (rd ra rb : Fin 32) (s : State),
    let x := s.dev.ctx k
    (∀ p ∈ aluTable, s.dev.mayIssue k (wordR 1 rd ra rb p.2.1) → exec (p.1 k rd ra rb) s =
      .next (s.withDev (s.dev.afterIssue k (x.wrote rd (p.2.2 (x.reg ra.val) (x.reg rb.val)))))) ∧
    (∀ p ∈ aluTable1, s.dev.mayIssue k (wordR 1 rd ra 0 p.2.1) → exec (p.1 k rd ra 0) s =
      .next (s.withDev (s.dev.afterIssue k (x.wrote rd (p.2.2 (x.reg ra.val)))))) ∧
    (rb ≠ 0 → ∀ p ∈ aluTable1, s.dev.mayIssue k (wordR 1 rd ra rb p.2.1) →
      exec (p.1 k rd ra rb) s = .next (s.withDev ((s.dev.countIssue k).raise k 1 0 (wordR 1 rd ra rb p.2.1)))) ∧
    (∀ p ∈ aluTable, ∀ w, w ≠ wordR 1 rd ra rb p.2.1 → s.dev.mayIssue k w → exec (p.1 k rd ra rb) s =
      if spelled w then .next s else .next (s.withDev ((s.dev.countIssue k).raise k 1 0 w)))

/-- R270, R271: a division of a thread is of variable latency: the thread waits for a result that writes the quotient or the
remainder into RD; in Basecamp the result is there at once (R292). Division by 0 raises no exception, and the four corners of
division have the results of the table. -/
def Obligations.DivResult : Prop :=
  (∀ (k : Nat) (rd ra rb : Fin 32) (s : State),
    let x := s.dev.ctx k
    ∀ p ∈ divTable, s.dev.mayIssue k (wordR 1 rd ra rb p.2.1) →
      let v := p.2.2 (x.reg ra.val) (x.reg rb.val)
      (k ≠ 2048 → exec (p.1 k rd ra rb) s = .next (s.withDev (s.dev.afterIssue k (x.awaits (resOf [(rd.val, v)] none))))) ∧
      (k = 2048 → x.haltDue = false → x.byQuiesce = false → exec (p.1 k rd ra rb) s =
        .next (s.withDev (s.dev.afterIssue k { x.wrote rd v with st := 1, res := none })))) ∧
  (∀ a : Word, divS a 0 = BitVec.allOnes 64 ∧ divU a 0 = BitVec.allOnes 64 ∧ remS a 0 = a ∧ remU a 0 = a ∧
    divS (BitVec.intMin 64) (BitVec.allOnes 64) = BitVec.intMin 64 ∧ remS (BitVec.intMin 64) (BitVec.allOnes 64) = 0)

/-- R269, R270, R272: the integer instructions with an immediate, LIH and ADR. -/
def Obligations.ImmediateResult : Prop :=
  ∀ (k : Nat) (rd ra : Fin 32) (imm : BitVec 16) (wide : BitVec 21) (s : State),
    let x := s.dev.ctx k
    (∀ p ∈ immTable, s.dev.mayIssue k (wordI p.2.1 rd ra imm) → exec (p.1 k rd ra imm) s =
      .next (s.withDev (s.dev.afterIssue k (x.wrote rd (p.2.2 (x.reg ra.val) imm))))) ∧
    (s.dev.mayIssue k (wordI 0x08 rd ra imm) →
      (∀ p ∈ shiTable, imm.toNat / 256 = 0 → imm.toNat / 64 = p.1 → exec (.shi k rd ra imm) s =
        .next (s.withDev (s.dev.afterIssue k (x.wrote rd (p.2 (x.reg ra.val) (imm.toNat % 64)))))) ∧
      (imm.toNat / 256 ≠ 0 → exec (.shi k rd ra imm) s =
        .next (s.withDev ((s.dev.countIssue k).raise k 1 0 (wordI 0x08 rd ra imm))))) ∧
    (s.dev.mayIssue k (wordL 0x09 rd wide) → exec (.lih k rd wide) s =
      .next (s.withDev (s.dev.afterIssue k (x.wrote rd (wide.signExtend 64 <<< 16))))) ∧
    (s.dev.mayIssue k (wordL 0x0A rd wide) → exec (.adr k rd wide) s =
      .next (s.withDev (s.dev.afterIssue k (x.wrote rd (BitVec.ofNat 64 x.pc + 4 * wide.signExtend 64)))))
/-! ### Branches -/

namespace Sys2Proof.Machine

/-- The branches on RA compared with RB (R270). -/
def branchTable : List ((Nat → Fin 32 → Fin 32 → BitVec 16 → Instr) × Nat × (Word → Word → Bool)) :=
  [(.beq, 0x20, fun a b => decide (a = b)), (.bne, 0x21, fun a b => decide (a ≠ b)),
   (.blt, 0x22, fun a b => decide (a.toInt < b.toInt)), (.bge, 0x23, fun a b => decide (b.toInt ≤ a.toInt)),
   (.bltu, 0x24, fun a b => decide (a.toNat < b.toNat)), (.bgeu, 0x25, fun a b => decide (b.toNat ≤ a.toNat))]

/-- A context goes on at a target; one it may not fetch from raises FETCH (cause 3) there, with the branch complete (R274). -/
def Dev.jumped (s : Dev) (k : Nat) (x : Ctx) (target : Word) : Dev :=
  let d := s.afterIssue k { x with pc := target.toNat }
  if pcOk k target.toNat then d else d.raise k 3 target.toNat 0

end Sys2Proof.Machine

/-- R269, R270, R274: a branch goes to its own address plus 4 × IMM16 when its condition holds, else to the next instruction; BF and BNF
test F and leave RA and RB unused. A branch writes no register. -/
def Obligations.BranchResult : Prop :=
  ∀ (k : Nat) (rb ra : Fin 32) (imm : BitVec 16) (s : State),
    let x := s.dev.ctx k
    let target := BitVec.ofNat 64 x.pc + 4 * imm.signExtend 64
    let next := s.dev.afterIssue k { x with pc := x.pc + 4 }
    (∀ p ∈ branchTable, s.dev.mayIssue k (wordI p.2.1 rb ra imm) → exec (p.1 k rb ra imm) s =
      .next (s.withDev (if p.2.2 (x.reg ra.val) (x.reg rb.val) then s.dev.jumped k x target else next))) ∧
    (s.dev.mayIssue k (wordI 0x26 0 0 imm) → exec (.bf k 0 0 imm) s =
      .next (s.withDev (if x.f then s.dev.jumped k x target else next))) ∧
    (s.dev.mayIssue k (wordI 0x27 0 0 imm) → exec (.bnf k 0 0 imm) s =
      .next (s.withDev (if x.f then next else s.dev.jumped k x target))) ∧
    (ra ≠ 0 ∨ rb ≠ 0 → ∀ p ∈ [(Instr.bf, 0x26), (.bnf, 0x27)], s.dev.mayIssue k (wordI p.2 rb ra imm) →
      exec (p.1 k rb ra imm) s = .next (s.withDev ((s.dev.countIssue k).raise k 1 0 (wordI p.2 rb ra imm))))

/-- R269, R270, R274: JMP, CALL (g31 ← PC + 4), JR and JALR (RD ← PC + 4, the target read before RD is written). A field that JR or JALR
leaves unused and that is not 0 is ILLEGAL. -/
def Obligations.JumpResult : Prop :=
  ∀ (k : Nat) (rd ra rb : Fin 32) (off : BitVec 26) (s : State),
    let x := s.dev.ctx k
    let target := BitVec.ofNat 64 x.pc + 4 * off.signExtend 64
    let back := BitVec.ofNat 64 (x.pc + 4)
    (s.dev.mayIssue k (wordJ 0x28 off) → exec (.jmp k off) s = .next (s.withDev (s.dev.jumped k x target))) ∧
    (s.dev.mayIssue k (wordJ 0x29 off) → exec (.call k off) s =
      .next (s.withDev (s.dev.jumped k (x.setReg 31 back) target))) ∧
    (s.dev.mayIssue k (wordR 0x2A 0 ra 0 0) → exec (.jr k 0 ra 0) s = .next (s.withDev (s.dev.jumped k x (x.reg ra.val)))) ∧
    (s.dev.mayIssue k (wordR 0x2A rd ra 0 1) → exec (.jalr k rd ra 0) s =
      .next (s.withDev (s.dev.jumped k (x.setReg rd.val back) (x.reg ra.val)))) ∧
    (rd ≠ 0 ∨ rb ≠ 0 → s.dev.mayIssue k (wordR 0x2A rd ra rb 0) → exec (.jr k rd ra rb) s =
      .next (s.withDev ((s.dev.countIssue k).raise k 1 0 (wordR 0x2A rd ra rb 0)))) ∧
    (rb ≠ 0 → s.dev.mayIssue k (wordR 0x2A rd ra rb 1) → exec (.jalr k rd ra rb) s =
      .next (s.withDev ((s.dev.countIssue k).raise k 1 0 (wordR 0x2A rd ra rb 1))))

/-! ### Memory -/

namespace Sys2Proof.Machine

/-- The loads, each with its opcode, its width in bytes and whether it extends the sign (R270). -/
def loadTable : List ((Nat → Fin 32 → Fin 32 → BitVec 16 → Bool → Instr) × Nat × Nat × Bool) :=
  [(.ldB, 0x10, 1, true), (.ldH, 0x11, 2, true), (.ldW, 0x12, 4, true), (.ldD, 0x13, 8, true), (.ldBu, 0x14, 1, false),
   (.ldHu, 0x15, 2, false), (.ldWu, 0x16, 4, false)]

/-- The stores, each with its opcode and its width in bytes (R270). -/
def storeTable : List ((Nat → Fin 32 → Fin 32 → BitVec 16 → Instr) × Nat × Nat) :=
  [(.stB, 0x18, 1), (.stH, 0x19, 2), (.stW, 0x1A, 4), (.stD, 0x1B, 8)]

/-- The operations of AMO (R273). -/
def amoTable : List ((Nat → Fin 32 → Fin 32 → Fin 32 → Bool → Instr) × Nat × (Word → Word → Word)) :=
  [(.amoSwap, 0, fun _ b => b), (.amoAdd, 1, fun a b => a + b), (.amoAnd, 2, fun a b => a &&& b), (.amoOr, 3, fun a b => a ||| b),
   (.amoXor, 4, fun a b => a ^^^ b), (.amoMin, 5, fun a b => if a.toInt < b.toInt then a else b),
   (.amoMax, 6, fun a b => if a.toInt < b.toInt then b else a), (.amoMinu, 7, fun a b => if a.toNat < b.toNat then a else b),
   (.amoMaxu, 8, fun a b => if a.toNat < b.toNat then b else a)]

/-- What a register receives of a memory word of `n` bytes: extended with its sign, or with zeros. -/
def extended (n : Nat) (sgn : Bool) (bs : List Byte) : Word :=
  if sgn then BitVec.ofInt 64 (signed (8 * n) (leNat bs)) else BitVec.ofNat 64 (leNat bs)

end Sys2Proof.Machine

/-- R266, R267, R270, R290: a naturally aligned load delivers the bytes at RA + IMM16: from local memory at once, from the shared memory
of the thread's cluster as a result to wait for; one that is not aligned raises ALIGN (cause 4) with its width, and one of an address
in no region raises ADDRESS (cause 5). No memory changes. -/
def Obligations.LoadResult : Prop :=
  ∀ (k : Nat) (rd ra : Fin 32) (imm : BitVec 16) (s : State),
    let x := s.dev.ctx k
    let a := (x.reg ra.val + imm.signExtend 64).toNat
    ∀ p ∈ loadTable, s.dev.mayIssue k (wordI p.2.1 rd ra imm) →
      let n := p.2.2.1
      (a % n = 0 → 0xFFFF000000000000 ≤ a → a < 0xFFFF000000040000 → exec (p.1 k rd ra imm false) s =
        .next (s.withDev (s.dev.afterIssue k (x.wrote rd (extended n p.2.2.2
          (s.dev.ownRead k (a - 0xFFFF000000000000) n)))))) ∧
      (a % n = 0 → k ≠ 2048 → 0xFFFF000001000000 ≤ a → a < 0xFFFF000001800000 → exec (p.1 k rd ra imm false) s =
        .next (s.withDev (s.dev.afterIssue k (x.awaits (resOf [(rd.val, extended n p.2.2.2
          (s.dev.threadRead k (a - 0xFFFF000001000000) n))] none))))) ∧
      (a % n ≠ 0 → exec (p.1 k rd ra imm false) s = .next (s.withDev ((s.dev.countIssue k).raise k 4 a n))) ∧
      (a % n = 0 → 2 ^ 48 ≤ a → a < 0xFFFF000000000000 → exec (p.1 k rd ra imm false) s =
        .next (s.withDev ((s.dev.countIssue k).raise k 5 a 0)))

/-- R266, R267, R270: a naturally aligned store puts the low bytes of RB at RA + IMM16: in local memory, inside a step too, and
outside a step in the shared memory of the thread's cluster. No other byte changes. One that is not aligned raises ALIGN. -/
def Obligations.StoreResult : Prop :=
  ∀ (k : Nat) (rb ra : Fin 32) (imm : BitVec 16) (s : State),
    let x := s.dev.ctx k
    let a := (x.reg ra.val + imm.signExtend 64).toNat
    ∀ p ∈ storeTable, s.dev.mayIssue k (wordI p.2.1 rb ra imm) →
      let n := p.2.2
      let bytes := leBytes n ((x.reg rb.val).toNat % 256 ^ n)
      (a % n = 0 → 0xFFFF000000000000 ≤ a → a < 0xFFFF000000040000 → exec (p.1 k rb ra imm) s =
        .next (s.withDev (((s.dev.countIssue k).ownWrite k (a - 0xFFFF000000000000) bytes).setCtx k { x with pc := x.pc + 4 }))) ∧
      (a % n = 0 → x.step = none → k ≠ 2048 → 0xFFFF000001000000 ≤ a → a < 0xFFFF000001800000 → exec (p.1 k rb ra imm) s =
        .next (s.withDev (((s.dev.countIssue k).sharedWrite (k / 256) (a - 0xFFFF000001000000) bytes).setCtx k
          (x.awaits (resOf [] none))))) ∧
      (a % n ≠ 0 → x.step = none → exec (p.1 k rb ra imm) s = .next (s.withDev ((s.dev.countIssue k).raise k 4 a n)))

/-- R254, R267: inside a step a store to shared memory is held: no memory changes, and the thread itself reads it back; a store to HBM
there raises STEP_ILLEGAL (cause 0x41). -/
def Obligations.StoreHeldInStep : Prop :=
  ∀ (k : Nat) (rb ra : Fin 32) (imm : BitVec 16) (s : State) (r : StepRec), s.dev.mayIssue k (wordI 0x1B rb ra imm) → k ≠ 2048 →
    (s.dev.ctx k).step = some r →
    let x := s.dev.ctx k
    let a := (x.reg ra.val + imm.signExtend 64).toNat
    let off := a - 0xFFFF000001000000
    let bytes := leBytes 8 (x.reg rb.val).toNat
    (a % 8 = 0 → 0xFFFF000001000000 ≤ a → a < 0xFFFF000001800000 → linesOf (holdBytes r.lines off bytes) ≤ 64 →
      ∃ d, exec (.stD k rb ra imm) s = .next (s.withDev d) ∧ d.mem = s.dev.mem ∧ d.threadRead k off 8 = bytes) ∧
    (a < hbmSize → exec (.stD k rb ra imm) s =
      .next (s.withDev ((s.dev.countIssue k).raise k 0x41 0 (wordI 0x1B rb ra imm))))

/-- R267, R273: an atomic on the aligned 8-byte word at RA in local memory returns the old value in RD and writes op(old, RB), in one
step; CAS writes RB only where the old value equals RD, and F tells whether it did not. -/
def Obligations.AtomicResult : Prop :=
  ∀ (k : Nat) (rd ra rb : Fin 32) (s : State),
    let x := s.dev.ctx k
    let a := (x.reg ra.val).toNat
    let off := a - 0xFFFF000000000000
    let old := BitVec.ofNat 64 (leNat (s.dev.ownRead k off 8))
    let d := s.dev.countIssue k
    a % 8 = 0 → 0xFFFF000000000000 ≤ a → a < 0xFFFF000000040000 →
    (∀ p ∈ amoTable, s.dev.mayIssue k (wordR 0x1C rd ra rb p.2.1) → exec (p.1 k rd ra rb false) s =
      .next (s.withDev ((d.ownWrite k off (leBytes 8 (p.2.2 old (x.reg rb.val)).toNat)).setCtx k (x.wrote rd old)))) ∧
    (s.dev.mayIssue k (wordR 0x1D rd ra rb 0) →
      (old = x.reg rd.val → exec (.cas k rd ra rb 0 false) s =
        .next (s.withDev ((d.ownWrite k off (leBytes 8 (x.reg rb.val).toNat)).setCtx k { x.wrote rd old with f := false }))) ∧
      (old ≠ x.reg rd.val → exec (.cas k rd ra rb 0 false) s = .next (s.withDev (d.setCtx k { x.wrote rd old with f := true }))))
/-! ### Key vector, checksums, lookups and counters -/

/-- R275, R276: XTR and INS move the bits [KBIT + W : KBIT] of KV, and raise KV_RANGE (cause 0x0C) with KBIT and W when they end above
bit 639; XTR with an RA and INS with an RD other than g0 are ILLEGAL. KVCLR clears KV and KV_EVALID. Only the destination and the PC
change. -/
def Obligations.KeyVectorBits : Prop :=
  ∀ (k : Nat) (rd ra : Fin 32) (kbit : BitVec 10) (w : BitVec 6) (s : State), k ≠ 2048 →
    let x := s.dev.ctx k
    let d := s.dev.countIssue k
    let b := kbit.toNat
    let n := w.toNat
    (s.dev.mayIssue k (wordP 0x30 rd 0 kbit w) →
      (b + n ≤ 639 → exec (.xtr k rd 0 kbit w) s =
        .next (s.withDev (s.dev.afterIssue k (x.wrote rd (BitVec.ofNat 64 (x.kv / 2 ^ b % 2 ^ (n + 1))))))) ∧
      (639 < b + n → exec (.xtr k rd 0 kbit w) s = .next (s.withDev (d.raise k 0x0C 0 (b + n * 2 ^ 10))))) ∧
    (s.dev.mayIssue k (wordP 0x31 0 ra kbit w) →
      (b + n ≤ 639 → exec (.ins k 0 ra kbit w) s =
        .next (s.withDev (s.dev.afterIssue k { x with kv := putBits x.kv (b + n) b (x.reg ra.val).toNat, pc := x.pc + 4 }))) ∧
      (639 < b + n → exec (.ins k 0 ra kbit w) s = .next (s.withDev (d.raise k 0x0C 0 (b + n * 2 ^ 10))))) ∧
    (rd ≠ 0 → s.dev.mayIssue k (wordP 0x31 rd ra kbit w) → exec (.ins k rd ra kbit w) s = .next (s.withDev
      (d.raise k 1 0 (wordP 0x31 rd ra kbit w)))) ∧
    (ra ≠ 0 → s.dev.mayIssue k (wordP 0x30 rd ra kbit w) → exec (.xtr k rd ra kbit w) s = .next (s.withDev
      (d.raise k 1 0 (wordP 0x30 rd ra kbit w)))) ∧
    (s.dev.mayIssue k (wordR 0x32 0 0 0 2) → exec (.kvclr k 0 0 0) s =
      .next (s.withDev (s.dev.afterIssue k { x with kv := 0, kvValid := false, pc := x.pc + 4 })))

/-- R275, R290: KVLD reads KV and KV_EPOCH from the metadata block of a frame that the thread owns, and KVST stores KV there outside a
step; a handle that names no frame of the thread raises BAD_HANDLE (cause 9). Where the block fails parity, KVLD's result ends in
MEM_ERROR (cause 7). -/
def Obligations.KeyVectorMemory : Prop :=
  ∀ (k : Nat) (ra : Fin 32) (s : State), k ≠ 2048 →
    let x := s.dev.ctx k
    let h := x.reg ra.val
    let d := s.dev.countIssue k
    (s.dev.mayIssue k (wordR 0x32 0 ra 0 0) →
      (∀ f, s.dev.handleFrame k h = some f →
        let b := 256 * (s.dev.blocksOf f).1
        exec (.kvld k 0 ra 0 false) s = .next (s.withDev (s.dev.afterIssue k (x.awaits { resOf [] none with
          kv := some (leNat (s.dev.threadRead k b 80), leNat (s.dev.threadRead k (b + 0x74) 1)) }))) ∧
        exec (.kvld k 0 ra 0 true) s =
          .next (s.withDev ((d.parityWhistle k).vary k (resFault 7 (0xFFFF000001000000 + b) 0)))) ∧
      (s.dev.handleFrame k h = none → ∀ bad, exec (.kvld k 0 ra 0 bad) s =
        .next (s.withDev (d.raise k 9 0 (h.toNat % 2 ^ 32))))) ∧
    (s.dev.mayIssue k (wordR 0x32 0 ra 0 1) →
      (∀ f, s.dev.handleFrame k h = some f → x.step = none → exec (.kvst k 0 ra 0) s = .next (s.withDev
        ((d.sharedWrite (k / 256) (256 * (s.dev.blocksOf f).1) (leBytes 80 x.kv)).setCtx k (x.awaits (resOf [] none))))) ∧
      (s.dev.handleFrame k h = none → exec (.kvst k 0 ra 0) s = .next (s.withDev (d.raise k 9 0 (h.toNat % 2 ^ 32)))))

/-- R278, R289: CRC folds 2^FN[1:0] bytes of RB, lowest first, into the 32-bit register value RA under the polynomial that FN[2] selects;
FENCE writes nothing, and a thread waits for its result, which comes once its committed steps are released. -/
def Obligations.CrcAndFence : Prop :=
  ∀ (k : Nat) (rd ra rb : Fin 32) (fn : BitVec 11) (s : State),
    let x := s.dev.ctx k
    let poly := if fn.toNat.testBit 2 then 0xEDB88320 else 0x82F63B78
    let bytes := (leBytes (2 ^ (fn.toNat % 4)) (x.reg rb.val).toNat).map (·.toNat)
    (fn.toNat < 8 → s.dev.mayIssue k (wordR 0x34 rd ra rb fn.toNat) → exec (.crc k rd ra rb fn) s =
      .next (s.withDev (s.dev.afterIssue k
        (x.wrote rd (BitVec.ofNat 64 (bytes.foldl (crcByte poly) ((x.reg ra.val).toNat % 2 ^ 32))))))) ∧
    (s.dev.mayIssue k (wordR 0x1E 0 0 0 0) →
      (k ≠ 2048 → exec (.fence k 0 0 0) s =
        .next (s.withDev (s.dev.afterIssue k (x.awaits { resOf [] none with fence := true })))) ∧
      (k = 2048 → x.haltDue = false → x.byQuiesce = false → exec (.fence k 0 0 0) s =
        .next (s.withDev (s.dev.afterIssue k { x with st := 1, res := none, pc := x.pc + 4 }))))

/-- R277: a NEXTHOP lookup (FN 7) of the current epoch returns the four words of a valid entry with F 0, zeros with F 1 where the entry is
not valid, and raises BAD_INDEX (cause 0x0E) for an index outside the table. -/
def Obligations.LookupResult : Prop :=
  ∀ (k : Nat) (rd ra : Fin 32) (s : State), s.dev.mayIssue k (wordR 0x33 rd ra 0 7) → k ≠ 2048 → 1 ≤ rd.val → rd.val ≤ 28 →
    let x := s.dev.ctx k
    let i := (x.reg ra.val).toNat
    let e := s.dev.entry 3 i
    let v := e.at s.dev.epc.cur
    (0 < i → i < 262144 → tblValid 3 v = true → e.bad = false → exec (.lkp k rd ra 0 7 false) s =
      .next (s.withDev (s.dev.afterIssue k (x.awaits (resOf
        [(rd.val, BitVec.ofNat 64 (bits v 63 0)), (rd.val + 1, BitVec.ofNat 64 (bits v 127 64)),
         (rd.val + 2, BitVec.ofNat 64 (bits v 191 128)), (rd.val + 3, BitVec.ofNat 64 (bits v 255 192))] (some false)))))) ∧
    (0 < i → i < 262144 → tblValid 3 v = false → exec (.lkp k rd ra 0 7 false) s =
      .next (s.withDev (s.dev.afterIssue k (x.awaits (resOf
        [(rd.val, 0), (rd.val + 1, 0), (rd.val + 2, 0), (rd.val + 3, 0)] (some true)))))) ∧
    (i = 0 ∨ 262144 ≤ i → exec (.lkp k rd ra 0 7 false) s =
      .next (s.withDev ((s.dev.countIssue k).raise k 0x0E 0 (i % 2 ^ 32))))

/-- R279: outside a step CTRADD adds one packet and RB bytes to counter pair RA, and its FN 0x001 form the bytes alone, each half modulo 2^64;
no other pair and no register changes. -/
def Obligations.CounterResult : Prop :=
  ∀ (k : Nat) (ra rb : Fin 32) (s : State), (s.dev.ctx k).step = none →
    let x := s.dev.ctx k
    let i := (x.reg ra.val).toNat
    let n := (x.reg rb.val).toNat
    let v := s.dev.pair i
    i < 4194304 →
    (s.dev.mayIssue k (wordR 0x35 0 ra rb 0) → ∃ d, exec (.ctradd k 0 ra rb) s = .next (s.withDev d) ∧ d.ctx k = { x with pc := x.pc + 4 } ∧
      d.mem = s.dev.mem ∧
      d.pair i = (bits v 63 0 + 1) % 2 ^ 64 + (bits v 127 64 + n) % 2 ^ 64 * 2 ^ 64 ∧ ∀ j, j < 4194304 → j ≠ i → d.pair j = s.dev.pair j) ∧
    (s.dev.mayIssue k (wordR 0x35 0 ra rb 1) → ∃ d, exec (.ctraddBytes k 0 ra rb) s = .next (s.withDev d) ∧ d.ctx k = { x with pc := x.pc + 4 } ∧
      d.mem = s.dev.mem ∧
      d.pair i = bits v 63 0 + (bits v 127 64 + n) % 2 ^ 64 * 2 ^ 64 ∧ ∀ j, j < 4194304 → j ≠ i → d.pair j = s.dev.pair j)

/-! ### Frames -/

/-- R247, R280: outside a step PTAKE takes the first frame of the core's punt queue when the thread may gain its blocks, and then RD is the
handle and F is 0; with an empty queue, and where the thread may not gain them (counted in DOR_BUF_FAILS), RD is 0 and F is 1. PRET,
PRET.END and PFREE of a frame that the thread owns return or discard it and free its blocks. -/
def Obligations.FrameResult : Prop :=
  ∀ (k : Nat) (rd ra rb : Fin 32) (s : State), k ≠ 2048 → (s.dev.ctx k).step = none →
    let x := s.dev.ctx k
    let d := s.dev.countIssue k
    (s.dev.mayIssue k (wordR 0x36 rd 0 0 0) →
      (∀ f y l, s.dev.puntQueue (k / 256) (k % 256 / 8) = (f, y) :: l →
        (d.blocksOk (k / 256) (k % 256) (d.blocksOf f).2 = true →
          exec (.ptake k rd 0 0) s = .next (s.withDev ((d.moveFrame f y (.thread (k / 256) (k % 256))).setCtx k
            (x.awaits (resOf [(rd.val, BitVec.ofNat 64 (d.blocksOf f).1)] (some false)))))) ∧
        (d.blocksOk (k / 256) (k % 256) (d.blocksOf f).2 = false → exec (.ptake k rd 0 0) s =
          .next (s.withDev ((d.bump .DOR_BUF_FAILS (k / 256)).setCtx k (x.awaits (resOf [(rd.val, 0)] (some true))))))) ∧
      (s.dev.puntQueue (k / 256) (k % 256 / 8) = [] → exec (.ptake k rd 0 0) s =
        .next (s.withDev (s.dev.afterIssue k (x.awaits (resOf [(rd.val, 0)] (some true))))))) ∧
    (∀ f, s.dev.handleFrame k (x.reg ra.val) = some f →
      let w := (x.reg rb.val).toNat % 2 ^ 32
      (s.dev.mayIssue k (wordR 0x36 0 ra rb 1) → exec (.pret k 0 ra rb) s =
        .next (s.withDev ((d.doReturn (k / 256) f w false).vary k (resOf [] none)))) ∧
      (s.dev.mayIssue k (wordR 0x36 0 ra rb 2) → exec (.pretEnd k 0 ra rb) s =
        .next (s.withDev ((d.doReturn (k / 256) f w true).vary k (resOf [] none)))) ∧
      (s.dev.mayIssue k (wordR 0x36 0 ra 0 3) → exec (.pfree k 0 ra 0) s =
        .next (s.withDev ((d.discardFrame (k / 256) f).vary k (resOf [] none)))))

/-- R247, R280: BALLOC of 1 to 64 blocks gives the thread a frame of that many free blocks with a zeroed metadata block, its handle and F 0;
where too few are free, or the thread may not gain them, it counts in DOR_BUF_FAILS, and RD is 0 and F 1; another count raises
BAD_INDEX. -/
def Obligations.BallocResult : Prop :=
  ∀ (k : Nat) (rd ra : Fin 32) (s : State), s.dev.mayIssue k (wordR 0x36 rd ra 0 4) → k ≠ 2048 →
    let x := s.dev.ctx k
    let n := (x.reg ra.val).toNat
    let d := s.dev.countIssue k
    let fails := Host.Outcome.next (s.withDev ((d.bump .DOR_BUF_FAILS (k / 256)).setCtx k (x.awaits (resOf [(rd.val, 0)] (some true)))))
    (∀ bs, 1 ≤ n → n ≤ 64 → s.dev.blockRun (k / 256) n = some bs →
      (d.blocksOk (k / 256) (k % 256) n = true → exec (.balloc k rd ra 0) s = .next (s.withDev (d.allocFrame k rd bs))) ∧
      (d.blocksOk (k / 256) (k % 256) n = false → exec (.balloc k rd ra 0) s = fails)) ∧
    (1 ≤ n → n ≤ 64 → s.dev.blockRun (k / 256) n = none → exec (.balloc k rd ra 0) s = fails) ∧
    (n = 0 ∨ 64 < n → exec (.balloc k rd ra 0) s = .next (s.withDev (d.raise k 0x0E 0 (n % 2 ^ 32))))
/-! ### Threads -/

/-- R242, R243, R265, R282: FORK, FORK.D, FORKW and FORKW.D outside a step with a start PC that may be fetched start a child in the
context that R242 chooses, with the argument in g1, the parent in g2, and RD the child's number; FORK and FORK.D fail with F 1 and RD
0xFF when no context is FREE, and FORKW then waits. A start PC that may not be fetched raises FETCH (cause 3) in the forking thread, and
inside a step a fork is STEP_ILLEGAL (cause 0x41). -/
def Obligations.ForkResult : Prop :=
  ∀ (k : Nat) (rd ra rb : Fin 32) (s : State), k ≠ 2048 →
    let x := s.dev.ctx k
    let c := k / 256
    let pc := (x.reg ra.val).toNat
    let arg := x.reg rb.val
    let d := s.dev.countIssue k
    let word := fun (fn : Nat) => wordR 0x38 rd ra rb fn
    (∀ t, pcOk k pc = true → x.step = none → d.freeChoice k = some t →
      (∀ p ∈ [(Instr.fork, 0, false), (.forkD, 1, true)], s.dev.mayIssue k (word p.2.1) → exec (p.1 k rd ra rb) s =
        .next (s.withDev ((d.startChild k t pc arg.toNat p.2.2).vary k (resOf [(rd.val, BitVec.ofNat 64 t)] (some false))))) ∧
      (∀ p ∈ [(Instr.forkw, 2, false), (.forkwD, 3, true)], s.dev.mayIssue k (word p.2.1) → exec (p.1 k rd ra rb) s =
        .next (s.withDev ((d.startChild k t pc arg.toNat p.2.2).vary k (resOf [(rd.val, BitVec.ofNat 64 t)] none))))) ∧
    (pcOk k pc = true → x.step = none → d.freeChoice k = none →
      (∀ p ∈ [(Instr.fork, 0), (.forkD, 1)], s.dev.mayIssue k (word p.2) → exec (p.1 k rd ra rb) s =
        .next (s.withDev ((d.bump .DOR_FORK_FAILS c).vary k (resOf [(rd.val, 0xFF)] (some true))))) ∧
      (∀ p ∈ [(Instr.forkw, 2, false), (.forkwD, 3, true)], s.dev.mayIssue k (word p.2.1) → exec (p.1 k rd ra rb) s =
        let e := s.dev.afterIssue k { x with st := 3, wait := some (.fork rd.val pc arg p.2.2) }
        .next (s.withDev { e with dor := { e.dor with forkq := e.dor.forkq ++ [k] } }))) ∧
    (∀ p ∈ [(Instr.fork, 0), (.forkD, 1), (.forkw, 2), (.forkwD, 3)], s.dev.mayIssue k (word p.2) →
      (pcOk k pc = false → exec (p.1 k rd ra rb) s = .next (s.withDev (d.raise k 3 pc 0))) ∧
      (pcOk k pc = true → x.step.isSome → exec (p.1 k rd ra rb) s = .next (s.withDev (d.raise k 0x41 0 (word p.2)))))

/-- R265: the registers of a thread that FORK starts: g1 the argument, g2 the parent's number, every other register 0, and the thread is
READY at its start PC. -/
def Obligations.ForkedThread : Prop :=
  ∀ (s : Dev) (k t pc : Nat) (arg : Word) (detach : Bool), t < 256 → pc < 2 ^ 64 →
    let y := (s.startChild k t pc arg.toNat detach).ctx (256 * (k / 256) + t)
    y.st = 1 ∧ y.pc = pc ∧ y.reg 1 = arg ∧ y.reg 2 = BitVec.ofNat 64 (k % 256) ∧ (∀ n, n ≠ 1 → n ≠ 2 → y.reg n = 0) ∧
      y.f = false ∧ y.kv = 0 ∧ y.kvValid = false ∧ y.step = none ∧ y.timer = none ∧ y.detached = detach

/-- R244, R282: JOIN of an EXITED child returns its exit value and frees the child; JOIN of a child that still runs waits; JOIN of anything
else raises NO_CHILD (cause 0x0A). EXIT of a thread that is not the supervisor ends it; that of the supervisor is its fault (R252). -/
def Obligations.JoinAndExit : Prop :=
  ∀ (k : Nat) (rd ra : Fin 32) (s : State), k ≠ 2048 → (s.dev.ctx k).step = none →
    let x := s.dev.ctx k
    let d := s.dev.countIssue k
    let t := (x.reg ra.val).toNat
    let j := 256 * (k / 256) + t
    (s.dev.mayIssue k (wordR 0x38 rd ra 0 4) →
      (d.isChild k t = true → (d.ctx j).st = 5 → exec (.join k rd ra 0) s =
        .next (s.withDev ((d.freeCtx j).vary k (resOf [(rd.val, (d.ctx j).exitVal)] none)))) ∧
      (d.isChild k t = true → (d.ctx j).st ≠ 5 → exec (.join k rd ra 0) s =
        .next (s.withDev (s.dev.afterIssue k { x with st := 3, wait := some (.join rd.val t) }))) ∧
      (d.isChild k t = false → exec (.join k rd ra 0) s = .next (s.withDev (d.raise k 0x0A 0 (t % 2 ^ 32))))) ∧
    (s.dev.mayIssue k (wordR 0x38 0 ra 0 5) →
      (d.supervisor (k / 256) ≠ k % 256 → exec (.exit k 0 ra 0) s = .next (s.withDev (d.exitThread k (x.reg ra.val)))) ∧
      (d.supervisor (k / 256) = k % 256 → k < 2048 → exec (.exit k 0 ra 0) s = .next (s.withDev (d.threadFault k 0 0 0))))

/-- R238, R240, R241, R282, R289: SEV sets SOFT in a live thread of the cluster and counts in DOR_SEV_LOST for a FREE or EXITED one;
behind a committed step of the thread that is not released it waits for the release. TMARM sets the timer target and clears TIMER;
TMDIS clears the target. -/
def Obligations.EventInstructions : Prop :=
  ∀ (k : Nat) (ra : Fin 32) (s : State),
    let x := s.dev.ctx k
    let d := s.dev.countIssue k
    let t := (x.reg ra.val).toNat % 256
    let j := 256 * (k / 256) + t
    (s.dev.mayIssue k (wordR 0x38 0 ra 0 6) → k ≠ 2048 → x.step = none →
      (d.releasing k = false → (d.ctx j).st ≠ 0 → (d.ctx j).st ≠ 5 →
        exec (.sev k 0 ra 0) s = .next (s.withDev ((d.setEvent j 0).skip k))) ∧
      (d.releasing k = false → (d.ctx j).st = 0 ∨ (d.ctx j).st = 5 →
        exec (.sev k 0 ra 0) s = .next (s.withDev ((d.bump .DOR_SEV_LOST (k / 256)).skip k))) ∧
      (d.releasing k = true → exec (.sev k 0 ra 0) s = .next (s.withDev ((d.appendHeld k (.sev t)).skip k)))) ∧
    (s.dev.mayIssue k (wordR 0x38 0 ra 0 7) → exec (.tmarm k 0 ra 0) s = .next (s.withDev (s.dev.afterIssue k
      { x with timer := some (x.reg ra.val).toNat, armed := s.dev.vn, events := putBits x.events 1 1 0, pc := x.pc + 4 }))) ∧
    (s.dev.mayIssue k (wordR 0x38 0 0 0 8) → exec (.tmdis k 0 0 0) s =
      .next (s.withDev (s.dev.afterIssue k { x with timer := none, pc := x.pc + 4 })))

/-- R239, R283: WFE with an event of its mask pending returns and clears those bits and goes on; with none it waits in EVENT_WAIT at the
same PC; with a zero mask or a reserved bit it is ILLEGAL. -/
def Obligations.WaitForEvent : Prop :=
  ∀ (k : Nat) (rd : Fin 32) (imm : BitVec 16) (s : State), s.dev.mayIssue k (wordI 0x39 rd 0 imm) → k ≠ 2048 →
    let x := s.dev.ctx k
    let got := x.events &&& (s.dev.countIssue k).waitMask k imm.toNat
    (imm ≠ 0 → imm.toNat < 1024 → got ≠ 0 → exec (.wfe k rd 0 imm) s = .next (s.withDev (s.dev.afterIssue k
      { (x.setReg rd.val (BitVec.ofNat 64 got)) with events := x.events &&& (0xFFFF - got), pc := x.pc + 4 }))) ∧
    (imm ≠ 0 → imm.toNat < 1024 → got = 0 → exec (.wfe k rd 0 imm) s = .next (s.withDev (s.dev.afterIssue k
      { x with st := 3, wait := some (.event rd.val imm.toNat) }))) ∧
    (imm = 0 ∨ 1024 ≤ imm.toNat → exec (.wfe k rd 0 imm) s =
      .next (s.withDev ((s.dev.countIssue k).raise k 1 0 (wordI 0x39 rd 0 imm))))

/-- R254, R255, R284: SBEGIN opens a step that saves the registers and the PC after it; SABORT ends it and its held effects are gone; SCOMMIT ends
it and hands its record to the release engine. Each in the wrong place raises STEP_ILLEGAL (0x41) or NO_STEP (0x10). -/
def Obligations.StepInstructions : Prop :=
  ∀ (k : Nat) (s : State), k ≠ 2048 →
    let x := s.dev.ctx k
    let d := s.dev.countIssue k
    let fresh : StepRec := { regs := x.regs, pc := x.pc + 4, lines := [], outs := [], takes := [], taken := 0, made := [] }
    (s.dev.mayIssue k (wordR 0x3A 0 0 0 0) →
      (x.step = none → exec (.sbegin k 0 0 0) s =
        .next (s.withDev (s.dev.afterIssue k (Ctx.awaits { x with step := some fresh } (resOf [] none))))) ∧
      (x.step.isSome → exec (.sbegin k 0 0 0) s = .next (s.withDev (d.raise k 0x41 0 (wordR 0x3A 0 0 0 0))))) ∧
    (s.dev.mayIssue k (wordR 0x3A 0 0 0 1) →
      (∀ r, x.step = some r → ∃ e, exec (.scommit k 0 0 0) s = .next (s.withDev e) ∧
        e.ctx k = Ctx.awaits { x with step := none } (resOf [] none) ∧ e.dor.releases = s.dev.dor.releases ++ [(k, r)] ∧
        e.mem = s.dev.mem) ∧
      (x.step = none → exec (.scommit k 0 0 0) s = .next (s.withDev (d.raise k 0x10 0 (wordR 0x3A 0 0 0 1))))) ∧
    (s.dev.mayIssue k (wordR 0x3A 0 0 0 2) →
      (x.step.isSome → exec (.sabort k 0 0 0) s = .next (s.withDev ((d.abortStep k).vary k (resOf [] none)))) ∧
      (x.step = none → exec (.sabort k 0 0 0) s = .next (s.withDev (d.raise k 0x10 0 (wordR 0x3A 0 0 0 2)))))

/-- R285, R286, R287: SYS reads its values: the volley number, the thread, the cycles of its core, the slot position, the KV epoch, the pending
events, whether a step is open, and the physical core. WAIT of a thread that is not the supervisor raises PRIVILEGE (cause 2), and in a
step it is STEP_ILLEGAL; the supervisor's gives the outcome bits, and with all of them 0 the cluster sleeps. BRK faults the thread with
BREAKPOINT (cause 0x0F) and OFF26 in DETAIL. -/
def Obligations.SystemInstructions : Prop :=
  ∀ (k : Nat) (rd : Fin 32) (off : BitVec 26) (s : State), k ≠ 2048 →
    let x := s.dev.ctx k
    let c := k / 256
    let d := s.dev.countIssue k
    (∀ p ∈ [((0x00 : BitVec 11), s.dev.vn), (0x10, k % 256 + c * 256), (0x20, d.coreCycle k), (0x30, d.slotPhase c),
        (0x40, x.kvEpoch + 256 * b2n x.kvValid), (0x50, x.events), (0x60, b2n x.step.isSome), (0x70, d.physCore c (k % 256 / 8))],
      s.dev.mayIssue k (wordR 0x3B rd 0 0 p.1.toNat) →
        exec (.sys k rd 0 0 p.1) s = .next (s.withDev (s.dev.afterIssue k (x.wrote rd (BitVec.ofNat 64 p.2))))) ∧
    (s.dev.mayIssue k (wordR 0x3C rd 0 0 0) →
      let out := b2n (d.wakeLatched c) + 2 * b2n (!(bit (d.rd .PWR_MODE 0) c)) + 4 * b2n (d.cluBusy k)
      (d.supervisor c ≠ k % 256 → exec (.wait k rd 0 0 0) s = .next (s.withDev (d.raise k 2 0 (wordR 0x3C rd 0 0 0)))) ∧
      (d.supervisor c = k % 256 → x.step.isSome → exec (.wait k rd 0 0 0) s =
        .next (s.withDev (d.raise k 0x41 0 (wordR 0x3C rd 0 0 0)))) ∧
      (d.supervisor c = k % 256 → x.step = none → out ≠ 0 → exec (.wait k rd 0 0 0) s =
        .next (s.withDev (s.dev.afterIssue k (x.awaits (resOf [(rd.val, BitVec.ofNat 64 out)] (some true)))))) ∧
      (d.supervisor c = k % 256 → x.step = none → out = 0 → exec (.wait k rd 0 0 0) s =
        let e := s.dev.afterIssue k (x.awaits (resOf [(rd.val, 0)] (some false)))
        .next (s.withDev { e with dor := { e.dor with asleep := Sparse.put e.dor.asleep c (some false) } }))) ∧
    (s.dev.mayIssue k (wordJ 0x3D off) → exec (.brk k off) s =
      .next (s.withDev (let e := d.raise k 0x0F 0 off.toNat; e.setCtx k { e.ctx k with was := 11 })))

/-- R233, R235, R255, R256, R289: RESULT_RETURN of a waiting thread writes the registers of its outstanding result, makes the thread READY and moves it
on; STEP_RELEASE makes the held effects of the cluster's oldest committed step, the lines first and the rest in program order, takes
its record away, and starts the thread again where its restart waited for that. -/
def Obligations.ResultAndRelease : Prop :=
  (∀ (k : Nat) (v : Word) (rd : Fin 32) (s : State), k ≤ 2048 → (s.dev.ctx k).st = 2 → (s.dev.ctx k).haltDue = false →
    (s.dev.ctx k).byQuiesce = false → (Sparse.get? s.dev.dor.asleep (k / 256)) = none →
    (s.dev.ctx k).res = some (resOf [(rd.val, v)] none) →
    let d := s.dev.arrive k false
    exec (.resultReturn k) s = .next (s.withDev (d.setCtx k { (d.ctx k).wrote rd v with st := 1, res := none }))) ∧
  (∀ (c : Nat) (k : Nat) (r : StepRec) (s : State), c < 8 →
    s.dev.dor.releases.find? (fun e => e.1 / 256 = c) = some (k, r) →
    exec (.stepRelease c) s = .next (s.withDev ((forEach r.outs
      (Dev.makeLines { s.dev with dor := { s.dev.dor with releases := s.dev.dor.releases.erase (k, r) } } (k / 256) r.lines)
      (fun d h => d.makeHeld k h)).restartWaiting k)))
/-! ### Time, staged configuration and modes -/

/-- R16, R17, R18: a write of CLK_ADJ adds its signed value to CLK_PHASE_ERR, which saturates, starts the count of CLK_LOCK_TIMEOUT again
and ends HOLDOVER; a write of CLK_TIME_LOAD in BRINGUP waits for the next boundary, and in any other mode is rejected with its flag;
HOLDOVER is entered, with its whistle TIME_HOLDOVER, when the count has run out, and not before. A write from BAR0 has these effects
when its record is sealed (RegisterWriteRule). -/
def Obligations.TimeKeeping : Prop :=
  (∀ (o : Origin) (v : Nat) (s : State), s.dev.takesWrite o .CLK_ADJ 0 →
    exec (.clkAdj o v) s = .next (s.withDev (s.dev.clkAdj v))) ∧
  (∀ (d : Dev) (v : Nat), (d.clkAdj v).phaseErr = max (-2147483647) (min 2147483647 (d.phaseErr + signed 32 (v % 2 ^ 32))) ∧
    (d.clkAdj v).clk.sinceAdj = 0 ∧ (d.clkAdj v).timeState = (if d.timeState = 2 then 1 else d.timeState) ∧
    (d.clkAdj v).vn = d.vn ∧ (d.clkAdj v).mem = d.mem ∧ (d.clkAdj v).frames = d.frames ∧
    ∀ r i, i < 2 ^ 24 → r ≠ .CLK_PHASE_ERR → r ≠ .CLK_TIME_STATUS → (d.clkAdj v).rd r i = d.rd r i) ∧
  (∀ (o : Origin) (t elapsed : Nat) (s : State), s.dev.takesWrite o .CLK_TIME_LOAD 0 →
    (s.dev.mode = .bringup → exec (.clkTimeLoad o t elapsed) s =
      .next (s.withDev { s.dev with clk := { s.dev.clk with timeLoad := some (t % 2 ^ 64, elapsed) } })) ∧
    (s.dev.mode ≠ .bringup → exec (.clkTimeLoad o t elapsed) s = .next (s.withDev (s.dev.setFld .CLK_TIME_STATUS 0 3 3 1)))) ∧
  (∀ s : State,
    let due := s.dev.timeState = 1 ∧ max 25000 (s.dev.rd .CLK_LOCK_TIMEOUT 0) ≤ s.dev.clk.sinceAdj
    (due → exec .holdover s =
      .next (s.withDev ((s.dev.setFld .CLK_TIME_STATUS 0 1 0 2).whistle 0x02 (unitId 0x11 0 0xFF) 0 1))) ∧
    (¬ due → exec .holdover s = .next s))

/-- R7, R15, R16, R17: at a boundary of a device that runs, once every action due at the boundary before has taken place, VN advances by one, and
the next volley has 39, 40 or 41 ns after the sign of CLK_PHASE_ERR, which the volley that ends has brought one ns nearer to 0; a loaded
time takes effect instead. A device whose clock does not run has no boundary; and while an action is due at the present one, the next
waits (the model's choice: log entry 6). -/
def Obligations.VolleyBoundary : Prop :=
  (∀ (s : State) (scanBad : Bool) (late : List Nat), late.all unitOk = true →
    (s.dev.ticking = true → s.dev.boundaryDone = true → exec (.volleyBoundary late scanBad) s =
      .next (s.withDev (s.dev.volleyEnd.tick.volleyStart late scanBad))) ∧
    (s.dev.ticking = false ∨ s.dev.boundaryDone = false → exec (.volleyBoundary late scanBad) s = .next s)) ∧
  (∀ d : Dev, d.clk.timeLoad = none → d.tick.vn = d.vn + 1 ∧ d.tick.clk.volleyNs = volleyLen d.tick.phaseErr ∧
    d.tick.phaseErr = max (-2147483647) (min 2147483647 (slewed d.clk.volleyNs d.phaseErr)) ∧ d.tick.mem = d.mem) ∧
  (∀ d : Dev, ∀ t e, d.clk.timeLoad = some (t, e) → d.tick.vn = (t + e) / 40 % 2 ^ 64 ∧ d.tick.phaseErr = (((t + e) % 40 : Nat) : Int) ∧
    d.tick.timeState = 1 ∧ d.tick.clk.timeLoad = none)

/-- R22 to R26, R28: APPLY and DISCARD are writes of GROUP_APPLY, which wait for their record whatever their origin; with the seal a write
takes effect. An APPLY of a group with pending changes and no WAITING apply, whose target is allowed and whose checks pass, is WAITING with
the pending cells as its snapshot, and the pending copy is gone; one that fails a check is counted and names it; the other outcomes
follow the order of R26. A DISCARD throws the pending copy away, and cancels a WAITING apply at least 2 volleys off. When the apply is
due and its record sealed, APPLIED puts its snapshot in force and reports it. -/
def Obligations.StagedApply : Prop :=
  (∀ (o : Origin) (b g tag : Nat) (timed : Bool) (s : State), b < 40 → s.dev.hears o = true →
    exec (.apply o b g tag timed) s =
      .next (s.withDev (s.dev.holdWrite o .GROUP_APPLY b 4 (groupWord 1 g tag timed) Reg.GROUP_APPLY.ones)) ∧
    exec (.discard o b g tag) s =
      .next (s.withDev (s.dev.holdWrite o .GROUP_APPLY b 4 (groupWord 2 g tag false) Reg.GROUP_APPLY.ones))) ∧
  (∀ (d : Dev) (o : Origin) (b g tag left : Nat) (timed : Bool), g < 32 → tag < 2 ^ 16 →
    d.regEffect o .GROUP_APPLY b (groupWord 1 g tag timed) Reg.GROUP_APPLY.ones (some left) =
      d.groupApply o b g tag timed (decide (20 ≤ left)) ∧
    d.regEffect o .GROUP_APPLY b (groupWord 2 g tag false) Reg.GROUP_APPLY.ones (some left) = d.groupDiscard o b g tag) ∧
  (∀ (d : Dev) (o : Origin) (b g tag : Nat) (timed early : Bool),
    let out := d.groupApply o b g tag timed early
    (blkGroups b ≤ g → out = d.groupStatus b tag 0xFC g 7) ∧
    (g < blkGroups b → (d.mode = .lockdown ∧ lockdownClass (blkClass b).1 = true) → out = d.groupStatus b tag 0xFD g 7) ∧
    (g < blkGroups b → ¬ (d.mode = .lockdown ∧ lockdownClass (blkClass b).1 = true) →
      ((d.waitOf b g).isSome → out = d.groupStatus b tag 0 g 6) ∧
      (d.waitOf b g = none → d.pendOf b g = [] → out = d.groupStatus b tag 0 g 4) ∧
      (d.waitOf b g = none → d.pendOf b g ≠ [] → d.targetBar b timed early ≠ 0 →
        out = d.groupStatus b tag (d.targetBar b timed early) g 7) ∧
      (d.waitOf b g = none → d.pendOf b g ≠ [] → d.targetBar b timed early = 0 → firstFail (d.groupChecks b g) ≠ 0 →
        out = (d.groupStatus b tag (firstFail (d.groupChecks b g)) g 3).bump .GROUP_REJECT_COUNT b) ∧
      (d.waitOf b g = none → d.pendOf b g ≠ [] → d.targetBar b timed early = 0 → firstFail (d.groupChecks b g) = 0 →
        out.waits = d.waits ++ [⟨b, g, tag, d.applyDue b timed early, d.pendOf b g, d.log.nextId⟩] ∧ out.pendOf b g = [] ∧
        out.regs = (d.groupStatus b tag 0 g 1).regs ∧ out.log.prio.length = d.log.prio.length + 1))) ∧
  (∀ (d : Dev) (o : Origin) (b g tag : Nat), b < 40 → g < blkGroups b → tag < 2 ^ 16 → d.waitOf b g = none →
    (d.groupDiscard o b g tag).pendOf b g = [] ∧ (d.groupDiscard o b g tag).waits = d.waits ∧
      (d.groupDiscard o b g tag).rd .GROUP_STATUS b = tag * 2 ^ 16 + g * 2 ^ 3 + 5) ∧
  (∀ (s : State) (w : ApplyWait) (rxBusy : List Nat), s.dev.waits.find? s.dev.waitDue = some w →
    let rest := s.dev.waits.filter (fun x => !(x.blk = w.blk && x.group = w.group))
    let e := Dev.snapEffect { s.dev with waits := rest } w.blk w.group w.snap rxBusy
    exec (.applied rxBusy) s = .next (s.withDev ((e.groupStatus w.blk w.tag 0 w.group 2).wr .GROUP_APPLY_VN w.blk e.vn))) ∧
  (∀ (s : State) (rxBusy : List Nat), s.dev.waits.find? s.dev.waitDue = none → exec (.applied rxBusy) s = .next s)
/-! ### Register writes -/

namespace Sys2Proof.Machine

/-- The commands that are writes of one register of the clock, the ports, the rule epochs, the tables, the switch and the gate engine, each with the register, its element, the width and the value (R549 and the
register tables). -/
def pathWrites (holds : Instr → Reg → Nat → Nat → Nat → Prop) (s : State) (o : Origin) (n t v tag : Nat) (b e : Bool) : Prop :=
  holds (.clkAdj o v) .CLK_ADJ 0 4 v ∧ holds (.clkTimeLoad o v n) .CLK_TIME_LOAD 0 8 v ∧ (n < 32 → holds (.portReset o n) .WIRE_PORT_CTL n 4 1) ∧
  (n < 32 → holds (.retrain o n) .WIRE_LANE_CTL n 4 (s.dev.rd .WIRE_LANE_CTL n + 4)) ∧ (n < 32 → holds (.tsTxPop o n) .WIRE_TS_TX_POP n 4 1) ∧
  holds (.epcCommit o tag b e) .EPC_COMMIT 0 4 (tag * 2 ^ 16 + b2n b * 2 + 1) ∧ holds (.epcModeWrite o v) .EPC_MODE 0 4 v ∧
  (n < 16 → t < 16 → holds (.readIndex o n t tag b) .TBL_CMD_CTL n 4 (tag * 2 ^ 16 + t * 2 ^ 12 + 1 * 2 ^ 8 + b2n b * 2 + 1)) ∧
  (n < 16 → t < 16 → holds (.writeIndex o n t tag) .TBL_CMD_CTL n 4 (tag * 2 ^ 16 + t * 2 ^ 12 + 2 * 2 ^ 8 + 1)) ∧
  (n < 16 → t < 16 → holds (.insert o n t tag) .TBL_CMD_CTL n 4 (tag * 2 ^ 16 + t * 2 ^ 12 + 3 * 2 ^ 8 + 1)) ∧
  (n < 16 → t < 16 → holds (.delete o n t tag) .TBL_CMD_CTL n 4 (tag * 2 ^ 16 + t * 2 ^ 12 + 4 * 2 ^ 8 + 1)) ∧
  (n < 16 → t < 16 → holds (.search o n t tag) .TBL_CMD_CTL n 4 (tag * 2 ^ 16 + t * 2 ^ 12 + 5 * 2 ^ 8 + 1)) ∧
  (n < 16 → t < 16 → holds (.update o n t tag) .TBL_CMD_CTL n 4 (tag * 2 ^ 16 + t * 2 ^ 12 + 6 * 2 ^ 8 + 1)) ∧
  (n < 2 ^ 19 → holds (.mcAccRead o b n) .SWB_MC_ACC_CTL 0 4 (b2n b * 2 ^ 21 + 2 ^ 19 + n)) ∧
  (n < 2 ^ 19 → holds (.mcAccWrite o b n) .SWB_MC_ACC_CTL 0 4 (b2n b * 2 ^ 21 + 2 * 2 ^ 19 + n)) ∧
  (n < 32 → holds (.gateChange o n tag b) .SCH_GATE_CTL n 4 (tag * 2 ^ 16 + 1)) ∧
  (n < 32 → holds (.gateCancel o n tag) .SCH_GATE_CTL n 4 (tag * 2 ^ 16 + 2)) ∧
  (n < 2 ^ 17 → holds (.shaperRead o n) .SCH_SHP_ACC_CTL 0 4 (1 * 2 ^ 17 + n)) ∧
  (n < 2 ^ 17 → holds (.shaperWrite o n) .SCH_SHP_ACC_CTL 0 4 (2 * 2 ^ 17 + n)) ∧
  (n < 2 ^ 17 → holds (.shaperStateRead o n) .SCH_SHP_ACC_CTL 0 4 (3 * 2 ^ 17 + n)) ∧
  (n < 2 ^ 18 → holds (.policerRead o n) .SCH_POL_ACC_CTL 0 4 (1 * 2 ^ 18 + n)) ∧
  (n < 2 ^ 18 → holds (.policerWrite o n) .SCH_POL_ACC_CTL 0 4 (2 * 2 ^ 18 + n)) ∧
  (n < 2 ^ 18 → holds (.policerStateRead o n) .SCH_POL_ACC_CTL 0 4 (3 * 2 ^ 18 + n))

/-- The commands that are writes of one register of the clusters, the host endpoint and the admin doorbells, each with the register, its element, the width and the value (R549 and the
register tables). -/
def clusterWrites (holds : Instr → Reg → Nat → Nat → Nat → Prop) (o : Origin) (n t v tag : Nat) (b : Bool) : Prop :=
  (n < 8 → t < 256 → holds (.threadResume o n t b tag) .DOR_SUP_ACT n 4 (t + 1 * 2 ^ 8 + b2n b * 2 ^ 11 + tag * 2 ^ 16)) ∧
  (n < 8 → t < 256 → holds (.threadRestart o n t tag) .DOR_SUP_ACT n 4 (t + 2 * 2 ^ 8 + tag * 2 ^ 16)) ∧
  (n < 8 → t < 256 → holds (.threadKill o n t tag) .DOR_SUP_ACT n 4 (t + 3 * 2 ^ 8 + tag * 2 ^ 16)) ∧
  (n < 8 → t < 256 → holds (.threadHalt o n t tag) .DOR_SUP_ACT n 4 (t + 4 * 2 ^ 8 + tag * 2 ^ 16)) ∧
  (n < 8 → t < 256 → holds (.threadStart o n t tag) .DOR_SUP_ACT n 4 (t + 5 * 2 ^ 8 + tag * 2 ^ 16)) ∧
  (n < 8 → t < 256 → holds (.coreRestart o n t tag) .DOR_SUP_ACT n 4 (t + 6 * 2 ^ 8 + tag * 2 ^ 16)) ∧
  (n < 8 → t < 32 → holds (.coreCtlRestart o n t) .DOR_CORE_CTL (32 * n + t) 4 1) ∧ (n < 8 → holds (.fqPop o n) .DOR_FQ_POP n 4 1) ∧
  (n < 8 → holds (.nqPop o n) .DOR_NQ_POP n 4 1) ∧ (n < 8 → holds (.quiesce o n) .DOR_CLU_CTL n 4 1) ∧
  (n < 8 → holds (.quiesceRelease o n) .DOR_CLU_CTL n 4 0) ∧ holds (.workDoorbell o n 8 v) .RNG_ADMIN_WORK_DB 0 8 v ∧
  holds (.completionDoorbell o n 8 v) .RNG_ADMIN_CQ_DB 0 8 v ∧
  (n < 4096 → holds (.pmapRead o tag n) .HIF_PMAP_ACC_CTL 0 4 (tag * 2 ^ 16 + 2 ^ 12 + n)) ∧
  (n < 4096 → holds (.pmapWrite o tag n) .HIF_PMAP_ACC_CTL 0 4 (tag * 2 ^ 16 + 2 ^ 13 + n)) ∧
  (n < 256 → holds (.winRead o tag n) .HIF_WIN_ACC_CTL 0 4 (tag * 2 ^ 16 + 1 * 2 ^ 8 + n)) ∧
  (n < 256 → holds (.winWritePending o tag n) .HIF_WIN_ACC_CTL 0 4 (tag * 2 ^ 16 + 2 * 2 ^ 8 + n)) ∧
  (n < 256 → holds (.winReadPending o tag n) .HIF_WIN_ACC_CTL 0 4 (tag * 2 ^ 16 + 3 * 2 ^ 8 + n)) ∧
  holds (.winCommit o tag) .HIF_WIN_COMMIT 0 4 (tag * 2 ^ 16 + 1) ∧ holds (.winDiscard o tag) .HIF_WIN_COMMIT 0 4 (tag * 2 ^ 16 + 2)

/-- The commands that are writes of one register of the rings and the DMA channels, each with the register, its element, the width and the value (R549 and the
register tables). -/
def ringWrites (holds : Instr → Reg → Nat → Nat → Nat → Prop) (o : Origin) (n t v tag : Nat) (b : Bool) : Prop :=
  (n < 2 ^ 32 → t < 2 ^ 16 → holds (.fwDone o n t tag) .RNG_FW_DONE 0 8 (n + t * 2 ^ 32 + tag * 2 ^ 48)) ∧
  (n < 2 ^ 16 → t < 4 → holds (.ringRead o t n tag) .RNG_RING_ACC_CTL 0 8 (n + t * 2 ^ 16 + 1 * 2 ^ 18 + tag * 2 ^ 32)) ∧
  (n < 2 ^ 16 → t < 4 → holds (.ringWrite o t n tag) .RNG_RING_ACC_CTL 0 8 (n + t * 2 ^ 16 + 2 * 2 ^ 18 + tag * 2 ^ 32)) ∧
  (n < 2 ^ 16 → t < 4 → holds (.ringState o t n tag) .RNG_RING_ACC_CTL 0 8 (n + t * 2 ^ 16 + 3 * 2 ^ 18 + tag * 2 ^ 32)) ∧
  (n < 2 ^ 16 → t < 4 → holds (.ringEnable o t n tag) .RNG_RING_ACC_CTL 0 8 (n + t * 2 ^ 16 + 4 * 2 ^ 18 + tag * 2 ^ 32)) ∧
  (n < 2 ^ 16 → t < 4 → holds (.ringDisable o t n tag) .RNG_RING_ACC_CTL 0 8 (n + t * 2 ^ 16 + 5 * 2 ^ 18 + tag * 2 ^ 32)) ∧
  (n < 2 ^ 16 → t < 4 → holds (.ringResume o t n tag b) .RNG_RING_ACC_CTL 0 8 (n + t * 2 ^ 16 + 6 * 2 ^ 18 + b2n b * 2 ^ 21 + tag * 2 ^ 32)) ∧
  (n < 2 ^ 16 → t < 4 → holds (.ringReset o t n tag) .RNG_RING_ACC_CTL 0 8 (n + t * 2 ^ 16 + 7 * 2 ^ 18 + tag * 2 ^ 32)) ∧
  (chanOk n t = true → holds (.shadowWrite o n t 0 v) .DMA_SH_SRC (128 * n + t) 8 v) ∧
  (chanOk n t = true → holds (.shadowWrite o n t 1 v) .DMA_SH_DST (128 * n + t) 8 v) ∧
  (chanOk n t = true → holds (.shadowWrite o n t 2 v) .DMA_SH_LEN (128 * n + t) 4 v) ∧
  (chanOk n t = true → holds (.shadowWrite o n t 3 v) .DMA_SH_CFG (128 * n + t) 4 v) ∧
  (chanOk n t = true → holds (.arm o n t tag) .DMA_CH_CTL (128 * n + t) 4 (tag * 2 ^ 16 + 1)) ∧
  (chanOk n t = true → holds (.reclaim o n t tag) .DMA_CH_CTL (128 * n + t) 4 (tag * 2 ^ 16 + 2)) ∧
  (chanOk n t = true → holds (.channelReset o n t tag) .DMA_CH_CTL (128 * n + t) 4 (tag * 2 ^ 16 + 4)) ∧
  (chanOk n t = true → holds (.channelResume o n t tag) .DMA_CH_CTL (128 * n + t) 4 (tag * 2 ^ 16 + 8)) ∧
  (chanOk n t = true → holds (.ownerWrite o n t v) .DMA_CH_OWNER (128 * n + t) 8 v)

/-- The commands that are writes of one register of the crypto complex and the storage engine, each with the register, its element, the width and the value (R549 and the
register tables). -/
def keyWrites (holds : Instr → Reg → Nat → Nat → Nat → Prop) (o : Origin) (n t v tag : Nat) (b : Bool) : Prop :=
  (n < 2 ^ 18 → holds (.saRead o n) .CRY_SA_ACC_CTL 0 4 (n + 2 ^ 18)) ∧ (n < 2 ^ 18 → holds (.saWrite o n) .CRY_SA_ACC_CTL 0 4 (n + 2 ^ 19)) ∧
  holds (.keyportRelease o) .CRY_KEYPORT_LOCK 0 4 (2 ^ 31) ∧
  (n < 2 ^ 18 → t < 256 → v < 4096 → holds (.keyportLoad o n t v b tag) .CRY_KEYPORT_CTL 0 8 (n + 1 * 2 ^ 18 + t * 2 ^ 24 + v * 2 ^ 32 + b2n b * 2 ^ 44 + tag * 2 ^ 48)) ∧
  (n < 2 ^ 18 → holds (.keyportErase o n tag) .CRY_KEYPORT_CTL 0 8 (n + 2 * 2 ^ 18 + tag * 2 ^ 48)) ∧
  (n < 2 ^ 18 → t < 256 → v < 4096 → holds (.keyportGenerate o n t v b tag) .CRY_KEYPORT_CTL 0 8 (n + 3 * 2 ^ 18 + t * 2 ^ 24 + v * 2 ^ 32 + b2n b * 2 ^ 44 + tag * 2 ^ 48)) ∧
  (n < 2 ^ 16 → holds (.stxRead o n b tag) .STX_ACC_CTL 0 8 (n + b2n b * 2 ^ 16 + 1 * 2 ^ 17 + tag * 2 ^ 32)) ∧
  (n < 2 ^ 16 → holds (.connInstall o n tag) .STX_ACC_CTL 0 8 (n + 2 * 2 ^ 17 + tag * 2 ^ 32)) ∧
  (n < 2 ^ 16 → holds (.nsWrite o n tag) .STX_ACC_CTL 0 8 (n + 2 ^ 16 + 2 * 2 ^ 17 + tag * 2 ^ 32)) ∧
  (n < 2 ^ 16 → holds (.connRemove o n tag) .STX_ACC_CTL 0 8 (n + 3 * 2 ^ 17 + tag * 2 ^ 32))

/-- The commands that are writes of one register of pitches, the Referee, resets, Basecamp, clocks and power, each with the register, its element, the width and the value (R549 and the
register tables). -/
def siteWrites (holds : Instr → Reg → Nat → Nat → Nat → Prop) (o : Origin) (n t v tag : Nat) (b : Bool) : Prop :=
  (n < 4096 → holds (.bind o n tag) .PIT_CTL 0 8 (n + 1 * 2 ^ 12 + tag * 2 ^ 32)) ∧
  (n < 4096 → holds (.resetDrain o n tag) .PIT_CTL 0 8 (n + 2 * 2 ^ 12 + tag * 2 ^ 32)) ∧
  (n < 4096 → holds (.resetSquash o n tag) .PIT_CTL 0 8 (n + 3 * 2 ^ 12 + tag * 2 ^ 32)) ∧
  (n < 4096 → holds (.freeze o n tag) .PIT_CTL 0 8 (n + 4 * 2 ^ 12 + tag * 2 ^ 32)) ∧
  (n < 4096 → holds (.thaw o n tag) .PIT_CTL 0 8 (n + 5 * 2 ^ 12 + tag * 2 ^ 32)) ∧
  (n < 4096 → t < 4 → holds (.save o n t tag) .PIT_CTL 0 8 (n + 6 * 2 ^ 12 + t * 2 ^ 16 + tag * 2 ^ 32)) ∧
  (n < 4096 → t < 4 → holds (.restore o n t tag) .PIT_CTL 0 8 (n + 7 * 2 ^ 12 + t * 2 ^ 16 + tag * 2 ^ 32)) ∧
  (n < 4096 → holds (.release o n tag) .PIT_CTL 0 8 (n + 8 * 2 ^ 12 + tag * 2 ^ 32)) ∧ holds (.refClear o) .REF_CLEAR 0 4 1 ∧
  holds (.deviceWarmReset o) .SITE_RESET 0 4 1 ∧ holds (.jnlDiscard o) .JNL_CTL 0 4 1 ∧ holds (.wdtWrite o v) .BCP_WDT 0 4 v ∧
  holds (.bootConfirm o) .BCP_BOOT_CONFIRM 0 4 1 ∧ holds (.pwrModeWrite o v) .PWR_MODE 0 4 v ∧ holds (.pllEnable o b) .CLK_PLL_CTL 0 4 (b2n b) ∧
  (n < 19 → holds (.clkSrcWrite o n v) .CLK_SRC n 4 v)

end Sys2Proof.Machine

/-- R139, R298, R523, R550: a well-formed write from BAR0 makes a record for each register it reaches, the last of which holds the write, and
changes no register; one that reaches no register makes a record alone, and one of a bad form counts in HIF_BAD_ACCESS beside it. A write
of another origin takes effect at once, but for the registers whose writes wait for a record from any origin. With the seal of its
record (SEAL_ACK) a held write takes effect, if its origin is still heard. An RWS write is held, and its effect changes no
register in force, only the pending copy, which takes the written RWS bits. The commands that are writes of one register from BAR0 are
held as such writes, with the value that their operands spell. -/
def Obligations.RegisterWriteRule : Prop :=
  (∀ (l off width v left : Nat) (s : State), s.dev.hears (.bar0 l) = true → regForm off width = true → halfBad off width = false →
    let o := Origin.bar0 l
    let d := s.dev.useLink l
    (∀ p : RegPart, regParts off width v = [p] → exec (.registerWrite o off width v left) s = .next (s.withDev
      (d.logOrd (s.dev.regRec o p.r p.i width p.v) (some ⟨o, p.r.key p.i, p.v, p.m, none⟩)))) ∧
    (∀ p q : RegPart, regParts off width v = [p, q] → exec (.registerWrite o off width v left) s = .next (s.withDev
      ((d.logOrd (s.dev.regRec o p.r p.i width p.v) none).logOrd (s.dev.regRec o q.r q.i width q.v)
        (some ⟨o, q.r.key q.i, q.v, q.m, some (p.r.key p.i, p.v, p.m)⟩)))) ∧
    (regParts off width v = [] → exec (.registerWrite o off width v left) s =
      .next (s.withDev (d.logOrd (strayRec o off width v) none)))) ∧
  (∀ (l off width v left : Nat) (s : State), s.dev.hears (.bar0 l) = true → regForm off width = false ∨ halfBad off width = true →
    exec (.registerWrite (.bar0 l) off width v left) s = .next (s.withDev
      (((s.dev.useLink l).logOrd (strayRec (.bar0 l) off width v) none).bump .HIF_BAD_ACCESS l))) ∧
  (∀ (o : Origin) (off width v left : Nat) (s : State), s.dev.hears o = true → (∀ l, o ≠ .bar0 l) → regForm off width = true →
    halfBad off width = false →
    ((∀ p ∈ regParts off width v, o.recorded p.r = false) → exec (.registerWrite o off width v left) s =
      .next (s.withDev (s.dev.accessWrite o (regParts off width v) (some left)))) ∧
    (∀ p : RegPart, regParts off width v = [p] → o.recorded p.r = true → exec (.registerWrite o off width v left) s =
      .next (s.withDev (s.dev.holdWrite o p.r p.i width p.v p.m)))) ∧
  (∀ (left : Nat) (e : LogEntry) (rest : List LogEntry) (s : State), s.dev.jnl.fail < 4 → s.dev.log.taken = e :: rest →
    let d := Dev.capSealed { s.dev with log := { s.dev.log with taken := rest } } e.id e.body.seq
    (e.held = none → exec (.sealAck left) s = .next (s.withDev d)) ∧
    (∀ h, e.held = some h → h.origin ≠ .device → h.origin ≠ .referee →
      (d.hears h.origin = true → exec (.sealAck left) s = .next (s.withDev (d.accessWrite h.origin h.parts (some left)))) ∧
      (d.hears h.origin = false → exec (.sealAck left) s = .next (s.withDev d)))) ∧
  (∀ (o : Origin) (off width v : Nat) (s : State), s.dev.hears o = true → regForm off width = true → halfBad off width = false →
    exec (.rwsWrite o off width v) s = .next (s.withDev (forEach ((regParts off width v).filter (fun p => p.r.info.rws ≠ 0)) s.dev
      (fun d p => d.holdWrite o p.r p.i width p.v p.m)))) ∧
  (∀ (d : Dev) (o : Origin) (r : Reg) (i width v m : Nat), (d.holdWrite o r i width v m).regs = (d.heardFrom o).regs ∧
    (d.holdWrite o r i width v m).pend = d.pend ∧ (d.holdWrite o r i width v m).mem = d.mem) ∧
  (∀ (l n t v tag : Nat) (b e : Bool) (s : State), s.dev.hears (.bar0 l) = true → tag < 2 ^ 16 →
    let o := Origin.bar0 l
    let holds := fun (c : Instr) (r : Reg) (i width w : Nat) => exec c s = .next (s.withDev (s.dev.holdWrite o r i width w r.ones))
    pathWrites holds s o n t v tag b e ∧ clusterWrites holds o n t v tag b ∧ ringWrites holds o n t v tag b ∧ keyWrites holds o n t v tag b ∧ siteWrites holds o n t v tag b) ∧
  (∀ (d : Dev) (r : Reg) (i v m : Nat), r.info.rw = 0 → r.info.w1c = 0 → r.info.rws &&& m = r.info.rws → r.info.rws ≠ 0 →
    (d.plainWrite r i v m).regs = d.regs ∧ (d.plainWrite r i v m).pend = Sparse.put d.pend (r.key i) (some (BitVec.ofNat 64
      (((d.pendBase (r.key i)).toNat &&& (2 ^ 64 - 1 - r.info.rws)) ||| (v &&& r.info.rws)))))

/-! ### Ports and frames received -/

/-- R45, R46, R50, R174, R176, R177, R575: a frame on a port that is up and not in loopback is received with the stamp of its moment. A whole good one, in a mode that carries
frames, is counted with its length and goes to the front end with its receive time; in another mode it is dropped and counted; a bad one
counts in the one counter that R45 gives it, and nothing else happens unless it may be cut through. A PAUSE or PFC frame counts in RX_FC;
on a port of its FC kind it pauses its classes (PAUSE: all eight) until their quanta have run out, and quanta 0 end a pause. -/
def Obligations.FrameReception : Prop :=
  (∀ (p ago sub : Nat) (bytes : List Byte) (fcsOk cut : Bool) (s : State), p < 32 →
    (s.dev.portState p = 4 → s.dev.looped p = false → exec (.receiveFrame p bytes fcsOk cut ago sub) s =
      .next (s.withDev ((s.dev.stampAt ago sub).2.macReceive p bytes fcsOk cut (s.dev.stampAt ago sub).1))) ∧
    (s.dev.portState p ≠ 4 ∨ s.dev.looped p = true → exec (.receiveFrame p bytes fcsOk cut ago sub) s = .next s)) ∧
  (∀ (d : Dev) (p t : Nat) (bytes : List Byte), p < 32 → 64 ≤ bytes.length + 4 →
    bytes.length + 4 ≤ d.fld .WIRE_PORT_CFG p 31 18 →
    let e := d.macReceive p bytes true false t
    (d.mode.traffic = true →
      e.rd .WIRE_RX_FRAMES_OK p = (d.rd .WIRE_RX_FRAMES_OK p + 1) % 2 ^ 64 ∧
      e.rd .WIRE_RX_BYTES_OK p = (d.rd .WIRE_RX_BYTES_OK p + bytes.length + 4) % 2 ^ 64 ∧
      e.frame d.nextFrame = some { Frame.fresh bytes p with rxTime := d.rxStamp p t, loc := .frontEnd, ord := d.nextOrd } ∧
      e.nextFrame = d.nextFrame + 1 ∧ e.mem = d.mem ∧ e.dor = d.dor) ∧
    (d.mode.traffic = false → e = d.bump .WIRE_RX_MODE_DROP p)) ∧
  (∀ (d : Dev) (p t : Nat) (bytes : List Byte) (fcsOk cut : Bool) (r : Reg), d.entersEarly p bytes = false →
    rxVerdict (bytes.length + 4) (d.fld .WIRE_PORT_CFG p 31 18) cut fcsOk = some r → d.macReceive p bytes fcsOk cut t = d.bump r p) ∧
  (∀ n m, n < 64 → rxVerdict n m false true = some .WIRE_RX_UNDERSIZE ∧ rxVerdict n m false false = some .WIRE_RX_FRAGMENT) ∧
  (∀ n m, 64 ≤ n → (m < n → rxVerdict n m false true = some .WIRE_RX_OVERSIZE) ∧ (n ≤ m → rxVerdict n m false false = some .WIRE_RX_FCS_ERR)) ∧
  (∀ (p c q : Nat) (s : State), p < 32 → c < 8 → q < 2 ^ 16 → s.dev.portState p = 4 → s.dev.fld .WIRE_PORT_CFG p 5 4 = 2 → ∃ d,
    exec (.pauseFrameReceived p true [(c, q)]) s = .next (s.withDev d) ∧
    d.rd .WIRE_RX_FC p = (s.dev.rd .WIRE_RX_FC p + 1) % 2 ^ 64 ∧ d.rxPaused p c = decide (q ≠ 0) ∧ d.frames = s.dev.frames ∧
    (∀ c', c' ≠ c → d.rxPaused p c' = s.dev.rxPaused p c') ∧
    (q ≠ 0 → (c, s.dev.vn + quantaVolleys q ((s.dev.portSpeed p).getD 100)) ∈ (d.wport p).rxPause)) ∧
  (∀ (p : Nat) (pfc : Bool) (l : List (Nat × Nat)) (s : State), p < 32 → s.dev.portState p = 4 →
    s.dev.fld .WIRE_PORT_CFG p 5 4 ≠ (if pfc then 2 else 1) → ∃ d, exec (.pauseFrameReceived p pfc l) s = .next (s.withDev d) ∧
    d.rd .WIRE_RX_FC p = (s.dev.rd .WIRE_RX_FC p + 1) % 2 ^ 64 ∧ d.frames = s.dev.frames ∧ ∀ c, d.rxPaused p c = s.dev.rxPaused p c) ∧
  (∀ (p q : Nat) (s : State), p < 32 → 0 < q → q < 2 ^ 16 → s.dev.portState p = 4 → s.dev.fld .WIRE_PORT_CFG p 5 4 = 1 → ∃ d,
    exec (.pauseFrameReceived p false [(0, q)]) s = .next (s.withDev d) ∧ ∀ c, c < 8 → d.rxPaused p c = true) ∧
  (∀ (p c : Nat) (s : State), p < 32 → ∃ d, exec (.pauseQuantaExpiry p c) s = .next (s.withDev d) ∧
    ((∀ e ∈ (s.dev.wport p).rxPause, e.1 = c → e.2 ≤ s.dev.vn) → d.rxPaused p c = false) ∧ d.regs = s.dev.regs ∧
    d.frames = s.dev.frames ∧ ∀ c', c' ≠ c → d.rxPaused p c' = s.dev.rxPaused p c')

/-- R46, R47, R48, R55, R188, R189: the life of a port. A reset write drains it; at the end of the drain and at a lost link it resets, is counted when it was up, and its hold
starts; once the Trim Set is loaded it trains, aligns and comes up, which ends the hold. A lane retrain is noted and ends. -/
def Obligations.PortLife : Prop :=
  (∀ (o : Origin) (p : Nat) (s : State), p < 32 → s.dev.takesWrite o .WIRE_PORT_CTL p →
    exec (.portReset o p) s = .next (s.withDev (s.dev.portReset p))) ∧
  (∀ (p : Nat) (d : Dev), p < 32 → d.portState p = 4 → d.fld .WIRE_PORT_STATUS p 3 3 = 0 →
    let e := d.portReset p
    e.portState p = 4 ∧ e.fld .WIRE_PORT_STATUS p 3 3 = 1 ∧ (e.wport p).since = d.vn ∧ e.mem = d.mem ∧ e.frames = d.frames) ∧
  (∀ (p : Nat) (b : Bool) (s : State), p < 32 → s.dev.fld .WIRE_PORT_STATUS p 3 3 = 1 → (s.dev.wport p).since < s.dev.vn →
    s.dev.firstIf (fun f => f.loc = .mac p) = none → exec (.txDrainEnd p b) s = .next (s.withDev (s.dev.portDown p b))) ∧
  (∀ (p : Nat) (b : Bool) (s : State), p < 32 → s.dev.portState p = 4 → exec (.linkDown p b) s = .next (s.withDev (s.dev.portDown p b))) ∧
  (∀ (p : Nat) (b : Bool) (d : Dev), p < 32 → d.framesIf (fun f => f.loc = .mac p) = [] → d.fld .SWB_PORT_CFG p 43 28 ≠ 0 →
    (d.portDown p b).portState p = 5 ∧ Sparse.get? (d.portDown p b).swb.hold p = some (d.vn + 25 * d.fld .SWB_PORT_CFG p 43 28) ∧
    ((d.portDown p b).wport p).rxPause = [] ∧ (d.portDown p b).frames = d.frames) ∧
  (∀ (p : Nat) (s : State), p < 32 → s.dev.portState p = 5 ∨ s.dev.portState p = 1 → s.dev.portFenced p = false →
    s.dev.bcp.trimDone = true → exec (.trainingStart p) s = .next (s.withDev (s.dev.trainPort p))) ∧
  (∀ (p : Nat) (s : State), p < 32 → s.dev.portState p = 2 → (s.dev.wport p).since + 3000000 ≤ s.dev.vn →
    exec (.trainingRetry p) s = .next (s.withDev (s.dev.trainPort p))) ∧
  (∀ (p : Nat) (d : Dev), p < 32 → (d.trainPort p).portState p = 2 ∧ (d.trainPort p).mem = d.mem ∧ (d.trainPort p).frames = d.frames ∧
    ∀ q, q < 32 → q ≠ p → (d.trainPort p).portState q = d.portState q) ∧
  (∀ (p : Nat) (s : State), p < 32 → s.dev.portState p = 2 → exec (.fecAlignLock p) s = .next (s.withDev (s.dev.setPort p 3 0 1 0)) ∧
    (s.dev.setPort p 3 0 1 0).portState p = 3) ∧
  (∀ (p : Nat) (s : State), p < 32 → s.dev.portState p = 2 ∨ s.dev.portState p = 3 →
    (∀ v, Sparse.get? s.dev.swb.hold p = some v → s.dev.vn ≤ v) → ∃ d, exec (.linkUp p) s = .next (s.withDev d) ∧
    d.portState p = 4 ∧ d.fld .WIRE_PORT_STATUS p 0 0 = 1 ∧ Sparse.get? d.swb.hold p = none ∧ d.mem = s.dev.mem ∧ d.frames = s.dev.frames) ∧
  (∀ (o : Origin) (l : Nat) (s : State), l < 32 → s.dev.takesWrite o .WIRE_LANE_CTL l →
    exec (.retrain o l) s = .next (s.withDev (s.dev.retrainLane l))) ∧
  (∀ (l : Nat) (d : Dev), d.lanePort l = none → (d.wlane l).retrain = none →
    d.retrainLane l = d.setWlane l { d.wlane l with retrain := some d.vn }) ∧
  (∀ (l : Nat) (s : State), l < 32 → exec (.retrainComplete l) s =
    .next (s.withDev (s.dev.setWlane l { s.dev.wlane l with retrain := none })))

/-- R49, R53, R54, R55: the end of a lane's FEC window adds its symbol errors to the lane's counter and begins a new window, with the whistle
LANE_DEGRADE above the limit; TS_TX_POP takes the oldest capture of the port's FIFO away; in BRINGUP, before a lane trains, the Trim
Set that the flash holds is loaded when it is valid, and the lanes may train. -/
def Obligations.LaneAndTimestamp : Prop :=
  (∀ (l n a b : Nat) (s : State), l < 32 → (s.dev.wlane l).window + 25000 ≤ s.dev.vn → s.dev.lanePort l = none →
    let d := (s.dev.add .WIRE_LANE_FEC_SYMBOLS l n).setWlane l { s.dev.wlane l with window := s.dev.vn, errors := n }
    exec (.fecWindowEnd l n a b) s = .next (s.withDev
      (if s.dev.rd .WIRE_LANE_DEGRADE_LIMIT (l / 8) < n then d.whistle 0x03 (laneUnit l) 0 n else d))) ∧
  (∀ (l p n a b : Nat) (s : State), l < 32 → (s.dev.wlane l).window + 25000 ≤ s.dev.vn → s.dev.lanePort l = some p →
    n ≤ s.dev.rd .WIRE_LANE_DEGRADE_LIMIT (l / 8) → ∃ d, exec (.fecWindowEnd l n a b) s = .next (s.withDev d) ∧
      d.rd .WIRE_LANE_FEC_SYMBOLS l = (s.dev.rd .WIRE_LANE_FEC_SYMBOLS l + n) % 2 ^ 64 ∧
      (p < 32 → d.rd .WIRE_FEC_CW_CORRECTED p = (s.dev.rd .WIRE_FEC_CW_CORRECTED p + a) % 2 ^ 64 ∧
        d.rd .WIRE_FEC_CW_UNCORRECTED p = (s.dev.rd .WIRE_FEC_CW_UNCORRECTED p + b) % 2 ^ 64) ∧
      (d.wlane l).window = s.dev.vn ∧ (d.wlane l).errors = n ∧ d.frames = s.dev.frames ∧ d.whistles = s.dev.whistles) ∧
  (∀ (o : Origin) (p : Nat) (s : State), p < 32 → s.dev.takesWrite o .WIRE_TS_TX_POP p → exec (.tsTxPop o p) s =
    .next (s.withDev (s.dev.setWport p { s.dev.wport p with ts := (s.dev.wport p).ts.drop 1 }))) ∧
  (∀ s : State, s.dev.bcpRuns = true → s.dev.mode = .bringup → s.dev.noneTrained = true →
    exec .trimSetLoad s = .next (s.withDev { s.dev with bcp := { s.dev.bcp with
      trim := (if trimValid s.dev.trimStored then some s.dev.trimStored else none), trimDone := true } }))
/-! ### Capsules -/

/-- R511, R513, R515, R525: a new capsule of an operator that changes state and passes its checks raises its record and waits for the seal; one whose opcode is not listed
ends BAD_OPCODE (1) and one that its mode forbids ends BAD_MODE (6), each counted; a tenant's capsule of an operator opcode raises a REFUSAL record first. An ended capsule is no longer in
progress and is counted. -/
def Obligations.CapsuleCourse : Prop :=
  (∀ (src : CapSrc) (c : CapRun) (s : State), ∀ p ∈ [((0x0E01 : Nat), Instr.bcpReboot), (0x0E03, .bcpSvnCommit), (0x0B02, .cryKekErase),
      (0x0702, .dorThreadAct)], s.dev.capNew src p.1 c → s.dev.capMay c (.ok []) → c.checkOnly = false →
    exec (p.2 src) s = .next (s.withDev (s.dev.capBegin c (.ok []) 2 0))) ∧
  (∀ (src : CapSrc) (c : CapRun) (bs : List Byte) (s : State), ∀ p ∈ [((0x0101 : Nat), Instr.calWrite), (0x0E02, .bcpImgkeySet)],
    s.dev.capNew src p.1 c → s.dev.capMay c (.ok bs) → c.item = none → c.checkOnly = false →
    exec (p.2 src (.ok bs)) s = .next (s.withDev (s.dev.capBegin c (.ok bs) 2 0))) ∧
  (∀ (src : CapSrc) (c : CapRun) (s : State), s.dev.capNew src c.opcode c → capRow c.opcode = none →
    exec (.setMode src) s = .next (s.withDev ((s.dev.bump .BCP_CAPSULES_REFUSED 0).capReply c 1 0 0 []))) ∧
  (∀ (src : CapSrc) (c : CapRun) (p : Nat) (s : State), s.dev.capNew src 0x0E01 c → c.o.tenant = some p →
    exec (.bcpReboot src) s = .next (s.withDev (s.dev.capBegin c (.ok []) 8 4))) ∧
  (∀ (src : CapSrc) (c : CapRun) (s : State), s.dev.capNew src 0x0E03 c → c.o.tenant = none → s.dev.mode ≠ .maintenance →
    c.fieldsOk ⟨false, false, [.maintenance], 0, false, false⟩ (.ok []) = true →
    exec (.bcpSvnCommit src) s = .next (s.withDev ((s.dev.bump .BCP_CAPSULES_REFUSED 0).capReply c 6 0 0 []))) ∧
  (∀ (d : Dev) (c : CapRun) (buf : Fetch) (typ stage : Nat), let e := d.capBegin c buf typ stage
    e.log.ord = d.log.ord ++ [⟨d.log.nextId, d.capRecord c typ, none⟩] ∧ e.bcp.caps = d.bcp.caps ++ [{ c with recNo := d.log.nextId, stage := stage, buf := buf }] ∧
      e.regs = d.regs ∧ e.mem = d.mem) ∧
  (∀ (d : Dev) (c : CapRun) (st de r : Nat), c.item = none → let e := d.capReply c st de r []
    e.bcp.caps = d.bcp.caps.filter (fun x => decide (x ≠ c)) ∧ e.out = d.out ++ [.reply st [c.entry st de r]] ∧ e.mem = d.mem ∧
      e.rd .BCP_CAPSULES 0 = (d.rd .BCP_CAPSULES 0 + 1) % 2 ^ 64)

/-- R33, R56, R259, R511, R526, R533, R537, R556 to R558: what each capsule of the site, the clusters, Basecamp, the logs and power does once its record is sealed (a read: at
once), and the reply it ends with. -/
def Obligations.CapsuleEffects : Prop :=
  ∀ (src : CapSrc) (k : CapRun) (s : State),
    (s.dev.capDue src 0x0001 k → (s.dev.setModeOwn k).1 = 0 → ∀ m, Mode.ofCode (k.param 0 1) = some m →
      exec (.setMode src) s = .next (s.withDev ((s.dev.setCap k k.running).requestMode k.o m 1))) ∧
    (s.dev.capNew src 0x0002 k → s.dev.capMay k (.ok []) → k.checkOnly = false → exec (.siteInfo src) s = .next (s.withDev
      (s.dev.capData k (k.most (k.param 16 4)) ((List.range (k.most (k.param 16 4))).map (fun j => s.dev.siteByteAt k.o (k.param 12 4 + j)))))) ∧
    (s.dev.capNew src 0x0003 k → s.dev.capMay k (.ok []) → k.checkOnly = false → exec (.siteRegRead src) s = .next (s.withDev
      ((s.dev.busRead (.bar0 0) (k.param 0 4) (k.param 4 1)).2.capReply k 0 0 (s.dev.busRead (.bar0 0) (k.param 0 4) (k.param 4 1)).1 []))) ∧
    (s.dev.capDue src 0x0004 k → ∀ left, exec (.siteRegWrite src left) s = .next (s.withDev
      ((s.dev.offWrite (.bar0 0) (k.param 0 4) (k.param 4 1) (k.param 8 8 % 256 ^ k.param 4 1) (some left)).capReply k 0 0 0 []))) ∧
    (s.dev.capDue src 0x0101 k → ∀ b, exec (.calWrite src b) s =
      .next (s.withDev ((s.dev.setCap k k.running).flashWrite 0x10000 [0, 0]))) ∧
    (s.dev.capIn src 0x0101 k 1 → ∀ b, exec (.calWrite src b) s =
      .next (s.withDev ((s.dev.flashWrite 0x10000 k.buf.bytes).capReply k 0 0 0 []))) ∧
    (s.dev.capNew src 0x0102 k → s.dev.capMay k (.ok []) → k.checkOnly = false →
      exec (.calRead src) s = .next (s.withDev (s.dev.capData k 2560 s.dev.trimStored))) ∧
    (s.dev.capDue src 0x0701 k → ∀ b bs, k.buf = .ok bs → (s.dev.dorLoadOwn k bs).1 = 0 →
      exec (.dorLoad src b) s = .next (s.withDev (s.dev.dorLoadRun k bs))) ∧
    (s.dev.capDue src 0x0702 k → exec (.dorThreadAct src) s = .next (s.withDev (s.dev.threadActRun k))) ∧
    (s.dev.capDue src 0x0E01 k → exec (.bcpReboot src) s = .next (s.withDev ((s.dev.capReply k 0 0 0 []).bcpReboot 3))) ∧
    (s.dev.capDue src 0x0E02 k → ∀ b bs, k.buf = .ok bs → exec (.bcpImgkeySet src b) s = .next (s.withDev
      (Dev.capReply { s.dev with bcp := { s.dev.bcp with keys := putKey s.dev.bcp.keys (k.param 12 1) bs } } k 0 0 0 []))) ∧
    (s.dev.capDue src 0x0E03 k → exec (.bcpSvnCommit src) s = .next (s.withDev
      (Dev.capReply { s.dev with bcp := { s.dev.bcp with minSvn := max s.dev.bcp.minSvn (leAt s.dev.runningHead 0xC 4) } } k 0 0 0 []))) ∧
    (s.dev.capNew src 0x0E04 k → s.dev.capMay k (.ok []) → k.checkOnly = false → exec (.logRead src) s = .next (s.withDev
      (s.dev.capData k (((s.dev.logRange k).head?.map (fun r => r.seq)).getD 0) ((s.dev.logRange k).flatMap (fun r => leBytes 64 (r.image true)))))) ∧
    (s.dev.capDue src 0x0F01 k → s.dev.physState (k.param 0 3) = 2 → exec (.benchReadmit src) s = .next (s.withDev
      { s.dev.setCap k k.running with ref := { s.dev.ref with testing := s.dev.ref.testing ++ [(k.param 0 3, s.dev.vn)] } })) ∧
    (s.dev.capNew src 0x1001 k → s.dev.capMay k (.ok []) → k.checkOnly = false → ∀ x, Sparse.get? s.dev.jnl.ckpts (k.param 12 1) = some x →
      exec (.jnlCkptRead src) s = .next (s.withDev
        (let r := s.dev.storeRead (0x02000000 + k.param 12 1 * 0x400000 + k.param 16 4) (k.most (k.param 20 4)); r.2.capData k x.1 r.1))) ∧
    (s.dev.capDue src 0x1201 k → s.dev.bcp.dormant = none → exec (.pwrDormant src) s = .next (s.withDev
      (Dev.capReply { s.dev with bcp := { s.dev.bcp with dormant := some (1, s.dev.vn, k.o) } } k 0 0 0 [])))

/-- R382, R398, R400, R406, R414, R416, R442, R450, R519, R558: what each capsule of pitches, keys, security associations and storage does once its record is sealed. -/
def Obligations.KeyCapsuleEffects : Prop :=
  ∀ (src : CapSrc) (k : CapRun) (s : State),
    (s.dev.capDue src 0x0801 k → (s.dev.pitOwn (2 + k.param 12 1 % 2) (k.pitch.getD 0)).1 = 0 →
      exec (.pitReset src) s = .next (s.withDev ((s.dev.setCap k k.running).pitCtl k.o k.resetWord))) ∧
    (s.dev.capNew src 0x0802 k → s.dev.capMay k (.ok []) → k.checkOnly = false → ∀ p, k.pitch = some p →
      exec (.pitInfo src) s = .next (s.withDev (s.dev.capData k (s.dev.regView .PIT_STATE p) (s.dev.pitInfo p)))) ∧
    (s.dev.capDue src 0x0803 k → (s.dev.pitOwn (bits (k.param 12 8) 15 12) (bits (k.param 12 8) 11 0)).1 = 0 →
      exec (.pitOp src) s = .next (s.withDev ((s.dev.setCap k k.running).pitCtl k.o (k.param 12 8)))) ∧
    (s.dev.capDue src 0x0804 k → ∀ b bs key, k.buf = .ok bs → ∀ kek, s.dev.cry.kek = some kek →
      Config.keyUnwrap kek defaultIv bs = some key → exec (.pitMigkeyLoad src b) s = .next (s.withDev
        ((Dev.wr { s.dev with cry := { s.dev.cry with migKey := some (leNat (key.take 32)) } } .PIT_MIGKEY_STATUS 0 1).capReply k 0 0 0 []))) ∧
    (s.dev.capDue src 0x0B01 k → ∀ b bs key, k.buf = .ok bs → s.dev.cry.kek = none →
      Config.keyUnwrap (Config.kekWrappingKey bs) defaultIv ((bs.drop 100).take 40) = some key → ∀ tripping, ∃ d : Dev,
        exec (.cryKekLoad src b tripping) s = .next (s.withDev (d.capReply k 0 0 0 [])) ∧ d.cry.kek = some (leNat (key.take 32)) ∧
        d.rd .CRY_KEK_STATUS 0 = 1 ∧ d.fld .CRY_ALARM_STATUS 0 4 0 = s.dev.fld .CRY_ALARM_STATUS 0 4 0 &&& tripping ∧ d.cry.slots = s.dev.cry.slots) ∧
    (s.dev.capDue src 0x0B01 k → ∀ b bs, k.buf = .ok bs → s.dev.cry.kek.isSome → ∀ tripping,
      exec (.cryKekLoad src b tripping) s = .next (s.withDev (s.dev.capReply k 0x40B 0 0 []))) ∧
    (s.dev.capDue src 0x0B02 k → exec (.cryKekErase src) s = .next (s.withDev
      ((Dev.wr { s.dev with cry := { s.dev.cry with kek := none } } .CRY_KEK_STATUS 0 0).capReply k 0 0 0 []))) ∧
    (s.dev.capDue src 0x0B03 k → ∀ b bs, k.buf = .ok bs → k.param 12 4 < 262144 →
      exec (.cryKeyLoad src b) s = .next (s.withDev (s.dev.keyCapsule k k.loadWord bs))) ∧
    (s.dev.capDue src 0x0B04 k → k.param 12 4 < 262144 →
      exec (.cryKeyErase src) s = .next (s.withDev (s.dev.keyCapsule k (keyCtlWord 2 (k.param 12 4) 0 0 false 0) []))) ∧
    (s.dev.capDue src 0x0B03 k → ∀ b bs, k.buf = .ok bs → 262144 ≤ k.param 12 4 →
      exec (.cryKeyLoad src b) s = .next (s.withDev (s.dev.capReply k 0x406 0 0 []))) ∧
    (s.dev.capDue src 0x0B05 k → ∀ b bs, k.buf = .ok bs → (s.dev.saOwn k (.ok bs)).1 = 0 →
      exec (.crySaWrite src b) s = .next (s.withDev (s.dev.saRun k (.ok bs)))) ∧
    (s.dev.capDue src 0x0C01 k → ∀ b bs, k.buf = .ok bs → (s.dev.installOwn k (.ok bs)).1 = 0 →
      exec (.stxConnInstall src b) s = .next (s.withDev (s.dev.stxRun k (leNat bs) (k.param 12 2 + 2 * 2 ^ 17)))) ∧
    (s.dev.capDue src 0x0C02 k → s.dev.stx.removing = none → connState (s.dev.conn (k.param 12 2)).img ≠ 0 →
      exec (.stxConnRemove src) s = .next (s.withDev ((s.dev.setCap k k.running).stxAcc .basecamp (k.param 12 2 + 3 * 2 ^ 17)))) ∧
    (s.dev.capDue src 0x0C03 k → (s.dev.nsOwn k).1 = 0 →
      exec (.stxNsWrite src) s = .next (s.withDev (s.dev.stxRun k k.nsImage (k.param 12 2 + 2 ^ 16 + 2 * 2 ^ 17))))
/-! ### From the parser to the switch -/

/-- R60, R71, R73: while the datapath runs, the first frame of its stream is parsed from its port's start node with the parser configuration in
force; one that parses is counted and goes on with its key vector and step list, and a malformed one is counted under its reason and
reported in PRS_MALFORMED_LAST. A frame that is not at the front end, or is not the first of its stream, waits. -/
def Obligations.ParseResult : Prop :=
  ∀ (f : Nat) (x : Frame) (s : State), s.dev.pathOpen = true → s.dev.frame f = some x →
    (x.loc ≠ .frontEnd ∨ s.dev.isFirst f x = false → exec (.parseFrame f) s = .next (s.withDev s.dev.xonCheck)) ∧
    (x.loc = .frontEnd → s.dev.isFirst f x = true →
      let v := s.dev.prs.ver
      let walked := s.dev.walk v x.bytes (s.dev.pfld v .PRS_DEPTH 0 9 0) 33 0 (s.dev.pfld v .PRS_PORT_CFG x.inPort 51 46) 0
        { kv := initKv x, steps := [], seen := [], vlan := 0, tunnel := 0 }
      let parsed := fun (w : Walk) (r : Nat) => s.dev.moveFrame f { x with kv := w.kv, steps := w.steps, cfgVer := v, malformed := r } .parsed
      ∀ w : Walk,
        (walked = (w, none) → exec (.parseFrame f) s = .next (s.withDev ((parsed w 0).bump .PRS_PARSED_OK x.inPort).xonCheck)) ∧
        (∀ r step n o, walked = (w, some (r, step, n, o)) → exec (.parseFrame f) s = .next (s.withDev
          (((parsed w r).bump (malCounter r) x.inPort).wr .PRS_MALFORMED_LAST 0
            (s.dev.vn % 2 ^ 32 * 2 ^ 32 + o % 2 ^ 10 * 2 ^ 22 + n * 2 ^ 16 + x.inPort * 2 ^ 10 + step * 2 ^ 4 + r)).xonCheck)))

/-- R20, R73, R79, R80, R90, R95, R136, R156: a frame admitted into its pipeline takes one of the volley's header slots and gets the stamp of the
current epoch, if it has none. A malformed one follows its reason's action, unless it is punted to another pitch's ring; any other gets its
pitch, or is dropped where a frozen entry ends classification, is classified, and goes through the flow stage, or waits for the read of
its flow entry, after which every header that waits on that entry proceeds in order. A frame for which admission is closed waits. -/
def Obligations.AdmissionResult : Prop :=
  (∀ (f : Nat) (x : Frame) (miss : Bool) (parity : List (Nat × Nat)) (s : State), s.dev.pathOpen = true → s.dev.frame f = some x →
    (s.dev.admissible f x = false → exec (.headerAdmission f miss parity) s = .next (s.withDev s.dev.xonCheck)) ∧
    (s.dev.admissible f x = true →
      let a := s.dev.noteAdmitted x.pipeline
      let y : Frame := if x.stamped then x else { x with stamped := true, epoch := s.dev.epc.cur }
      (x.malformed ≠ 0 →
        let z : Frame := { y with
          action := malformedRec (s.dev.pcfg x.cfgVer .PRS_MALFORMED_ACTION 0) x.malformed
          hash := if x.inPort = 0x30 then x.hash else s.dev.flowHash x.kv
          cls := s.dev.pfld x.cfgVer .PRS_PORT_CFG x.inPort 25 23 }
        exec (.headerAdmission f miss parity) s = .next (s.withDev
          (if s.dev.puntForeign z z.action then (a.bump .PRS_PUNT_FOREIGN x.inPort).toSwitch f { z with action := dropRec z.action }
            else a.policeFrame f z).xonCheck)) ∧
      (x.malformed = 0 →
        let b := forEach parity a (fun d e => d.markBad e.1 e.2 x.inPort)
        (∀ d, b.resolvePitch y = (d, none) → exec (.headerAdmission f miss parity) s = .next (s.withDev (d.loseFrame f).xonCheck)) ∧
        (∀ d p, b.resolvePitch y = (d, some p) →
          let q : Frame := { y with pitch := p, kv := (match p with
            | some n => putBits y.kv 31 19 (n * 2 + 1)
            | none => y.kv) }
          ∀ c viol tcam e z, d.classify q = (c, viol, tcam) →
            c.s.parityMiss { q with action := c.rcd, tcam := tcam, carried := false } (c.bad || !parity.isEmpty) = (e, z) →
            let waits := (e.flowKey z).isSome && (miss || (e.missBuffer z).any (fun w => e.flowKey w.2 = e.flowKey z))
            (waits = true → exec (.headerAdmission f miss parity) s =
              .next (s.withDev (e.moveFrame f { z with color := b2n viol } .flowMiss).xonCheck)) ∧
            (waits = false → exec (.headerAdmission f miss parity) s = .next (s.withDev (e.flowStage f z false viol).xonCheck)))))) ∧
  (∀ (f : Nat) (x : Frame) (parity : List (Nat × Nat)) (s : State), s.dev.pathOpen = true → s.dev.frame f = some x → x.loc = .flowMiss →
    let d := forEach parity s.dev (fun d e => d.markBad e.1 e.2 x.inPort)
    exec (.flowMissReturn f parity) s = .next (s.withDev
      (forEach (d.inOrder (fun y => y.loc = .flowMiss && y.pipeline = x.pipeline && d.flowKey y = d.flowKey x)) d
        (fun t e => t.flowStage e.1 { e.2 with color := 0 } (!parity.isEmpty) (e.2.color = 1))).xonCheck)) ∧
  (∀ (d : Dev) (f : Nat) (x : Frame), d.admissible f x = true → d.mode.traffic = true ∧ d.held = false ∧ x.loc = .parsed ∧
    d.admitted x.pipeline < 2 * d.clk.volleyNs)

/-! ### The switch core -/

/-- R86, R91, R168, R178, R190, R199, R344, R345, R575: what moves a frame on from each place while the datapath runs: a path delivers the
frame at its head, after its mirror copy; the egress pipeline takes the first frame of a queue; a port scheduler hands over the frame it
chooses, or drops it where a cell is bad; a cluster takes its punt, or wakes; a MAC sends its frame, or drops one longer than MAXLEN;
a spilled frame returns; and a frame for a receive ring fills the ring's next item, waits, or is dropped and counted. While the
datapath does not run, none of them moves a frame. -/
def Obligations.FrameMovement : Prop :=
  (∀ (p ns f : Nat) (x : Frame) (s : State), p < 8 → s.dev.pathOpen = true → s.dev.firstIf (fun y => y.loc = .path p) = some (f, x) →
    let waits := actBase x.action = 2 ∧ actCrypto x.action ≠ 2 ∧ (s.dev.forwardTo x).1 = 2 ∧ s.dev.extWait x = true
    (waits → exec (.pathDeliver p ns) s = .next (s.withDev s.dev.xonCheck)) ∧
    (¬ waits → exec (.pathDeliver p ns) s = .next (s.withDev
      ((if bit x.action 49 then s.dev.mirrorCopy x (bits x.action 55 50) f else s.dev).deliver f x ns).xonCheck))) ∧
  (∀ (q f : Nat) (x : Frame) (parity : List (Nat × Nat)) (s : State), s.dev.pathOpen = true → s.dev.held = false →
    s.dev.firstIf (fun y => y.loc = .queue q && !y.ready) = some (f, x) →
    exec (.egressPipeline q parity) s = .next (s.withDev (s.dev.egressFrame f x parity).xonCheck)) ∧
  (∀ (q ns : Nat) (bad : Bool) (s : State), (q < 32 ∨ 40 ≤ q ∧ q < 46) → s.dev.pathOpen = true → s.dev.held = false →
    s.dev.mode.traffic = true → let t := (s.dev.dropOversize q).countGuard q ns
    (∀ f x d, t.choose q ns (fun _ => true) = some (f, x, d) →
      exec (.scheduleFrame q ns bad) s = .next (s.withDev (if bad then d.badCell f x else d.handOverFrame f x).xonCheck)) ∧
    (t.choose q ns (fun _ => true) = none → exec (.scheduleFrame q ns bad) s = .next (s.withDev t.xonCheck))) ∧
  (∀ (c ns : Nat) (bad : Bool) (s : State), c < 8 → s.dev.pathOpen = true → s.dev.held = false → s.dev.mode.traffic = true →
    (∀ b, Sparse.get? s.dev.dor.asleep c = some b → s.dev.schedHeads (32 + c) ≠ [] →
      exec (.puntHandover c ns bad) s = .next (s.withDev (s.dev.wakeDue c).xonCheck)) ∧
    (∀ f x d, Sparse.get? s.dev.dor.asleep c = none → s.dev.choose (32 + c) ns (fun y => s.dev.puntRoom c y) = some (f, x, d) →
      exec (.puntHandover c ns bad) s = .next (s.withDev (if bad then d.badCell f x else d.puntTo c f x).xonCheck))) ∧
  (∀ (p ago sub f : Nat) (x : Frame) (s : State), p < 32 → s.dev.pathOpen = true → s.dev.portState p = 4 → s.dev.mode.traffic = true →
    s.dev.firstIf (fun y => y.loc = .mac p) = some (f, x) → s.dev.macStops x = false →
    exec (.transmitFrame p ago sub) s = .next (s.withDev (if s.dev.maxLen p < wireLen x
      then (s.dev.loseFrame f).bump .WIRE_TX_OVERSIZE p else s.dev.sendOn p f x ago sub).xonCheck)) ∧
  (∀ (p ago sub : Nat) (s : State), p < 32 → s.dev.portState p ≠ 4 ∨ s.dev.mode.traffic = false → s.dev.pathOpen = true →
    exec (.transmitFrame p ago sub) s = .next (s.withDev s.dev.xonCheck)) ∧
  (∀ (p q a b : Nat) (bad : Bool) (e : List (Nat × Nat)) (s : State), p < 8 → s.dev.pathOpen = false →
    exec (.pathDeliver p a) s = .next s ∧ exec (.egressPipeline q e) s = .next s ∧ exec (.scheduleFrame p a bad) s = .next s ∧
    exec (.puntHandover p a bad) s = .next s ∧ exec (.transmitFrame p a b) s = .next s ∧ exec (.spillReadback q) s = .next s ∧
    exec (.receiveDelivery q) s = .next s) ∧
  (∀ (q f : Nat) (x : Frame) (s : State), s.dev.pathOpen = true → s.dev.firstIf (fun y => y.inQueue && y.queue = q && y.spilled) = some (f, x) →
    s.dev.swb.spillRead < 8000 → let d := s.dev.setFrame f { x with spilled := false }
    exec (.spillReadback q) s = .next (s.withDev
      (Dev.xonCheck { d with swb := { d.swb with spillRead := d.swb.spillRead + (x.bytes.length + 4) } }))) ∧
  (∀ (r f : Nat) (x : Frame) (s : State), s.dev.pathOpen = true → s.dev.firstIf (fun y => y.loc = .ringEngine && y.rxRing = some r) = some (f, x) →
    (∀ i, s.dev.nextRecv r = some i → exec (.receiveDelivery r) s = .next (s.withDev (s.dev.fillItem f x i).xonCheck)) ∧
    (s.dev.nextRecv r = none →
      ((s.dev.rxRingOf x).2 = true ∧ (s.dev.ring r).st = 1 → exec (.receiveDelivery r) s = .next (s.withDev s.dev.xonCheck)) ∧
      (¬ ((s.dev.rxRingOf x).2 = true ∧ (s.dev.ring r).st = 1) → exec (.receiveDelivery r) s =
        .next (s.withDev ((s.dev.bump .RNG_RX_NO_BUF 0).dropFrame f).xonCheck))))

/-- R169, R174, R184, R189, R192, R194, R575: the switch core's other events. PFC is refreshed while its count stays above XON, by a port that
may send; barriers end when what they wait for has left, and what they hold goes on; a hold that runs out flushes its port; a reorder slot
is skipped after its time, and reported as stalled after a further one; and the multicast tables are read and written, where an index or
an entry outside them writes nothing and is counted. -/
def Obligations.SwitchEvents : Prop :=
  (∀ (p c v : Nat) (s : State), p < 32 → c < 8 → Sparse.get? s.dev.swb.xoff (8 * p + c) = some v →
    (v + 500 ≤ s.dev.vn ∧ s.dev.fld .SWB_PORT_PFC p 39 20 < s.dev.ingressCells p c →
      exec (.pfcRefresh p c) s = .next (s.withDev ((s.dev.sendPfc p c 0xFFFF).setXoff p c (some s.dev.vn)))) ∧
    (s.dev.vn < v + 500 → exec (.pfcRefresh p c) s = .next s)) ∧
  (∀ (d : Dev) (p c n : Nat), p < 32 → (d.portState p = 4 → d.mode.traffic = true → n ≠ 0 →
      (d.sendPfc p c n).out = d.out ++ [.flowControl p (if d.fld .WIRE_PORT_CFG p 5 4 = 2 then 2 ^ c else 0) n] ∧
      (d.sendPfc p c n).rd .SWB_PFC_XOFF_SENT p = (d.rd .SWB_PFC_XOFF_SENT p + 1) % 2 ^ 64 ∧ (d.sendPfc p c n).frames = d.frames) ∧
    (d.portState p ≠ 4 ∨ d.mode.traffic = false → d.sendPfc p c n = d)) ∧
  (∀ (b old : Nat) (s : State), Sparse.get? s.dev.swb.barrier b = some old →
    ((∀ e ∈ s.dev.frames, ¬ (e.2.loc = .path old ∧ e.2.hash % 256 = b)) → exec (.pathBarrierEnd b) s = .next (s.withDev
      (Dev.reenter { s.dev with swb := { s.dev.swb with barrier := Sparse.put s.dev.swb.barrier b none } } (fun x => x.hash % 256 = b)))) ∧
    ((∃ e ∈ s.dev.frames, e.2.loc = .path old ∧ e.2.hash % 256 = b) → exec (.pathBarrierEnd b) s = .next s)) ∧
  (∀ s : State,
    let d := match s.dev.swb.cluBarrier with
      | some w => if s.dev.barrierBusy w then s.dev else { s.dev with swb := { s.dev.swb with cluBarrier := none } }
      | none => s.dev
    let e := d.reenter (fun x => !d.puntHeld x && (Sparse.get? d.swb.barrier (x.hash % 256)).isNone)
    (e.swb.enBarrier = none → exec .clusterBarrierEnd s = .next (s.withDev e)) ∧
    (∀ old w, e.swb.enBarrier = some (old, w) → ∃ t, exec .clusterBarrierEnd s = .next (s.withDev t) ∧ t.regs = e.regs ∧ t.frames = e.frames ∧
      ((∀ k ∈ w, e.orderBusy k.1 k.2 = false) → (∀ k ∈ e.frames, ¬ (k.2.loc = .held ∧ e.puntHeld k.2 = true)) → t.swb.enBarrier = none) ∧
      (∀ k ∈ w, e.orderBusy k.1 k.2 = true → ∃ v, t.swb.enBarrier = some (old, v) ∧ k ∈ v))) ∧
  (∀ (p v : Nat) (s : State), Sparse.get? s.dev.swb.hold p = some v →
    (v ≤ s.dev.vn → s.dev.portState p ≠ 4 → exec (.holdExpiry p) s = .next (s.withDev
      (Dev.flushPort { s.dev with swb := { s.dev.swb with hold := Sparse.put s.dev.swb.hold p none } } p))) ∧
    (s.dev.vn < v ∨ s.dev.portState p = 4 → exec (.holdExpiry p) s = .next s)) ∧
  (∀ (c q i : Nat) (x : Slot) (s : State), s.dev.headSlot c q = some (i, x) → s.dev.fld .SWB_RSQ_SKIP 0 31 0 ≠ 0 → x.resolved = false →
    x.since + s.dev.fld .SWB_RSQ_SKIP 0 31 0 ≤ s.dev.vn →
    let d : Dev := { s.dev with swb := { s.dev.swb with skipped := (s.dev.swb.skipped ++ [i]).drop (s.dev.swb.skipped.length + 1 - 65535) } }
    exec (.rsqSkip c q) s = .next (s.withDev ((d.setSlot i (some { x with resolved := true })).rsqRun c q))) ∧
  (∀ (c q i : Nat) (x : Slot) (s : State), s.dev.headSlot c q = some (i, x) → x.resolved = false →
    x.since + (x.stalls + 1) * max 25000 (s.dev.fld .SWB_RSQ_STALL 0 31 0) ≤ s.dev.vn →
    exec (.rsqStall c q) s = .next (s.withDev ((s.dev.setSlot i (some { x with stalls := x.stalls + 1 })).whistle 0x09 (blkId 8) 0 (q + c * 2 ^ 12)))) ∧
  (∀ (o : Origin) (i : Nat) (s : State), i < 2 ^ 19 → s.dev.takesWrite o .SWB_MC_ACC_CTL 0 →
    exec (.mcAccRead o true i) s = .next (s.withDev (s.dev.wr .SWB_MC_ACC_DATA 0 (s.dev.rd .SWB_MC_REPLICA i))) ∧
    exec (.mcAccRead o false i) s = .next (s.withDev (s.dev.wr .SWB_MC_ACC_DATA 0 (if i < 65536 then s.dev.rd .SWB_MC_GROUP i else 0))) ∧
    ∀ replica, exec (.mcAccWrite o replica i) s = .next (s.withDev (s.dev.mcWrite replica i))) ∧
  (∀ (d : Dev) (i : Nat), i < 2 ^ 19 → let v := d.rd .SWB_MC_ACC_DATA 0
    (bits v 31 30 ≠ 3 → (d.mcWrite true i).rd .SWB_MC_REPLICA i = bits v 36 0) ∧
    (bits v 31 30 = 3 → d.mcWrite true i = d.bump .SWB_MC_BAD_WRITE 0) ∧
    (i < 65536 → bits v 18 0 + bits v 28 19 ≤ 524288 → (d.mcWrite false i).rd .SWB_MC_GROUP i = bits v 29 0) ∧
    (65536 ≤ i ∨ 524288 < bits v 18 0 + bits v 28 19 → d.mcWrite false i = d.bump .SWB_MC_BAD_WRITE 0))

/-! ### Gates, shapers and policers -/

/-- R203, R204, R205, R209: the operational list of a gated port moves to the entry of this volley; a change that passes its checks waits for its
time X, with its record, one that fails a check reports it, one behind another reports OVERLAP, and in LOCKDOWN it is refused; a cancel two
volleys or more before X takes it away; and at X, with the record sealed before the boundary, the lists are swapped and counted. From BAR0
the two writes have these effects when their record is sealed (RegisterWriteRule). -/
def Obligations.GateLists : Prop :=
  (∀ (p : Nat) (s : State), p < 32 →
    (s.dev.gated p = true → s.dev.gateBase p ≤ s.dev.vn → let es := s.dev.gateList p
      let i := gateEntry es ((s.dev.vn - s.dev.gateBase p) % gateCycle es)
      exec (.gateTransition p) s = .next (s.withDev ((s.dev.setFld .SCH_GATE_STATE p 9 0 i).setFld .SCH_GATE_STATE p 28 21 (gateBits (es.getD i 0))))) ∧
    (s.dev.gated p = false ∨ s.dev.vn < s.dev.gateBase p → exec (.gateTransition p) s = .next s)) ∧
  (∀ (o : Origin) (p tag : Nat) (early : Bool) (s : State), p < 32 → s.dev.takesWrite o .SCH_GATE_CTL p →
    exec (.gateChange o p tag early) s = .next (s.withDev (s.dev.gateRequest o p (tag % 2 ^ 16) early)) ∧
    exec (.gateCancel o p tag) s = .next (s.withDev (s.dev.gateCancel o p))) ∧
  (∀ (o : Origin) (p tag : Nat) (early : Bool) (d : Dev), p < 32 → tag < 2 ^ 16 →
    let en := decide (d.fld .SCH_GATE_ADMIN_CFG p 16 16 = 1)
    let len := d.fld .SCH_GATE_ADMIN_CFG p 10 0
    let es := (List.range (min len 1024)).map (fun i => d.rd .SCH_GATE_ADMIN (1024 * p + i))
    let base := d.rd .SCH_GATE_ADMIN_BASE p
    let cycle := d.rd .SCH_GATE_ADMIN_CYCLE p
    let x := gateX en base cycle (d.untimedDue early)
    let fails := firstFail (gateChecks en len base cycle es)
    let out := d.gateRequest o p tag early
    (d.mode = .lockdown → out = d.gateStatus p tag 0xFD 7) ∧
    (d.mode ≠ .lockdown → (d.gateChange p).isSome → out = d.gateStatus p tag 0 6) ∧
    (d.mode ≠ .lockdown → d.gateChange p = none →
      (fails ≠ 0 → out = d.gateStatus p tag fails 3) ∧
      (fails = 0 → d.vn + 2 ^ 32 < x → out = d.gateStatus p tag 0xFF 7) ∧
      (fails = 0 → x ≤ d.vn + 2 ^ 32 → out.gateChange p = some ⟨tag, en, base, cycle, es, x, d.log.nextId⟩ ∧
        out.rd .SCH_GATE_CHANGE_VN p = x % 2 ^ 64 ∧ out.fld .SCH_GATE_STATUS p 2 0 = 1 ∧ out.fld .SCH_GATE_STATUS p 31 16 = tag ∧
        out.log.prio = d.log.prio ++ [⟨d.log.nextId, applyRec o 9 (0x200 + p) 0 tag 0 x, none⟩] ∧ out.frames = d.frames))) ∧
  (∀ (o : Origin) (p : Nat) (g : GateChange) (d : Dev), p < 32 → d.gateChange p = some g →
    (d.vn + 2 ≤ g.x → (d.gateCancel o p).gateChange p = none ∧ (d.gateCancel o p).fld .SCH_GATE_STATUS p 2 0 = 5 ∧
      (d.gateCancel o p).log.prio.length = d.log.prio.length + 1) ∧
    (g.x < d.vn + 2 → d.gateCancel o p = d)) ∧
  (∀ (p : Nat) (g : GateChange) (s : State), p < 32 → s.dev.gateChange p = some g → g.entries.length ≤ 1024 → g.x ≤ s.dev.vn →
    s.dev.sealedBefore g.recNo = true → ∃ d,
    exec (.gateSwap p) s = .next (s.withDev d) ∧ d.gateChange p = none ∧ d.fld .SCH_GATE_STATUS p 2 0 = 2 ∧
    d.fld .SCH_GATE_STATUS p 3 3 = b2n g.en ∧ d.fld .SCH_GATE_STATE p 28 21 = (if g.en then gateBits (g.entries.headD 0) else 0xFF) ∧
    d.rd .SCH_GATE_OPER_BASE p = (if g.en then 40 * s.dev.vn else 0) % 2 ^ 64 ∧
    d.rd .SCH_GATE_SWAPS p = (s.dev.rd .SCH_GATE_SWAPS p + 1) % 2 ^ 64 ∧ d.frames = s.dev.frames ∧ d.mem = s.dev.mem)

/-- R213, R214, R225: reads of a shaper or a policer put its entry or its state into the data registers with RESULT OK; a write puts the
entry, reserved bits 0, into the pending copy; a node that does not exist gives BAD_INDEX, and a write past 4,096 pending entries FULL.
None of them changes a value in force. -/
def Obligations.ShaperAndPolicerAccess : Prop :=
  (∀ (o : Origin) (n : Nat) (s : State), n < 2 ^ 17 → s.dev.takesWrite o .SCH_SHP_ACC_CTL 0 →
    exec (.shaperRead o n) s = .next (s.withDev (s.dev.shaperRead n)) ∧
    exec (.shaperStateRead o n) s = .next (s.withDev (s.dev.shaperState n)) ∧
    exec (.shaperWrite o n) s = .next (s.withDev (s.dev.shaperWrite n))) ∧
  (∀ (o : Origin) (n : Nat) (s : State), n < 2 ^ 18 → s.dev.takesWrite o .SCH_POL_ACC_CTL 0 →
    exec (.policerRead o n) s = .next (s.withDev (s.dev.policerRead n)) ∧
    exec (.policerStateRead o n) s = .next (s.withDev (s.dev.policerState n)) ∧
    exec (.policerWrite o n) s = .next (s.withDev (s.dev.policerWrite n))) ∧
  (∀ (n : Nat) (d : Dev), n < 2 ^ 17 →
    (shpUsed n = false → d.shaperRead n = d.accResult .SCH_SHP_ACC_STATUS 1 ∧ d.shaperState n = d.accResult .SCH_SHP_ACC_STATUS 1 ∧
      d.shaperWrite n = d.accResult .SCH_SHP_ACC_STATUS 1) ∧
    (shpUsed n = true →
      (d.shaperRead n).rd .SCH_SHP_ACC_DATA0 0 = d.shaper n % 2 ^ 64 ∧ (d.shaperRead n).rd .SCH_SHP_ACC_DATA1 0 = d.shaper n / 2 ^ 64 % 2 ^ 64 ∧
      (d.shaperRead n).fld .SCH_SHP_ACC_STATUS 0 1 0 = 0 ∧ (d.shaperRead n).sch = d.sch ∧
      (d.shaperState n).rd .SCH_SHP_ACC_DATA0 0 = (if shpShape (d.shaper n) then unsigned 64 (d.bucket n) else 0) % 2 ^ 64 ∧
      (d.shaperState n).fld .SCH_SHP_ACC_STATUS 0 1 0 = 0 ∧ (d.shaperState n).sch = d.sch ∧
      let v := shpMask n (d.rd .SCH_SHP_ACC_DATA0 0 + d.rd .SCH_SHP_ACC_DATA1 0 * 2 ^ 64)
      ((d.pendEntries .SCH_SHP_ENTRY 2).length < 4096 → (d.shaperWrite n).fld .SCH_SHP_ACC_STATUS 0 1 0 = 0 ∧ (d.shaperWrite n).sch = d.sch ∧
        (∀ i, i < 2 ^ 24 → (d.shaperWrite n).rd .SCH_SHP_ENTRY i = d.rd .SCH_SHP_ENTRY i) ∧
        (d.shaperWrite n).pend = ((d.pendWrite .SCH_SHP_ENTRY (2 * n) (v % 2 ^ 64)).pendWrite .SCH_SHP_ENTRY (2 * n + 1) (v / 2 ^ 64)).pend) ∧
      (4096 ≤ (d.pendEntries .SCH_SHP_ENTRY 2).length → (d.pendEntries .SCH_SHP_ENTRY 2).contains n = false →
        d.shaperWrite n = d.accResult .SCH_SHP_ACC_STATUS 2))) ∧
  (∀ (n : Nat) (d : Dev), n < 2 ^ 18 →
    (∀ w, w < 4 → (d.policerRead n).rd .SCH_POL_ACC_DATA w = d.rd .SCH_POL_ENTRY (4 * n + w)) ∧
    (d.policerRead n).fld .SCH_POL_ACC_STATUS 0 1 0 = 0 ∧ (d.policerRead n).sch = d.sch ∧
    (d.policerState n).rd .SCH_POL_ACC_DATA 0 = (d.polState n).1 % 2 ^ 64 ∧ (d.policerState n).rd .SCH_POL_ACC_DATA 1 = (d.polState n).2.1 % 2 ^ 64 ∧
    (d.policerState n).rd .SCH_POL_ACC_DATA 2 = (d.polState n).2.2 % 2 ^ 64 ∧ (d.policerState n).sch = d.sch ∧
    let v := bits (policerOf (fun w => d.rd .SCH_POL_ACC_DATA w)) 212 0
    ((d.pendEntries .SCH_POL_ENTRY 4).length < 4096 → (d.policerWrite n).fld .SCH_POL_ACC_STATUS 0 1 0 = 0 ∧ (d.policerWrite n).sch = d.sch ∧
      (d.policerWrite n).pend = (forEach (List.range 4) d (fun t w => t.pendWrite .SCH_POL_ENTRY (4 * n + w) (v / 2 ^ (64 * w) % 2 ^ 64))).pend) ∧
    (4096 ≤ (d.pendEntries .SCH_POL_ENTRY 4).length → (d.pendEntries .SCH_POL_ENTRY 4).contains n = false →
      d.policerWrite n = d.accResult .SCH_POL_ACC_STATUS 2))
/-! ### Rule epochs -/

/-- R113: EPC_MODE.MODE chooses how the next commit works. A write of EPC_MODE that reaches the register (one from BAR0 does when its record is
sealed) changes MODE when the open staging set is empty, no commit waits or is held and no pause is in progress; otherwise it is dropped,
and EPC_STATUS.MODE_DROPPED is set. No staged image and nothing of the epochs changes, and no other register but that flag's. A commit
accepted after it is a pause when MODE is 1. -/
def Obligations.EpochMode : Prop :=
  (∀ (o : Origin) (v : Nat) (s : State), s.dev.takesWrite o .EPC_MODE 0 → ∃ d, exec (.epcModeWrite o v) s = .next (s.withDev d) ∧
    d.epc = s.dev.epc ∧ d.tbl = s.dev.tbl ∧ d.frames = s.dev.frames ∧
    (s.dev.stagedCount = 0 ∧ s.dev.epc.closed = none ∧ s.dev.epc.heldC = none ∧ s.dev.epc.pauseFrom = none →
      d.rd .EPC_MODE 0 = v % 2 ∧ ∀ r i, i < 2 ^ 24 → r ≠ .EPC_MODE → d.rd r i = s.dev.rd r i) ∧
    (¬ (s.dev.stagedCount = 0 ∧ s.dev.epc.closed = none ∧ s.dev.epc.heldC = none ∧ s.dev.epc.pauseFrom = none) →
      d.fld .EPC_STATUS 0 0 0 = 1 ∧ ∀ r i, i < 2 ^ 24 → r ≠ .EPC_STATUS → d.rd r i = s.dev.rd r i)) ∧
  (∀ (d : Dev) (o : Origin) (tag : Nat) (early : Bool), d.mode ≠ .lockdown → d.epc.heldC = none → d.epc.closed = none →
    (d.fld .EPC_MODE 0 0 0 = 1 → pauseLen d.stagedCount ≤ 496) →
    ∃ c, (d.epcCommit o tag false early).epc.closed = some c ∧ c.pause = decide (d.fld .EPC_MODE 0 0 0 = 1))

/-- R104, R105, R107, R109, R111, R112, R114, R115, R116, R122: an accepted commit closes the open set, or is held while a closed one waits, and
is refused in the listed order; it applies when it is due and its record was sealed before the boundary, and fewer than four epochs are
live after that boundary's retirements, and waits otherwise; only epochs with no frame retire; a stalled commit whistles; and a pause
holds, applies, resumes or is abandoned. A commit from BAR0 has its effect when its REGISTER record is sealed (RegisterWriteRule). -/
def Obligations.CommitsAndPauses : Prop :=
  (∀ (o : Origin) (tag : Nat) (timed early : Bool) (s : State), s.dev.takesWrite o .EPC_COMMIT 0 →
    exec (.epcCommit o tag timed early) s = .next (s.withDev (s.dev.epcCommit o (tag % 2 ^ 16) timed early))) ∧
  (∀ (o : Origin) (tag : Nat) (timed early : Bool) (d : Dev),
    let out := d.epcCommit o tag timed early
    let target := d.rd .EPC_TARGET_VN 0
    let due := if timed then target else d.untimedDue early
    let pause := decide (d.fld .EPC_MODE 0 0 0 = 1)
    let c : Commit := { o, tag, timed, target := due, due, pause, recNo := 0, count := 0 }
    (d.mode = .lockdown → out = d.epcStatus tag 0xFD 5) ∧
    (d.mode ≠ .lockdown → d.epc.heldC.isSome → out = d.epcStatus tag 3 5) ∧
    (d.mode ≠ .lockdown → d.epc.heldC = none →
      (timed = true → target < d.untimedDue early → out = d.epcStatus tag 0xFE 5) ∧
      (timed = true → d.untimedDue early ≤ target → d.vn + 2 ^ 32 < target → out = d.epcStatus tag 0xFF 5) ∧
      ((timed = true → d.untimedDue early ≤ target ∧ target ≤ d.vn + 2 ^ 32) →
        (pause = true ∧ 496 < pauseLen d.stagedCount → out = d.epcStatus tag 1 5) ∧
        (¬ (pause = true ∧ 496 < pauseLen d.stagedCount) →
          (d.epc.closed = none → out = (d.closeSet c).epcStatus tag 0 1) ∧
          (d.epc.closed.isSome → out = Dev.epcStatus { d with epc := { d.epc with heldC := some c } } tag 0 1))))) ∧
  (∀ (d : Dev) (c : Commit), let e := d.closeSet c
    e.epc.closed = some { c with recNo := d.log.nextId, count := d.stagedCount } ∧ e.stagedCount = 0 ∧ e.epc.cur = d.epc.cur ∧
    e.frames = d.frames ∧ e.regs = d.regs ∧ e.log.prio.length = d.log.prio.length + 1) ∧
  (∀ (c : Commit) (s : State), s.dev.epc.closed = some c → c.pause = false ∨ c.count = 0 → c.due ≤ s.dev.vn →
    s.dev.sealedBefore c.recNo = true →
    (c.count = 0 → exec .commitApplies s = .next (s.withDev (s.dev.retireNow.commitDone c 4 s.dev.vn))) ∧
    (c.count ≠ 0 → 4 ≤ s.dev.liveEpochs - s.dev.epc.retirable → exec .commitApplies s = .next s) ∧
    (c.count ≠ 0 → s.dev.liveEpochs - s.dev.epc.retirable < 4 → exec .commitApplies s = .next (s.withDev
      (((s.dev.retireNow.newEpoch.wr .EPC_COMMIT_VN 0 s.dev.vn).bump .EPC_COMMITS 0).commitDone c 3 s.dev.vn)))) ∧
  (∀ (c : Commit) (s : State), s.dev.epc.closed = some c → s.dev.vn < c.due ∨ s.dev.sealedBefore c.recNo = false →
    exec .commitApplies s = .next s ∧ (s.dev.epc.pauseFrom = none → exec .pauseHold s = .next s)) ∧
  (∀ (d : Dev) (c : Commit) (result v : Nat), c.tag < 2 ^ 16 → result < 16 → d.epc.heldC = none → let e := d.commitDone c result v
    e.epc.closed = none ∧ e.epc.cur = d.epc.cur ∧ e.tbl = d.tbl ∧ e.frames = d.frames ∧ e.fld .EPC_STATUS 0 7 4 = result ∧
    e.fld .EPC_STATUS 0 31 16 = c.tag ∧ (c.timed = true → c.target < v → e.fld .EPC_STATUS 0 1 1 = 1) ∧
    (c.timed = false ∨ v ≤ c.target → e.fld .EPC_STATUS 0 1 1 = d.fld .EPC_STATUS 0 1 1)) ∧
  (∀ d : Dev, let e := d.newEpoch
    e.epc.cur = d.epc.cur + 1 ∧ e.epc.oldest = d.epc.oldest ∧ e.frames = d.frames ∧ e.regs = d.regs ∧ ∀ x ∈ e.tbl.entries, x.2.closed = none) ∧
  (∀ s : State, exec .retirement s = .next (s.withDev s.dev.retireNow)) ∧
  (∀ (d : Dev) (n : Nat), let e := d.retire n
    d.epc.oldest ≤ e.epc.oldest ∧ e.epc.cur = d.epc.cur ∧ e.frames = d.frames ∧ e.regs = d.regs ∧
    (∀ m, d.epc.oldest ≤ m → m < e.epc.oldest → d.epochFrames m = 0 ∧ m < d.epc.cur) ∧
    (d.epc.cur - d.epc.oldest ≤ n → e.canRetire = false)) ∧
  (∀ s : State, (max 25000 (s.dev.rd .EPC_STALL_VOLLEYS 0) ≤ s.dev.epc.waited → exec .epochStall s = .next (s.withDev
      (Dev.whistle { s.dev with epc := { s.dev.epc with waited := 0 } } 0x07 (blkId 6) 0 (s.dev.epc.oldest % 256 + s.dev.mostParked * 2 ^ 8)))) ∧
    (s.dev.epc.waited < max 25000 (s.dev.rd .EPC_STALL_VOLLEYS 0) → exec .epochStall s = .next s)) ∧
  (∀ (c : Commit) (s : State), s.dev.epc.closed = some c → c.pause = true → c.count ≠ 0 → c.due ≤ s.dev.vn → s.dev.sealedBefore c.recNo = true →
    s.dev.epc.pauseFrom = none →
    exec .pauseHold s = .next (s.withDev
      ((Dev.bump { s.dev with epc := { s.dev.epc with pauseFrom := some s.dev.vn } } .EPC_PAUSES 0).epcStatus c.tag 0 6))) ∧
  (∀ (c : Commit) (v : Nat) (s : State), s.dev.epc.closed = some c → s.dev.epc.pauseFrom = some v → s.dev.epc.applyFrom = none →
    let last := v + 500 - pauseLen c.count
    (s.dev.epc.drained = true → s.dev.vn ≤ last →
      exec .pauseApply s = .next (s.withDev { s.dev with epc := { s.dev.epc with applyFrom := some s.dev.vn } }) ∧
      exec .pauseAbandoned s = .next s) ∧
    (s.dev.epc.drained = false → exec .pauseApply s = .next s) ∧
    (s.dev.epc.drained = false → last ≤ s.dev.vn → s.dev.epc.heldC = none → c.tag < 2 ^ 16 → ∃ d, exec .pauseAbandoned s = .next (s.withDev d) ∧
      d.held = false ∧ d.epc.closed = none ∧ d.epc.cur = s.dev.epc.cur ∧
      d.rd .EPC_PAUSE_ABANDONED 0 = (s.dev.rd .EPC_PAUSE_ABANDONED 0 + 1) % 2 ^ 64 ∧ d.fld .EPC_STATUS 0 15 4 = 0x27 ∧
      (∀ e ∈ d.tbl.entries, e.2.closed = none) ∧ d.frames = s.dev.frames)) ∧
  (∀ (c : Commit) (v a : Nat) (s : State), s.dev.epc.closed = some c → s.dev.epc.pauseFrom = some v → s.dev.epc.applyFrom = some a →
    (a + pauseLen c.count ≤ s.dev.vn → let d := s.dev.pauseImages
      exec .pauseResume s = .next (s.withDev (((((Dev.wr { d with epc := { d.epc with pauseFrom := none, applyFrom := none } }
        .EPC_PAUSE_HOLD 0 (s.dev.vn - v)).wr .EPC_COMMIT_VN 0 s.dev.vn).bump .EPC_COMMITS 0).commitDone c 3 v)))) ∧
    (s.dev.vn < a + pauseLen c.count → exec .pauseResume s = .next s)) ∧
  (∀ d : Dev, let e := d.pauseImages
    e.epc = d.epc ∧ e.frames = d.frames ∧ e.regs = d.regs ∧ ∀ x ∈ e.tbl.entries, x.2.closed = none)
/-! ### Tables -/

/-- R101, R103, R104, R117, R138 to R143, R149, R150, R152, R154, R159, R161: a write of TBL_CMD_CTL with GO is counted as foreign when the port is
another's, sets OVERLAP when a command is outstanding, and is accepted otherwise, with the port's registers as they are (one from BAR0 when
its record is sealed: RegisterWriteRule); a command completes when no pause holds it and no lower port's write of its table waits: it is
carried out, and its result published. A write that succeeds is what the port then reads. Learns, moves and age-outs take the head of
their queue while no pause, LOCKDOWN or waiting command holds them; tokens refill and age stamps step; a sweep begins when it is due and
compares every isolation entry, or fails when its reads fail or cannot be issued; and a log read from a link pops the log's oldest entry. -/
def Obligations.TableCommands : Prop :=
  (∀ (o : Origin) (n table tag : Nat) (sv : Bool) (s : State), n < 16 → s.dev.takesWrite o .TBL_CMD_CTL n →
    ∀ p ∈ [((1 : Nat), sv, Instr.readIndex o n table tag sv), (2, false, .writeIndex o n table tag), (3, false, .insert o n table tag), (4, false, .delete o n table tag),
      (5, false, .search o n table tag), (6, false, .update o n table tag)],
    exec p.2.2 s = .next (s.withDev (s.dev.tblGo o n p.1 table tag p.2.1))) ∧
  (∀ (o : Origin) (n op table tag : Nat) (sv : Bool) (d : Dev), n < 16 → table < 16 → tag < 2 ^ 16 →
    let c : TblCmd := ⟨o, op, table, tag, sv, decide (d.fld .TBL_CMD_MODE n 0 0 = 1), d.fld .TBL_CMD_INDEX n 31 0, d.cmdData n⟩
    (d.ownsPort o n = false → d.tblGo o n op table tag sv = d.bump .TBL_CMD_FOREIGN 0) ∧
    (d.ownsPort o n = true → (d.tblCmd n).isSome → d.tblGo o n op table tag sv = d.setFld .TBL_CMD_STATUS n 1 1 1) ∧
    (d.ownsPort o n = true → d.tblCmd n = none → d.tblGo o n op table tag sv =
      ((d.setFld .TBL_CMD_STATUS n 31 16 tag).setFld .TBL_CMD_STATUS n 0 0 1).setTblCmd n (some c))) ∧
  (∀ (n : Nat) (c : TblCmd) (s : State), s.dev.tblCmd n = some c → let waits := s.dev.held = true ∨ c.writes = true ∧ s.dev.portsBelow n c.table = true
    (¬ waits → exec (.tblCmdComplete n) s = .next (s.withDev (Dev.tblPublish n c (s.dev.tblRun n c)))) ∧
    (waits → exec (.tblCmdComplete n) s = .next s)) ∧
  (∀ (d : Dev) (n : Nat) (c : TblCmd), let r := d.tblRun n c
    let e := r.s.entry c.table r.index
    (c.op = 1 ∨ c.op = 5 → r.s = d) ∧ (r.result ≠ 0 → c.op ≠ 3 → r.s = d) ∧ (opAllowed c.op c.table = false → r.result = 5) ∧
    (d.mode = .lockdown → opAllowed c.op c.table = true → c.op ≠ 1 → c.op ≠ 5 → r.result = 0x0B) ∧
    (c.op = 2 ∨ c.op = 3 ∨ c.op = 6 → tblVersioned c.table = true ∨ c.direct = true → r.result = 0 → e.view d.epc.cur c.direct = tblMask c.table c.data) ∧
    (c.op = 4 → tblKeyed c.table = true ∨ c.table = 2 → r.result = 0 → e.view d.epc.cur c.direct = 0)) ∧
  (∀ (n : Nat) (c : TblCmd) (r : TblOut), n < 16 → let e := Dev.tblPublish n c r
    e.tblCmd n = none ∧ e.fld .TBL_CMD_STATUS n 15 8 = r.result % 256 ∧ e.fld .TBL_CMD_STATUS n 0 0 = 0 ∧ e.rd .TBL_CMD_INDEX n = r.index % 2 ^ 64 ∧
      e.tbl.entries = r.s.tbl.entries) ∧
  (∀ (q : LearnReq) (l : List LearnReq) (s : State), s.dev.tbl.learnQ = q :: l →
    let held := s.dev.held = true ∨ s.dev.mode = .lockdown ∨ s.dev.portsBelow 16 0 = true
    let t : Dev := { s.dev with tbl := { s.dev.tbl with learnQ := l } }
    (¬ held → q.isMove = false → exec .learn s = .next (s.withDev (t.learnNow q))) ∧
    (¬ held → q.isMove = true → exec .move s = .next (s.withDev (t.moveNow q))) ∧
    (held → exec .learn s = .next s ∧ exec .move s = .next s)) ∧
  (∀ (d : Dev) (q : LearnReq) (i : Nat), d.findKey 0 q.key (fun e => e.at d.epc.cur) = some i →
    let v := (d.entry 0 i).at d.epc.cur
    (d.learnNow q = if bit v 189 ∨ actionPort v = q.port then d.touch 0 i else d.moveStation i q) ∧
    (d.moveNow q = if bit v 189 then d else d.moveStation i q)) ∧
  (∀ s : State, s.dev.vn % 25000 = 0 → ∃ d, exec .learnTokenRefill s = .next (s.withDev d) ∧ d.regs = s.dev.regs ∧ d.tbl.entries = s.dev.tbl.entries ∧
    ∀ p, p < 32 → d.tokens p = min (s.dev.tokens p + s.dev.fld .TBL_LEARN_CFG p 31 16) (s.dev.fld .TBL_LEARN_CFG p 15 8)) ∧
  (∀ s : State, ∃ d, exec .ageTick s = .next (s.withDev d) ∧ d.tbl = s.dev.tbl ∧ d.frames = s.dev.frames ∧
    d.ageNow 0 = (if s.dev.vn % s.dev.fld .TBL_AGE_STN 0 63 32 = 0 then (s.dev.ageNow 0 + 1) % 256 else s.dev.ageNow 0) ∧
    d.ageNow 4 = (if s.dev.vn % s.dev.fld .TBL_AGE_FLOW 0 63 32 = 0 then (s.dev.ageNow 4 + 1) % 256 else s.dev.ageNow 4)) ∧
  (∀ (q : AgeReq) (l : List AgeReq) (s : State), s.dev.tbl.ageQ = q :: l → s.dev.held = false → s.dev.mode ≠ .lockdown →
    s.dev.portsBelow 16 q.table = false → (q.table = 0 → s.dev.tbl.learnQ = []) →
    let t : Dev := { s.dev with tbl := { s.dev.tbl with ageQ := l } }
    (s.dev.findKey q.table q.key (fun e => e.at s.dev.epc.cur) = none → exec .ageOut s = .next (s.withDev t)) ∧
    (∀ i, s.dev.findKey q.table q.key (fun e => e.at s.dev.epc.cur) = some i →
      ((s.dev.entry q.table i).age ≠ q.stamp → exec .ageOut s = .next (s.withDev t)) ∧
      ((s.dev.entry q.table i).age = q.stamp → q.table = 4 → exec .ageOut s = .next (s.withDev ((t.purge 4 i).bump .TBL_AGED_FLOW 0))) ∧
      ((s.dev.entry q.table i).age = q.stamp → q.table ≠ 4 → let v := (s.dev.entry q.table i).at s.dev.epc.cur
        ∃ n, n < 64 ∧ exec .ageOut s = .next (s.withDev ((Dev.bump { t.purge q.table i with free := s.dev.free + 1 } .TBL_AGED_STN 0).notice 3
          (bits v 175 128) (bits v 187 176) i n (actionPort v)))))) ∧
  (∀ s : State, let due := s.dev.fld .TBL_SHADOW_CTL 0 0 0 = 1 ∧ s.dev.vn % 250000 = 0 ∧ s.dev.tbl.sweep = none
    (due → exec .shadowSweep s = .next (s.withDev { s.dev with tbl := { s.dev.tbl with sweep := some s.dev.vn } })) ∧
    (¬ due → exec .shadowSweep s = .next s)) ∧
  (∀ (sh : Sparse Nat) (s : State), s.dev.tbl.sweep.isSome → let t : Dev := { s.dev with tbl := { s.dev.tbl with sweep := none } }
    let fails := .next (s.withDev (((t.bump .TBL_SHADOW_FAIL 0).setFld .TBL_SHADOW_STATUS 0 0 0 0).whistle 0x06 (blkId 7) 0 1))
    let bar := s.dev.outboundBar none (s.dev.fld .TBL_SHADOW_CTL 0 2 1)
    (bar = none → exec (.shadowSweepEnd (some sh)) s = .next (s.withDev
      (((forEach isoEntries t (fun d e => d.sweepEntry e.1 e.2 (Sparse.get (fun _ => 0) sh (isoKey e.1 e.2)))).bump .TBL_SHADOW_SWEEPS 0).setFld
        .TBL_SHADOW_STATUS 0 0 0 1))) ∧
    (bar.isSome → exec (.shadowSweepEnd (some sh)) s = fails) ∧ exec (.shadowSweepEnd none) s = fails) ∧
  (∀ (d : Dev) (table i shadow : Nat), let v := d.isoLive table i
    (Sparse.get? d.tbl.iso (isoKey table i) = none → v = shadow → d.sweepEntry table i shadow = d) ∧
    (Sparse.get? d.tbl.iso (isoKey table i) = none → v ≠ shadow → d.sweepEntry table i shadow =
      d.setIso table i (some { pending := some v, frozen := false, clearing := false })) ∧
    (∀ m, Sparse.get? d.tbl.iso (isoKey table i) = some m → m.frozen = false →
      (m.pending = some v → v ≠ shadow → d.sweepEntry table i shadow = d.freeze table i) ∧
      (m.pending ≠ some v ∨ v = shadow → d.sweepEntry table i shadow = d.setIso table i none))) ∧
  (∀ (l : Nat) (s : State), l < 4 →
    (s.dev.takesRead l .TBL_PARITY_LOG 0 → exec (.tblParityLogRead l) s = .next (s.withDev
      (Dev.readReply { s.dev with tbl := { s.dev.tbl with parityLog := s.dev.tbl.parityLog.drop 1 } } (.bar0 l) 8 (s.dev.tbl.parityLog.headD 0)))) ∧
    (s.dev.takesRead l .TBL_FROZEN_LOG 0 → exec (.tblFrozenLogRead l) s = .next (s.withDev
      (Dev.readReply { s.dev with tbl := { s.dev.tbl with frozenLog := s.dev.tbl.frozenLog.drop 1 } } (.bar0 l) 8 (s.dev.tbl.frozenLog.headD 0)))))
/-! ### Threads and clusters, from outside -/

/-- R238, R241, R245, R246, R251, R252, R253, R257, R260, R261, R262, R286: a write of DOR_SUP_ACT by the supervisor or Basecamp carries out its
operation on a thread in a state of the table, else returns BAD_STATE or BAD_THREAD; any other origin is counted. Queue pops take the
oldest entry; QUIESCE halts every live thread that has no open step and marks the others; core restarts, timers, event stalls and the
wake of a cluster take place when they are due. Writes from BAR0 have these effects when their record is sealed (RegisterWriteRule). -/
def Obligations.ClusterControl : Prop :=
  (∀ (o : Origin) (c thread tag : Nat) (p : Bool) (s : State), c < 8 → s.dev.takesWrite o .DOR_SUP_ACT c →
    exec (.threadResume o c thread p tag) s = .next (s.withDev (s.dev.supAct o c thread 1 p tag)) ∧
    exec (.threadRestart o c thread tag) s = .next (s.withDev (s.dev.supAct o c thread 2 false tag)) ∧
    exec (.threadKill o c thread tag) s = .next (s.withDev (s.dev.supAct o c thread 3 false tag)) ∧
    exec (.threadHalt o c thread tag) s = .next (s.withDev (s.dev.supAct o c thread 4 false tag)) ∧
    exec (.threadStart o c thread tag) s = .next (s.withDev (s.dev.supAct o c thread 5 false tag)) ∧
    exec (.coreRestart o c thread tag) s = .next (s.withDev (s.dev.supAct o c thread 6 false tag))) ∧
  (∀ (o : Origin) (c thread tag : Nat) (p : Bool) (d : Dev), c < 8 → thread < 256 → tag < 2 ^ 16 →
    let k := ctxKey c thread
    let x := d.ctx k
    let act := fun (op : Nat) => d.supAct o c thread op (if op = 1 then p else false) tag
    let done := fun (e : Dev) => e.wr .DOR_SUP_STATUS c (tag * 2 ^ 16)
    let bad := fun (r : Nat) => d.wr .DOR_SUP_STATUS c (tag * 2 ^ 16 + r)
    let may := o = .basecamp ∨ ∃ u, o = .thread c u ∧ d.supervisor c = u
    (¬ may → ∀ op, act op = d.bump .DOR_ACT_FOREIGN c) ∧
    (may →
      (x.st = 4 ∨ x.st = 6 → act 1 = done (d.resumeThread k (if p then some (d.rd .DOR_SUP_PC c) else none))) ∧
      (¬ (x.st = 4 ∨ x.st = 6) → act 1 = bad 1) ∧
      ((x.st = 4 ∨ x.st = 6) ∧ x.step.isSome → act 2 = done (d.restartStep k)) ∧
      (¬ ((x.st = 4 ∨ x.st = 6) ∧ x.step.isSome) → act 2 = bad 1) ∧
      (x.st ≠ 0 → act 3 = done (d.killThread k)) ∧ (x.st = 0 → act 3 = bad 1) ∧
      (x.st = 1 ∨ x.st = 2 ∨ x.st = 3 → act 4 = done (d.haltThread k)) ∧ (¬ (x.st = 1 ∨ x.st = 2 ∨ x.st = 3) → act 4 = bad 1) ∧
      (x.st = 0 → act 5 = done (d.setCtx k (newThread (d.rd .DOR_SUP_PC c) (d.rd .DOR_SUP_ARG c) 0xFF none false x.credits))) ∧
      (x.st ≠ 0 → act 5 = bad 1) ∧
      (let runs := d.coreStopped c (thread / 8) = true ∧ (∀ u, o = .thread c u → u / 8 ≠ thread / 8) ∧ d.mode ≠ .lockdown ∧
          d.fld .DOR_CORE_STATUS (32 * c + thread / 8) 11 9 ≠ 3;
        (runs → act 6 = done (d.restartCore c (thread / 8) 2)) ∧ (¬ runs → act 6 = bad 2)))) ∧
  (∀ (k : Nat) (d : Dev), let x := d.ctx k
    (d.haltThread k).mem = d.mem ∧ (d.haltThread k).frames = d.frames ∧ (∀ j, j ≠ k → (d.haltThread k).ctx j = d.ctx j) ∧
    (x.st = 2 → (d.haltThread k).ctx k = { x with haltDue := true }) ∧ (x.st ≠ 2 → d.haltThread k = d.haltNow k) ∧
    ((d.haltNow k).ctx k).st = 6 ∧ ((d.haltNow k).ctx k).was = x.st ∧ ((d.haltNow k).ctx k).regs = x.regs ∧ ((d.haltNow k).ctx k).step = x.step) ∧
  (∀ (o : Origin) (c l : Nat) (s : State), c < 8 → l < 32 → s.dev.takesWrite o .DOR_CORE_CTL (32 * c + l) →
    let runs := o = .basecamp ∧ s.dev.coreStopped c l = true ∧ s.dev.mode ≠ .lockdown ∧ s.dev.fld .DOR_CORE_STATUS (32 * c + l) 11 9 ≠ 3
    (runs → exec (.coreCtlRestart o c l) s = .next (s.withDev (s.dev.restartCore c l 2))) ∧
    (¬ runs → exec (.coreCtlRestart o c l) s = .next s)) ∧
  (∀ (c l : Nat) (s : State), c < 8 → l < 32 →
    let due := 32 * c + l ∈ s.dev.dor.restarts ∧ s.dev.mode ≠ .lockdown ∧ s.dev.fld .DOR_CORE_STATUS (32 * c + l) 11 9 ≠ 3
    (due → exec (.benchCoreRestart c l) s = .next (s.withDev
      (Dev.restartCore { s.dev with dor := { s.dev.dor with restarts := s.dev.dor.restarts.filter (fun m => !decide (m = 32 * c + l)) } } c l 1))) ∧
    (¬ due → exec (.benchCoreRestart c l) s = .next s)) ∧
  (∀ (o : Origin) (c : Nat) (s : State), c < 8 → s.dev.takesWrite o .DOR_FQ_POP c → ∃ d, exec (.fqPop o c) s = .next (s.withDev d) ∧
    d.fq c = (s.dev.fq c).drop 1 ∧ (∀ j, j ≠ c → d.fq j = s.dev.fq j) ∧ d.regs = s.dev.regs ∧ d.mem = s.dev.mem ∧ ∀ k, d.ctx k = s.dev.ctx k) ∧
  (∀ (o : Origin) (c : Nat) (s : State), c < 8 → s.dev.takesWrite o .DOR_NQ_POP c → ∃ d, exec (.nqPop o c) s = .next (s.withDev d) ∧
    d.nq c = (s.dev.nq c).drop 1 ∧ (∀ j, j ≠ c → d.nq j = s.dev.nq j) ∧ d.regs = s.dev.regs ∧ d.mem = s.dev.mem ∧ ∀ k, d.ctx k = s.dev.ctx k) ∧
  (∀ (o : Origin) (c : Nat) (s : State), c < 8 → s.dev.takesWrite o .DOR_CLU_CTL c →
    exec (.quiesce o c) s = .next (s.withDev (s.dev.cluCtl c 1)) ∧ exec (.quiesceRelease o c) s = .next (s.withDev (s.dev.cluCtl c 0))) ∧
  (∀ (c : Nat) (d : Dev), c < 8 → let e := d.cluCtl c 1
    e.rd .DOR_CLU_CTL c = 1 ∧ e.mem = d.mem ∧ e.frames = d.frames ∧ ∀ j, j < 256 → let x := d.ctx (ctxKey c j)
      let y := e.ctx (ctxKey c j)
      (x.live = true → x.step = none → y.st = 6 ∧ y.was = x.st ∧ y.byQuiesce = true ∧ y.regs = x.regs) ∧
      (x.live = true → x.step.isSome → y = { x with byQuiesce := true }) ∧ (x.live = false → y = x)) ∧
  (∀ (k : Nat) (s : State), k ≤ 2048 → let x := s.dev.ctx k
    (∀ v, x.timer = some v → v ≤ s.dev.vn → x.armed ≠ s.dev.vn →
      exec (.timerFire k) s = .next (s.withDev ((s.dev.setCtx k { x with timer := none }).setEvent k 1))) ∧
    (x.timer = none ∨ (∀ v, x.timer = some v → s.dev.vn < v) ∨ x.armed = s.dev.vn → exec (.timerFire k) s = .next s)) ∧
  (∀ (c : Nat) (s : State),
    let t : Dev := { s.dev with dor := { s.dev.dor with asleep := Sparse.put s.dev.dor.asleep c none } }
    let k := ctxKey c (s.dev.supervisor c)
    let all := fun (d : Dev) => forEach (List.range 256) d (fun d j => d.endWait (ctxKey c j) false)
    (Sparse.get? s.dev.dor.asleep c = some true →
      ((s.dev.ctx k).res = none → exec (.clusterWake c) s = .next (s.withDev (all t))) ∧
      (∀ r, (s.dev.ctx k).res = some r → exec (.clusterWake c) s = .next (s.withDev (all (t.takeResult k r))))) ∧
    (Sparse.get? s.dev.dor.asleep c ≠ some true → exec (.clusterWake c) s = .next s)) ∧
  (∀ (c l : Nat) (s : State), c < 8 → l < 32 →
    let n := 32 * c + l
    let due := s.dev.stallLimit c ≤ Sparse.get (fun _ => 0) s.dev.dor.stall n ∧ Sparse.get? s.dev.dor.stallRec n = none
    let j := (s.dev.lowestLive c l none).getD (8 * l)
    let k := ctxKey c (s.dev.supervisor c)
    let x := s.dev.ctx (ctxKey c j)
    let t := s.dev.whistle 0x0A (unitId 0x07 c (s.dev.physCore c l)) 0 l
    let u : Dev := { t with dor := { t.dor with stallRec := Sparse.put t.dor.stallRec n (some 0) } }
    let told := fun (d : Dev) => ((d.setEvent k 9).endAnyWait k).bump .DOR_EVENT_STALLS c
    (due → (s.dev.fq c).length < 16 → exec (.eventStall c l) s = .next (s.withDev
      (told (u.pushFault c (faultRec s.dev.vn x.pc 0 0 j 0x50 (b2n x.step.isSome)))))) ∧
    (due → 16 ≤ (s.dev.fq c).length → exec (.eventStall c l) s = .next (s.withDev (told (u.bump .DOR_FQ_OVERFLOW c)))) ∧
    (¬ due → exec (.eventStall c l) s = .next s)) ∧
  (∀ (c l : Nat) (s : State), c < 8 → l < 32 → let n := 32 * c + l
    let due := ∃ m, Sparse.get? s.dev.dor.stallRec n = some m ∧
      (n ∈ s.dev.dor.stallBoth ∨ s.dev.stallQueued n = true ∧ s.dev.stallLimit c ≤ m)
    (due → exec (.eventStallEscalate c l) s = .next (s.withDev (s.dev.escalateStall c l))) ∧
    (¬ due → exec (.eventStallEscalate c l) s = .next s))
/-! ### Host links -/

/-- R294 to R298, R303, R305 to R308, R310 to R314, R403, R494: the Pitch Map and the Window table change by accepted writes and commits alone (from
BAR0 when the record is sealed: RegisterWriteRule); a BAR4 request is translated or refused, and one to another space of the function reads or
writes it (model's row form: log entry 140); completions, timeouts and tags; link training, low power and removal; MSI-X unmasking; and the
resets of a link. -/
def Obligations.HostInterface : Prop :=
  (∀ (o : Origin) (tag p : Nat) (s : State), tag < 2 ^ 16 → p < 4096 → s.dev.takesWrite o .HIF_PMAP_ACC_CTL 0 →
    exec (.pmapRead o tag p) s = .next (s.withDev ((s.dev.wr .HIF_PMAP_ACC_DATA 0 (s.dev.pmap p)).pmapStatus tag 0)) ∧
    exec (.pmapWrite o tag p) s = .next (s.withDev (if o.pmapWriter then s.dev.pmapWrite p tag else s.dev.bump .TBL_CMD_FOREIGN 0))) ∧
  (∀ (p tag : Nat) (d : Dev), p < 4096 → tag < 2 ^ 16 → let e := d.pmapWrite p tag
    let v := d.rd .HIF_PMAP_ACC_DATA 0
    let st := d.rd .PIT_STATE p
    let keeps := pmapValid v = true ∧ pmapLink v = bits st 29 28 ∧ pmapPasid v = bits st 27 8
    let dup := pmapValid v = true ∧ ∃ q, q < 4096 ∧ q ≠ p ∧ pmapValid (d.pmap q) = true ∧ pmapLink (d.pmap q) = pmapLink v ∧ pmapPasid (d.pmap q) = pmapPasid v
    let bars := d.mode = .lockdown ∨ (d.pitState p ≠ 0 ∧ ¬ keeps)
    e.mem = d.mem ∧ (∀ q, q < 4096 → q ≠ p → e.pmap q = d.pmap q) ∧
    (bars → e = d.pmapStatus tag 2) ∧ (¬ bars → dup → e = d.pmapStatus tag 1) ∧
    (¬ bars → ¬ dup → e.pmap p = bits v 22 0 ∧ e.rd .HIF_PMAP_STATUS 0 = tag * 2 ^ 16 ∧ e.isFrozen 0x9 p = false)) ∧
  (∀ (o : Origin) (tag w : Nat) (s : State), tag < 2 ^ 16 → w < 256 → s.dev.takesWrite o .HIF_WIN_ACC_CTL 0 →
    exec (.winWritePending o tag w) s = .next (s.withDev (s.dev.winPut w tag)) ∧
    exec (.winRead o tag w) s = .next (s.withDev (s.dev.winData (s.dev.win w) tag)) ∧
    exec (.winReadPending o tag w) s = .next (s.withDev (s.dev.winData (s.dev.winPend w) tag))) ∧
  (∀ (tag w v : Nat) (d : Dev), w < 256 → tag < 2 ^ 16 →
    (let e := d.winPut w tag
     e.winPend w = winMask (d.rd .HIF_WIN_ACC_DATA0 0 + d.rd .HIF_WIN_ACC_DATA1 0 * 2 ^ 64) ∧ e.fld .HIF_WIN_STATUS 0 3 3 = 1 ∧ e.hif.dirty = true ∧
       e.fld .HIF_WIN_STATUS 0 31 16 = tag ∧ (∀ j, j < 256 → j ≠ w → e.winPend j = d.winPend j) ∧ (∀ j, j < 256 → e.win j = d.win j)) ∧
    (let e := d.winData v tag
     e.rd .HIF_WIN_ACC_DATA0 0 = v % 2 ^ 64 ∧ e.rd .HIF_WIN_ACC_DATA1 0 = v / 2 ^ 64 % 2 ^ 64 ∧ e.fld .HIF_WIN_STATUS 0 31 16 = tag ∧ e.hif = d.hif)) ∧
  (∀ (o : Origin) (tag : Nat) (s : State), tag < 2 ^ 16 → s.dev.takesWrite o .HIF_WIN_COMMIT 0 →
    exec (.winCommit o tag) s = .next (s.withDev (s.dev.winCommit o tag)) ∧ exec (.winDiscard o tag) s = .next (s.withDev (s.dev.winDiscard tag))) ∧
  (∀ (o : Origin) (tag : Nat) (d : Dev), let e := d.winCommit o tag
    (d.mode = .lockdown → e = d.winStatus tag 0xFD 7) ∧ (d.mode ≠ .lockdown → d.hif.waiting.isSome → e = d.winStatus tag 0 6) ∧
    (d.mode ≠ .lockdown → d.hif.waiting = none → d.hif.dirty = false → e = d.winStatus tag 0 4) ∧
    (d.mode ≠ .lockdown → d.hif.waiting = none → d.hif.dirty = true →
      (firstFail d.winChecks ≠ 0 → e = d.winStatus tag (firstFail d.winChecks) 3) ∧
      (firstFail d.winChecks = 0 → e.hif = { d.hif with waiting := some (tag, d.hif.pend, o.pmapWriter), pend := [] } ∧
        e.regs = (d.winStatus tag 0 1).regs ∧ e.log.prio.length = d.log.prio.length + 1)) ∧
    (d.winDiscard tag).hif = { d.hif with pend := [], dirty := false }) ∧
  (∀ (tag detail result : Nat) (d : Dev), tag < 2 ^ 16 → detail < 256 → result < 8 →
    (d.winStatus tag detail result).rd .HIF_WIN_STATUS 0 = tag * 2 ^ 16 + detail * 2 ^ 8 + b2n d.hif.dirty * 2 ^ 3 + result ∧
    (d.winStatus tag detail result).hif = d.hif ∧ ∀ j, j < 256 → (d.winStatus tag detail result).win j = d.win j) ∧
  (∀ s : State,
    (∀ tag snap clears, s.dev.hif.waiting = some (tag, snap, clears) →
      let t := forEach snap s.dev (fun d e => let d := d.setReg .HIF_WIN_ENTRY e.1 e.2
        if clears then d.thawIso 0xA (e.1 / 2) else d)
      exec .winCommitPoint s = .next (s.withDev (Dev.winStatus { t with hif := { t.hif with
        waiting := none, mapping := t.hif.mapping + 1, dirty := !t.hif.pend.isEmpty } } tag 0 2))) ∧
    (s.dev.hif.waiting = none → exec .winCommitPoint s = .next s)) ∧
  (∀ (space : HostSpace) (link addr len span : Nat) (pasid : Option Nat) (write atomic : Bool) (data : List Byte) (parity : List (Nat × Nat)) (s : State),
    link < 4 → s.dev.hears (.bar2 link 0) = true → exec (.bar4Request space link addr len pasid write atomic data span parity) s =
      .next (s.withDev ((s.dev.parityFreeze parity).hostRequest space link addr len pasid write atomic data span))) ∧
  (∀ (link addr len span : Nat) (pasid : Option Nat) (write atomic : Bool) (data : List Byte) (d : Dev), link < 4 →
    let t := d.useLink link
    let n := max 1 (if write then data.length else len)
    let ask := fun (sp : HostSpace) => d.hostRequest sp link addr len pasid write atomic data span
    (∀ sp, sp.size < addr + n → ask sp = t.barUR link write) ∧
    (addr + n ≤ 2 ^ 26 → write = false → atomic = false → regForm addr len = false → ask .bar0 = (t.bump .HIF_BAD_ACCESS link).unsupported link) ∧
    (addr + n ≤ 2 ^ 26 → write = true → atomic = false → ask .bar0 = t.bar0Write link addr data.length (leNat data)) ∧
    (addr + n ≤ 2 ^ 24 → write = false → atomic = false → ask .bar2 = t.sendOnLink link (.hostCpl link true (List.replicate len 0))) ∧
    (addr + n ≤ 2 ^ 12 → write = false → ask .cfg =
      t.sendOnLink link (.hostCpl link true (leBytes len (t.cfgRead link (addr % 4096 / 4) / 2 ^ (8 * (addr % 4)))))) ∧
    (addr + n ≤ 2 ^ 36 →
      (atomic = true → ask .bar4 = (t.bump .HIF_BAD_ACCESS link).unsupported link) ∧
      (atomic = false → t.winHit link addr = none → ask .bar4 = (t.bump .HIF_WIN_MISS link).barUR link write) ∧
      (atomic = false → ∀ w, t.winHit link addr = some w →
        (t.winRefuse w link pasid write = some .TBL_ISOLATION_SUSPECT → ask .bar4 = (t.bump .TBL_ISOLATION_SUSPECT 0).barUR link write) ∧
        (t.winRefuse w link pasid write = none → ask .bar4 = (t.inProgress span).winAccess link w addr len write data)))) ∧
  (∀ (link w addr len : Nat) (write : Bool) (data : List Byte) (d : Dev), let a := bits (d.win w) 67 32 * 4096 + (addr - (winSpan (d.win w)).1)
    (0x10000000000 ≤ a → d.winAccess link w addr len write data = if write then d.sharedWrite ((a - 0x10000000000) / 2 ^ 23) (a % 2 ^ 23) data
      else d.sendOnLink link (.hostCpl link true (d.sharedRead ((a - 0x10000000000) / 2 ^ 23) (a % 2 ^ 23) len))) ∧
    (a < 0x10000000000 → d.memKey (some (bits (d.win w) 79 68)) = none → d.winAccess link w addr len write data = (d.keyEmpty a).barUR link write) ∧
    (a < 0x10000000000 → ∀ key, d.memKey (some (bits (d.win w) 79 68)) = some key →
      (d.hbmServed a (max 1 (if write then data.length else len)) = false → d.winAccess link w addr len write data = d.barUR link write) ∧
      (d.hbmServed a (max 1 (if write then data.length else len)) = true →
        (write = true → d.winAccess link w addr len write data = d.hbmWrite key a data) ∧
        (write = false → d.hbmSound a len = true →
          d.winAccess link w addr len write data = d.sendOnLink link (.hostCpl link true (d.hbmRead key a len))) ∧
        (write = false → d.hbmSound a len = false → d.winAccess link w addr len write data = (d.badLine a len).barUR link write)))) ∧
  (∀ (link tag : Nat) (ok last : Bool) (data : List Byte) (s : State), let t := s.dev.useLink link
    (∀ r, Sparse.get? s.dev.hif.reqs (tagKey link tag) = some r → let q := { r with got := r.got ++ data }
      exec (.completionReceived link tag false last data) s = .next (s.withDev ((t.endReq link tag).settle r (some 3))) ∧
      exec (.completionReceived link tag true true data) s =
        .next (s.withDev (((if r.flush then t else t.readData q q.got).endReq link tag).settle q none)) ∧
      exec (.completionReceived link tag true false data) s = .next (s.withDev (t.issue link tag q)) ∧
      (r.issued + s.dev.cplTimeout link ≤ s.dev.vn → exec (.completionTimeout link tag) s = .next (s.withDev
        (((s.dev.quarantineTag link tag r).countTimeout link).settle r (some 1)))) ∧
      (s.dev.vn < r.issued + s.dev.cplTimeout link → exec (.completionTimeout link tag) s = .next s)) ∧
    (Sparse.get? s.dev.hif.reqs (tagKey link tag) = none → let u := t.unexpectedCpl link
      ((Sparse.get? s.dev.hif.quarantine (tagKey link tag)).isSome → last = true ∨ ok = false → exec (.completionReceived link tag ok last data) s =
        .next (s.withDev { u with hif := { u.hif with quarantine := Sparse.put u.hif.quarantine (tagKey link tag) none } })) ∧
      (Sparse.get? s.dev.hif.quarantine (tagKey link tag) = none ∨ (last = false ∧ ok = true) →
        exec (.completionReceived link tag ok last data) s = .next (s.withDev u))) ∧
    (∀ due, Sparse.get? s.dev.hif.quarantine (tagKey link tag) = some due →
      (due ≤ s.dev.vn → exec (.tagRelease link tag) s = .next (s.withDev
        { s.dev with hif := { s.dev.hif with quarantine := Sparse.put s.dev.hif.quarantine (tagKey link tag) none } })) ∧
      (s.dev.vn < due → exec (.tagRelease link tag) s = .next s))) ∧
  (∀ (link speed width : Nat) (flit l0p : Bool) (s : State), link < 4 → s.dev.linkPresent link = true → s.dev.pstate link = 1 → ∃ d,
    exec (.pcieLinkUp link speed width flit l0p) s = .next (s.withDev d) ∧ d.pstate link = 2 ∧ (d.linkCfg link).l0p = l0p ∧
    d.fld .HIF_LINK_STATUS link 7 4 = min speed 6 ∧ d.fld .HIF_LINK_STATUS link 16 12 = min width (if s.dev.fld .HIF_LINK_STATUS link 1 1 = 1 then 8 else 16) ∧
    d.fld .HIF_LINK_STATUS link 2 2 = b2n (flit || decide (6 ≤ speed)) ∧ d.fld .HIF_LINK_STATUS link 3 3 = s.dev.fld .HIF_LINK_STATUS link 3 3) ∧
  (∀ (link : Nat) (s : State), link < 4 →
    (s.dev.pstate link = 2 ∨ s.dev.pstate link = 3 → (s.dev.linkCfg link).aspm = true → s.dev.fld .HIF_LPM link 31 16 ≠ 0 →
      s.dev.linkIdle link (s.dev.fld .HIF_LPM link 31 16) = true → s.dev.linkQuiet link = true → exec (.l1Entry link) s = .next (s.withDev
        ((s.dev.setFld .HIF_LINK_STATUS link 11 8 (if (s.dev.linkCfg link).l1ss then 5 else 4)).bump .HIF_L1_ENTRIES link))) ∧
    (∀ low, s.dev.pstate link = 2 → s.dev.fld .HIF_LINK_STATUS link 2 2 = 1 → (s.dev.linkCfg link).l0p = true → s.dev.l0pWidth link ≠ 0 →
      s.dev.fld .HIF_LPM link 15 8 ≤ low → s.dev.l0pWidth link < s.dev.fld .HIF_LINK_STATUS link 16 12 →
      exec (.l0pReduce link low) s = .next (s.withDev
        (((s.dev.setFld .HIF_LINK_STATUS link 16 12 (s.dev.l0pWidth link)).setFld .HIF_LINK_STATUS link 11 8 3).bump .HIF_L0P_CHANGES link))) ∧
    (s.dev.pstate link = 3 → exec (.l0pRestore link) s = .next (s.withDev (((s.dev.setFld .HIF_LINK_STATUS link 16 12
      (Sparse.get (fun _ => 0) s.dev.hif.full link)).setFld .HIF_LINK_STATUS link 11 8 2).bump .HIF_L0P_CHANGES link))) ∧
    (∀ vector, vector < 8192 → s.dev.hears (.bar0 link) = true → exec (.msixUnmask link vector) s =
      .next (s.withDev (s.dev.bar0Write link (0x110000C + 0x40000 * link + 16 * vector) 4 0))) ∧
    (s.dev.awake = true → s.dev.linkPresent link = true → exec (.functionReset link) s = .next (s.withDev (s.dev.takeReset .device (some link)))) ∧
    (s.dev.awake = true → s.dev.linkPresent link = true → s.dev.pstate link ≠ 1 → link / 2 ∉ s.dev.bcp.perst →
      let t := s.dev.wr .HIF_LINK_STATUS link (s.dev.fld .HIF_LINK_STATUS link 1 0 + 8 + 0x100)
      let u := (t.draw.2.bump .HIF_GONE_EVENTS link).whistle 0x10 (unitId 0x08 0 link) 0 t.draw.1
      exec (.surpriseRemoval link) s = .next (s.withDev (((u.stopPitches link).failLink link).forgetHost link)))) ∧
  (∀ (link vector v m : Nat) (d : Dev), link < 4 → vector < d.vectors link → let i := 8192 * link + vector
    d.msixWrite .HIF_MSIX_CTL i v m = (d.plainWrite .HIF_MSIX_CTL i v m).msixOpen link vector) ∧
  (∀ (port : Nat) (s : State), port < 2 →
    let a : Dev := { s.dev with bcp := { s.dev.bcp with perst := port :: s.dev.bcp.perst } }
    let t := (a.perstLink (2 * port)).perstLink (2 * port + 1)
    let u := t.takeReset .device (some (2 * port))
    (port ∈ s.dev.bcp.perst → exec (.perstAssert port) s = .next s) ∧
    (port ∉ s.dev.bcp.perst → s.dev.awake = false → exec (.perstAssert port) s = .next (s.withDev a)) ∧
    (port ∉ s.dev.bcp.perst → s.dev.awake = true →
      (1 - port ∈ s.dev.bcp.perst → exec (.perstAssert port) s = .next (s.withDev (t.takeReset .device none))) ∧
      (1 - port ∉ s.dev.bcp.perst → exec (.perstAssert port) s = .next (s.withDev
        (if u.linkPresent (2 * port + 1) then u.takeReset .device (some (2 * port + 1)) else u)))))
/-! ### Rings and DMA channels -/

/-- R298, R321 to R323, R329 to R335, R338, R347 to R352, R354, R359: doorbells are judged by R321 and R351 or dropped with their counters; ring
operations of an allowed origin; the arbiters' turns; lookahead; closing, posting and interrupts; the end of FIRMWARE items and of drains; a
read of the error log. Writes from BAR0 have these effects when their record is sealed (RegisterWriteRule). -/
def Obligations.RingCommands : Prop :=
  (∀ (link page off width v : Nat) (s : State), page < 4096 → s.dev.hears (.bar2 link page) = true → s.dev.clocked 9 = true →
    let r := bits v 47 32
    let q := bits v 45 32
    let t := s.dev.useLink link
    let run := fun (i : Instr) (d : Dev) => exec i s = .next (s.withDev d)
    let work := Instr.workDoorbell (.bar2 link page) off width v
    let cqdb := Instr.completionDoorbell (.bar2 link page) off width v
    (∀ c i, t.pageBar link page = some (c, i) → run work (t.bump c i) ∧ run cqdb (t.bump c i)) ∧
    (t.pageBar link page = none →
      (off ≠ 0 ∨ width ≠ 8 → run work (t.bump .HIF_BAD_ACCESS link)) ∧ (off ≠ 8 ∨ width ≠ 8 → run cqdb (t.bump .HIF_BAD_ACCESS link)) ∧
      (off = 0 → width = 8 → t.pageDrops page = true → run work (t.bump .PIT_DB_DROPPED page)) ∧
      (off = 8 → width = 8 → t.pageDrops page = true → run cqdb (t.bump .PIT_DB_DROPPED page)) ∧
      (off = 0 → width = 8 → t.pageDrops page = false → run work
        (if (s.dev.ring r).loc = 0 ∧ (s.dev.ring r).pitch = page then t.judgeDoorbell r (bits v 31 0) else t.bump .RNG_DB_FOREIGN 0)) ∧
      (off = 8 → width = 8 → t.pageDrops page = false → run cqdb
        (if (s.dev.cq q).loc = 0 ∧ (s.dev.cq q).pitch = page then t.judgeCqDoorbell q (bits v 31 0) (bit v 47) else t.bump .RNG_DB_FOREIGN 0)))) ∧
  (∀ (c t v off width : Nat) (s : State), let r := bits v 47 32
    let q := bits v 45 32
    exec (.workDoorbell (.thread c t) off width v) s = .next (s.withDev (if (s.dev.ring r).loc = 2 ∧ (s.dev.ring r).producer = ctxKey c t
      then s.dev.threadDoorbell (ctxKey c t) r (bits v 31 0) else s.dev.bump .RNG_DB_FOREIGN 0)) ∧
    exec (.completionDoorbell (.thread c t) off width v) s = .next (s.withDev (if (s.dev.cq q).loc = 2 ∧ (s.dev.cq q).thread = ctxKey c t
      then s.dev.judgeCqDoorbell q (bits v 31 0) (bit v 47) else s.dev.bump .RNG_DB_FOREIGN 0))) ∧
  (∀ (d : Dev) (r p : Nat), p < 2 ^ 32 → let x := d.ring r
    let a := ixSub p x.p
    let e := d.judgeDoorbell r p
    (x.st = 0 ∨ x.st = 3 → e = d.bump .RNG_DB_DISABLED 0) ∧ (x.st = 1 ∨ x.st = 2 → a = 0 → e = d) ∧
    (x.st = 1 ∨ x.st = 2 → a ≠ 0 → a ≤ x.size - ixSub x.p x.c → e.ring r = { x with p := p } ∧ e.regs = d.regs ∧ e.mem = d.mem) ∧
    (x.st = 1 ∨ x.st = 2 → a ≠ 0 → x.size - ixSub x.p x.c < a → (e.ring r).st = 2 ∧ (e.ring r).errCode = 1 ∧ (e.ring r).errIndex = p ∧
      (e.ring r).p = x.p ∧ (e.ring r).la = [] ∧ (e.ring r).errDue = x.errSlot)) ∧
  (∀ (d : Dev) (q c : Nat) (arm : Bool), c < 2 ^ 32 → let x := d.cq q
    let e := d.judgeCqDoorbell q c arm
    (x.enabled = false ∨ ixSub x.pcq x.ccq < ixSub c x.ccq → e = d.bump .RNG_CQ_DB_BAD 0) ∧
    (x.enabled = true → ixSub c x.ccq ≤ ixSub x.pcq x.ccq → (e.cq q).ccq = c ∧ e.mem = d.mem)) ∧
  (∀ (o : Origin) (table index tag : Nat) (skip : Bool) (s : State), s.dev.takesWrite o .RNG_RING_ACC_CTL 0 →
    ∀ p ∈ [(false, Instr.ringRead o table index tag, fun (d : Dev) => d.ringActRead table index tag),
      (true, .ringWrite o table index tag, fun d => d.ringActWrite table index tag), (false, .ringState o table index tag, fun d => d.ringActState table index tag),
      (false, .ringEnable o table index tag, fun d => d.ringActEnable table index tag), (false, .ringDisable o table index tag, fun d => d.ringActDisable table index tag),
      (false, .ringResume o table index tag skip, fun d => d.ringActResume table index tag skip), (false, .ringReset o table index tag, fun d => d.ringActReset table index tag)],
    exec p.2.1 s = .next (s.withDev (s.dev.ringBody o table index tag p.1 p.2.2))) ∧
  (∀ (d : Dev) (o : Origin) (table index tag : Nat) (write : Bool) (act : Dev → Dev), let e := d.ringBody o table index tag write act
    (d.rngOrigin o table index write = false → e = d.bump .RNG_ACC_FOREIGN 0) ∧
    (d.rngOrigin o table index write = true → d.rng.accBusy.isSome → e = d.setFld .RNG_RING_ACC_STATUS 0 3 0 1) ∧
    (d.rngOrigin o table index write = true → d.rng.accBusy = none → rngTableSize table ≤ index → e = d.rngStatus (tag % 2 ^ 16) 2 0 false) ∧
    (d.rngOrigin o table index write = true → d.rng.accBusy = none → index < rngTableSize table → e = act d)) ∧
  (∀ (d : Dev) (i tag : Nat), tag < 2 ^ 16 → let x := d.ring i
    (x.ctx < 2 ^ 256 → (d.ringActRead 0 i tag).rngCtx = x.ctx) ∧ (∀ j, (d.ringActRead 0 i tag).ring j = d.ring j) ∧ (∀ j, (d.ringActState 0 i tag).ring j = d.ring j) ∧
    (d.ringLocked 0 i d.rngCtx = false → d.ringPitchBad 0 i = false → x.st = 0 → ((d.ringActWrite 0 i tag).ring i).ctx = ringMask d.rngCtx) ∧
    (d.ringLocked 0 i x.ctx = false → d.ringPitchBad 0 i = false → x.st = 0 → firstFail (d.ringChecks i) = 0 → let y := (d.ringActEnable 0 i tag).ring i
      y.st = 1 ∧ y.p = x.init ∧ y.c = x.init ∧ y.f = x.init ∧ y.done = x.init ∧ y.errSlot = true ∧ (d.ringActEnable 0 i tag).rd .RNG_RING_ACC_STATUS 0 = tag * 2 ^ 16) ∧
    (d.ringLocked 0 i x.ctx = false → d.ringPitchBad 0 i = false → x.st = 0 → firstFail (d.ringChecks i) ≠ 0 →
      d.ringActEnable 0 i tag = d.rngStatus tag 4 (firstFail (d.ringChecks i)) false) ∧
    (d.ringPitchBad 0 i = false → x.st = 1 ∨ x.st = 2 → let e := d.ringActDisable 0 i tag
      (e.ring i).st = 3 ∧ e.rng.accBusy = some (5, i) ∧ e.rd .RNG_RING_ACC_STATUS 0 = tag * 2 ^ 16 + 16) ∧
    (d.ringLocked 0 i x.ctx = false → d.ringPitchBad 0 i = false → x.st = 1 ∨ x.st = 2 → let e := d.ringActReset 0 i tag
      (e.ring i).st = 3 ∧ e.rng.accBusy = some (7, i) ∧ (e.ring i).p = x.p ∧ (e.ring i).c = x.c) ∧
    (d.ringLocked 0 i x.ctx = false → d.ringPitchBad 0 i = false → x.st = 2 → (d.cq x.cqNo).free ≠ 0 → let y := (d.ringActResume 0 i tag false).ring i
      y.st = 1 ∧ y.p = x.p ∧ y.c = x.c ∧ y.errSlot = true ∧ y.errDue = false) ∧
    (d.ringLocked 0 i x.ctx = false → d.ringPitchBad 0 i = false → x.st = 2 → (d.cq x.cqNo).free = 0 → ∀ skip, d.ringActResume 0 i tag skip = d.rngStatus tag 6 0 false)) ∧
  (∀ (r op n : Nat) (s : State), s.dev.rng.accBusy = some (op, n) → let x := s.dev.ring r
    let tag := s.dev.fld .RNG_RING_ACC_STATUS 0 31 16
    let t : Dev := { s.dev with rng := { s.dev.rng with accBusy := none } }
    let ends := n = r ∧ x.st = 3 ∧ x.done = x.c ∧ x.errDue = false ∧ x.owed = []
    (¬ ends → exec (.ringDrainEnd r) s = .next s) ∧
    (ends → op = 5 → exec (.ringDrainEnd r) s = .next (s.withDev
      ((let u := t.freeErrSlot r; u.setRing r { u.ring r with st := 0 }).rngStatus tag 0 0 false))) ∧
    (ends → op ≠ 5 → x.errSlot = false → (s.dev.cq x.cqNo).free = 0 → exec (.ringDrainEnd r) s = .next (s.withDev
      ((t.setRing r { x with st := 0 }).rngStatus tag 6 0 false))) ∧
    (ends → op ≠ 5 → x.errSlot = true ∨ (s.dev.cq x.cqNo).free ≠ 0 → exec (.ringDrainEnd r) s = .next (s.withDev ((t.ringStart r).rngStatus tag 0 0 false)))) ∧
  (∀ (k : Nat) (l : List Fetch) (s : State), k < 4 ∨ 8 ≤ k ∧ k < 16 → exec (.ringTurn k l) s = .next (s.withDev (s.dev.arbiterTurn k l).queueAssign)) ∧
  (∀ (k m r : Nat) (d e : Dev) (l : List Fetch), let turned := (e.ringTurn r (bits (e.ring r).ctx 110 104) l).useContext
    (k < 4 → ∀ s : Dev, s.takeTurn k (s.participants k) = some (m, d) → d.takeTurn (16 + m) (d.memberRings m) = some (r, e) → s.arbiterTurn k l = turned) ∧
    (k < 4 → ∀ s : Dev, s.takeTurn k (s.participants k) = none → s.arbiterTurn k l = s) ∧
    (8 ≤ k → k < 16 → d.takeTurn (16 + (4096 + k)) (d.memberRings (4096 + k)) = some (r, e) → d.arbiterTurn k l = turned)) ∧
  (∀ (r : Nat) (s : State), let x := s.dev.ring r
    (x.st = 1 → x.stamped = true → x.c = x.p → ∀ l : List Fetch, ∃ d la, exec (.lookaheadRead r l) s = .next (s.withDev d) ∧ d.ring r = { x with la := la } ∧
      la.length ≤ 8 ∧ ∀ j, j ≠ r → d.ring j = s.dev.ring j) ∧
    (x.st ≠ 1 ∨ x.stamped = false ∨ x.c ≠ x.p → ∀ l, exec (.lookaheadRead r l) s = .next s) ∧
    (x.batch ≠ 0 → bits x.ctx 175 160 ≠ 0 → x.lastVn + bits x.ctx 175 160 ≤ s.dev.vn → exec (.idleClose r) s = .next (s.withDev (s.dev.closeBatch r))) ∧
    (s.dev.frozen = false → exec (.postCompletion r) s = .next (s.withDev (s.dev.postNext r))) ∧
    (s.dev.frozen = true → exec (.postCompletion r) s = .next s)) ∧
  (∀ (r : Nat) (d : Dev), let x := d.ring r
    (d.cqOpen x.cqNo = false → (∃ l, d.headBatch r = some l) → d.postNext r = d.cqHeld x.cqNo) ∧
    (d.cqOpen x.cqNo = true → x.owed = [] → (x.errDue = false ∨ x.done ≠ x.c → ∀ l, d.headBatch r = some l → d.postNext r =
        (d.completeItems r l).postEntry x.cqNo (mergeEntries l) false) ∧
      (x.st = 2 ∨ x.st = 3 → x.errDue = true → x.done = x.c → d.postNext r =
        (d.setRing r { x with errDue := false, errSlot := false }).postEntry x.cqNo (errorEntry x.kind r x.errIndex x.errCode) true)) ∧
    (d.cqOpen x.cqNo = true → ∀ code index rest, x.owed = (code, index, x.done) :: rest → d.postNext r =
      (d.setRing r { x with owed := rest }).postEntry x.cqNo (errorEntry x.kind r index code) true) ∧
    (x.owed = [] → x.errDue = false → d.headBatch r = none → d.postNext r = d)) ∧
  (∀ (q : Nat) (s : State), let x := s.dev.cq q
    let t := bits x.ctx 126 117
    let due := x.irq = true ∧ x.armed = true ∧ x.u ≠ 0 ∧ t ≠ 0 ∧ x.firstVn + 25 * t ≤ s.dev.vn
    (due → exec (.modTimeExpiry q) s = .next (s.withDev (s.dev.sendIrq q))) ∧ (¬ due → exec (.modTimeExpiry q) s = .next s)) ∧
  (∀ (q : Nat) (d : Dev), (d.sendIrq q).cq q = { d.cq q with armed := false, u := 0 } ∧
    (d.sendIrq q).rd .RNG_IRQ_SENT 0 = (d.rd .RNG_IRQ_SENT 0 + 1) % 2 ^ 64) ∧
  (∀ (c t i r st : Nat) (s : State), i < 2 ^ 32 → r < 2 ^ 16 → st < 2 ^ 16 → s.dev.takesWrite (.thread c t) .RNG_FW_DONE 0 →
    let mine := (s.dev.item ⟨r, i⟩).any (fun y => y.stage = 1) = true ∧ (s.dev.ring r).kind = 5 ∧ (s.dev.ring r).server = ctxKey c t
    (mine → exec (.fwDone (.thread c t) i r st) s = .next (s.withDev (s.dev.releaseWith ⟨r, i⟩ st 0 0))) ∧
    (¬ mine → exec (.fwDone (.thread c t) i r st) s = .next (s.withDev (s.dev.bump .RNG_FW_DONE_BAD 0)))) ∧
  (∀ (l : Nat) (s : State), l < 4 → s.dev.takesRead l .RNG_ERR_LOG 0 → exec (.rngErrLogRead l) s = .next (s.withDev
    (Dev.readReply { s.dev with rng := { s.dev.rng with errLog := s.dev.rng.errLog.drop 1 } } (.bar0 l) 8 (s.dev.rng.errLog.headD 0))))
/-- R361, R362, R364, R365, R367, R370 to R374, R377: only the owner writes a shadow or arms; ARM gives the result of its checks; the other
operations act for their writers; each arbiter issues at most one burst per ns of a volley; a transfer ends at its completion point or
with its error; a halted owner is told once; and a read of the halt log. Writes from BAR0 have these effects when their record is sealed
(RegisterWriteRule). -/
def Obligations.ChannelCommands : Prop :=
  (∀ (o : Origin) (inst unit which v tag : Nat) (s : State), chanOk inst unit = true → which < 4 → tag < 2 ^ 16 →
    let n := 128 * inst + unit
    let run := fun (i : Instr) (d : Dev) => exec i s = .next (s.withDev d)
    (s.dev.takesWrite o (shadowReg which) n → run (.shadowWrite o inst unit which v) (s.dev.shadowWrite o n which v)) ∧
    (s.dev.takesWrite o .DMA_CH_OWNER n → run (.ownerWrite o inst unit v) (s.dev.ownerWrite o n v)) ∧
    (s.dev.takesWrite o .DMA_CH_CTL n → run (.arm o inst unit tag) (s.dev.arm o n tag) ∧ run (.reclaim o inst unit tag) (s.dev.reclaim o n tag) ∧
      run (.channelReset o inst unit tag) (if s.dev.mayReset o n then (s.dev.chSet n 63 48 tag).resetChannel n else s.dev) ∧
      run (.channelResume o inst unit tag) (if s.dev.isOwner o n then (s.dev.chSet n 63 48 tag).resumeChannel n else s.dev))) ∧
  (∀ (d : Dev) (o : Origin) (n which v : Nat), n < 1088 → which < 4 → let e := d.shadowWrite o n which v
    let r := shadowReg which
    (d.isOwner o n = false → e = d.bump .DMA_CH_FOREIGN n) ∧
    (d.isOwner o n = true → d.armed n = true → e.rd r n = d.rd r n ∧ e.fld .DMA_CH_STATUS n 3 3 = 1 ∧
      e.rd .DMA_CH_SHADOW_LOCKED n = (d.rd .DMA_CH_SHADOW_LOCKED n + 1) % 2 ^ 64) ∧
    (d.isOwner o n = true → d.armed n = false → (∀ b, b < 64 → (e.rd r n).testBit b = if r.info.rw.testBit b then v.testBit b else (d.rd r n).testBit b) ∧
      e.fld .DMA_CH_STATUS n 2 2 = 1 ∧ e.dma = d.dma ∧ ∀ q i, i < 2 ^ 24 → (q, i) ≠ (r, n) → (q, i) ≠ (.DMA_CH_STATUS, n) → e.rd q i = d.rd q i)) ∧
  (∀ (d : Dev) (o : Origin) (n tag : Nat), n < 1088 → tag < 2 ^ 16 → let e := d.arm o n tag
    (d.isOwner o n = false → e = d.bump .DMA_CH_FOREIGN n) ∧
    (d.isOwner o n = true → d.armed n = true → e.fld .DMA_CH_STATUS n 3 3 = 1 ∧ e.fld .DMA_CH_STATUS n 63 48 = tag ∧ e.dma = d.dma) ∧
    (d.isOwner o n = true → d.armed n = false → d.mode = .lockdown → e = d.armResult n tag 3 0xFD) ∧
    (d.isOwner o n = true → d.armed n = false → d.mode ≠ .lockdown → d.isFenced (chanUnit n) = true → e = d.armResult n tag 3 0xFC) ∧
    (d.isOwner o n = true → d.armed n = false → d.mode ≠ .lockdown → d.isFenced (chanUnit n) = false →
      (firstFail (d.armChecks n) ≠ 0 → e = d.armResult n tag 2 (firstFail (d.armChecks n))) ∧
      (firstFail (d.armChecks n) = 0 → d.chState n ≠ 0 → e.armed n = true ∧ e.fld .DMA_CH_STATUS n 7 6 = 1 ∧ e.chState n = d.chState n ∧ e.dma = d.dma) ∧
      (firstFail (d.armChecks n) = 0 → d.chState n = 0 → d.rd .DMA_ACT_LEN n = 0 → e = ((d.armResult n tag 1 0).chSet n 1 1 1).handOver n))) ∧
  (∀ (d : Dev) (n tag r k : Nat), n < 1088 → tag < 2 ^ 16 → r < 4 → k < 256 → let e := d.armResult n tag r k
    e.fld .DMA_CH_STATUS n 63 48 = tag ∧ e.fld .DMA_CH_STATUS n 7 6 = r ∧ e.fld .DMA_CH_STATUS n 31 24 = k ∧ e.armed n = d.armed n ∧ e.chState n = d.chState n ∧ e.dma = d.dma) ∧
  (∀ (d : Dev) (o : Origin) (n v : Nat), n < 1088 → let w := v &&& Reg.DMA_CH_OWNER.info.rw
    d.mayOwn o n w = false ∨ d.chState n ≠ 0 ∨ d.armed n = true ∨ (ownerKind w = 3 ∧ bit w 19 = false ∧
      d.quota (bits w 31 20) 78 69 < d.queueChannels (bits w 31 20) n + 1) → let e := d.ownerWrite o n v
    e.chOwner n = d.chOwner n ∧ e.fld .DMA_CH_STATUS n 5 5 = 1 ∧ e.dma = d.dma) ∧
  (∀ (d : Dev) (o : Origin) (n tag : Nat), n < 1088 → let e := d.reclaim o n tag
    (d.mayReclaim o n = false → e = d) ∧
    (d.mayReclaim o n = true →
      e.chOwner n = (if o = .basecamp then 0 else 2 + d.supervisor (bits (d.chOwner n) 18 16) * 2 ^ 8 + bits (d.chOwner n) 18 16 * 2 ^ 16) ∧
      e.rd .DMA_RECLAIMS (n / 128) = (d.rd .DMA_RECLAIMS (n / 128) + 1) % 2 ^ 64 ∧ e.chState n = d.chState n ∧ e.armed n = false)) ∧
  (∀ (a : Nat) (s : State), a < 5 → let used := Sparse.get (fun _ => 0) s.dev.dma.bursts a
    (∀ n, s.dev.pickChannel a = some n → used < s.dev.clk.volleyNs → exec (.dmaBurstIssue a) s = .next (s.withDev
      (Dev.burst { s.dev with dma := { s.dev.dma with turn := Sparse.set (fun _ => 2047) s.dev.dma.turn a n
                                                      bursts := Sparse.set (fun _ => 0) s.dev.dma.bursts a (used + 1) } } n))) ∧
    (s.dev.pickChannel a = none ∨ s.dev.clk.volleyNs ≤ used → exec (.dmaBurstIssue a) s = .next s)) ∧
  (∀ (inst unit : Nat) (s : State), chanOk inst unit = true → let n := 128 * inst + unit
    (s.dev.atPoint n = true → let t := ((s.dev.bump .DMA_CH_TRANSFERS n).add .DMA_CH_BYTES n (s.dev.rd .DMA_ACT_LEN n)).transferEnd n 0
      (∀ w, (t.chan n).work = some w → exec (.completionPoint inst unit) s = .next (s.withDev ((((t.workDone n w).chSet n 9 8 0).setChan n Chan.blank).queueAssign))) ∧
      ((t.chan n).work = none → t.armed n = true → exec (.completionPoint inst unit) s = .next (s.withDev ((t.handOver n).tellOwner n))) ∧
      ((t.chan n).work = none → t.armed n = false → exec (.completionPoint inst unit) s = .next (s.withDev
        (((t.chSet n 9 8 0).setChan n { Chan.blank with halt := (t.chan n).halt }).tellOwner n)))) ∧
    (∀ code, s.dev.chState n = 1 → (s.dev.chan n).failed = some code → (s.dev.chan n).outst = 0 → let t := (s.dev.bump .DMA_CH_ERRORS n).transferEnd n code
      (∀ w, (t.chan n).work = some w → exec (.transferFailed inst unit) s = .next (s.withDev
        ((((((t.releaseWith w.item (hostStatus code) 0 0).sendReady w.item.ring).stxRemoved).chSet n 9 8 0).setChan n Chan.blank).queueAssign))) ∧
      ((t.chan n).work = none → exec (.transferFailed inst unit) s = .next (s.withDev
        (((t.chSet n 9 8 2).setChan n { Chan.blank with halt := (t.chan n).halt }).tellOwner n)))) ∧
    (s.dev.chState n = 3 → (s.dev.chan n).outst = 0 → exec (.channelResetDone inst unit) s = .next (s.withDev
      (((s.dev.chSet n 9 8 0).setChan n Chan.blank).queueAssign)))) ∧
  (∀ (inst unit : Nat) (s : State), chanOk inst unit = true → let n := 128 * inst + unit
    let w := s.dev.chOwner n
    let c := bits w 18 16
    let t := bits w 15 8
    let due := s.dev.ownerHalted n = true ∧ s.dev.fld .DMA_CH_STATUS n 4 4 = 0 ∧ max 250 (s.dev.rd .DMA_OWNER_HALT_LIMIT inst) ≤ (s.dev.chan n).halt
    (¬ due → exec (.dmaOwnerHalt inst unit) s = .next s) ∧
    (due → ∃ d, exec (.dmaOwnerHalt inst unit) s = .next (s.withDev d) ∧ d.fld .DMA_CH_STATUS n 4 4 = 1 ∧
      d.rd .DMA_OWNER_HALTS inst = (s.dev.rd .DMA_OWNER_HALTS inst + 1) % 2 ^ 64 ∧ d.chOwner n = w ∧ d.mem = s.dev.mem ∧
      ((Sparse.get (fun _ => []) s.dev.dma.haltLog inst).length < 64 → Sparse.get (fun _ => []) d.dma.haltLog inst =
        Sparse.get (fun _ => []) s.dev.dma.haltLog inst ++ [unit + c * 2 ^ 15 + t * 2 ^ 18 + 2 ^ 31 + s.dev.vn % 2 ^ 32 * 2 ^ 32]))) ∧
  (∀ (l inst : Nat) (s : State), l < 4 → inst < 9 → s.dev.takesRead l .DMA_HALT_LOG inst →
    let q := Sparse.get (fun _ => []) s.dev.dma.haltLog inst
    exec (.dmaHaltLogRead l inst) s = .next (s.withDev (Dev.readReply
      { s.dev with dma := { s.dev.dma with haltLog := Sparse.set (fun _ => []) s.dev.dma.haltLog inst (q.drop 1) } } (.bar0 l) 8 (q.headD 0))))
/-! ### Crypto and keys -/

/-- R379, R382, R397, R398, R402, R404, R405, R407, R498: SAs are read, and written by their writers after the checks; the Key Port is held by one
origin, and its operations load, erase and generate keys; frames and items go to a lane and leave it; an alarm erases every key; and the
zeroing of the device regions. Writes from BAR0 have these effects when their record is sealed (RegisterWriteRule). -/
def Obligations.CryptoCommands : Prop :=
  (∀ (o : Origin) (i : Nat) (s : State), i < 262144 → s.dev.takesWrite o .CRY_SA_ACC_CTL 0 →
    exec (.saRead o i) s = .next (s.withDev (s.dev.saAcc o (i + 2 ^ 18))) ∧ exec (.saWrite o i) s = .next (s.withDev (s.dev.saAcc o (i + 2 ^ 19)))) ∧
  (∀ (o : Origin) (i : Nat) (d : Dev), i < 262144 →
    (let e := d.saAcc o (i + 2 ^ 18)
     (∀ w, w < 8 → e.rd .CRY_SA_ACC_DATA w = bits (d.sa i) (64 * w + 63) (64 * w)) ∧ e.rd .CRY_SA_ACC_STATUS 0 = 0 ∧ e.cry = d.cry ∧ e.mem = d.mem) ∧
    (let e := d.saAcc o (i + 2 ^ 19)
     let k := firstFail (saChecks (d.sa i) (saMask d.saData))
     (d.saWriter o = false → e = d.bump .CRY_SA_FOREIGN_WRITE 0) ∧
     (d.saWriter o = true → e.mem = d.mem ∧ e.cry.slots = d.cry.slots ∧ (∀ j, j < 262144 → j ≠ i → e.sa j = d.sa j) ∧
       (d.mode = .lockdown → e.rd .CRY_SA_ACC_STATUS 0 = 3 ∧ e.sa i = d.sa i) ∧
       (d.mode ≠ .lockdown → k ≠ 0 → e.rd .CRY_SA_ACC_STATUS 0 = k * 2 ^ 8 + 2 ∧ e.sa i = d.sa i) ∧
       (d.mode ≠ .lockdown → k = 0 → e.rd .CRY_SA_ACC_STATUS 0 = 0 ∧ e.sa i = saMask d.saData)))) ∧
  (∀ (o : Origin) (s : State),
    (s.dev.clocked 0xB = true → s.dev.hears o = true → o.atPort.mayHold = true →
      exec (.keyportAcquire o) s = .next (s.withDev ((s.dev.keyLock o.atPort).2.readReply o 4 (s.dev.keyLock o.atPort).1))) ∧
    (s.dev.clocked 0xB = false ∨ s.dev.hears o = false → exec (.keyportAcquire o) s = .next (s.withDev (s.dev.readReply o 4 0))) ∧
    (s.dev.takesWrite o .CRY_KEYPORT_LOCK 0 → exec (.keyportRelease o) s = .next (s.withDev
      (if s.dev.holds o then s.dev.releasePort else s.dev.bump .CRY_KEYPORT_FOREIGN 0)))) ∧
  (∀ (o : Origin) (d : Dev),
    (d.cry.holder = none → d.keyLock o = (holderBits o + 3, { d with cry := { d.cry with holder := some (o, d.vn + 25000) } })) ∧
    (∀ v, d.cry.holder = some (o, v) → d.cry.relDue = false → d.keyLock o = (holderBits o + 3, d)) ∧
    (∀ h v, d.cry.holder = some (h, v) → h ≠ o ∨ d.cry.relDue = true → d.keyLock o = (holderBits h + 2, d.bump .CRY_KEYPORT_DENIED 0))) ∧
  (∀ (h : Origin) (v : Nat) (s : State), s.dev.cry.holder = some (h, v) →
    (v ≤ s.dev.vn → s.dev.cry.relDue = false → exec .keyportTimeout s = .next (s.withDev
      (((s.dev.setFld .CRY_KEYPORT_STATUS 0 3 3 1).bump .CRY_KEYPORT_TIMEOUTS 0).releasePort))) ∧
    (s.dev.vn < v ∨ s.dev.cry.relDue = true → exec .keyportTimeout s = .next s)) ∧
  (∀ (o : Origin) (slot typ owner tag : Nat) (ov : Bool) (s : State), s.dev.takesWrite o .CRY_KEYPORT_CTL 0 →
    exec (.keyportLoad o slot typ owner ov tag) s = .next (s.withDev (s.dev.keyCtl o (keyCtlWord 1 slot typ owner ov tag))) ∧
    exec (.keyportErase o slot tag) s = .next (s.withDev (s.dev.keyCtl o (keyCtlWord 2 slot 0 0 false tag))) ∧
    exec (.keyportGenerate o slot typ owner ov tag) s = .next (s.withDev (s.dev.keyCtl o (keyCtlWord 3 slot typ owner ov tag)))) ∧
  (∀ (o : Origin) (op slot typ owner tag : Nat) (ov : Bool) (d : Dev), 1 ≤ op → op ≤ 3 → tag < 2 ^ 16 →
    let v := keyCtlWord op slot typ owner ov tag
    (d.holds o = false → d.keyCtl o v = d.bump .CRY_KEYPORT_FOREIGN 0) ∧ (d.holds o = true → d.cry.op.isSome → d.keyCtl o v = d) ∧
    (d.holds o = true → d.cry.op = none → (d.keyCtl o v).cry = { d.cry with op := some (v, o) } ∧
      (d.keyCtl o v).fld .CRY_KEYPORT_STATUS 0 31 16 = tag ∧ (d.keyCtl o v).fld .CRY_KEYPORT_STATUS 0 2 2 = 1)) ∧
  (∀ (v : Nat) (o : Origin) (s : State), s.dev.cry.op = some (v, o) → let r := s.dev.keyRun o v s.dev.keyData
    exec .keyportOpDone s = .next (s.withDev (r.1.keyEnd r.2))) ∧
  (∀ (d : Dev) (r : Nat), r ≤ 5 → (d.keyEnd r).cry.op = none ∧ (d.keyEnd r).cry.slots = d.cry.slots ∧ (d.keyEnd r).fld .CRY_KEYPORT_STATUS 0 7 4 = r ∧
    (d.keyEnd r).fld .CRY_KEYPORT_STATUS 0 2 2 = 0) ∧
  (∀ (d : Dev) (o : Origin) (slot typ owner tag : Nat) (ov : Bool) (img : List Byte), slot < 0x3F000 → typ < 256 → owner < 4096 →
    let load := d.keyRun o (keyCtlWord 1 slot typ owner ov tag) img
    let wipe := d.keyRun o (keyCtlWord 2 slot 0 0 false tag) img
    let make := d.keyRun o (keyCtlWord 3 slot typ owner ov tag) img
    (d.mode = .lockdown ∨ d.cry.erasing = true → load = (d, 5) ∧ wipe = (d, 5) ∧ make = (d, 5)) ∧
    (d.mode ≠ .lockdown → d.cry.erasing = false →
      (wipe = (d.eraseSlot slot, 0)) ∧ (typ = 0 ∨ 4 < typ → load = (d, 2) ∧ make = (d, 2)) ∧
      (1 ≤ typ → typ ≤ 4 → d.cry.kek = none → load = (d, 4) ∧ make = (d, 4)) ∧
      (1 ≤ typ → typ ≤ 4 → ∀ k, d.cry.kek = some k →
        (Config.keyUnwrap k (wrapIv typ owner (b2n ov)) img = none → load = (d, 3)) ∧
        (∀ bs, Config.keyUnwrap k (wrapIv typ owner (b2n ov)) img = some bs → load.2 = 0 ∧ load.1.slotKey slot = leNat (bs.take 64) ∧ load.1.slotType slot = typ ∧
          load.1.slotOwner slot = (if ov then some owner else none) ∧ ∀ j, j < 262144 → j ≠ slot → load.1.slotKey j = d.slotKey j ∧ load.1.slotType j = d.slotType j) ∧
        (make.2 = 0 ∧ make.1.slotType slot = typ ∧ ∀ j, j < 262144 → j ≠ slot → make.1.slotKey j = d.slotKey j)))) ∧
  (∀ (f l : Nat) (item : Option ItemRef) (s : State), s.dev.pathOpen = true → s.dev.cry.erasing = false → s.dev.lanePick = some l →
    (∀ r x, item = some r → s.dev.item r = some x → exec (.cryptoDispatch f item) s = .next (s.withDev
      (if s.dev.itemReady r x then s.dev.dispatchItem r x l else s.dev).xonCheck)) ∧
    (∀ x, item = none → s.dev.frame f = some x → x.loc = .crypto → s.dev.inLane f = false → s.dev.cryFirst f x = true →
      let t := s.dev.leaveArrived f
      exec (.cryptoDispatch f item) s = .next (s.withDev (if x.protects then t.dispatchProtect f x l else t.dispatchOpen f x l).xonCheck))) ∧
  (∀ (f : Nat) (item : Option ItemRef) (s : State), s.dev.pathOpen = true → s.dev.cry.erasing = true →
    exec (.cryptoDispatch f item) s = .next (s.withDev s.dev.xonCheck)) ∧
  (∀ (l : Nat) (j : Job) (s : State), s.dev.pathOpen = true → s.dev.laneHead l = some j →
    exec (.laneOutput l 0) s = .next (s.withDev ((s.dev.endJob j).jobOut j).xonCheck) ∧
    exec (.laneOutput l 1) s = .next (s.withDev (((s.dev.bump .CRY_CHECK_RETRIES 0).endJob j).jobOut j).xonCheck) ∧
    exec (.laneOutput l 2) s = .next (s.withDev (((s.dev.bump .CRY_CHECK_RETRIES 0).endJob j).jobFault j).xonCheck)) ∧
  (∀ (src : Nat) (s : State), s.dev.awake = true → src % 32 ≠ 0 → let t := s.dev.latchAlarm src
    let u : Dev := { t with cry := { t.cry with erasing := true } }
    exec (.alarm src) s = .next (s.withDev (if u.cry.op.isSome then u.keyEnd 5 else u).refusePit)) ∧
  (∀ s : State, s.dev.cry.erasing = true → let t := s.dev.eraseKeys.emptyLanes.setFld .CRY_ALARM_STATUS 0 5 5 1
    let u := t.draw.2.whistle 0x0E (unitId 0x0B 0 0x22) 0 t.draw.1
    exec .keyEraseDone s = .next (s.withDev (if u.mode = .lockdown then u else u.enterLockdown))) ∧
  (∀ d : Dev, let e := d.eraseKeys
    e.cry.kek = none ∧ e.cry.migKey = none ∧ e.cry.noPitch = none ∧ e.cry.spill = none ∧ e.cry.erasing = false ∧ e.rd .CRY_KEK_STATUS 0 = 0 ∧
      ∀ i, i < 262144 → e.slotKey i = 0 ∧ e.slotType i = 0) ∧
  (∀ s : State, s.dev.bcpRuns = true → s.dev.mode = .bringup → s.dev.cry.noPitch = none →
    let a := s.dev.randomKey 5
    let b := a.2.randomKey 5
    exec .zeroing s = .next (s.withDev
      (Dev.renewKeys { b.2 with cry := { b.2.cry with noPitch := some a.1, spill := some b.1, zeroing := some b.2.vn } }))) ∧
  (∀ s : State, s.dev.cry.zeroing.isSome → ∃ d, exec .zeroingDone s = .next (s.withDev d) ∧ d.cry = { s.dev.cry with zeroing := none } ∧
    (∀ i, i < 2 ^ 32 → d.pair i = 0) ∧ (∀ t i, t ≠ 5 → i < 2 ^ 32 → d.entry t i = s.dev.entry t i) ∧
    (∀ a, deviceArea ≤ a → Memory.read d.mem.hbm a = Memory.blank a) ∧ (∀ a, a < deviceArea → Memory.read d.mem.hbm a = Memory.read s.dev.mem.hbm a) ∧ d.regs = s.dev.regs)
/-! ### Storage connections -/

/-- R414, R416, R417, R433: only BAR0 and Basecamp's capsules use STX_ACC_CTL, and one command at a time; a read shows the entry, an install and a namespace write report their checks, a removal
begins; and a read of STX_CONN_LOG pops it. R421, R422, R424 to R426: an item starts, its command is sent when a tag is free, and responses, data and R2Ts of the connection go to the command they name.
R428, R430, R431: segments, FIN, RST and timers of TCP; acknowledgements, NAKs, CNPs, requests and timers of RoCE. Log entry 147 says what the model adds. -/
def Obligations.StorageCommands : Prop :=
  (∀ (o : Origin) (i tag : Nat) (s : State), i < 2 ^ 16 → tag < 2 ^ 16 → s.dev.takesWrite o .STX_ACC_CTL 0 →
    ∀ p ∈ [((2 : Nat), (0 : Nat), Instr.connInstall o i tag), (1, 0, .stxRead o i false tag), (1, 1, .stxRead o i true tag), (3, 0, .connRemove o i tag), (2, 1, .nsWrite o i tag)],
    exec p.2.2 s = .next (s.withDev (s.dev.stxAcc o (i + p.2.1 * 2 ^ 16 + p.1 * 2 ^ 17 + tag * 2 ^ 32)))) ∧
  (∀ (o : Origin) (i tag : Nat) (d : Dev), i < 2 ^ 16 → tag < 2 ^ 16 →
    let acc := fun op table => d.stxAcc o (i + table * 2 ^ 16 + op * 2 ^ 17 + tag * 2 ^ 32)
    (∀ op table, (op = 1 ∧ table ≤ 1) ∨ (op = 2 ∧ table ≤ 1) ∨ (op = 3 ∧ table = 0) →
      (o.stxWriter = false → acc op table = d.bump .STX_ACC_FOREIGN 0) ∧
      (o.stxWriter = true → d.stx.removing.isSome → acc op table = d.stxStatus tag 0 1 1) ∧
      (o.stxWriter = true → d.stx.removing = none → table = 1 → 4096 ≤ i → acc op table = d.stxStatus tag 0 2 0)) ∧
    (o.stxWriter = true → d.stx.removing = none →
      acc 1 0 = (d.putStxData (d.conn i).image).stxStatus tag 0 0 0 ∧ acc 3 0 = d.connRemove i tag ∧
      acc 2 0 = (d.connInstall i d.stxData).1.stxStatus tag (d.connInstall i d.stxData).2.1 (d.connInstall i d.stxData).2.2 0 ∧
      (i < 4096 → acc 1 1 = (d.putStxData (d.ns i)).stxStatus tag 0 0 0 ∧
        acc 2 1 = (d.nsWrite i d.stxData).1.stxStatus tag (d.nsWrite i d.stxData).2 (if (d.nsWrite i d.stxData).2 = 0 then 0 else 4) 0))) ∧
  (∀ (link : Nat) (s : State), s.dev.takesRead link .STX_CONN_LOG 0 → exec (.stxConnLogRead link) s = .next (s.withDev
    (Dev.readReply { s.dev with stx := { s.dev.stx with log := s.dev.stx.log.drop 1 } } (.bar0 link) 8 (s.dev.stx.log.headD 0)))) ∧
  (∀ (r : ItemRef) (x : Item) (l : List Fetch) (miss : Bool) (s : State), s.dev.pathOpen = true → s.dev.item r = some x → x.kind = 4 → x.stage = 1 → x.busy = false →
    s.dev.startFirst x = true →
    (s.dev.startBar x ≠ 0 → exec (.storeStart r l miss) s = .next (s.withDev ((s.dev.connMiss miss).releaseWith r (s.dev.startBar x) 0 0).xonCheck)) ∧
    (s.dev.startBar x = 0 → x.op = 1 → exec (.storeStart r l miss) s = .next (s.withDev ((s.dev.connMiss miss).beginStore r x []).xonCheck)) ∧
    (s.dev.startBar x = 0 → x.op ≠ 1 →
      (∀ c m d, s.dev.fetch (s.dev.ring r.ring) (descBits x.desc 447 384) 64 l = some (.fail c, m, d) →
        exec (.storeStart r l miss) s = .next (s.withDev ((d.connMiss miss).releaseWith r (hostStatus c) 0 0).xonCheck)) ∧
      (∀ bs m d, s.dev.fetch (s.dev.ring r.ring) (descBits x.desc 447 384) 64 l = some (.ok bs, m, d) →
        exec (.storeStart r l miss) s = .next (s.withDev ((d.connMiss miss).beginStore r x (bs.take 64)).xonCheck)))) ∧
  (∀ (c n : Nat) (m : StxCmd) (l : List StxCmd) (i : Item) (s : State), let t := s.dev.pruneConn c
    s.dev.pathOpen = true → (t.conn c).waiting = m :: l → (t.conn c).freeTag = some n → t.item m.item = some i →
    ((t.conn c).active = true → (t.conn c).rnrEnd = none → s.dev.mute c = false → exec (.commandSend c) s = .next (s.withDev (t.sendCmd c (t.conn c) m l i n).xonCheck)) ∧
    (s.dev.mute c = true → exec (.commandSend c) s = .next (s.withDev s.dev.xonCheck))) ∧
  (∀ (c : Nat) (pdu rest : List Byte) (s : State), let x := s.dev.conn c
    let t := (s.dev.setConn c { x with rx := rest }).bump .STX_PDU_RX 0
    let ends := fun (d : Dev) => ((d.finTaken c).removeDrained c).xonCheck
    s.dev.pathOpen = true → x.nextPdu = some (pdu, rest) → x.active = true → x.tcp = true →
    (pduError x pdu ≠ 0 → exec (.capsuleResp c) s = .next (s.withDev (ends ((if pduError x pdu = 1 then t.bump .STX_HDGST_ERR 0 else t).connError c (pduError x pdu) 0x502)))) ∧
    (pduError x pdu = 0 → t.cmdOf c (pduCid pdu) = none → ∀ p ∈ [((5 : Nat), Instr.capsuleResp c), (7, .c2hData c)], pduNum pdu 0 1 = p.1 →
      exec p.2 s = .next (s.withDev (ends (t.bump .STX_STALE_PDU 0)))) ∧
    (∀ m, pduError x pdu = 0 → t.cmdOf c (pduCid pdu) = some m →
      (pduNum pdu 0 1 = 5 → exec (.capsuleResp c) s = .next (s.withDev (ends (t.endCmd c m (pduNum pdu 22 2 / 2) (pduNum pdu 8 8))))) ∧
      (pduNum pdu 0 1 = 7 → exec (.c2hData c) s = .next (s.withDev (ends (t.c2hData c (t.conn c) pdu m)))) ∧
      (pduNum pdu 0 1 = 9 → s.dev.r2tWaits c = false ∨ s.dev.mute c = true →
        (m.toHost = true ∨ m.len < pduNum pdu 12 4 + pduNum pdu 16 4 → exec (.receiveR2t c) s = .next (s.withDev (ends (t.connError c 3 0x502)))) ∧
        (m.toHost = false → pduNum pdu 12 4 + pduNum pdu 16 4 ≤ m.len →
          (bit m.ns 52 = true → t.slotType (bits m.ns 81 64) = 0 → exec (.receiveR2t c) s = .next (s.withDev (ends (t.failCmd c m 0x402)))) ∧
          (bit m.ns 52 = false ∨ t.slotType (bits m.ns 81 64) ≠ 0 →
            ∀ data, t.supply m (pduNum pdu 12 4) (pduNum pdu 16 4) = some data → exec (.receiveR2t c) s = .next (s.withDev (ends (t.answerR2t c (t.conn c) pdu m data)))))))) ∧
  (∀ (c f : Nat) (x : Frame) (miss : Bool) (s : State), s.dev.pathOpen = true → s.dev.stxHead c = some (f, x) → let t := (s.dev.connMiss miss).dropFrame f
    let ends := fun (d : Dev) => (d.removeDrained c).xonCheck
    (connState (s.dev.conn c).img = 0 → ∀ i ∈ [Instr.tcpSegment c miss, .finReceived c miss, .rstReceived c miss, .roceAckReceived c miss, .rdmaWrite c miss],
      exec i s = .next (s.withDev t.xonCheck)) ∧
    (2 ≤ connState (s.dev.conn c).img → ∀ i ∈ [Instr.tcpSegment c miss, .finReceived c miss, .rstReceived c miss, .roceAckReceived c miss, .rdmaWrite c miss],
      exec i s = .next (s.withDev (t.bump .STX_STALE_PDU 0).xonCheck)) ∧
    (∀ g, connState (s.dev.conn c).img = 1 → (s.dev.conn c).tcp = true → x.tcpIn = some g →
      let y := t.conn c
      (x.tcpKind = 0 → exec (.tcpSegment c miss) s = .next (s.withDev (ends (if y.badSeg g then t.bump .STX_TCP_BAD_SEG 0 else if bit g.flags 4 = false then t else t.segment c g)))) ∧
      (x.tcpKind = 1 → exec (.rstReceived c miss) s = .next (s.withDev (ends (if y.badSeg g then t.bump .STX_TCP_BAD_SEG 0
        else if g.seq = y.seqRx then t.connError c 5 0x502
        else if (g.seq + 2 ^ 32 - y.seqRx) % 2 ^ 32 < y.rcvWnd then t.tcpAck c else t)))) ∧
      (x.tcpKind = 2 → exec (.finReceived c miss) s = .next (s.withDev (ends (if y.badSeg g then t.bump .STX_TCP_BAD_SEG 0 else if bit g.flags 4 = false then t
        else if g.seq = y.seqRx ∧ y.stale g = false then
          ((t.segment c g).setConn c { ((t.segment c g).conn c).setImg 575 544 ((((t.segment c g).conn c).seqRx + 1) % 2 ^ 32) with fin := true }).finTaken c
        else t.segment c g))))) ∧
    (∀ g, connState (s.dev.conn c).img = 1 → (s.dev.conn c).tcp = false → x.roceIn = some g → let u := t.cnp c g
      (g.good = false → ∀ i ∈ [Instr.roceAckReceived c miss, .nakReceived c miss, .cnpReceived c miss, .rdmaWrite c miss, .responseSend c miss],
        exec i s = .next (s.withDev (ends (t.bump .STX_ICRC_DROP 0)))) ∧
      (g.good = true → g.kind = 1 → exec (.roceAckReceived c miss) s = .next (s.withDev (ends (u.acked c g.psn)))) ∧
      (g.good = true → g.kind = 2 → let syn := (g.body.getD 0 0).toNat
        let v := (u.bump .STX_ROCE_NAK_RCVD 0).acked c ((g.psn + 2 ^ 24 - 1) % 2 ^ 24)
        exec (.nakReceived c miss) s = .next (s.withDev (ends (if bits syn 6 5 = 1 then v.rnrNak c (syn % 32) else if syn % 32 = 0 then v.goBack c else v)))) ∧
      (g.good = true → g.kind = 3 → exec (.cnpReceived c miss) s = .next (s.withDev (ends (u.bump .STX_ROCE_CNP_RCVD 0)))) ∧
      (g.good = true → g.kind = 4 → ((u.conn c).psnClass g.psn = 2 → exec (.rdmaWrite c miss) s = .next (s.withDev (ends (u.roceNak c (u.conn c).seqRx 0)))) ∧
        ((u.conn c).psnClass g.psn = 0 → g.op = 6 ∨ g.op = 0x0A → exec (.rdmaWrite c miss) s = .next (s.withDev (ends (let v := u.writeHead c g false
          if (v.conn c).active then v.ackWrite c g.psn (decide (g.op = 0x0A)) else v)))) ∧
        ((u.conn c).psnClass g.psn = 0 → ¬ (g.op = 6 ∨ g.op = 0x0A) → exec (.rdmaWrite c miss) s = .next (s.withDev (ends (let v := u.writeNext c g
          if (v.conn c).active then v.ackWrite c g.psn (decide (g.op = 8)) else v)))) ∧
        ((u.conn c).psnClass g.psn = 1 → exec (.rdmaWrite c miss) s = .next (s.withDev (ends (let v := if g.op = 6 ∨ g.op = 0x0A then u.writeHead c g true else u.writeAgain c g
          v.roceAck c ((v.conn c).seqRx + 2 ^ 24 - 1)))))) ∧
      (g.good = true → g.kind = 5 → s.dev.readWaits c = false → s.dev.readAgain c = none →
        ((u.conn c).psnClass g.psn = 2 → exec (.rdmaReadRequest c miss) s = .next (s.withDev (ends (u.roceNak c (u.conn c).seqRx 0)))) ∧
        ((u.conn c).psnClass g.psn = 0 →
        (u.keyCmd c (beNat ((g.body.drop 8).take 4)) = none → exec (.rdmaReadRequest c miss) s = .next (s.withDev (ends (u.roceRefuse c g.psn 2 7)))) ∧
        (∀ m data, u.keyCmd c (beNat ((g.body.drop 8).take 4)) = some m → m.toHost = false → beNat (g.body.take 8) + beNat ((g.body.drop 12).take 4) ≤ m.len →
          (bit m.ns 52 = true → u.slotType (bits m.ns 81 64) ≠ 0) → u.supply m (beNat (g.body.take 8)) (beNat ((g.body.drop 12).take 4)) = some data →
          exec (.rdmaReadRequest c miss) s = .next (s.withDev (ends (u.serveRead c g data false)))))) ∧
      (g.good = true → g.kind = 6 → ((u.conn c).psnClass g.psn = 2 → exec (.responseSend c miss) s = .next (s.withDev (ends (u.roceNak c (u.conn c).seqRx 0)))) ∧
        ((u.conn c).psnClass g.psn = 1 → exec (.responseSend c miss) s = .next (s.withDev (ends (u.roceAck c ((u.conn c).seqRx + 2 ^ 24 - 1))))) ∧
        ((u.conn c).psnClass g.psn = 0 → (∀ b, (g.op = 0x04 ∧ b = g.body) ∨ (g.op = 0x17 ∧ b = g.body.drop 4) →
          (b.length = 16 → exec (.responseSend c miss) s = .next (s.withDev (ends (u.responseIn c g b)))) ∧
          (b.length ≠ 16 → exec (.responseSend c miss) s = .next (s.withDev (ends (u.roceRefuse c g.psn 1 6))))) ∧
          (g.op ≠ 0x04 → g.op ≠ 0x17 → exec (.responseSend c miss) s = .next (s.withDev (ends (u.roceRefuse c g.psn 1 6)))))))) ∧
  (∀ (c v : Nat) (s : State), let x := s.dev.conn c
    let rto := min rtoCap (2 * x.rto)
    s.dev.pathOpen = true → x.active = true → s.dev.mute c = false →
    (x.ackDue = some v → x.tcp = true → v ≤ s.dev.vn → exec (.delayedAck c) s = .next (s.withDev (s.dev.tcpAck c).xonCheck)) ∧
    (x.ackDue = some v → s.dev.vn < v → exec (.delayedAck c) s = .next (s.withDev s.dev.xonCheck)) ∧
    (x.timer = some v → s.dev.vn < v → ∀ i ∈ [Instr.rtoExpiry c, .persistTimer c, .ackTimeout c], exec i s = .next (s.withDev s.dev.xonCheck)) ∧
    (x.timer = some v → x.tcp = true → v ≤ s.dev.vn → x.flight ≠ [] → x.probing = false → let t := s.dev.bump .STX_TCP_RTO 0
      exec (.rtoExpiry c) s = .next (s.withDev (if bits x.img 103 96 ≤ x.tries + 1 then t.connError c 4 0x503
        else (t.setConn c { x with tries := x.tries + 1, rto := rto, ssthresh := x.halve, cwnd := x.mss, dups := 0, cwr := x.ecn, timer := some (s.dev.vn + rto) }).tcpResend c).xonCheck)) ∧
    (∀ b q, x.timer = some v → x.tcp = true → v ≤ s.dev.vn → x.flight = [] → x.sndWnd = 0 → x.sendq = b :: q →
      exec (.persistTimer c) s = .next (s.withDev ((s.dev.setConn c { x.setImg 543 512 ((x.seqTx + 1) % 2 ^ 32) with
        sendq := q, flight := [{ seq := x.seqTx, bytes := [b], at_ := s.dev.vn, again := false }], rto := rto, timer := some (s.dev.vn + rto) }).tcpSend c x.seqTx [b]).xonCheck)) ∧
    (∀ b, x.timer = some v → x.tcp = true → v ≤ s.dev.vn → x.flight = [b] → x.sndWnd = 0 → x.probing = true →
      exec (.persistTimer c) s = .next (s.withDev ((s.dev.setConn c { x with rto := rto, timer := some (s.dev.vn + rto) }).tcpResend c).xonCheck)) ∧
    (x.timer = some v → x.tcp = false → v ≤ s.dev.vn → x.flight ≠ [] → exec (.ackTimeout c) s = .next (s.withDev (if bits x.img 42 40 ≤ x.tries then s.dev.connError c 4 0x503
      else (s.dev.setConn c { x with tries := x.tries + 1 }).goBack c).xonCheck)) ∧
    (x.rnrEnd = some v → v ≤ s.dev.vn → exec (.rnrWaitEnd c) s = .next (s.withDev ((s.dev.setConn c { x with rnrEnd := none }).goBack c).xonCheck)))
/-! ### Pitches and the Referee -/

/-- R436, R442, R444 to R449, R453 to R456, R458: a write of PIT_CTL waits for its record, whoever writes it; with the seal an operation on a pitch starts from its writer when none runs, outside LOCKDOWN, in a
state that allows it. A change of a pitch's state takes place with the seal of its record, and an operation whose pitch has its last state is then over. Each operation begins at the next boundary and ends
when its condition holds or its limit has passed. R465, R467, R470, R472, R475, R478 to R480: whistles, windows, fences, substitution, copies, repairs, self-tests, readmission and REF_CLEAR. -/
def Obligations.PitchesAndReferee : Prop :=
  (∀ (o : Origin) (p link tag : Nat) (s : State), p < 4096 → link < 4 → tag < 2 ^ 16 →
    ∀ r ∈ [((1 : Nat), (0 : Nat), Instr.bind o p tag), (2, 0, .resetDrain o p tag), (3, 0, .resetSquash o p tag), (4, 0, .freeze o p tag), (5, 0, .thaw o p tag),
      (6, link, .save o p link tag), (7, link, .restore o p link tag), (8, 0, .release o p tag)],
    (s.dev.hears o = true → exec r.2.2 s = .next (s.withDev (s.dev.holdWrite o .PIT_CTL 0 8 (pitWord r.1 p r.2.1 tag) Reg.PIT_CTL.ones))) ∧
    (s.dev.hears o = false → exec r.2.2 s = .next s)) ∧
  (∀ (d : Dev) (o : Origin) (op p link tag left : Nat), 1 ≤ op → op ≤ 8 → p < 4096 → link < 4 → tag < 2 ^ 16 →
    d.regFenced .PIT_CTL 0 = false → d.clocked 0x12 = true → o ≠ .device → o ≠ .referee → d.hears o = true →
    d.heldEffect ⟨o, Reg.PIT_CTL.key 0, pitWord op p link tag, Reg.PIT_CTL.ones, none⟩ left = d.pitCtl o (pitWord op p link tag)) ∧
  (∀ (d : Dev) (o : Origin) (p link tag : Nat), p < 4096 → link < 4 → tag < 2 ^ 16 →
    let st := d.pitState p
    ∀ r ∈ [((1 : Nat), d.bind o p tag), (2, d.pitBegin o (d.newOp 2 p link tag) 7), (3, d.pitBegin o (d.newOp 3 p link tag) 8), (4, d.pitBegin o (d.newOp 4 p link tag) 2),
      (5, d.thaw o p tag), (6, d.save o p link tag), (7, d.pitBegin o (d.newOp 7 p link tag) 6), (8, d.pitBegin o (d.newOp 8 p link tag) 10)],
    let e := d.pitCtl o (pitWord r.1 p link tag)
    (o.pitWriter = false → e = d.bump .TBL_CMD_FOREIGN 0) ∧ (o.pitWriter = true → d.pit.op.isSome = true → e = d.setFld .PIT_STATUS 0 7 4 1) ∧
    (o.pitWriter = true → d.pit.op = none →
      (d.mode = .lockdown → e = d.pitEnd tag 0xFD 5) ∧ (d.mode ≠ .lockdown → pitAllows r.1 st = false → e = d.pitEnd tag 0 2) ∧
      (d.mode ≠ .lockdown → pitAllows r.1 st = true → r.1 ≠ 1 → r.1 ≠ 8 → d.isFrozen 9 p = true → e = d.pitEnd tag 1 2) ∧
      (d.mode ≠ .lockdown → pitAllows r.1 st = true → r.1 = 1 ∨ r.1 = 8 ∨ d.isFrozen 9 p = false → e = r.2))) ∧
  (∀ (left : Nat) (e : LogEntry) (rest : List LogEntry) (p st : Nat) (s : State), s.dev.jnl.fail < 4 → s.dev.log.taken = e :: rest → p < 4096 → st < 16 →
    e.held = some ⟨.device, Reg.PIT_STATE.key p, st, 0xF, none⟩ →
    exec (.sealAck left) s = .next (s.withDev ((Dev.capSealed { s.dev with log := { s.dev.log with taken := rest } } e.id e.body.seq).pitSealed p st))) ∧
  (∀ (left : Nat) (e : LogEntry) (rest : List LogEntry) (u kind m : Nat) (s : State), s.dev.jnl.fail < 4 → s.dev.log.taken = e :: rest →
    e.held = some ⟨.referee, u, kind, m, none⟩ →
    exec (.sealAck left) s = .next (s.withDev ((Dev.capSealed { s.dev with log := { s.dev.log with taken := rest } } e.id e.body.seq).beginRepair u kind))) ∧
  (∀ (d : Dev) (p st : Nat), p < 4096 → st < 16 → let e := d.setFld .PIT_STATE p 3 0 st
    (∀ q, q < 4096 → e.pitState q = if q = p then st else d.pitState q) ∧
    (d.pit.op = none → d.pitSealed p st = e) ∧
    (∀ x, d.pit.op = some x →
      (x.pitch ≠ p → d.pitSealed p st = e) ∧
      (x.pitch = p → x.phase = 2 → x.last = st → x.op ≠ 5 → d.pitSealed p st = e.pitEnd x.tag x.detail x.result) ∧
      (x.pitch = p → x.phase = 2 → x.last = st → x.op = 5 → d.pitSealed p st = Dev.pitEnd { e with pit := { e.pit with thawed := some (p, e.vn) } } x.tag x.detail x.result) ∧
      (x.pitch = p → x.phase = 3 → st = 8 → d.pitSealed p st = (e.setPitOp { x with phase := 1 }).squashPitch p))) ∧
  (∀ (d : Dev) (o : Origin) (p st : Nat), (d.setPit o p st).regs = d.regs ∧ (d.setPit o p st).mem = d.mem ∧ (d.setPit o p st).rng = d.rng) ∧
  (∀ (d : Dev) (tag detail result : Nat), d.bcp.caps = [] → let e := d.pitEnd tag detail result
    e.pit.op = none ∧ ∀ q, q < 4096 → e.pitState q = d.pitState q) ∧
  (∀ s : State, s.dev.pit.op = none → ∀ i ∈ [Instr.pitchResetBegin, .drainEnd, .drainLimit, .squashEnd, .freezeBegin, .freezeEnd, .freezeLimit, .saveDone none, .releaseDone], exec i s = .next s) ∧
  (∀ (x : PitOp) (s : State), s.dev.pit.op = some x →
    (x.op = 2 ∨ x.op = 3 ∨ x.op = 8 → x.phase = 0 → x.since < s.dev.vn → s.dev.pitMoving x.pitch = false → exec .pitchResetBegin s = .next (s.withDev (s.dev.resetBegin x))) ∧
    (s.dev.vn ≤ x.since → exec .pitchResetBegin s = .next s ∧ exec .freezeBegin s = .next s) ∧
    (x.op = 2 → x.phase = 1 → s.dev.pitchItems x.pitch = [] → exec .drainEnd s = .next (s.withDev (s.dev.resetEnd x))) ∧
    (x.op = 2 → x.phase = 1 → x.since + s.dev.pitLimit .PIT_DRAIN_LIMIT ≤ s.dev.vn → exec .drainLimit s = .next (s.withDev
      (((s.dev.setPitOp { x with op := 3, phase := 3, result := 4, detail := s.dev.outstanding x.pitch }).bump .PIT_DRAIN_TIMEOUTS x.pitch).setPit .device x.pitch 8))) ∧
    (x.op = 3 → x.phase = 1 → s.dev.channelsSettled = true → s.dev.pitchDone x.pitch = true → exec .squashEnd s = .next (s.withDev (s.dev.resetEnd x))) ∧
    (x.op = 4 → x.phase = 0 → x.since < s.dev.vn → s.dev.pitMoving x.pitch = false → exec .freezeBegin s = .next (s.withDev
      (((s.dev.setPitOp { x with phase := 1, since := s.dev.vn }).closePitch x.pitch false).drainStep x.pitch))) ∧
    (x.op = 4 → x.phase = 1 → s.dev.pitchItems x.pitch = [] → exec .freezeEnd s = .next (s.withDev (s.dev.pitClose .device x 3 0 0))) ∧
    (x.op = 4 → x.phase = 1 → x.since + s.dev.pitLimit .PIT_FREEZE_LIMIT ≤ s.dev.vn → exec .freezeLimit s = .next (s.withDev
      ((s.dev.bump .PIT_DRAIN_TIMEOUTS x.pitch).pitClose .device x 1 (s.dev.outstanding x.pitch) 4))) ∧
    (x.op = 6 → x.phase = 0 → exec (.saveDone none) s = .next (s.withDev ((s.dev.wr .PIT_IMAGE_OUT 0 x.len).pitClose .device x 5 0 0)) ∧
      ∀ st, exec (.saveDone (some st)) s = .next (s.withDev (s.dev.pitClose .device x x.start st 7))) ∧
    (x.op = 7 → x.phase = 0 → (∀ st, exec (.restoreDone (.fail st)) s = .next (s.withDev ((if st = 1 then s.dev.countTimeout x.link else s.dev).pitClose .device x x.start st 7))) ∧
      (∀ bs r k, s.dev.restoreChecks x.pitch bs = .error (r, k) → exec (.restoreDone (.ok bs)) s = .next (s.withDev (s.dev.pitClose .device x x.start k r))) ∧
      (∀ bs y, s.dev.restoreChecks x.pitch bs = .ok y → exec (.restoreDone (.ok bs)) s = .next (s.withDev ((s.dev.install x.pitch y).pitClose .device x 3 0 0)))) ∧
    (x.op = 8 → x.phase = 1 → s.dev.channelsSettled = true → s.dev.pitchDone x.pitch = true → let t := (s.dev.releaseRings x.pitch).releaseKeys x.pitch
      exec .releaseDone s = .next (s.withDev ((t.wr .HIF_PMAP_ENTRY x.pitch (putBits (t.pmap x.pitch) 22 22 0)).pitClose .device x 0 0 0)))) ∧
  (∀ (w : WhistleMsg) (l : List WhistleMsg) (s : State), s.dev.whistles = w :: l → exec (.whistle none) s = .next (s.withDev (Dev.collect { s.dev with whistles := l } w))) ∧
  (∀ (c : UnitCheck) (s : State), c.wf = true → exec (.whistle (some c)) s = .next (s.withDev ((s.dev.whistle c.kind c.source c.addr c.detail).checkFailed c))) ∧
  (∀ (i : Nat) (s : State), i < 16384 → let kind := s.dev.fld .REF_WIN (2 * i) 31 24
    (s.dev.winDue i = false → exec (.windowEnd i) s = .next s) ∧
    (s.dev.winDue i = true → s.dev.fld .REF_WIN (2 * i) 47 32 = 0 → ∃ d, exec (.windowEnd i) s = .next (s.withDev d) ∧ d.rd .REF_WIN (2 * i) = 0 ∧ d.rd .REF_WIN (2 * i + 1) = 0 ∧ d.ref = s.dev.ref) ∧
    (s.dev.winDue i = true → s.dev.fld .REF_WIN (2 * i) 47 32 ≠ 0 → exec (.windowEnd i) s = .next (s.withDev (s.dev.setWin i (s.dev.fld .REF_WIN (2 * i) 23 0) kind 0 s.dev.vn)))) ∧
  (∀ s : State, s.dev.fenceNext = none → exec .fenceInForce s = .next s) ∧
  (∀ (x : FenceDue) (s : State), s.dev.fenceNext = some x →
    let t := Dev.fenceWork { s.dev with ref := { s.dev.ref with due := s.dev.ref.due.filter (fun y => decide (y ≠ x)), fenced := s.dev.ref.fenced ++ [x.unit] } } x.unit
    exec .fenceInForce s = .next (s.withDev (if hasBench x.unit then t.planSubst (servedPos s.dev x.unit) x.unit x.kind x.d else t))) ∧
  (∀ s : State, s.dev.substNext = none → exec .substitution s = .next s) ∧
  (∀ (x : Subst) (s : State), s.dev.substNext = some x → let t : Dev := { s.dev with ref := { s.dev.ref with subst := s.dev.ref.subst.filter (fun y => decide (y ≠ x)) } }
    (x.pos = none → exec .substitution s = .next (s.withDev (t.resolve x.unit))) ∧
    (∀ pos y, x.pos = some pos → x.taker = some y → t.benchFree y = true → exec .substitution s = .next (s.withDev (t.substitute x pos y))) ∧
    (∀ pos, x.pos = some pos → (x.taker = none ∨ ∃ y, x.taker = some y ∧ t.benchFree y = false) → exec .substitution s = .next (s.withDev (t.noTaker x pos)))) ∧
  (∀ (x y : Nat) (l : List (Nat × Nat)) (s : State), s.dev.ref.copies = (x, y) :: l →
    exec (.copyComplete []) s = .next (s.withDev (Dev.resolve { s.dev with ref := { s.dev.ref with copies := l } } x))) ∧
  (∀ (u : Nat) (s : State), s.dev.underRepair u = true → s.dev.repairDone u = true → exec (.repairComplete u) s = .next (s.withDev (Dev.resolve
    { s.dev with ref := { s.dev.ref with repairing := s.dev.ref.repairing.filter (fun e => decide (e.1 ≠ u)), lastRepair := Sparse.put s.dev.ref.lastRepair u (some s.dev.vn) } } u))) ∧
  (∀ (u : Nat) (s : State), s.dev.underTest u = true → (∀ d ∈ s.dev.ref.passed, d.unit ≠ u) → exec (.selfTestEnd u false) s = .next (s.withDev (s.dev.testFailed u)) ∧ ∃ d,
    exec (.selfTestEnd u true) s = .next (s.withDev d) ∧ d.ref = { s.dev.ref with passed := s.dev.ref.passed ++ [⟨u, 0, s.dev.vn, s.dev.log.nextId⟩] } ∧
    d.log.prio.length = s.dev.log.prio.length + 1 ∧ d.regs = s.dev.regs) ∧
  (∀ (x : FenceDue) (s : State), s.dev.readmitNext = some x → exec .readmission s = .next (s.withDev
    (Dev.readmit { s.dev with ref := { s.dev.ref with passed := s.dev.ref.passed.filter (fun y => decide (y ≠ x)) } } x.unit))) ∧
  (∀ s : State, s.dev.readmitNext = none → exec .readmission s = .next s) ∧
  (∀ (o : Origin) (s : State), s.dev.takesWrite o .REF_CLEAR 0 → exec (.refClear o) s = .next (s.withDev (s.dev.refClear o)))
/-! ### Journal, resets, power and Basecamp -/

/-- R491, R495, R496, R500, R502, R505, R506: checkpoints, resets at their boundary, replays, the steps of a power failure, the loss of power, the restore and DISCARD.
R511, R527 to R529, R535 to R540, R543: Basecamp's boot, watchdog, reboots and trials, the torn scan and the sensors, PWR_MODE, wakes, clocks and PLLs, and changes of mode. What each leads to is stated with the model's own operations; what `bad`, `cut`, `corrupt` and `raw` name is an input. -/
def Obligations.JournalAndPower : Prop :=
  (∀ (bad : List ItemRef) (s : State), (s.dev.ckptDue = false → exec (.checkpoint bad) s = .next s) ∧
    (s.dev.ckptDue = true → s.dev.jnl.ckptRun = none → exec (.checkpoint bad) s = .next (s.withDev (forEach bad s.dev Dev.loseRecord).journalLost.startCkpt)) ∧
    (s.dev.ckptDue = true → s.dev.jnl.ckptRun.isSome = true → exec (.checkpoint bad) s = .next (s.withDev
      (Dev.lateUnit { s.dev with jnl := { s.dev.jnl with ckptLate := true } } (unitId 0x10 0 0xFF))))) ∧
  (∀ (k v : Nat) (m : Sparse Word) (s : State), v < 2 ^ 64 → s.dev.jnl.ckptRun = some (k, v, m) → ∃ d, exec .checkpointDone s = .next (s.withDev d) ∧
    d.rd .JNL_CKPT_VN 0 = v ∧ d.jnl.ckpts = Sparse.put s.dev.jnl.ckpts k (some (v, m)) ∧ d.jnl.ckptRun.isSome = s.dev.jnl.ckptLate) ∧
  (∀ (o : Origin) (s : State), s.dev.takesWrite o .SITE_RESET 0 → 
    exec (.deviceWarmReset o) s = .next (s.withDev (match o with | .bar0 _ => s.dev.takeReset o none | .basecamp => s.dev.takeReset o none | _ => s.dev))) ∧
  (∀ (z : ResetRun) (bad : List ItemRef) (s : State), s.dev.resetNext = some z → exec (.resetBoundary bad) s = .next (s.withDev
    (forEach bad (match z.link with
      | some k => Dev.functionReset { s.dev with jnl := { s.dev.jnl with resets := s.dev.jnl.resets.filter (fun y => decide (y ≠ z)) } } k
      | none => Dev.warmReset { s.dev with jnl := { s.dev.jnl with resets := [] } }) Dev.loseRecord).journalLost)) ∧
  (∀ (bad : List ItemRef) (s : State), s.dev.resetNext = none → exec (.resetBoundary bad) s = .next s) ∧
  (∀ (r : Nat) (s : State), s.dev.jnl.replay.contains r = true → s.dev.replayOpen = true → ∃ d, exec (.replay r) s = .next (s.withDev d) ∧ d.jnl.replay.contains r = false ∧
    d.rng = (forEach (s.dev.journalLost.itemsOf r) s.dev.journalLost Dev.replayItem).rng ∧ d.regs = (forEach (s.dev.journalLost.itemsOf r) s.dev.journalLost Dev.replayItem).regs) ∧
  (∀ s : State, (s.dev.awake = true → s.dev.jnl.fail = 0 → exec .pwrfail s = .next (s.withDev { s.dev with jnl := { s.dev.jnl with fail := 1, failVn := s.dev.vn + 1 } })) ∧
    (s.dev.jnl.fail = 1 → s.dev.jnl.failVn ≤ s.dev.vn → ∃ d, exec .pwrfailBoundary s = .next (s.withDev d) ∧ d.jnl.fail = 2 ∧ d.jnl.failVn = s.dev.vn ∧ d.jnl.ckptRun = none ∧ d.bcp.caps = s.dev.bcp.caps.filter (fun c => c.stage ≠ 0) ∧
      d.regs = s.dev.regs ∧ d.rng = s.dev.rng ∧ d.frames = s.dev.frames) ∧
    (s.dev.jnl.fail = 2 → s.dev.jnl.failVn < s.dev.vn → s.dev.dor.releases = [] → ∃ d, exec .flushStart s = .next (s.withDev d) ∧ d.frames = [] ∧ d.jnl.fail = 3 ∧ d.regs = s.dev.regs ∧ d.rng = s.dev.rng ∧
      (¬ (s.dev.mode = .bringup ∧ s.dev.jnl.restored = false) → d.jnl.slots = (Dev.beginFlush { s.dev with frames := [] }).jnl.slots)) ∧
    (s.dev.jnl.fail = 3 → exec .flushed s = .next (s.withDev { s.dev.sealFlush with jnl := { s.dev.sealFlush.jnl with fail := 4 } })) ∧
    (s.dev.jnl.fail = 4 → s.dev.bcp.off = false → exec .pwrfailRecover s = .next (s.withDev s.dev.powerOn))) ∧
  (∀ (v : Nat) (o : Origin) (s : State), s.dev.jnl.fail ≠ 3 → s.dev.bcp.dormant = some (2, v, o) → exec .flushed s = .next (s.withDev
    { s.dev.sealFlush.dormantArm with bcp := { s.dev.sealFlush.dormantArm.bcp with dormant := some (3, s.dev.sealFlush.dormantArm.vn, o) } })) ∧
  (∀ (cut : Nat) (s : State), s.dev.bcp.off = false →
    exec (.powerLoss cut) s = .next (s.withDev (s.dev.cutRecords (if 2 ≤ s.dev.jnl.fail ∨ s.dev.mode = .dormant then 0 else min cut 4)).powerOn.unpower)) ∧
  (∀ (corrupt : List Nat) (s : State), s.dev.mode = .bringup → s.dev.bcp.off = false → s.dev.jnl.restored = false → s.dev.jnl.fail = 0 →
    (∀ x, s.dev.restoreImage corrupt = some x → exec (.journalRestore corrupt) s = .next (s.withDev (((s.dev.loadImage x).freshKeys.wr .JNL_RESTORE_VN 0 x.vn).restoreEnd 1))) ∧
    (s.dev.restoreImage corrupt = none → exec (.journalRestore corrupt) s = .next (s.withDev (s.dev.restoreEnd (if s.dev.jnl.slots.any (fun e => e.2.good) then 3 else 0))))) ∧
  (∀ (o : Origin) (s : State), s.dev.takesWrite o .JNL_CTL 0 → exec (.jnlDiscard o) s = .next (s.withDev s.dev.jnlDiscard)) ∧
  (∀ (v : Nat) (o : Origin) (s : State), s.dev.bcp.dormant = some (1, v, o) →
    (s.dev.rng.items = [] → ∃ d, exec .journalEmptyWaitEnd s = .next (s.withDev d) ∧ d.bcp.dormant = some (2, s.dev.vn, o) ∧ d.jnl = s.dev.beginFlush.jnl ∧ d.regs = s.dev.regs) ∧
    (s.dev.rng.items ≠ [] → v + 250000 ≤ s.dev.vn → exec .journalEmptyWaitEnd s = .next (s.withDev (s.dev.dormantAbandon 1)))) ∧
  (∀ s : State, s.dev.bcpRuns = true → s.dev.mode = .bringup → s.dev.tornRecs ≠ [] → ∃ d, exec .tornScan s = .next (s.withDev d) ∧
    d.rd .BCP_LOG_WIDX 0 = s.dev.tornRecs.foldl max 0 % 2 ^ 64 ∧ d.log.store = s.dev.log.store.map (fun (r : LogRec) => if s.dev.tornRecs.contains r.seq then { r with torn := true } else r)) ∧
  (∀ (raw : List Int) (s : State), s.dev.ticking = true → s.dev.vn % 25000 = 0 →
    exec (.sensorSample raw) s = .next (s.withDev (forEach ((List.range 104).zip raw) s.dev (fun s e => s.sample e.1 e.2)))) ∧
  (∀ (l : Nat) (s : State), s.dev.takesRead l .BCP_EVENT_LOG 0 → let a := s.dev.regRead (.bar0 l) .BCP_EVENT_LOG 0
    exec (.bcpEventLogRead l) s = .next (s.withDev (a.2.readReply (.bar0 l) 8 a.1))) ∧
  (∀ s : State, (s.dev.awake = true → s.dev.fld .BCP_STATUS 0 1 0 ≠ 2 → exec .lockstepMismatch s = .next (s.withDev ((s.dev.whistle 0x1B (unitId 0x0E 0 0) 0 1).bcpReboot 1))) ∧
    (s.dev.bcpRuns = true → s.dev.bcp.wdtAt + 25000 * max 10 (s.dev.fld .BCP_WDT 0 15 0) ≤ s.dev.vn → exec .watchdogExpiry s = .next (s.withDev (s.dev.bcpReboot 2))) ∧
    (s.dev.vn < s.dev.bcp.wdtAt + 25000 * max 10 (s.dev.fld .BCP_WDT 0 15 0) → exec .watchdogExpiry s = .next s) ∧
    (∀ slot, s.dev.awake = true → s.dev.fld .BCP_STATUS 0 1 0 ≠ 1 → s.dev.bootSlot = some slot → exec .basecampRunning s = .next (s.withDev (s.dev.bcpStart slot).startClusters)) ∧
    (∀ back, s.dev.bcp.trialBack = some back → s.dev.bcpRuns = true → s.dev.fld .BCP_STATUS 0 3 3 = 1 → s.dev.bcp.started + 125000000 ≤ s.dev.vn →
      exec .trialTimeout s = .next (s.withDev (s.dev.rollBack back)))) ∧
  (∀ (d : Dev) (cause : Nat), cause < 7 → let e := d.bcpReboot cause
    e.fld .BCP_STATUS 0 1 0 = 2 ∧ e.fld .BCP_STATUS 0 11 8 = cause ∧ e.bcp.caps = [] ∧ e.bcp.dormant = none ∧ e.rng = d.rng ∧ e.frames = d.frames) ∧
  (∀ (o : Origin) (v : Nat) (s : State), s.dev.takesWrite o .BCP_WDT 0 → v < 2 ^ 16 → ∃ d, exec (.wdtWrite o v) s = .next (s.withDev d) ∧ d.fld .BCP_WDT 0 15 0 = v ∧ d.bcp.wdtAt = s.dev.vn) ∧
  (∀ (o : Origin) (s : State), s.dev.takesWrite o .BCP_BOOT_CONFIRM 0 → exec (.bootConfirm o) s = .next (s.withDev (s.dev.bootConfirm o 1))) ∧
  (∀ (o : Origin) (v : Nat) (s : State), s.dev.takesWrite o .PWR_MODE 0 →
    exec (.pwrModeWrite o v) s = .next (s.withDev (s.dev.pwrMode o v))) ∧
  (∀ (d : Dev) (l v : Nat), d.pwrMode .basecamp v = d.setPwrMode (v % 2 ^ 9) ∧ d.pwrMode (.bar0 l) v = d.setPwrMode (v % 2 ^ 8 + d.fld .PWR_MODE 0 8 8 * 2 ^ 8) ∧
    ∀ c t, d.pwrMode (.thread c t) v = d) ∧
  (∀ s : State, exec .smbusAddressMatch s = .next (s.withDev (s.dev.wakeEvent 0)) ∧ exec .wakeIn s = .next (s.withDev (s.dev.wakeEvent 2))) ∧
  (∀ (port : Nat) (s : State), port < 2 → s.dev.bcp.perst.contains port = true → exec (.perstDeassert port) s = .next (s.withDev
    (Dev.wakeEvent { s.dev with bcp := { s.dev.bcp with perst := s.dev.bcp.perst.filter (fun p => !decide (p = port)) } } 1))) ∧
  (∀ (d : Dev) (b : Nat), b < 3 → d.bcp.off = false → d.bcp.armed = true → d.mode ≠ .dormant → (d.wakeEvent b).fld .PWR_WAKE_STATUS 0 b b = 1 ∧ (d.wakeEvent b).bcp = d.bcp) ∧
  (∀ d : Dev, d.wake.rd .SITE_MODE 0 = 0x512 ∧ d.wake.rd .PWR_MODE 0 = 0 ∧ d.wake.mode = .bringup) ∧
  (∀ (o : Origin) (en : Bool) (s : State), s.dev.takesWrite o .CLK_PLL_CTL 0 → exec (.pllEnable o en) s = .next (s.withDev (s.dev.pllCtl (b2n en)))) ∧
  (∀ s : State, s.dev.bcp.pll.isSome = true → ∃ d, exec .pllLock s = .next (s.withDev d) ∧ d.rd .CLK_PLL_STATUS 0 = 1 ∧ d.bcp.pll = none) ∧
  (∀ (o : Origin) (k v : Nat) (s : State), k < 19 → s.dev.takesWrite o .CLK_SRC k → exec (.clkSrcWrite o k v) s = .next (s.withDev (s.dev.clkSrc k v))) ∧
  (∀ (d : Dev) (k v : Nat), k < 19 → v < 4 →
    d.clkSrc k v = (if v = 3 ∨ (v = 2 ∧ d.rd .CLK_PLL_STATUS 0 ≠ 1) ∨ (v = 1 ∧ k ≠ 0x00 ∧ k ≠ 0x0E ∧ k ≠ 0x11 ∧ k ≠ 0x12)
      then d.bump .CLK_SRC_DROPPED 0 else d.wr .CLK_SRC k v)) ∧
  (∀ (a b : Bool) (pkg : Nat) (s : State), s.dev.bcp.off = true → ∃ d, exec (.powerOnRelease a b pkg) s = .next (s.withDev d) ∧ d.bcp.pkg = pkg % 8 ∧ d.regs = ((s.dev.powerOn.strapPort 0 a).strapPort 1 b).regs) ∧
  (∀ (r : ModeReq) (s : State), s.dev.modeNext = some r → exec .modeChange s = .next (s.withDev (if r.newMode = .dormant then s.dev.sleepNow r else s.dev.takeMode r))) ∧
  (∀ s : State, s.dev.modeNext = none → exec .modeChange s = .next s)
/-! ### Management messages and firmware update -/

/-- R408, R511, R520 to R522, R534: an SPDM, MCTP, PLDM or NC-SI message that reaches the device is answered NOT_READY while Basecamp does not run, and is otherwise carried out; the firmware update moves through its
stages. The answers are Config.standardReply of the request and of what is reported (log entry 45), the completion codes of the update are PRESUMED (log entry 46), and nonces and the open parts of two answers are free values. -/
def Obligations.ManagementCommands : Prop :=
  (∀ (p : MsgPath) (s : State),
    (∀ k, p = .doe k → k < 4 ∧ s.dev.linkUp k = true ∧ s.dev.bcpRuns = true) → (∀ k e, p = .vdm k e → k < 4 ∧ s.dev.linkUp k = true) → s.dev.mgmtUp = true →
    let served (i : Instr) (run : Dev → Dev) : Prop := exec i s = .next (s.withDev (if s.dev.bcpRuns then run s.dev else s.dev.replyBytes 0xB []))
    (∀ req, served (.getVersion p req) (fun d => d.spdm 0x84 req [[0x12], [0x13]]) ∧ served (.getCapabilities p req) (fun d => d.spdm 0xE1 req []) ∧
      served (.negotiateAlgorithms p req) (fun d => d.spdm 0xE3 req []) ∧ served (.getDigests p req) (fun d => d.spdm 0x81 req [Config.sha384 Config.certChain]) ∧
      served (.getCertificate p req) (fun d => d.spdm 0x82 req [Config.certChain]) ∧ served (.challenge p req) (fun d => d.spdmSigned 0x83 req [Config.sha384 Config.certChain]) ∧
      (∀ i, served (.getMeasurements p i req) (fun d => d.spdmSigned 0xE0 req (s.dev.measured i))) ∧
      (s.dev.bcpRuns = true → ∃ n, exec (.mctpControl p req) s = .next (s.withDev (s.dev.draw.2.replyBytes 0 (Config.standardReply 0 0 req [leBytes 8 n]))))) ∧
    (∀ i, i < 104 → served (.pldmSensorRead p i) (fun d => d.replyBytes 0 (leBytes 4 (s.dev.rd .BCP_SENSOR i)))) ∧
    ((∀ k, p ≠ .doe k) → s.dev.bcpRuns = true →
      let u := s.dev.bcp.upd
      exec (.queryDeviceIdentifiers p) s = .next (s.withDev (s.dev.replyBytes 0 (Config.standardReply 1 1 [] [leBytes 2 0xE7A5]))) ∧
      exec (.getFirmwareParameters p) s = .next (s.withDev (s.dev.replyBytes 0 (Config.standardReply 1 2 [] [leBytes 2 0xA, leBytes 2 1, (s.dev.runningHead.drop 8).take 4]))) ∧
      exec (.getStatus p) s = .next (s.withDev (s.dev.replyBytes 0 [BitVec.ofNat 8 ((u.map Upd.stage).getD 0)])) ∧
      exec (.requestUpdate p) s = .next (s.withDev (if s.dev.mode = .lockdown then s.dev.replyBytes 0x8A [] else match u with
        | none => s.dev.recorded p 0x10 ⟨0, 0, 0, none⟩ id
        | some x => if x.stage = 0 then s.dev.recorded p 0x10 x (fun d => (d.setUpd (some ⟨1, 0, 0, none⟩)).replyBytes 0 []) else s.dev.replyBytes 0x81 [])) ∧
      (u = none → ∀ i ∈ [Instr.passComponentTable p, .updateComponent p 0, .requestFirmwareData p [], .transferComplete p, .verifyComplete p, .applyComplete p, .activateFirmware p,
        .cancelUpdateComponent p, .cancelUpdate p], exec i s = .next (s.withDev (s.dev.replyBytes 0x80 []))) ∧
      ∀ x, u = some x →
        let at' (i : Instr) (ok : Prop) (d : Dev) : Prop := (ok → exec i s = .next (s.withDev d)) ∧ (¬ ok → exec i s = .next (s.withDev (s.dev.replyBytes 0x84 [])))
        at' (.passComponentTable p) (x.stage = 1) ((s.dev.setUpd (some { x with stage := 2 })).replyBytes 0 []) ∧
        (∀ size, at' (.updateComponent p size) (x.stage = 2) ((s.dev.setUpd (some ⟨3, size, 0, none⟩)).replyBytes 0 [])) ∧
        (∀ data, at' (.requestFirmwareData p data) (x.stage = 3) (if data.length < 256 ∨ 4096 < data.length then s.dev.replyBytes 0x83 [] else if 2 ≤ s.dev.jnl.fail then s.dev
          else let bs := data.take (min (x.size - x.got) (0x1000000 - x.got))
            ((s.dev.flashWrite (0x100000 + (1 - s.dev.bcp.active) * 0x1000000 + x.got) bs).setUpd (some { x with got := x.got + bs.length })).replyBytes 0 [])) ∧
        at' (.transferComplete p) (x.stage = 3 ∧ x.size ≤ x.got) ((s.dev.setUpd (some { x with stage := 4 })).replyBytes 0 []) ∧
        at' (.verifyComplete p) (x.stage = 4) (match s.dev.imageVerdict 1 (s.dev.slotImage (1 - s.dev.bcp.active)) with
          | (0, _) => (s.dev.setUpd (some { x with stage := 5 })).replyBytes 0 [0]
          | (st, k) => (s.dev.setUpd none).emit (.reply 0 [1, st, k])) ∧
        at' (.applyComplete p) (x.stage = 5) (s.dev.recorded p 0x18 x (fun d => (d.setUpd (some { x with stage := 6, recNo := none })).replyBytes 0 [])) ∧
        at' (.activateFirmware p) (x.stage = 6) (s.dev.recorded p 0x1A x Dev.activate) ∧
        at' (.cancelUpdateComponent p) (3 ≤ x.stage) ((s.dev.dropUpdate.setUpd (some ⟨2, 0, 0, none⟩)).replyBytes 0 []) ∧
        at' (.cancelUpdate p) (1 ≤ x.stage) (s.dev.dropUpdate.replyBytes 0 []))) ∧
  (∀ (d : Dev) (p : MsgPath) (cmd : Nat) (x : Upd) (run : Dev → Dev), d.jnl.fail < 2 →
    (∀ n, x.recNo = some n → d.recorded p cmd x run = if d.isSealed n then run d else d) ∧
    (x.recNo = none → (d.recorded p cmd x run).bcp.upd = some { x with recNo := some d.log.nextId } ∧ (d.recorded p cmd x run).log.ord.length = d.log.ord.length + 1)) ∧
  (∀ (d : Dev) (code : Nat) (req : List Byte) (l : List (List Byte)), ∃ n, d.spdmSigned code req l =
    d.draw.2.spdm code req (leBytes 32 n :: Config.signature (req ++ leBytes 32 n ++ l.flatten) :: l)) ∧
  (∀ (ch : Nat) (s : State), s.dev.mgmtUp = true → s.dev.bcpRuns = true → let pkg := s.dev.bcp.pkg
    (∀ cmd req, ch < 32 → ∃ n, exec (.ncsiCommand pkg ch cmd req) s = .next (s.withDev (s.dev.draw.2.replyBytes 0 (Config.standardReply 0x100 cmd req [leBytes 8 n])))) ∧
    (ch < 31 → (let a := s.dev.read4 (.ncsi ch) (Reg.WIRE_PORT_STATUS.bar0 ch)
        exec (.getLinkStatus pkg ch) s = .next (s.withDev (a.2.replyBytes 0 (leBytes 4 a.1)))) ∧
      exec (.ncsiGetCapabilities pkg ch) s = .next (s.withDev (s.dev.replyBytes 0 (leBytes 4 0))) ∧
      exec (.enableChannelNetworkTx pkg ch) s = .next (s.withDev (s.dev.replyBytes 3 [])) ∧
      (∀ mfr word buf early n, mfr ≠ 0xE7A5 → exec (.oemCommand pkg ch mfr word buf early n) s = .next (s.withDev (s.dev.replyBytes 3 []))) ∧
      (∀ word buf early n, word % 2 ^ 16 = 0x0002 → exec (.oemCommand pkg ch 0xE7A5 word buf early n) s = exec (.siteInfo (.path (.ncsi ch) word)) s) ∧
      ∀ word buf early n, word % 2 ^ 16 = 0x0701 → exec (.oemCommand pkg ch 0xE7A5 word buf early n) s = exec (.dorLoad (.path (.ncsi ch) word) (.ok buf)) s))
/-! ### The machine: the queue, reset, and every command -/

/-- A step takes the command at the front of the queue and runs it on the state with the queue's rest (the model's own form: log entry 1). -/
def Obligations.StepRunsFront : Prop :=
  ∀ (s : State) (c : Instr) (rest : List Instr), s.pending = c :: rest → step s = exec c { s with pending := rest }

/-- On an empty queue the block idles (the model's choice: log entry 1). -/
def Obligations.StepIdles : Prop :=
  ∀ s : State, s.pending = [] → step s = .next s

/-- R13, R32: right after power-on every register reads as its Reset column says, the mode is BRINGUP entered from DORMANT with CAUSE 0x05, and SITE_MODE_VN is 0.
The number of VN at power-on is the reset value of CLK_VN. -/
def Obligations.ResetRegisters : Prop :=
  (∀ (r : Reg) (i : Nat), i < 2 ^ 24 → State.reset.dev.rd r i = Reg.resetAt r i % 2 ^ 64) ∧
  State.reset.dev.rd .SITE_MODE 0 = 0x512 ∧ State.reset.dev.mode = .bringup ∧ State.reset.dev.rd .SITE_MODE_VN 0 = 0 ∧
  State.reset.dev.vn = 0

/-- R36, R230, R483: right after power-on the MODE record of the power-up waits for the Logbook writer, every thread context is FREE, no pitch is bound and nothing
is inside; the queue of commands is empty and the memories are in their canonical form (the model's own: log entries 1 and 16). -/
def Obligations.ResetState : Prop :=
  State.reset.dev.log.prio.map (·.body) = [powerUpRec] ∧ State.reset.dev.log.ord = [] ∧ (∀ k, (State.reset.dev.ctx k).st = 0) ∧
  State.reset.dev.frames = [] ∧ State.reset.pending = [] ∧ State.reset.queueOk = true ∧ State.reset.memOk = true

/-- Every command whose operands name objects that the device has is carried out or turned away as the spec says: no meaning ends in a fault or a refusal, and none
touches the commands that wait. -/
def Obligations.EveryCommandRuns : Prop :=
  ∀ (c : Instr) (s : State), c.wf = true → ∃ d, exec c s = .next (s.withDev d)

/-- The queue invariant: from every state whose waiting commands are well formed, the step answers a next state, whose waiting commands are the rest of the queue, again all
well formed. -/
def Obligations.QueueStaysSafe : Prop :=
  ∀ s : State, s.queueOk = true → ∃ t, step s = .next t ∧ t.pending = s.pending.tail ∧ t.queueOk = true

/-- A run of as many steps as commands wait carries out all of them and ends with an empty queue, in which the block idles. -/
def Obligations.QueueDrains : Prop :=
  ∀ (s : State) (n : Nat), s.queueOk = true → ∃ t, Sys2Proof.core.run (s.pending.length + n) s = .next t ∧ t.pending = [] ∧
    Sys2Proof.core.run s.pending.length s = .next t

/-- R10, R549: a register's place in BAR0 names the register: the element found at the place of element i of a register is element i, at its first byte. -/
def Obligations.RegisterPlace : Prop :=
  ∀ (r : Reg) (i : Nat), r.info.cls < 99 → i < dimCount r.info.dims → r.hit (r.bar0 i) = some (r, i, 0)
end

