-- ==== Sys2Proof/Laws/Dorut.lean ====
section
/-! SUPPORT. What the shared operations of the instruction commands do, each said once: issue, an illegal word, the end of an
instruction of fixed and of variable latency, a jump. -/

namespace Sys2Proof.Machine

open Host

theorem Dev.countIssue_mem (s : Dev) (k : Nat) : (s.countIssue k).mem = s.mem := by
  unfold Dev.countIssue
  split
  · rfl
  · obtain ⟨c, f, h⟩ := s.takeCycle_eq k
    rw [h]; rfl

theorem Dev.countIssue_vn (s : Dev) (k : Nat) : (s.countIssue k).vn = s.vn := by
  unfold Dev.countIssue
  split
  · rfl
  · obtain ⟨c, f, h⟩ := s.takeCycle_eq k
    rw [h]; rfl

/-- The count of an issue changes no other register. -/
theorem Dev.rd_countIssue (s : Dev) {k i : Nat} {q : Reg} (hk : k ≤ 2048) (hi : i < 2 ^ 24) (hq : q ≠ .DOR_CTX_ISSUED) :
    (s.countIssue k).rd q i = s.rd q i := by
  unfold Dev.countIssue
  split
  · rfl
  · obtain ⟨c, f, h⟩ := s.takeCycle_eq k
    rw [h]
    show ((s.bump .DOR_CTX_ISSUED k).reg q i).toNat = _
    rw [Dev.bump, Dev.add, Dev.reg_setReg, if_neg]
    · rfl
    · rw [Reg.key_inj _ _ _ _ hi (by omega)]
      exact fun h => hq h.1

theorem Dev.physCore_countIssue (s : Dev) {k c l : Nat} (hk : k ≤ 2048) (hi : 32 * c + l < 2 ^ 24) :
    (s.countIssue k).physCore c l = s.physCore c l := by
  unfold Dev.physCore Dev.fld
  rw [Dev.rd_countIssue s hk hi (by decide)]

theorem Dev.ownRead_countIssue (s : Dev) {k off n : Nat} (hk : k ≤ 2048) :
    (s.countIssue k).ownRead k off n = s.ownRead k off n := by
  simp [Dev.ownRead, Dev.localRead, Dev.countIssue_mem, s.physCore_countIssue hk (by omega : 32 * (k / 256) + k % 256 / 8 < 2 ^ 24)]

@[simp] theorem Dev.fetchWord_countIssue (s : Dev) {k : Nat} (hk : k ≤ 2048) : (s.countIssue k).fetchWord k = s.fetchWord k := by
  simp [Dev.fetchWord, Dev.localRead, Dev.countIssue_mem, s.physCore_countIssue hk (by omega : 32 * (k / 256) + k % 256 / 8 < 2 ^ 24)]

/-- What an instruction command does to a context that may issue its word. -/
theorem Dev.run_issue {s : Dev} {k word : Nat} {legal onBcp : Bool} (body : Dev → Dev) (h : s.mayIssue k word) :
    s.run k word legal onBcp body = .next
      (if legal = false ∨ (k = 2048 ∧ onBcp = false) then (s.countIssue k).raise k 1 0 word else body (s.countIssue k)) := by
  obtain ⟨h1, h2, h3, h4⟩ := h
  have : ¬ 2048 < k := by omega
  simp [Dev.run, Dev.otherWord, Dev.dispatch, this, h1, h2, h3, h4]

/-- A legal instruction of a context that may issue takes its effect on the device that has counted it. -/
theorem Dev.run_ok {s : Dev} {k word : Nat} {onBcp : Bool} (body : Dev → Dev) (h : s.mayIssue k word)
    (hb : onBcp = true ∨ k ≠ 2048) : s.run k word true onBcp body = .next (body (s.countIssue k)) := by
  rw [Dev.run_issue body h, if_neg]
  rintro (h | ⟨hk, hf⟩)
  · cases h
  · rcases hb with hb | hb
    · simp [hb] at hf
    · exact hb hk

/-- The same of the command: what it leaves is what its body makes of the device that has counted the issue. -/
theorem State.act_run {s : State} {k word : Nat} {onBcp : Bool} {body : Dev → Dev} {d : Dev} (h : s.dev.mayIssue k word)
    (hb : onBcp = true ∨ k ≠ 2048) (hd : body (s.dev.countIssue k) = d) :
    s.act (fun t => t.run k word true onBcp body) = .next (s.withDev d) :=
  State.act_next (f := fun t => t.run k word true onBcp body) (hd ▸ Dev.run_ok body h hb)

/-- An illegal word raises ILLEGAL with the word in DETAIL. -/
theorem Dev.run_bad {s : Dev} {k word : Nat} {legal onBcp : Bool} (body : Dev → Dev) (h : s.mayIssue k word) (hl : legal = false) :
    s.run k word legal onBcp body = .next ((s.countIssue k).raise k 1 0 word) := by
  rw [Dev.run_issue body h, if_pos (.inl hl)]

/-- An instruction command answers a next state for every context that exists. -/
theorem Dev.run_next (s : Dev) (k word : Nat) (legal onBcp : Bool) (body : Dev → Dev) (h : k ≤ 2048) :
    ∃ d, s.run k word legal onBcp body = .next d := by
  unfold Dev.run
  have : ¬ 2048 < k := by omega
  simp only [this, if_false]
  split <;> exact ⟨_, rfl⟩

theorem Ctx.setReg_pc (x : Ctx) (n : Nat) (v : Word) : (x.setReg n v).pc = x.pc := by
  unfold Ctx.setReg; split <;> rfl

theorem Dev.gr_countIssue (s : Dev) (k : Nat) (n : Fin 32) : (s.countIssue k).gr k n = (s.ctx k).reg n.val := by simp [Dev.gr]

/-- The end of an instruction of fixed latency that writes a register. -/
theorem Dev.fixed_countIssue (s : Dev) (k : Nat) (rd : Fin 32) (v : Word) :
    (s.countIssue k).fixed k rd v = s.afterIssue k ((s.ctx k).wrote rd v) := by
  simp [Dev.fixed, Dev.afterIssue, Ctx.wrote, Ctx.setReg_pc]

/-- The end of one that writes no register. -/
theorem Dev.skip_countIssue (s : Dev) (k : Nat) :
    (s.countIssue k).skip k = s.afterIssue k { s.ctx k with pc := (s.ctx k).pc + 4 } := by
  simp [Dev.skip, Dev.afterIssue]

/-- The issue of one of variable latency by a thread. -/
theorem Dev.vary_countIssue (s : Dev) (k : Nat) (r : Res) (h : k ≠ 2048) :
    (s.countIssue k).vary k r = s.afterIssue k ((s.ctx k).awaits r) := by
  simp [Dev.vary, Dev.afterIssue, Ctx.awaits, h]

end Sys2Proof.Machine
end

