-- ==== Sys2Proof/Laws/Registers.lean ====
section
/-! SUPPORT. What a register write of an origin does, said once: it is not heard, it is held behind its record, or it takes its effect at
once; and what a held write leaves as it is. -/

namespace Sys2Proof.Machine

open Host

/-- A write that takes effect at once has just the effect of its register. -/
theorem Dev.regWrite_ok {s : Dev} {o : Origin} {r : Reg} {i : Nat} (h : s.takesWrite o r i) (w v : Nat) (body : Dev → Dev) :
    s.regWrite o r i w v body = body s := by
  obtain ⟨h1, h2, h3, h4⟩ := h
  simp [Dev.regWrite, Dev.reach, h1, h2, h3, h4]

/-- A write that waits for its record is held, and has no effect yet. -/
theorem Dev.regWrite_held {s : Dev} {o : Origin} {r : Reg} (h : s.hears o = true) (hr : o.recorded r = true) (i w v : Nat) (body : Dev → Dev) :
    s.regWrite o r i w v body = s.holdWrite o r i w v r.ones := by simp [Dev.regWrite, h, hr]

/-- A write that the device does not hear does nothing. -/
theorem Dev.regWrite_deaf {s : Dev} {o : Origin} (h : s.hears o = false) (r : Reg) (i w v : Nat) (body : Dev → Dev) :
    s.regWrite o r i w v body = s := by simp [Dev.regWrite, h]

/-- Every write from BAR0 waits for its record (R523). -/
@[simp] theorem Origin.recorded_bar0 (l : Nat) (r : Reg) : (Origin.bar0 l).recorded r = true := rfl

/-- A write of PIT_CTL waits for its record, whoever writes it (R442). -/
@[simp] theorem Origin.recorded_pit (o : Origin) : o.recorded .PIT_CTL = true := by cases o <;> rfl

end Sys2Proof.Machine
end

