-- ==== Sys2Proof/Laws/Tables.lean ====
section
/-! SUPPORT. The laws of a table entry and of a counter pair read after a write. -/

namespace Sys2Proof.Machine

/-- The stored form of an entry holds the same images for every epoch. -/
@[simp] theorem TblEntry.norm_at (e : TblEntry) (n : Nat) : e.norm.at n = e.at n := by
  unfold TblEntry.norm
  split
  · rename_i k h
    simp only [TblEntry.at, h]
    by_cases hk : k ≤ n <;> simp [hk]
  · rfl

theorem Dev.entry_setEntry (s : Dev) (c i d j : Nat) (e : TblEntry) (hi : i < 2 ^ 32) (hj : j < 2 ^ 32) :
    (s.setEntry c i e).entry d j = if d = c ∧ j = i then e.norm else s.entry d j := by
  unfold Dev.entry Dev.setEntry
  simp only [Sparse.get_set]
  have : (entKey d j = entKey c i) = (d = c ∧ j = i) := by
    simp only [entKey, eq_iff_iff]; omega
  simp only [this]

theorem TblEntry.at_single (e : TblEntry) (v n : Nat) : ({ e with images := [(0, v)] } : TblEntry).at n = v := by
  simp [TblEntry.at]

/-- A counter pair after an addition: each half modulo 2^64, every other pair as before (R137, R279). -/
theorem Dev.pair_ctrAdd (s : Dev) (i j p b : Nat) (hi : i < 2 ^ 32) (hj : j < 2 ^ 32) :
    (s.ctrAdd i p b).pair j = if j = i
      then (bits (s.pair i) 63 0 + p) % 2 ^ 64 + (bits (s.pair i) 127 64 + b) % 2 ^ 64 * 2 ^ 64 else s.pair j := by
  unfold Dev.ctrAdd Dev.pair
  generalize hv : (bits ((s.entry 5 i).at 0) 63 0 + p) % 2 ^ 64 + (bits ((s.entry 5 i).at 0) 127 64 + b) % 2 ^ 64 * 2 ^ 64 = v
  rw [Dev.entry_setEntry _ _ _ _ _ _ hi hj]
  by_cases h : j = i
  · rw [if_pos ⟨rfl, h⟩, if_pos h, TblEntry.norm_at, TblEntry.at_single]; exact hv
  · rw [if_neg (fun x => h x.2), if_neg h]

end Sys2Proof.Machine
end

