-- ==== Sys2Proof/Tests/Slice0.lean ====
section
/-! SUPPORT. The tests of the model and the witnesses of the statements' hypotheses. Expected values come from the spec's tables and examples,
or are worked out from them by hand. -/

namespace Sys2Proof.Tests

open Sys2Proof Sys2Proof.Machine

-- One theorem after another: each is evaluated by the kernel, and many at once would need a thread each.
set_option Elab.async false

/-! ### What is not well formed is refused -/

/-- Ill-formed commands, one for each check. -/
theorem test_refuses_bad_commands_0 : ([
   .volleyBoundary [0x130000] false,
   .clkAdj (.bar0 4) 0,
   .clkTimeLoad (.bar0 4) 0 0,
   .rwsWrite (.bar0 4) 0 0 0,
   .apply (.bar0 4) 0 0 0 false,
   .apply .basecamp 40 0 0 false,
   .apply .basecamp 0 32 0 false,
   .apply .basecamp 0 0 65536 false,
   .discard (.bar0 4) 0 0 0,
   .discard .basecamp 40 0 0,
   .discard .basecamp 0 32 0,
   .discard .basecamp 0 0 65536,
   .applied [32],
   .setMode (.ring ⟨65536, 0⟩),
   .receiveFrame 32 [] false false 0 0,
   .pauseFrameReceived 32 false [],
   .pauseQuantaExpiry 32 0,
   .pauseQuantaExpiry 0 8,
   .transmitFrame 32 0 0,
   .portReset (.bar0 4) 0,
   .portReset .basecamp 32,
   .txDrainEnd 32 false,
   .trainingStart 32,
   .linkUp 32,
   .trainingRetry 32,
   .linkDown 32 false,
   .retrain (.bar0 4) 0,
   .retrain .basecamp 32,
   .retrainComplete 32,
   .fecWindowEnd 32 0 0 0,
   .tsTxPop (.bar0 4) 0,
   .tsTxPop .basecamp 32,
   .calWrite (.ring ⟨65536, 0⟩) (.ok []),
   .egressPipeline 33280 [],
   .epcCommit (.bar0 4) 0 false false,
   .epcCommit .basecamp 65536 false false,
   .epcModeWrite (.bar0 4) 0,
   .readIndex (.bar0 4) 0 0 0 false,
   .readIndex .basecamp 16 0 0 false,
   .readIndex .basecamp 0 0 65536 false,
   .writeIndex (.bar0 4) 0 0 0,
   .writeIndex .basecamp 16 0 0,
   .writeIndex .basecamp 0 0 65536,
   .insert (.bar0 4) 0 0 0,
   .insert .basecamp 16 0 0,
   .insert .basecamp 0 0 65536,
   .delete (.bar0 4) 0 0 0,
   .delete .basecamp 16 0 0,
   .delete .basecamp 0 0 65536,
   .search (.bar0 4) 0 0 0,
   .search .basecamp 16 0 0,
   .search .basecamp 0 0 65536,
   .update (.bar0 4) 0 0 0,
   .update .basecamp 16 0 0,
   .update .basecamp 0 0 65536,
   .tblCmdComplete 16,
   .tblParityLogRead 4,
   .tblFrozenLogRead 4,
   .pathDeliver 8 0,
   .spillReadback 33280] : List Instr).any Instr.wf = false := by decide

/-- Ill-formed commands, one for each check. -/
theorem test_refuses_bad_commands_1 : ([
   .pathBarrierEnd 256,
   .holdExpiry 32,
   .pfcRefresh 32 0,
   .pfcRefresh 0 8,
   .mcAccRead (.bar0 4) false 0,
   .mcAccWrite (.bar0 4) false 0,
   .puntHandover 8 0 false,
   .rsqSkip 8 0,
   .rsqSkip 0 4096,
   .rsqStall 8 0,
   .rsqStall 0 4096,
   .scheduleFrame 46 0 false,
   .gateTransition 32,
   .gateChange (.bar0 4) 0 0 false,
   .gateChange .basecamp 32 0 false,
   .gateChange .basecamp 0 65536 false,
   .gateCancel (.bar0 4) 0 0,
   .gateCancel .basecamp 32 0,
   .gateCancel .basecamp 0 65536,
   .gateSwap 32,
   .shaperWrite (.bar0 4) 0,
   .shaperRead (.bar0 4) 0,
   .shaperStateRead (.bar0 4) 0,
   .policerWrite (.bar0 4) 0,
   .policerRead (.bar0 4) 0,
   .policerStateRead (.bar0 4) 0,
   .timerFire 2049,
   .resultReturn 2049,
   .eventStall 8 0,
   .eventStall 0 32,
   .eventStallEscalate 8 0,
   .eventStallEscalate 0 32,
   .threadResume (.bar0 4) 0 0 false 0,
   .threadResume .basecamp 8 0 false 0,
   .threadResume .basecamp 0 256 false 0,
   .threadResume .basecamp 0 0 false 65536,
   .threadRestart (.bar0 4) 0 0 0,
   .threadRestart .basecamp 8 0 0,
   .threadRestart .basecamp 0 256 0,
   .threadRestart .basecamp 0 0 65536,
   .threadKill (.bar0 4) 0 0 0,
   .threadKill .basecamp 8 0 0,
   .threadKill .basecamp 0 256 0,
   .threadKill .basecamp 0 0 65536,
   .threadHalt (.bar0 4) 0 0 0,
   .threadHalt .basecamp 8 0 0,
   .threadHalt .basecamp 0 256 0,
   .threadHalt .basecamp 0 0 65536,
   .threadStart (.bar0 4) 0 0 0,
   .threadStart .basecamp 8 0 0,
   .threadStart .basecamp 0 256 0,
   .threadStart .basecamp 0 0 65536,
   .coreRestart (.bar0 4) 0 0 0,
   .coreRestart .basecamp 8 0 0,
   .coreRestart .basecamp 0 256 0,
   .coreRestart .basecamp 0 0 65536,
   .coreCtlRestart (.bar0 4) 0 0,
   .coreCtlRestart .basecamp 8 0,
   .coreCtlRestart .basecamp 0 32,
   .stepRelease 8] : List Instr).any Instr.wf = false := by decide

/-- Ill-formed commands, one for each check. -/
theorem test_refuses_bad_commands_2 : ([
   .benchCoreRestart 8 0,
   .benchCoreRestart 0 32,
   .fqPop (.bar0 4) 0,
   .fqPop .basecamp 8,
   .nqPop (.bar0 4) 0,
   .nqPop .basecamp 8,
   .quiesce (.bar0 4) 0,
   .quiesce .basecamp 8,
   .quiesceRelease (.bar0 4) 0,
   .quiesceRelease .basecamp 8,
   .clusterWake 8,
   .add 2049 0 0 0,
   .sub 2049 0 0 0,
   .and 2049 0 0 0,
   .or 2049 0 0 0,
   .xor 2049 0 0 0,
   .sll 2049 0 0 0,
   .srl 2049 0 0 0,
   .sra 2049 0 0 0,
   .slt 2049 0 0 0,
   .sltu 2049 0 0 0,
   .min 2049 0 0 0,
   .max 2049 0 0 0,
   .minu 2049 0 0 0,
   .maxu 2049 0 0 0,
   .mul 2049 0 0 0,
   .mulh 2049 0 0 0,
   .mulhu 2049 0 0 0,
   .div 2049 0 0 0,
   .divu 2049 0 0 0,
   .rem 2049 0 0 0,
   .remu 2049 0 0 0,
   .bswap 2049 0 0 0,
   .popc 2049 0 0 0,
   .clz 2049 0 0 0,
   .ctz 2049 0 0 0,
   .addi 2049 0 0 0,
   .andi 2049 0 0 0,
   .ori 2049 0 0 0,
   .xori 2049 0 0 0,
   .slti 2049 0 0 0,
   .sltiu 2049 0 0 0,
   .shi 2049 0 0 0,
   .lih 2049 0 0,
   .adr 2049 0 0,
   .ldB 2049 0 0 0 false,
   .ldH 2049 0 0 0 false,
   .ldW 2049 0 0 0 false,
   .ldD 2049 0 0 0 false,
   .ldBu 2049 0 0 0 false,
   .ldHu 2049 0 0 0 false,
   .ldWu 2049 0 0 0 false,
   .stB 2049 0 0 0,
   .stH 2049 0 0 0,
   .stW 2049 0 0 0,
   .stD 2049 0 0 0,
   .amoSwap 2049 0 0 0 false,
   .amoAdd 2049 0 0 0 false,
   .amoAnd 2049 0 0 0 false,
   .amoOr 2049 0 0 0 false] : List Instr).any Instr.wf = false := by decide

/-- Ill-formed commands, one for each check. -/
theorem test_refuses_bad_commands_3 : ([
   .amoXor 2049 0 0 0 false,
   .amoMin 2049 0 0 0 false,
   .amoMax 2049 0 0 0 false,
   .amoMinu 2049 0 0 0 false,
   .amoMaxu 2049 0 0 0 false,
   .cas 2049 0 0 0 0 false,
   .fence 2049 0 0 0,
   .beq 2049 0 0 0,
   .bne 2049 0 0 0,
   .blt 2049 0 0 0,
   .bge 2049 0 0 0,
   .bltu 2049 0 0 0,
   .bgeu 2049 0 0 0,
   .bf 2049 0 0 0,
   .bnf 2049 0 0 0,
   .jmp 2049 0,
   .call 2049 0,
   .jr 2049 0 0 0,
   .jalr 2049 0 0 0,
   .xtr 2049 0 0 0 0,
   .ins 2049 0 0 0 0,
   .kvld 2049 0 0 0 false,
   .kvst 2049 0 0 0,
   .kvclr 2049 0 0 0,
   .lkp 2049 0 0 0 0 false,
   .crc 2049 0 0 0 0,
   .ctradd 2049 0 0 0,
   .ctraddBytes 2049 0 0 0,
   .ptake 2049 0 0 0,
   .pret 2049 0 0 0,
   .pretEnd 2049 0 0 0,
   .pfree 2049 0 0 0,
   .balloc 2049 0 0 0,
   .fork 2049 0 0 0,
   .forkD 2049 0 0 0,
   .forkw 2049 0 0 0,
   .forkwD 2049 0 0 0,
   .join 2049 0 0 0,
   .exit 2049 0 0 0,
   .sev 2049 0 0 0,
   .tmarm 2049 0 0 0,
   .tmdis 2049 0 0 0,
   .wfe 2049 0 0 0,
   .sbegin 2049 0 0 0,
   .scommit 2049 0 0 0,
   .sabort 2049 0 0 0,
   .sys 2049 0 0 0 0,
   .wait 2049 0 0 0 0,
   .brk 2049 0,
   .surpriseRemoval 4,
   .pcieLinkUp 4 0 0 false false,
   .registerWrite (.bar0 4) 0 0 0 0,
   .workDoorbell (.bar0 4) 0 0 0,
   .completionDoorbell (.bar0 4) 0 0 0,
   .bar4Request .bar4 4 0 0 none false false [] 0 [],
   .pmapRead (.bar0 4) 0 0,
   .pmapRead .basecamp 65536 0,
   .pmapWrite (.bar0 4) 0 0,
   .pmapWrite .basecamp 65536 0,
   .winWritePending (.bar0 4) 0 0] : List Instr).any Instr.wf = false := by decide

/-- Ill-formed commands, one for each check. -/
theorem test_refuses_bad_commands_4 : ([
   .winWritePending .basecamp 65536 0,
   .winRead (.bar0 4) 0 0,
   .winRead .basecamp 65536 0,
   .winReadPending (.bar0 4) 0 0,
   .winReadPending .basecamp 65536 0,
   .winCommit (.bar0 4) 0,
   .winCommit .basecamp 65536,
   .winDiscard (.bar0 4) 0,
   .winDiscard .basecamp 65536,
   .completionReceived 4 0 false false [],
   .completionTimeout 4 0,
   .tagRelease 4 0,
   .l1Entry 4,
   .l0pReduce 4 0,
   .l0pRestore 4,
   .msixUnmask 4 0,
   .msixUnmask 0 8192,
   .functionReset 4,
   .perstAssert 2,
   .ringTurn 16 [],
   .lookaheadRead 65536 [],
   .idleClose 65536,
   .postCompletion 65536,
   .modTimeExpiry 16384,
   .receiveDelivery 65536,
   .fwDone (.bar0 4) 0 0 0,
   .fwDone .basecamp 0 65536 0,
   .ringRead (.bar0 4) 0 0 0,
   .ringRead .basecamp 0 0 65536,
   .ringWrite (.bar0 4) 0 0 0,
   .ringWrite .basecamp 0 0 65536,
   .ringState (.bar0 4) 0 0 0,
   .ringState .basecamp 0 0 65536,
   .ringEnable (.bar0 4) 0 0 0,
   .ringEnable .basecamp 0 0 65536,
   .ringDisable (.bar0 4) 0 0 0,
   .ringDisable .basecamp 0 0 65536,
   .ringResume (.bar0 4) 0 0 0 false,
   .ringResume .basecamp 0 0 65536 false,
   .ringReset (.bar0 4) 0 0 0,
   .ringReset .basecamp 0 0 65536,
   .ringDrainEnd 65536,
   .rngErrLogRead 4,
   .shadowWrite (.bar0 4) 0 0 0 0,
   .shadowWrite .basecamp 9 0 0 0,
   .shadowWrite .basecamp 0 0 4 0,
   .arm (.bar0 4) 0 0 0,
   .arm .basecamp 9 0 0,
   .arm .basecamp 0 0 65536,
   .reclaim (.bar0 4) 0 0 0,
   .reclaim .basecamp 9 0 0,
   .reclaim .basecamp 0 0 65536,
   .channelReset (.bar0 4) 0 0 0,
   .channelReset .basecamp 9 0 0,
   .channelReset .basecamp 0 0 65536,
   .channelResume (.bar0 4) 0 0 0,
   .channelResume .basecamp 9 0 0,
   .channelResume .basecamp 0 0 65536,
   .ownerWrite (.bar0 4) 0 0 0,
   .ownerWrite .basecamp 9 0 0] : List Instr).any Instr.wf = false := by decide

/-- Ill-formed commands, one for each check. -/
theorem test_refuses_bad_commands_5 : ([
   .completionPoint 9 0,
   .transferFailed 9 0,
   .channelResetDone 9 0,
   .dmaOwnerHalt 9 0,
   .dmaHaltLogRead 4 0,
   .dmaHaltLogRead 0 9,
   .laneOutput 18 0,
   .saRead (.bar0 4) 0,
   .saRead .basecamp 262144,
   .saWrite (.bar0 4) 0,
   .saWrite .basecamp 262144,
   .keyportAcquire (.bar0 4),
   .keyportRelease (.bar0 4),
   .keyportLoad (.bar0 4) 0 0 0 false 0,
   .keyportLoad .basecamp 0 0 0 false 65536,
   .keyportErase (.bar0 4) 0 0,
   .keyportErase .basecamp 0 65536,
   .keyportGenerate (.bar0 4) 0 0 0 false 0,
   .keyportGenerate .basecamp 0 0 0 false 65536,
   .cryKekLoad (.ring ⟨65536, 0⟩) (.ok []) 0,
   .cryKekErase (.ring ⟨65536, 0⟩),
   .getVersion (.doe 4) [],
   .getCapabilities (.doe 4) [],
   .negotiateAlgorithms (.doe 4) [],
   .getDigests (.doe 4) [],
   .getCertificate (.doe 4) [],
   .challenge (.doe 4) [],
   .getMeasurements (.doe 4) 0 [],
   .connInstall (.bar0 4) 0 0,
   .connInstall .basecamp 0 65536,
   .stxRead (.bar0 4) 0 false 0,
   .stxRead .basecamp 0 false 65536,
   .connRemove (.bar0 4) 0 0,
   .connRemove .basecamp 0 65536,
   .nsWrite (.bar0 4) 0 0,
   .nsWrite .basecamp 0 65536,
   .stxConnLogRead 4,
   .commandSend 65536,
   .capsuleResp 65536,
   .c2hData 65536,
   .receiveR2t 65536,
   .tcpSegment 65536 false,
   .finReceived 65536 false,
   .rstReceived 65536 false,
   .delayedAck 65536,
   .rtoExpiry 65536,
   .persistTimer 65536,
   .roceAckReceived 65536 false,
   .nakReceived 65536 false,
   .cnpReceived 65536 false,
   .rdmaWrite 65536 false,
   .rdmaReadRequest 65536 false,
   .responseSend 65536 false,
   .ackTimeout 65536,
   .rnrWaitEnd 65536,
   .bind (.bar0 4) 0 0,
   .bind .basecamp 4096 0,
   .bind .basecamp 0 65536,
   .resetDrain (.bar0 4) 0 0,
   .resetDrain .basecamp 4096 0] : List Instr).any Instr.wf = false := by decide

/-- Ill-formed commands, one for each check. -/
theorem test_refuses_bad_commands_6 : ([
   .resetDrain .basecamp 0 65536,
   .resetSquash (.bar0 4) 0 0,
   .resetSquash .basecamp 4096 0,
   .resetSquash .basecamp 0 65536,
   .freeze (.bar0 4) 0 0,
   .freeze .basecamp 4096 0,
   .freeze .basecamp 0 65536,
   .thaw (.bar0 4) 0 0,
   .thaw .basecamp 4096 0,
   .thaw .basecamp 0 65536,
   .save (.bar0 4) 0 0 0,
   .save .basecamp 4096 0 0,
   .save .basecamp 0 4 0,
   .save .basecamp 0 0 65536,
   .restore (.bar0 4) 0 0 0,
   .restore .basecamp 4096 0 0,
   .restore .basecamp 0 4 0,
   .restore .basecamp 0 0 65536,
   .release (.bar0 4) 0 0,
   .release .basecamp 4096 0,
   .release .basecamp 0 65536,
   .whistle (some ⟨0x13, 2 ^ 24, 0, 0⟩),
   .windowEnd 16384,
   .refClear (.bar0 4),
   .deviceWarmReset (.bar0 4),
   .replay 65536,
   .jnlDiscard (.bar0 4),
   .siteInfo (.ring ⟨65536, 0⟩),
   .siteRegRead (.ring ⟨65536, 0⟩),
   .siteRegWrite (.ring ⟨65536, 0⟩) 0,
   .calRead (.ring ⟨65536, 0⟩),
   .dorLoad (.ring ⟨65536, 0⟩) (.ok []),
   .dorThreadAct (.ring ⟨65536, 0⟩),
   .pitReset (.ring ⟨65536, 0⟩),
   .pitInfo (.ring ⟨65536, 0⟩),
   .pitOp (.ring ⟨65536, 0⟩),
   .pitMigkeyLoad (.ring ⟨65536, 0⟩) (.ok []),
   .cryKeyLoad (.ring ⟨65536, 0⟩) (.ok []),
   .cryKeyErase (.ring ⟨65536, 0⟩),
   .crySaWrite (.ring ⟨65536, 0⟩) (.ok []),
   .stxConnInstall (.ring ⟨65536, 0⟩) (.ok []),
   .stxConnRemove (.ring ⟨65536, 0⟩),
   .stxNsWrite (.ring ⟨65536, 0⟩),
   .bcpReboot (.ring ⟨65536, 0⟩),
   .bcpImgkeySet (.ring ⟨65536, 0⟩) (.ok []),
   .bcpSvnCommit (.ring ⟨65536, 0⟩),
   .logRead (.ring ⟨65536, 0⟩),
   .benchReadmit (.ring ⟨65536, 0⟩),
   .jnlCkptRead (.ring ⟨65536, 0⟩),
   .pwrDormant (.ring ⟨65536, 0⟩),
   .bcpEventLogRead 4,
   .wdtWrite (.bar0 4) 0,
   .bootConfirm (.bar0 4),
   .queryDeviceIdentifiers (.doe 4),
   .getFirmwareParameters (.doe 4),
   .requestUpdate (.doe 4),
   .passComponentTable (.doe 4),
   .updateComponent (.doe 4) 0,
   .requestFirmwareData (.doe 4) [],
   .transferComplete (.doe 4)] : List Instr).any Instr.wf = false := by decide

/-- Ill-formed commands, one for each check. -/
theorem test_refuses_bad_commands_7 : ([
   .verifyComplete (.doe 4),
   .applyComplete (.doe 4),
   .activateFirmware (.doe 4),
   .getStatus (.doe 4),
   .cancelUpdateComponent (.doe 4),
   .cancelUpdate (.doe 4),
   .pldmSensorRead (.doe 4) 0,
   .pldmSensorRead (.smbus 0) 104,
   .mctpControl (.doe 4) [],
   .ncsiCommand 0 32 0 [],
   .getLinkStatus 0 31,
   .ncsiGetCapabilities 0 31,
   .enableChannelNetworkTx 0 31,
   .oemCommand 0 31 0 0 [] 0 0,
   .pwrModeWrite (.bar0 4) 0,
   .perstDeassert 2,
   .pllEnable (.bar0 4) false,
   .clkSrcWrite (.bar0 4) 0 0,
   .clkSrcWrite .basecamp 19 0,
   .dmaBurstIssue 5,
   .fecAlignLock 32] : List Instr).any Instr.wf = false := by decide

/-! ### The hypotheses of the statements can be met

Each theorem below gives a state and operands that meet the hypotheses of a statement, its clauses one after another, at the ends of their
ranges where they have a range. -/

/-- A device in the mode of code `m` with every class on the PLL clock and Basecamp running. -/
def up (m : Nat) : Dev :=
  forEach (List.range 19) (((Dev.reset.wr .SITE_MODE 0 m).wr .BCP_STATUS 0 1).wr .CLK_PLL_STATUS 0 1) (fun d k => d.wr .CLK_SRC k 2)

/-- A context that is READY at the first word of local memory, with g1 to g6 as given. -/
def readyAt (l : List Nat) : Ctx :=
  (l.foldl (fun (e : Nat × Ctx) v => (e.1 + 1, e.2.setReg e.1 (BitVec.ofNat 64 v))) (1, { Ctx.blank with st := 1, pc := 0xFFFF000000000000 })).2

/-- A device in SERVICE whose thread 5 of cluster 0 is READY at a word. -/
def thr (w : Nat) (l : List Nat) : Dev := ((up 3).localWrite 0 ((up 3).physCore 0 0) 0 (leBytes 4 w)).setCtx 5 (readyAt l)

/-- Each word can stand at the PC of a thread that may issue it; and so can a word of a reserved OP, and one of a reserved FN. -/
theorem test_witness_AluResult : (∀ p ∈ aluTable, (thr (wordR 1 3 1 2 p.2.1) []).mayIssue 5 (wordR 1 3 1 2 p.2.1)) ∧
    (∀ p ∈ aluTable1, (thr (wordR 1 3 1 2 p.2.1) []).mayIssue 5 (wordR 1 3 1 2 p.2.1)) ∧ (2 : Fin 32) ≠ 0 ∧
    ((thr 0 []).mayIssue 5 0 ∧ spelled 0 = false ∧ 0 ≠ wordR 1 3 1 2 0) ∧
    (thr (wordR 1 3 1 2 0x013) []).mayIssue 5 (wordR 1 3 1 2 0x013) ∧ spelled (wordR 1 3 1 2 0x013) = false := by unfold Dev.mayIssue; decide +kernel

/-- A thread, and Basecamp's. -/
theorem test_witness_DivResult :
    let b : Dev := (up 3).setCtx 2048 (readyAt [])
    let d : Dev := { b with mem := { b.mem with sram := Memory.writeN b.mem.sram 0 (leBytes 4 (wordR 1 3 1 2 0x14)) } }
    ((thr (wordR 1 3 1 2 0x14) []).mayIssue 5 (wordR 1 3 1 2 0x14) ∧ 5 ≠ 2048) ∧
    (d.mayIssue 2048 (wordR 1 3 1 2 0x14) ∧ (d.ctx 2048).haltDue = false ∧ (d.ctx 2048).byQuiesce = false) := by unfold Dev.mayIssue; decide +kernel

theorem test_witness_ImmediateResult : (∀ p ∈ immTable, (thr (wordI p.2.1 3 1 0xFFFF) []).mayIssue 5 (wordI p.2.1 3 1 0xFFFF)) ∧
    ((thr (wordI 0x08 3 1 0xFF) []).mayIssue 5 (wordI 0x08 3 1 0xFF) ∧ (0x00FF : BitVec 16).toNat / 256 = 0 ∧ (0x00FF : BitVec 16).toNat / 64 = 3 ∧
      (0x0100 : BitVec 16).toNat / 256 ≠ 0) ∧ (thr (wordL 0x09 3 0x1FFFFF) []).mayIssue 5 (wordL 0x09 3 0x1FFFFF) ∧
    (thr (wordL 0x0A 3 0x1FFFFF) []).mayIssue 5 (wordL 0x0A 3 0x1FFFFF) := by unfold Dev.mayIssue; decide +kernel

theorem test_witness_BranchResult : (∀ p ∈ branchTable, (thr (wordI p.2.1 2 1 9) []).mayIssue 5 (wordI p.2.1 2 1 9)) ∧
    (thr (wordI 0x26 0 0 9) []).mayIssue 5 (wordI 0x26 0 0 9) ∧ (thr (wordI 0x27 0 1 9) []).mayIssue 5 (wordI 0x27 0 1 9) ∧ ((1 : Fin 32) ≠ 0 ∨ (0 : Fin 32) ≠ 0) := by
  unfold Dev.mayIssue; decide +kernel

theorem test_witness_JumpResult : (∀ w ∈ [wordJ 0x28 9, wordJ 0x29 9, wordR 0x2A 0 1 0 0, wordR 0x2A 3 1 0 1, wordR 0x2A 3 1 2 0, wordR 0x2A 3 1 2 1],
    (thr w []).mayIssue 5 w) := by unfold Dev.mayIssue; decide +kernel

/-- The last doubleword of local memory, the first and the last of shared memory, an address that is not aligned, and one of no region. -/
theorem test_witness_LoadResult :
    let w := wordI 0x13 3 1 0
    let d := thr w [0xFFFF00000003FFF8, 0xFFFF000001000000, 0xFFFF0000017FFFF8, 0xFFFF000000000001, 2 ^ 48]
    let a := fun (n : Nat) => (((d.ctx 5).reg n) + (0 : BitVec 16).signExtend 64).toNat
    d.mayIssue 5 w ∧ (a 1 % 8 = 0 ∧ 0xFFFF000000000000 ≤ a 1 ∧ a 1 < 0xFFFF000000040000) ∧
      (a 2 % 8 = 0 ∧ 5 ≠ 2048 ∧ 0xFFFF000001000000 ≤ a 2 ∧ a 2 < 0xFFFF000001800000) ∧ (a 3 % 8 = 0 ∧ 0xFFFF000001000000 ≤ a 3 ∧ a 3 < 0xFFFF000001800000) ∧
      a 4 % 8 ≠ 0 ∧ (a 5 % 8 = 0 ∧ 2 ^ 48 ≤ a 5 ∧ a 5 < 0xFFFF000000000000) := by unfold Dev.mayIssue; decide +kernel

theorem test_witness_StoreResult :
    let w := wordI 0x1B 3 1 0
    let d := thr w [0xFFFF00000003FFF8, 0xFFFF0000017FFFF8, 0xFFFF000001000003]
    let a := fun (n : Nat) => (((d.ctx 5).reg n) + (0 : BitVec 16).signExtend 64).toNat
    d.mayIssue 5 w ∧ (d.ctx 5).step = none ∧ (a 1 % 8 = 0 ∧ 0xFFFF000000000000 ≤ a 1 ∧ a 1 < 0xFFFF000000040000) ∧
      (a 2 % 8 = 0 ∧ 5 ≠ 2048 ∧ 0xFFFF000001000000 ≤ a 2 ∧ a 2 < 0xFFFF000001800000) ∧ a 3 % 8 ≠ 0 := by unfold Dev.mayIssue; decide +kernel

/-- A step that holds nothing yet. -/
def emptyStep : StepRec := { regs := [], pc := 0, lines := [], outs := [], takes := [], taken := 0, made := [] }

/-- Thread 5 at a word, inside a step. -/
def inStep (w : Nat) (l : List Nat) : Dev := (thr w l).setCtx 5 { readyAt l with step := some emptyStep }

theorem test_witness_StoreHeldInStep :
    let w := wordI 0x1B 1 1 0
    let d := inStep w [0xFFFF0000017FFFF8]
    let a := ((d.ctx 5).reg 1 + (0 : BitVec 16).signExtend 64).toNat
    (d.mayIssue 5 w ∧ 5 ≠ 2048 ∧ (d.ctx 5).step = some emptyStep ∧ a % 8 = 0 ∧ 0xFFFF000001000000 ≤ a ∧ a < 0xFFFF000001800000 ∧
      linesOf (holdBytes emptyStep.lines (a - 0xFFFF000001000000) (leBytes 8 ((d.ctx 5).reg 1).toNat)) ≤ 64) ∧ hbmSize - 1 < hbmSize := by
  unfold Dev.mayIssue; decide +kernel

/-- The word in local memory that holds the instruction itself: the other half is 0. Its doubleword equals g2 and differs from g0. -/
theorem test_witness_AtomicResult :
    let w := wordR 0x1D 2 1 0 0
    let d := thr w [0xFFFF000000000000, w]
    let a := ((d.ctx 5).reg 1).toNat
    let old : Word := BitVec.ofNat 64 (leNat (d.ownRead 5 (a - 0xFFFF000000000000) 8))
    d.mayIssue 5 w ∧ a % 8 = 0 ∧ 0xFFFF000000000000 ≤ a ∧ a < 0xFFFF000000040000 ∧ old = (d.ctx 5).reg 2 ∧ old ≠ (d.ctx 5).reg 0 ∧
      (∀ p ∈ amoTable, (thr (wordR 0x1C 2 1 0 p.2.1) []).mayIssue 5 (wordR 0x1C 2 1 0 p.2.1)) := by unfold Dev.mayIssue; decide +kernel

/-- The last bit of KV, and one past it. -/
theorem test_witness_KeyVectorBits : (∀ w ∈ [wordP 0x30 3 0 576 63, wordP 0x31 0 1 577 63, wordP 0x31 3 1 0 0, wordP 0x30 3 1 0 0, wordR 0x32 0 0 0 2],
    (thr w []).mayIssue 5 w) ∧ 5 ≠ 2048 ∧ (576 : BitVec 10).toNat + (63 : BitVec 6).toNat ≤ 639 ∧
    639 < (577 : BitVec 10).toNat + (63 : BitVec 6).toNat ∧ (1 : Fin 32) ≠ 0 := by unfold Dev.mayIssue; decide +kernel

/-- Thread 5 of cluster 0 holds frame 7, whose two blocks are 3 and 9. -/
def holding (w : Nat) (l : List Nat) : Dev :=
  let d := thr w l
  { d with frames := [(7, { Frame.fresh [] 0 with loc := .thread 0 5 })], dor := { d.dor with blocks := [(7, (0, [3, 9]))] } }

theorem test_witness_KeyVectorMemory : ∀ w ∈ [wordR 0x32 0 1 0 0, wordR 0x32 0 1 0 1], let d := holding w [3, 4]
    d.mayIssue 5 w ∧ 5 ≠ 2048 ∧ d.handleFrame 5 ((d.ctx 5).reg 1) = some 7 ∧ (d.ctx 5).step = none ∧ d.handleFrame 5 ((d.ctx 5).reg 2) = none := by
  unfold Dev.mayIssue; decide +kernel

theorem test_witness_CrcAndFence : ((7 : BitVec 11).toNat < 8 ∧ (thr (wordR 0x34 3 1 2 7) []).mayIssue 5 (wordR 0x34 3 1 2 7)) ∧
    ((thr (wordR 0x1E 0 0 0 0) []).mayIssue 5 (wordR 0x1E 0 0 0 0) ∧ 5 ≠ 2048) := by unfold Dev.mayIssue; decide +kernel

/-- Entry 1 of NEXTHOP is valid, entry 262,143 is not, 0 and 262,144 are outside. -/
theorem test_witness_LookupResult :
    let w := wordR 0x33 28 1 0 7
    let e := thr w [1, 262143, 262144]
    let d : Dev := { e with tbl := { e.tbl with entries := [(entKey 3 1, { TblEntry.blank with images := [(0, 2 ^ 195)] })] } }
    let i := fun (n : Nat) => ((d.ctx 5).reg n).toNat
    d.mayIssue 5 w ∧ 5 ≠ 2048 ∧ 1 ≤ (28 : Fin 32).val ∧ (28 : Fin 32).val ≤ 28 ∧
      (0 < i 1 ∧ i 1 < 262144 ∧ tblValid 3 ((d.entry 3 (i 1)).at d.epc.cur) = true ∧ (d.entry 3 (i 1)).bad = false) ∧
      (0 < i 2 ∧ i 2 < 262144 ∧ tblValid 3 ((d.entry 3 (i 2)).at d.epc.cur) = false) ∧ (i 0 = 0 ∨ 262144 ≤ i 0) ∧ (i 3 = 0 ∨ 262144 ≤ i 3) := by
  unfold Dev.mayIssue; decide +kernel

theorem test_witness_CounterResult : ∀ w ∈ [wordR 0x35 0 1 2 0, wordR 0x35 0 1 2 1], let d := thr w [4194303]
    d.mayIssue 5 w ∧ (d.ctx 5).step = none ∧ ((d.ctx 5).reg 1).toNat < 4194304 ∧ ((d.ctx 5).reg 0).toNat < 4194304 := by unfold Dev.mayIssue; decide +kernel

theorem test_witness_FrameResult :
    let take := wordR 0x36 3 0 0 0
    let y : Frame := { Frame.fresh [] 0 with loc := .puntQueue 0 0 }
    let d : Dev := { thr take [] with frames := [(7, y)] }
    (d.mayIssue 5 take ∧ 5 ≠ 2048 ∧ (d.ctx 5).step = none ∧ d.puntQueue (5 / 256) (5 % 256 / 8) = [(7, y)] ∧
      (d.countIssue 5).blocksOk (5 / 256) (5 % 256) ((d.countIssue 5).blocksOf 7).2 = true) ∧
    (let e : Dev := { d.wr .DOR_CTX_SHARE 5 0 with dor := { d.dor with blocks := [(7, (0, [3]))] } }
     e.mayIssue 5 take ∧ e.puntQueue 0 0 = [(7, y)] ∧ (e.countIssue 5).blocksOk (5 / 256) (5 % 256) ((e.countIssue 5).blocksOf 7).2 = false) ∧
    ((thr take []).mayIssue 5 take ∧ (thr take []).puntQueue (5 / 256) (5 % 256 / 8) = []) ∧
    (∀ w ∈ [wordR 0x36 0 1 2 1, wordR 0x36 0 1 2 2, wordR 0x36 0 1 0 3], let e := holding w [3]
      e.mayIssue 5 w ∧ (e.ctx 5).step = none ∧ e.handleFrame 5 ((e.ctx 5).reg 1) = some 7) := by unfold Dev.mayIssue; decide +kernel

/-- 1 and 64 blocks from an empty buffer whose ceiling of the thread is 64, 1 block from a buffer of none, 0 and 65 blocks. -/
theorem test_witness_BallocResult :
    let w := wordR 0x36 3 1 0 4
    let d := (thr w [1, 64, 65]).wr .DOR_CTX_SHARE 5 (64 * 2 ^ 48)
    let n := fun (r : Nat) => ((d.ctx 5).reg r).toNat
    d.mayIssue 5 w ∧ 5 ≠ 2048 ∧
      (1 ≤ n 1 ∧ n 1 ≤ 64 ∧ d.blockRun (5 / 256) (n 1) = some [0] ∧ (d.countIssue 5).blocksOk (5 / 256) (5 % 256) (n 1) = true) ∧
      (1 ≤ n 2 ∧ n 2 ≤ 64 ∧ (d.blockRun (5 / 256) (n 2)).isSome = true ∧ (d.countIssue 5).blocksOk (5 / 256) (5 % 256) (n 2) = true) ∧
      (d.wr .DOR_BUF_CFG 0 0).blockRun (5 / 256) (n 1) = none ∧ (n 0 = 0 ∨ 64 < n 0) ∧ (n 3 = 0 ∨ 64 < n 3) ∧
      ((d.wr .DOR_CTX_SHARE 5 0).countIssue 5).blocksOk (5 / 256) (5 % 256) (n 1) = false := by unfold Dev.mayIssue; decide +kernel

/-- A context of cluster 0 may be forked; with the contexts of core 0 barred and every other core stopped, none is chosen. -/
theorem test_witness_ForkResult :
    let w := wordR 0x38 3 1 2 0
    let d := (thr w [0xFFFF00000003FFFC]).wr .DOR_CTX_CFG 6 (2 ^ 19)
    let e := forEach (List.range 31) (forEach (List.range 8) (thr w [0xFFFF000000000000]) (fun d t => d.wr .DOR_CTX_CFG t 0)) (fun d l => d.wr .DOR_CORE_STATUS (l + 1) (2 ^ 8))
    (d.mayIssue 5 w ∧ 5 ≠ 2048 ∧ (d.ctx 5).step = none ∧ pcOk 5 ((d.ctx 5).reg 1).toNat = true ∧ ((d.countIssue 5).freeChoice 5).isSome = true) ∧
    (e.mayIssue 5 w ∧ (e.ctx 5).step = none ∧ pcOk 5 ((e.ctx 5).reg 1).toNat = true ∧ (e.countIssue 5).freeChoice 5 = none) ∧
    (∀ n ∈ [1, 2, 3], (thr (wordR 0x38 3 1 2 n) []).mayIssue 5 (wordR 0x38 3 1 2 n)) ∧ pcOk 5 0 = false ∧ ((inStep w []).ctx 5).step.isSome = true := by
  unfold Dev.mayIssue; decide +kernel

theorem test_witness_ForkedThread : 255 < 256 ∧ 0 < 2 ^ 64 ∧ 2 ^ 64 - 1 < 2 ^ 64 := by decide

/-- Thread 5 is the parent of threads 255 (EXITED) and 6 (READY); thread 7 is no child of it. Cluster 0's supervisor is thread 0. -/
theorem test_witness_JoinAndExit :
    let w := wordR 0x38 3 1 0 4
    let d := ((thr w [255, 6, 7]).setCtx 255 { Ctx.blank with st := 5, parent := some 5 }).setCtx 6 { Ctx.blank with st := 1, parent := some 5, notBefore := 9 }
    let e := d.countIssue 5
    let t := fun (r : Nat) => ((d.ctx 5).reg r).toNat
    d.mayIssue 5 w ∧ 5 ≠ 2048 ∧ (d.ctx 5).step = none ∧ (e.isChild 5 (t 1) = true ∧ (e.ctx (t 1)).st = 5) ∧ (e.isChild 5 (t 2) = true ∧ (e.ctx (t 2)).st ≠ 5) ∧
      e.isChild 5 (t 3) = false ∧ (thr (wordR 0x38 0 1 0 5) []).mayIssue 5 (wordR 0x38 0 1 0 5) ∧ e.supervisor 0 ≠ 5 ∧ (e.wr .DOR_SUP_CFG 0 5).supervisor 0 = 5 := by
  unfold Dev.mayIssue; decide +kernel

theorem test_witness_EventInstructions :
    let w := wordR 0x38 0 1 0 6
    let d := thr w [5, 255]
    let e := d.countIssue 5
    d.mayIssue 5 w ∧ 5 ≠ 2048 ∧ (d.ctx 5).step = none ∧ e.releasing 5 = false ∧
      ((e.ctx (((d.ctx 5).reg 1).toNat % 256)).st ≠ 0 ∧ (e.ctx (((d.ctx 5).reg 1).toNat % 256)).st ≠ 5) ∧
      ((e.ctx (((d.ctx 5).reg 2).toNat % 256)).st = 0 ∨ (e.ctx (((d.ctx 5).reg 2).toNat % 256)).st = 5) ∧
      ({ d with dor := { d.dor with releases := [(5, emptyStep)] } } : Dev).releasing 5 = true ∧
      (∀ v ∈ [wordR 0x38 0 1 0 7, wordR 0x38 0 0 0 8], (thr v []).mayIssue 5 v) := by unfold Dev.mayIssue; decide +kernel

/-- Event 9 pending and in the mask of all ten events; none pending; a mask of 0 and one of a reserved bit. -/
theorem test_witness_WaitForEvent :
    let w := wordI 0x39 3 0 0x3FF
    let d := (thr w []).setCtx 5 { readyAt [] with events := 0x200 }
    (d.mayIssue 5 w ∧ 5 ≠ 2048 ∧ (0x3FF : BitVec 16) ≠ 0 ∧ (0x3FF : BitVec 16).toNat < 1024 ∧ (d.ctx 5).events &&& (d.countIssue 5).waitMask 5 0x3FF ≠ 0) ∧
    ((thr w []).mayIssue 5 w ∧ ((thr w []).ctx 5).events &&& ((thr w []).countIssue 5).waitMask 5 0x3FF = 0) ∧
    (thr (wordI 0x39 3 0 0x400) []).mayIssue 5 (wordI 0x39 3 0 0x400) ∧ 1024 ≤ (0x400 : BitVec 16).toNat := by
  unfold Dev.mayIssue; decide +kernel

theorem test_witness_StepInstructions : ∀ n ∈ [0, 1, 2], let w := wordR 0x3A 0 0 0 n
    ((thr w []).mayIssue 5 w ∧ 5 ≠ 2048 ∧ ((thr w []).ctx 5).step = none) ∧ ((inStep w []).mayIssue 5 w ∧ ((inStep w []).ctx 5).step = some emptyStep) := by
  unfold Dev.mayIssue; decide +kernel

theorem test_witness_SystemInstructions :
    let w := wordR 0x3C 3 0 0 0
    let d := (thr w []).wr .DOR_SUP_CFG 0 5
    (∀ p ∈ [(0x00 : BitVec 11), 0x10, 0x20, 0x30, 0x40, 0x50, 0x60, 0x70], (thr (wordR 0x3B 3 0 0 p.toNat) []).mayIssue 5 (wordR 0x3B 3 0 0 p.toNat)) ∧
    ((thr w []).mayIssue 5 w ∧ 5 ≠ 2048 ∧ ((thr w []).countIssue 5).supervisor (5 / 256) ≠ 5 % 256) ∧
    (d.mayIssue 5 w ∧ (d.countIssue 5).supervisor (5 / 256) = 5 % 256 ∧ (d.ctx 5).step = none) ∧ (thr (wordJ 0x3D 9) []).mayIssue 5 (wordJ 0x3D 9) := by
  unfold Dev.mayIssue; decide +kernel

theorem test_witness_ResultAndRelease :
    let d := (up 3).setCtx 2047 { readyAt [] with st := 2, res := some (resOf [(31, 9)] none) }
    let e : Dev := { up 3 with dor := { (up 3).dor with releases := [(2047, emptyStep)] } }
    (2047 ≤ 2048 ∧ (d.ctx 2047).st = 2 ∧ (d.ctx 2047).haltDue = false ∧ (d.ctx 2047).byQuiesce = false ∧ Sparse.get? d.dor.asleep (2047 / 256) = none ∧
      (d.ctx 2047).res = some (resOf [(31, 9)] none)) ∧
    (7 < 8 ∧ e.dor.releases.find? (fun e => e.1 / 256 = 7) = some (2047, emptyStep)) := by decide +kernel

theorem test_witness_TimeKeeping : (up 2).takesWrite .basecamp .CLK_ADJ 0 ∧ (up 2).takesWrite .basecamp .CLK_TIME_LOAD 0 ∧ (up 2).mode = .bringup ∧
    (up 3).takesWrite .basecamp .CLK_TIME_LOAD 0 ∧ (up 3).mode ≠ .bringup ∧
    (let d : Dev := { (up 3).wr .CLK_TIME_STATUS 0 1 with clk := { (up 3).clk with sinceAdj := 2 ^ 64 } }
     d.timeState = 1 ∧ max 25000 (d.rd .CLK_LOCK_TIMEOUT 0) ≤ d.clk.sinceAdj) := by unfold Dev.takesWrite; decide +kernel

theorem test_witness_VolleyBoundary : [0x010000].all unitOk = true ∧ ((up 3).ticking = true ∧ (up 3).boundaryDone = true) ∧ (up 1).ticking = false ∧
    ({ up 3 with waits := [⟨0, 0, 0, 0, [], 99⟩] } : Dev).boundaryDone = false ∧ (up 3).clk.timeLoad = none ∧
    ({ up 3 with clk := { (up 3).clk with timeLoad := some (5, 7) } } : Dev).clk.timeLoad = some (5, 7) := by decide +kernel

/-- Group 0 of the block of CLK with a pending cell, and with an apply that waits and is due. -/
theorem test_witness_StagedApply :
    let k := blkOf 0x11 0
    let d : Dev := (up 3).pendWrite .CLK_TOUT_PERIOD 0 25000000
    let w : ApplyWait := ⟨k, 0, 0xFFFF, 0, [], 99⟩
    let e : Dev := { up 3 with waits := [w] }
    (39 < 40 ∧ d.hears .basecamp = true ∧ 31 < 32 ∧ 0xFFFF < 2 ^ 16) ∧ (blkGroups k ≤ 31 ∧ 0 < blkGroups k ∧ k < 40) ∧
    (¬ (d.mode = .lockdown ∧ lockdownClass (blkClass k).1 = true) ∧ d.waitOf k 0 = none ∧ d.pendOf k 0 ≠ [] ∧ d.targetBar k false true = 0 ∧
      firstFail (d.groupChecks k 0) = 0) ∧ ((up 6).mode = .lockdown ∧ lockdownClass (blkClass 5).1 = true ∧ 0 < blkGroups 5) ∧
    ((d.pendWrite .CLK_TOUT_PERIOD 0 2500).targetBar k true true ≠ 0 ∧
      firstFail ((((up 3).wr .CLK_TOUT_WIDTH 0 2500).pendWrite .CLK_TOUT_PERIOD 0 2500).groupChecks k 0) ≠ 0) ∧
    ((e.waitOf k 0).isSome = true ∧ (up 3).pendOf k 0 = []) ∧
    e.waits.find? e.waitDue = some w ∧ (up 3).waits.find? (up 3).waitDue = none := by decide +kernel

theorem test_witness_RegisterWriteRule :
    let a := Reg.CLK_ADJ.bar0 0
    let b := Reg.CLK_TOUT_PERIOD.bar0 0
    let h : HeldWrite := ⟨.bar0 0, Reg.CLK_ADJ.key 0, 7, 2 ^ 32 - 1, none⟩
    let e : LogEntry := ⟨0, powerUpRec, some h⟩
    let d : Dev := { up 3 with log := { (up 3).log with taken := [e] } }
    ((up 3).hears (.bar0 0) = true ∧ regForm a 4 = true ∧ halfBad a 4 = false ∧ regParts a 4 7 = [⟨.CLK_ADJ, 0, 7, 2 ^ 32 - 1⟩] ∧ regForm a 3 = false) ∧
    ((regParts (Reg.WIRE_LANE_CTL.bar0 0) 8 7).length = 2 ∧ regForm (Reg.WIRE_LANE_CTL.bar0 0) 8 = true ∧ regParts 0xFFFFFF8 8 0 = [] ∧ 0xFFFF < 2 ^ 16) ∧
    ((up 3).hears .basecamp = true ∧ Origin.basecamp.recorded .CLK_ADJ = false ∧ Origin.basecamp.recorded .PIT_CTL = true ∧ regParts (Reg.PIT_CTL.bar0 0) 8 7 = [⟨.PIT_CTL, 0, 7, 2 ^ 64 - 1⟩]) ∧
    (d.jnl.fail < 4 ∧ d.log.taken = e :: [] ∧ e.held = some h ∧ h.origin ≠ .device ∧ h.origin ≠ .referee ∧ d.hears h.origin = true) ∧
    (regForm b 4 = true ∧ halfBad b 4 = false ∧ regParts b 4 7 = [⟨.CLK_TOUT_PERIOD, 0, 7, 2 ^ 32 - 1⟩] ∧ Reg.CLK_TOUT_PERIOD.info.rws ≠ 0 ∧ Reg.CLK_TOUT_PERIOD.info.rw = 0 ∧
      Reg.CLK_TOUT_PERIOD.info.w1c = 0 ∧ Reg.CLK_TOUT_PERIOD.info.rws &&& (2 ^ 32 - 1) = Reg.CLK_TOUT_PERIOD.info.rws) := by decide +kernel

/-- Port 31 with the state `v`. -/
def port (v : Nat) : Dev := (up 3).setFld .WIRE_PORT_STATUS 31 7 4 v

/-- 60 bytes without FCS are the shortest frame, 1,514 the longest. -/
theorem test_witness_FrameReception :
    let d := port 4
    let q : Dev := { d with wire := { d.wire with ports := [(31, { d.wport 31 with rxPause := [(7, 0)] })] } }
    let pfc := d.setFld .WIRE_PORT_CFG 31 5 4 2
    (31 < 32 ∧ d.portState 31 = 4 ∧ d.looped 31 = false ∧ d.mode.traffic = true ∧ (up 6).mode.traffic = false ∧ 64 ≤ 60 + 4 ∧ 1514 + 4 ≤ d.fld .WIRE_PORT_CFG 31 31 18) ∧
    (rxVerdict (1515 + 4) (d.fld .WIRE_PORT_CFG 31 31 18) false true = some .WIRE_RX_OVERSIZE ∧ d.entersEarly 31 [] = false) ∧
    (7 < 8 ∧ 0xFFFF < 2 ^ 16 ∧ pfc.portState 31 = 4 ∧ pfc.fld .WIRE_PORT_CFG 31 5 4 = 2) ∧ d.fld .WIRE_PORT_CFG 31 5 4 ≠ 2 ∧
    ((d.setFld .WIRE_PORT_CFG 31 5 4 1).portState 31 = 4 ∧ (d.setFld .WIRE_PORT_CFG 31 5 4 1).fld .WIRE_PORT_CFG 31 5 4 = 1) ∧
    (∀ e ∈ (q.wport 31).rxPause, e.1 = 7 → e.2 ≤ q.vn) := by decide +kernel

theorem test_witness_PortLife :
    let now (d : Dev) (v : Nat) : Dev := { d with clk := { d.clk with vn := v } }
    let drain := now ((port 4).setFld .WIRE_PORT_STATUS 31 3 3 1) 1
    let down (v : Nat) : Dev := { port v with bcp := { (up 3).bcp with trimDone := true } }
    (31 < 32 ∧ (port 4).takesWrite .basecamp .WIRE_PORT_CTL 31 ∧ (port 4).portState 31 = 4 ∧ (port 4).fld .WIRE_PORT_STATUS 31 3 3 = 0) ∧
    (drain.fld .WIRE_PORT_STATUS 31 3 3 = 1 ∧ (drain.wport 31).since < drain.vn ∧ drain.firstIf (fun f => f.loc = .mac 31) = none) ∧
    (drain.framesIf (fun f => f.loc = .mac 31) = [] ∧ drain.fld .SWB_PORT_CFG 31 43 28 ≠ 0) ∧
    ((down 5).portState 31 = 5 ∧ (down 5).portFenced 31 = false ∧ (down 5).bcp.trimDone = true) ∧
    ((now (port 2) 3000000).portState 31 = 2 ∧ ((now (port 2) 3000000).wport 31).since + 3000000 ≤ (now (port 2) 3000000).vn) ∧
    ((port 3).portState 31 = 3 ∧ Sparse.get? (port 3).swb.hold 31 = none) ∧
    (let d := up 3
     31 < 32 ∧ d.takesWrite .basecamp .WIRE_LANE_CTL 31 ∧ d.lanePort 31 = none ∧ (d.wlane 31).retrain = none) := by unfold Dev.takesWrite; decide +kernel

theorem test_witness_LaneAndTimestamp :
    let d : Dev := { up 3 with clk := { (up 3).clk with vn := 25000 } }
    (31 < 32 ∧ (d.wlane 31).window + 25000 ≤ d.vn ∧ d.lanePort 31 = none ∧ 2000000 ≤ d.rd .WIRE_LANE_DEGRADE_LIMIT (31 / 8)) ∧
    (up 3).takesWrite .basecamp .WIRE_TS_TX_POP 31 ∧ ((up 2).bcpRuns = true ∧ (up 2).mode = .bringup ∧ (up 2).noneTrained = true) := by
  unfold Dev.takesWrite; decide +kernel

/-- A capsule over MCTP on SMBus of an opcode and the bits of its PARAM. -/
def capWith (op par : Nat) : CapRun :=
  { o := .mctpSmbus 9, item := none, word := op + par * 2 ^ 128, recNo := 0, logSeq := none, stage := 0, start := 0, buf := .ok [] }

/-- The source of that capsule. -/
def capFrom (op par : Nat) : CapSrc := .path (.mctpSmbus 9) (op + par * 2 ^ 128)

/-- A device with that capsule in progress, its record sealed. -/
def capSealed (m op par : Nat) : Dev :=
  { up m with bcp := { (up m).bcp with caps := [{ capWith op par with logSeq := some 1 }] } }

/-- A device in the mode of code `m` with an accepted item of a kind on ring 9, at index 4, of the descriptor bytes `l`. -/
def itemOn (m kind : Nat) (l : List Byte) : Dev :=
  { up m with rng := { (up m).rng with items := [(itemKey 9 4, { lostItem Ring.blank 9 4 0 with kind := kind, stage := 1, busy := false, desc := l })] } }

/-- The capsule that such an item is, on a ring of pitch 0. -/
def tenantCap (op : Nat) : CapRun := { capWith op 0 with o := .cmdRing 0 0 0, item := some ⟨9, 4⟩ }

/-- What `capMay` asks, as a check that can be evaluated. -/
theorem test_capMay_of {d : Dev} {c : CapRun} {buf : Fetch} (h : c.o.tenant = none ∧ (capRow c.opcode).any (fun row =>
    (!row.ringOnly || !c.o.management) && c.fieldsOk row buf && row.modes.contains d.mode) = true) : d.capMay c buf := by
  obtain ⟨h1, h2⟩ := h
  obtain ⟨row, h3, h4⟩ := (Option.any_eq_true _ _).1 h2
  refine ⟨h1, row, h3, ?_⟩
  simp only [Bool.and_eq_true, Bool.or_eq_true, Bool.not_eq_true'] at h4
  exact ⟨fun r => by simpa [r] using h4.1.1, h4.1.2, h4.2⟩

/-- What `capIn` asks, as a check that can be evaluated. -/
theorem test_capIn_of {d : Dev} {src : CapSrc} {op : Nat} {k : CapRun} {n : Nat} (h : (d.capOf src).any (fun c => decide (c.opcode = op) &&
    decide (d.bcp.caps.find? (fun x => x.same c) = some k) && decide (k.stage = n) && d.bcpRuns && decide (d.jnl.fail < 2)) = true) :
    d.capIn src op k n := by
  obtain ⟨c, h1, h2⟩ := (Option.any_eq_true _ _).1 h
  simp only [Bool.and_eq_true, decide_eq_true_eq] at h2
  exact ⟨c, h1, h2.1.1.1.1, h2.1.1.1.2, h2.1.1.2, h2.1.2, h2.2⟩

/-- Each capsule of the statement, and its hypotheses clause by clause. -/
theorem test_witness_CapsuleCourse :
    let t := tenantCap
    let d (op : Nat) := itemOn 3 2 (leBytes 64 op)
    (∀ q ∈ [(0x0E01, 0), (0x0B02, 0), (0x0702, 2 ^ 112)], (up 3).capNew (capFrom q.1 q.2) q.1 (capWith q.1 q.2) ∧ (capWith q.1 q.2).checkOnly = false) ∧
    (up 4).capNew (capFrom 0x0E03 0) 0x0E03 (capWith 0x0E03 0) ∧ (up 4).capNew (capFrom 0x0E02 (48 * 2 ^ 64)) 0x0E02 (capWith 0x0E02 (48 * 2 ^ 64)) ∧
    ((up 3).capNew (capFrom 0xFFFF 0) 0xFFFF (capWith 0xFFFF 0) ∧ capRow 0xFFFF = none) ∧
    ((d 0x0E01).capNew (.ring ⟨9, 4⟩) 0x0E01 (t 0x0E01) ∧ (t 0x0E01).o.tenant = some 0) ∧
    ((up 3).capNew (capFrom 0x0E03 0) 0x0E03 (capWith 0x0E03 0) ∧ (capWith 0x0E03 0).o.tenant = none ∧ (up 3).mode ≠ .maintenance ∧
      (capWith 0x0E03 0).fieldsOk ⟨false, false, [.maintenance], 0, false, false⟩ (.ok []) = true) := by
  unfold Dev.capNew
  decide +kernel

/-- And each may run; a buffer of 48 bytes comes with the key. -/
theorem test_witness_CapsuleCourse_checks : (∀ q ∈ [(0x0E01, 0), (0x0B02, 0), (0x0702, 2 ^ 112)], (up 3).capMay (capWith q.1 q.2) (.ok [])) ∧
    (up 4).capMay (capWith 0x0E03 0) (.ok []) ∧
    (up 4).capMay (capWith 0x0E02 (48 * 2 ^ 64)) (.ok (List.replicate 48 0)) := by
  refine ⟨fun q h => test_capMay_of ?_, test_capMay_of ?_, test_capMay_of ?_⟩
  · revert q; decide +kernel
  all_goals decide +kernel

/-- The bits of a PARAM with BUF_LEN `n`, a pitch that the capsule names or not left aside, and `v` from byte 12 on. -/
def par (n v : Nat) : Nat := n * 2 ^ 64 + v * 2 ^ 96

/-- The capsules in progress: each is due, and the checks of its operation pass. -/
theorem test_witness_CapsuleEffects_due : ∀ q ∈ [(3, 0x0001, 4), (3, 0x0004, 0x10100 + 4 * 2 ^ 32), (4, 0x0101, par 2560 0), (3, 0x0701, par 512 0), (3, 0x0702, 2 ^ 112),
    (3, 0x0E01, 0), (4, 0x0E02, par 48 0), (4, 0x0E03, 0), (3, 0x0F01, unitId 0x02 0 0), (3, 0x1201, 0), (3, 0x0801, 0), (3, 0x0803, 2 ^ 108), (3, 0x0804, par 40 0),
    (4, 0x0B01, par 160 0), (3, 0x0B02, 0), (3, 0x0B03, par 72 262143), (3, 0x0B03, par 72 262144), (3, 0x0B04, par 0 262143), (3, 0x0B05, par 64 0), (3, 0x0C01, par 96 0),
    (3, 0x0C02, par 96 0), (3, 0x0C03, 0)],
    (capSealed q.1 q.2.1 q.2.2).capDue (capFrom q.2.1 q.2.2) q.2.1 { capWith q.2.1 q.2.2 with logSeq := some 1 } := by
  intro q h
  refine ⟨test_capIn_of ?_, rfl⟩
  revert q
  decide +kernel

/-- The second part of CAL_WRITE. -/
theorem test_witness_CapsuleEffects_second :
    let c := capWith 0x0101 (par 2560 0)
    ({ up 4 with bcp := { (up 4).bcp with caps := [{ c with stage := 1 }] } } : Dev).capIn (capFrom 0x0101 (par 2560 0)) 0x0101 { c with stage := 1 } 1 :=
  test_capIn_of (by decide +kernel)

/-- The reads, which are done at once. -/
theorem test_witness_CapsuleEffects_reads :
    let reads := [(0x0002, par 16 (16 * 2 ^ 32)), (0x0003, 0x10100 + 4 * 2 ^ 32), (0x0102, par 2560 0), (0x0E04, par 64 (2 ^ 96)), (0x1001, par 16 (16 * 2 ^ 64))]
    ∀ q ∈ reads, (up 3).capNew (capFrom q.1 q.2) q.1 (capWith q.1 q.2) ∧ (up 3).capMay (capWith q.1 q.2) (.ok []) ∧ (capWith q.1 q.2).checkOnly = false := by
  intro reads q h
  refine ⟨?_, test_capMay_of ?_, ?_⟩ <;> revert q <;> (try unfold Dev.capNew) <;> decide +kernel

theorem test_witness_CapsuleEffects :
    let k (op par : Nat) : CapRun := { capWith op par with logSeq := some 1 }
    let u := unitId 0x02 0 0
    ((capSealed 3 0x0001 4).setModeOwn (k 0x0001 4)).1 = 0 ∧ Mode.ofCode ((k 0x0001 4).param 0 1) = some .maintenance ∧
    ({ capSealed 3 0x0F01 u with ref := { (capSealed 3 0x0F01 u).ref with fenced := [u] } } : Dev).physState ((k 0x0F01 u).param 0 3) = 2 ∧
    Sparse.get? ({ up 3 with jnl := { (up 3).jnl with ckpts := [(1, (7, []))] } } : Dev).jnl.ckpts ((k 0x1001 (par 16 1)).param 12 1) = some (7, []) ∧
    (capSealed 3 0x1201 0).bcp.dormant = none := by decide +kernel

theorem test_witness_KeyCapsuleEffects :
    let k (op par : Nat) : CapRun := { capWith op par with logSeq := some 1 }
    let x : Conn := { Conn.blank with img := 2 ^ 640 + 1 }
    let d : Dev := { capSealed 3 0x0C02 0 with stx := { (up 3).stx with conns := [(0, x)] } }
    let e := (capSealed 3 0x0801 0).wr .PIT_STATE 0 1
    let own := { k 0x0802 (par 176 0) with word := (k 0x0802 (par 176 0)).word + 2 ^ 76 }
    ((e.pitOwn (2 + (k 0x0801 0).param 12 1 % 2) ((k 0x0801 0).pitch.getD 0)).1 = 0 ∧ (capSealed 3 0x0803 (2 ^ 108)).pitOwn 1 0 = (0, 0)) ∧
    own.pitch = some 0 ∧ (capSealed 4 0x0B01 0).cry.kek = none ∧ (k 0x0B03 (par 72 262143)).param 12 4 = 262143 ∧ (k 0x0B03 (par 72 262144)).param 12 4 = 262144 ∧
    (d.stx.removing = none ∧ connState (d.conn ((k 0x0C02 0).param 12 2)).img ≠ 0) ∧ ((capSealed 3 0x0C03 0).nsOwn (k 0x0C03 0)).1 = 0 ∧
    (((capSealed 3 0x0C01 0).wr .HIF_PMAP_ENTRY 0 (2 ^ 22)).installOwn (k 0x0C01 0) (.ok (leBytes 96 (2 + 3 * 2 ^ 32 + 2 ^ 35)))).1 = 0 ∧ ((capSealed 3 0x0B05 0).saOwn (k 0x0B05 0) (.ok (leBytes 64 0))).1 = 0 := by decide +kernel

/-- A device in SERVICE with one frame, number 7, at a place. -/
def oneFrame (x : Frame) : Dev := { up 3 with frames := [(7, x)] }

theorem test_witness_ParseResult :
    let x := Frame.fresh [] 0
    let d := oneFrame x
    let r := d.walk d.prs.ver x.bytes (d.pfld d.prs.ver .PRS_DEPTH 0 9 0) 33 0 (d.pfld d.prs.ver .PRS_PORT_CFG x.inPort 51 46) 0
      { kv := initKv x, steps := [], seen := [], vlan := 0, tunnel := 0 }
    d.pathOpen = true ∧ d.frame 7 = some x ∧ x.loc = .frontEnd ∧ d.isFirst 7 x = true ∧ r.2 = none ∧ (oneFrame { x with loc := .parsed }).pathOpen = true := by
  decide +kernel

theorem test_witness_AdmissionResult :
    let x : Frame := { Frame.fresh [] 0 with loc := .parsed }
    let y : Frame := { x with malformed := 1 }
    let z : Frame := { x with loc := .flowMiss }
    let d := oneFrame x
    let c := d.classify x
    ((oneFrame y).pathOpen = true ∧ (oneFrame y).frame 7 = some y ∧ (oneFrame y).admissible 7 y = true ∧ y.stamped = false ∧ y.malformed ≠ 0 ∧ y.inPort ≠ 0x30) ∧
    (d.pathOpen = true ∧ d.frame 7 = some x ∧ d.admissible 7 x = true ∧ x.stamped = false ∧ x.malformed = 0 ∧
      (d.resolvePitch { x with stamped := true, epoch := d.epc.cur }).2.isSome = true) ∧ (d.flowKey { x with action := c.1.rcd, tcam := c.2.2 }) = none ∧
    ((oneFrame z).pathOpen = true ∧ (oneFrame z).frame 7 = some z ∧ z.loc = .flowMiss ∧ (oneFrame z).admissible 7 z = false) := by decide +kernel

theorem test_witness_FrameMovement :
    let atPath : Frame := { Frame.fresh [] 0 with loc := .path 7 }
    let queued : Frame := { Frame.fresh [] 0 with loc := .queue 255, queue := 255 }
    let atMac : Frame := { Frame.fresh [] 0 with loc := .mac 31 }
    let ringed : Frame := { Frame.fresh [] 0 with loc := .ringEngine, rxRing := some 65535 }
    (7 < 8 ∧ (oneFrame atPath).pathOpen = true ∧ (oneFrame atPath).firstIf (fun y => y.loc = .path 7) = some (7, atPath) ∧
      ¬ (actBase atPath.action = 2 ∧ actCrypto atPath.action ≠ 2 ∧ ((oneFrame atPath).forwardTo atPath).1 = 2 ∧ (oneFrame atPath).extWait atPath = true)) ∧
    ((oneFrame queued).pathOpen = true ∧ (oneFrame queued).held = false ∧
      (oneFrame queued).firstIf (fun y => y.loc = .queue 255 && !y.ready) = some (7, queued)) ∧
    (let d := (oneFrame atMac).setFld .WIRE_PORT_STATUS 31 7 4 4
     31 < 32 ∧ d.pathOpen = true ∧ d.portState 31 = 4 ∧ d.mode.traffic = true ∧ d.firstIf (fun y => y.loc = .mac 31) = some (7, atMac) ∧
       d.macStops atMac = false) ∧ (up 6).pathOpen = false ∧
    (let x : Frame := { queued with spilled := true }
     (oneFrame x).pathOpen = true ∧ (oneFrame x).firstIf (fun y => y.inQueue && y.queue = 255 && y.spilled) = some (7, x) ∧ (oneFrame x).swb.spillRead < 8000) ∧
    ((oneFrame ringed).pathOpen = true ∧ (oneFrame ringed).firstIf (fun y => y.loc = .ringEngine && y.rxRing = some 65535) = some (7, ringed) ∧
      (oneFrame ringed).nextRecv 65535 = none ∧ ((oneFrame ringed).ring 65535).st ≠ 1) ∧
    (let x : Frame := { queued with ready := true }
     let d := (oneFrame x).setFld .WIRE_PORT_STATUS 31 7 4 4
     31 < 32 ∧ d.pathOpen = true ∧ d.held = false ∧ d.mode.traffic = true ∧ (((d.dropOversize 31).countGuard 31 0).choose 31 0 (fun _ => true)).isSome = true) := by
  decide +kernel

/-- A punt for cluster 7 is handed over; and one for a cluster that sleeps wakes it. -/
theorem test_witness_FrameMovement_punt :
    let x : Frame := { Frame.fresh [] 0 with loc := .queue 312, queue := 312, ready := true }
    let d := oneFrame x
    let e : Dev := { d with dor := { d.dor with asleep := [(7, false)] } }
    (7 < 8 ∧ d.pathOpen = true ∧ d.held = false ∧ d.mode.traffic = true ∧ Sparse.get? d.dor.asleep 7 = none ∧
      (d.choose 39 0 (fun y => d.puntRoom 7 y)).isSome = true) ∧
    (Sparse.get? e.dor.asleep 7 = some false ∧ e.schedHeads 39 ≠ [] ∧ e.pathOpen = true) := by decide +kernel

theorem test_witness_SwitchEvents :
    let x : Slot := { cluster := 7, oq := 4095, ord := 0, frames := [], count := 0, resolved := false, since := 0, stalls := 0 }
    let d : Dev := { (up 3).wr .SWB_RSQ_SKIP 0 1 with
      clk := { (up 3).clk with vn := 250000 }
      swb := { (up 3).swb with slots := [(3, x)], barrier := [(255, 2)], cluBarrier := some ([], []), hold := [(31, 250000)], xoff := [(255, 249500)] } }
    let e : Dev := { (up 3).wr .SWB_PORT_PFC 31 0 with
      clk := d.clk, swb := d.swb
      frames := [(7, { Frame.fresh [] 31 with loc := .queue 0, cls := 7, inCls := 7, lossless := true, cells := 1 })] }
    let p : Dev := { up 3 with frames := [(7, { Frame.fresh [] 0 with loc := .path 2, hash := 255 })], swb := d.swb }
    let en : Dev := { up 3 with swb := { (up 3).swb with enBarrier := some (1, [(3, 4)]) } }
    (31 < 32 ∧ 7 < 8 ∧ Sparse.get? e.swb.xoff (8 * 31 + 7) = some 249500 ∧ 249500 + 500 ≤ e.vn ∧ e.fld .SWB_PORT_PFC 31 39 20 < e.ingressCells 31 7) ∧
    ((port 4).portState 31 = 4 ∧ (port 4).mode.traffic = true ∧ (up 3).portState 31 ≠ 4) ∧
    (Sparse.get? d.swb.barrier 255 = some 2 ∧ (∀ e ∈ d.frames, ¬ (e.2.loc = .path 2 ∧ e.2.hash % 256 = 255)) ∧
      Sparse.get? p.swb.barrier 255 = some 2 ∧ ∃ e ∈ p.frames, e.2.loc = .path 2 ∧ e.2.hash % 256 = 255) ∧
    (d.swb.cluBarrier = some ([], []) ∧ d.barrierBusy ([], []) = false ∧ d.swb.enBarrier = none) ∧
    (en.swb.cluBarrier = none ∧ en.swb.enBarrier = some (1, [(3, 4)]) ∧ en.orderBusy 3 4 = false ∧ ∀ k ∈ en.frames, ¬ (k.2.loc = .held ∧ en.puntHeld k.2 = true)) ∧
    (Sparse.get? d.swb.hold 31 = some 250000 ∧ 250000 ≤ d.vn ∧ d.portState 31 ≠ 4) ∧
    (d.headSlot 7 4095 = some (3, x) ∧ d.fld .SWB_RSQ_SKIP 0 31 0 ≠ 0 ∧ x.resolved = false ∧ x.since + d.fld .SWB_RSQ_SKIP 0 31 0 ≤ d.vn) ∧
    x.since + (x.stalls + 1) * max 25000 (d.fld .SWB_RSQ_STALL 0 31 0) ≤ d.vn ∧ (2 ^ 19 - 1 < 2 ^ 19 ∧ d.takesWrite .basecamp .SWB_MC_ACC_CTL 0) ∧
    (bits (2 ^ 31 + 2 ^ 30) 31 30 = 3 ∧ bits (2 ^ 19 - 1) 18 0 + bits (2 ^ 19 - 1) 28 19 ≤ 524288 ∧ 524288 < bits (2 ^ 29 - 1) 18 0 + bits (2 ^ 29 - 1) 28 19) := by
  unfold Dev.takesWrite; decide +kernel

theorem test_witness_GateLists :
    let g : GateChange := { tag := 5, en := false, base := 0, cycle := 0, entries := [], x := 9, recNo := 99 }
    let d : Dev := { up 3 with sch := { (up 3).sch with change := [(31, g)] } }
    (31 < 32 ∧ ((up 3).setFld .SCH_GATE_STATUS 31 3 3 1).gated 31 = true ∧ (up 3).gateBase 31 ≤ (up 3).vn ∧ (up 3).gated 31 = false) ∧
    (0xFFFF < 2 ^ 16 ∧ (up 3).takesWrite .basecamp .SCH_GATE_CTL 31 ∧ (up 3).mode ≠ .lockdown ∧ (up 3).gateChange 31 = none ∧
      firstFail (gateChecks false ((up 3).fld .SCH_GATE_ADMIN_CFG 31 10 0) ((up 3).rd .SCH_GATE_ADMIN_BASE 31) ((up 3).rd .SCH_GATE_ADMIN_CYCLE 31) []) = 0 ∧
      gateX false ((up 3).rd .SCH_GATE_ADMIN_BASE 31) ((up 3).rd .SCH_GATE_ADMIN_CYCLE 31) ((up 3).untimedDue true) ≤ (up 3).vn + 2 ^ 32) ∧
    firstFail (gateChecks true 0 0 0 []) ≠ 0 ∧ (up 3).vn + 2 ^ 32 < gateX true (40 * (2 ^ 32 + 2)) 80 0 ∧
    ((up 6).takesWrite .basecamp .SCH_GATE_CTL 31 ∧ (up 6).mode = .lockdown) ∧
    (d.takesWrite .basecamp .SCH_GATE_CTL 31 ∧ d.gateChange 31 = some g ∧ d.vn + 2 ≤ g.x) ∧
    (let e : Dev := { d with clk := { d.clk with vn := 9 } }
     e.gateChange 31 = some g ∧ g.entries.length ≤ 1024 ∧ g.x ≤ e.vn ∧ e.sealedBefore g.recNo = true ∧ g.x < e.vn + 2) := by unfold Dev.takesWrite; decide +kernel

theorem test_witness_ShaperAndPolicerAccess :
    (up 3).takesWrite .basecamp .SCH_SHP_ACC_CTL 0 ∧ (0x1FFFF < 2 ^ 17 ∧ shpUsed 0x1FFFF = true) ∧
    (511 < 2 ^ 17 ∧ shpUsed 511 = false) ∧ ((up 3).pendEntries .SCH_SHP_ENTRY 2).length < 4096 ∧ (up 3).takesWrite .basecamp .SCH_POL_ACC_CTL 0 ∧
    2 ^ 18 - 1 < 2 ^ 18 ∧ ((up 3).pendEntries .SCH_POL_ENTRY 4).length < 4096 := by unfold Dev.takesWrite; decide +kernel

/-- A closed set of one entry that is due and sealed. -/
def closedSet (pause : Bool) (n : Nat) : Commit :=
  { o := .basecamp, tag := 0xFFFF, timed := false, target := 0, due := 0, pause := pause, recNo := 99, count := n }

/-- A device in SERVICE with that set, in a pause since `p`, applied since `a`. -/
def closing (pause : Bool) (n : Nat) (p a : Option Nat) : Dev :=
  { up 3 with epc := { (up 3).epc with closed := some (closedSet pause n), pauseFrom := p, applyFrom := a }, clk := { (up 3).clk with vn := 500 } }

theorem test_witness_EpochMode : (up 3).takesWrite .basecamp .EPC_MODE 0 ∧
    ((up 3).stagedCount = 0 ∧ (up 3).epc.closed = none ∧ (up 3).epc.heldC = none ∧ (up 3).epc.pauseFrom = none) ∧
    ¬ ((closing true 1 (some 1) none).epc.closed = none) ∧ (up 3).mode ≠ .lockdown ∧ ((up 3).fld .EPC_MODE 0 0 0 = 1 → pauseLen (up 3).stagedCount ≤ 496) := by
  unfold Dev.takesWrite; decide +kernel

theorem test_witness_CommitsAndPauses :
    let c := closedSet false 1
    let p := closedSet true 1
    let d := closing false 1 none none
    let at' (e : Dev) (v : Nat) (dr : Bool) : Dev := { e with clk := { e.clk with vn := v }, epc := { e.epc with drained := dr } }
    let on := closing true 1 (some 100) none
    ((up 3).takesWrite .basecamp .EPC_COMMIT 0 ∧ (up 3).mode ≠ .lockdown ∧ (up 3).epc.heldC = none ∧ (up 3).epc.closed = none ∧ (up 6).mode = .lockdown) ∧
    ((up 3).rd .EPC_TARGET_VN 0 < (up 3).untimedDue true ∧ (up 3).untimedDue true ≤ 2 ^ 32 + 1 ∧ (up 3).vn + 2 ^ 32 < 2 ^ 32 + 1 ∧
      (({ d with epc := { d.epc with heldC := some c } } : Dev).epc.heldC.isSome = true)) ∧
    (d.epc.closed = some c ∧ c.pause = false ∧ c.due ≤ d.vn ∧ d.sealedBefore c.recNo = true ∧ d.epc.heldC = none ∧ c.count ≠ 0 ∧
      d.liveEpochs - d.epc.retirable < 4 ∧ c.tag < 2 ^ 16) ∧ ((closing false 0 none none).epc.closed = some (closedSet false 0) ∧ (closedSet false 0).count = 0) ∧
    (let e : Dev := { d with epc := { d.epc with cur := 3 } }
     4 ≤ e.liveEpochs - e.epc.retirable) ∧
    (let e : Dev := { d with log := { d.log with fresh := [99] } }
     e.epc.closed = some c ∧ e.sealedBefore c.recNo = false ∧ e.epc.pauseFrom = none) ∧
    (let e : Dev := { up 3 with epc := { (up 3).epc with waited := 2 ^ 64 } }
     max 25000 (e.rd .EPC_STALL_VOLLEYS 0) ≤ e.epc.waited ∧ (up 3).epc.waited < max 25000 ((up 3).rd .EPC_STALL_VOLLEYS 0)) ∧
    (let e := closing true 1 none none
     e.epc.closed = some p ∧ p.pause = true ∧ p.count ≠ 0 ∧ p.due ≤ e.vn ∧ e.sealedBefore 99 = true ∧ e.epc.pauseFrom = none) ∧
    (∀ v ∈ [101, 100 + 500 - pauseLen 1], let e := at' on v true
      e.epc.closed = some p ∧ e.epc.pauseFrom = some 100 ∧ e.epc.applyFrom = none ∧ e.epc.drained = true ∧ e.vn ≤ 100 + 500 - pauseLen p.count) ∧
    (let e := at' on (100 + 500 - pauseLen 1) false
     e.epc.closed = some p ∧ e.epc.pauseFrom = some 100 ∧ e.epc.applyFrom = none ∧ e.epc.drained = false ∧ 100 + 500 - pauseLen p.count ≤ e.vn ∧ e.epc.heldC = none ∧
       p.tag < 2 ^ 16) ∧
    (let e := closing true 1 (some 100) (some 300)
     e.epc.closed = some p ∧ e.epc.pauseFrom = some 100 ∧ e.epc.applyFrom = some 300 ∧ 300 + pauseLen p.count ≤ e.vn ∧ (at' e 300 true).vn < 300 + pauseLen p.count) := by
  unfold Dev.takesWrite; decide +kernel

theorem test_witness_TableCommands :
    let c : TblCmd := ⟨.basecamp, 2, 3, 5, false, false, 1, 0⟩
    let d : Dev := { up 3 with tbl := { (up 3).tbl with cmds := [(15, c)] } }
    let below : Dev := { up 3 with tbl := { (up 3).tbl with cmds := [(14, c), (15, c)] } }
    let q : LearnReq := ⟨0, 0, 31, none, false⟩
    let m : LearnReq := { q with isMove := true }
    let a : AgeReq := ⟨0, 0, 9, 1⟩
    let e : Dev := { (up 3).wr .TBL_SHADOW_CTL 0 1 with clk := { (up 3).clk with vn := 250000 }, tbl := { (up 3).tbl with learnQ := [q, m] } }
    let g : Dev := { up 3 with tbl := { (up 3).tbl with learnQ := [m] } }
    let f : Dev := { up 3 with tbl := { (up 3).tbl with ageQ := [a] } }
    let known (age : Nat) : Dev := { f with tbl := { f.tbl with entries := [(entKey 0 632088, { TblEntry.blank with images := [(0, 2 ^ 188 + 9 * 2 ^ 128)], age := age })] } }
    (15 < 16 ∧ 0xFFFF < 2 ^ 16 ∧ (up 3).takesWrite .basecamp .TBL_CMD_CTL 15 ∧ (up 3).ownsPort .basecamp 15 = true ∧ (up 3).tblCmd 15 = none ∧
      (up 3).takesWrite .basecamp .TBL_CMD_CTL 0 ∧ (up 3).ownsPort .basecamp 0 = false) ∧
    (d.tblCmd 15 = some c ∧ ¬ (d.held = true ∨ c.writes = true ∧ d.portsBelow 15 c.table = true)) ∧
    (below.tblCmd 15 = some c ∧ (below.held = true ∨ c.writes = true ∧ below.portsBelow 15 c.table = true)) ∧
    (((up 3).tblRun 15 c).result = 0 ∧ opAllowed 4 0 = true ∧ opAllowed 3 9 = false ∧ (up 6).mode = .lockdown) ∧
    (e.tbl.learnQ = q :: [m] ∧ ¬ (e.held = true ∨ e.mode = .lockdown ∨ e.portsBelow 16 0 = true) ∧ q.isMove = false) ∧
    (g.tbl.learnQ = m :: [] ∧ ¬ (g.held = true ∨ g.mode = .lockdown ∨ g.portsBelow 16 0 = true) ∧ m.isMove = true) ∧ e.vn % 25000 = 0 ∧
    (f.tbl.ageQ = [a] ∧ f.held = false ∧ f.mode ≠ .lockdown ∧ f.portsBelow 16 a.table = false ∧ f.tbl.learnQ = [] ∧
      f.findKey a.table a.key (fun x => x.at f.epc.cur) = none) ∧
    ((known 1).findKey a.table a.key (fun x => x.at f.epc.cur) = some 632088 ∧ ((known 1).entry a.table 632088).age = a.stamp ∧ ((known 2).entry a.table 632088).age ≠ a.stamp) ∧
    (e.fld .TBL_SHADOW_CTL 0 0 0 = 1 ∧ e.vn % 250000 = 0 ∧ e.tbl.sweep = none ∧ ¬ ((up 3).fld .TBL_SHADOW_CTL 0 0 0 = 1)) ∧
    (({ (up 3).tbl with sweep := some 0 } : Tbl).sweep.isSome = true ∧ ((up 3).setFld .HIF_LINK_STATUS 0 11 8 2).outboundBar none 0 = none) ∧
    ((up 3).takesRead 0 .TBL_PARITY_LOG 0 ∧ (up 3).takesRead 0 .TBL_FROZEN_LOG 0) := by unfold Dev.takesWrite Dev.takesRead; decide +kernel

/-- Cluster 7 with its thread 255 in the state `n`. -/
def lastThread (n : Nat) : Dev := (up 3).setCtx 2047 { Ctx.blank with st := n, timer := some 0 }

theorem test_witness_ClusterControl :
    let stop := (lastThread 6).setFld .DOR_CORE_STATUS 255 8 8 1
    let d : Dev := { up 3 with clk := { (up 3).clk with vn := 9 }, dor := { (up 3).dor with restarts := [255], asleep := [(7, true)], stall := [(255, 2 ^ 64)] } }
    (7 < 8 ∧ 255 < 256 ∧ 0xFFFF < 2 ^ 16 ∧ (up 3).takesWrite .basecamp .DOR_SUP_ACT 7 ∧ ctxKey 7 255 = 2047 ∧ ((lastThread 6).ctx 2047).st = 6 ∧
      ((lastThread 2).ctx 2047).st = 2 ∧ ((up 3).ctx 2047).st = 0 ∧ (up 3).supervisor 7 ≠ 255) ∧
    (let e := (up 3).setCtx 2047 { Ctx.blank with st := 6, step := some emptyStep }
     ((e.ctx 2047).st = 4 ∨ (e.ctx 2047).st = 6) ∧ (e.ctx 2047).step.isSome = true) ∧
    (stop.coreStopped 7 (255 / 8) = true ∧ stop.mode ≠ .lockdown ∧ stop.fld .DOR_CORE_STATUS (32 * 7 + 255 / 8) 11 9 ≠ 3 ∧ (up 3).coreStopped 7 31 = false) ∧
    (31 < 32 ∧ (up 3).takesWrite .basecamp .DOR_CORE_CTL (32 * 7 + 31) ∧ 32 * 7 + 31 ∈ d.dor.restarts ∧ d.mode ≠ .lockdown ∧
      d.fld .DOR_CORE_STATUS (32 * 7 + 31) 11 9 ≠ 3 ∧ 32 * 7 + 31 ∉ (up 3).dor.restarts) := by unfold Dev.takesWrite; decide +kernel

theorem test_witness_ClusterControl_due :
    let d : Dev := { up 3 with clk := { (up 3).clk with vn := 9 }, dor := { (up 3).dor with restarts := [255], asleep := [(7, true)], stall := [(255, 2 ^ 64)] } }
    let at9 (n : Nat) : Dev := { lastThread n with clk := { (up 3).clk with vn := 9 } }
    let both : Dev := { d with dor := { d.dor with stallRec := [(255, 0)], stallBoth := [255] } }
    let full : Dev := { d with dor := { d.dor with fq := [(7, List.replicate 16 0)] } }
    ((up 3).takesWrite .basecamp .DOR_FQ_POP 7 ∧ (up 3).takesWrite .basecamp .DOR_NQ_POP 7 ∧ (up 3).takesWrite .basecamp .DOR_CLU_CTL 7) ∧
    (((lastThread 2).ctx (ctxKey 7 255)).live = true ∧ ((lastThread 2).ctx (ctxKey 7 255)).step = none ∧ ((up 3).ctx (ctxKey 7 255)).live = false) ∧
    (((at9 3).ctx 2047).timer = some 0 ∧ 0 ≤ (at9 3).vn ∧ ((at9 3).ctx 2047).armed ≠ (at9 3).vn ∧ ((up 3).ctx 2047).timer = none) ∧
    (Sparse.get? d.dor.asleep 7 = some true ∧ (d.ctx (ctxKey 7 (d.supervisor 7))).res = none ∧ Sparse.get? (up 3).dor.asleep 7 ≠ some true) ∧
    (d.stallLimit 7 ≤ Sparse.get (fun _ => 0) d.dor.stall (32 * 7 + 31) ∧ Sparse.get? d.dor.stallRec (32 * 7 + 31) = none ∧ (d.fq 7).length < 16 ∧
      16 ≤ (full.fq 7).length) ∧
    (Sparse.get? both.dor.stallRec (32 * 7 + 31) = some 0 ∧ 32 * 7 + 31 ∈ both.dor.stallBoth) := by unfold Dev.takesWrite; decide +kernel

theorem test_witness_HostInterface :
    let dirty : Dev := { up 3 with hif := { (up 3).hif with dirty := true } }
    (0xFFFF < 2 ^ 16 ∧ 4095 < 4096 ∧ (up 3).takesWrite .basecamp .HIF_PMAP_ACC_CTL 0 ∧ Origin.basecamp.pmapWriter = true ∧ (Origin.thread 0 1).pmapWriter = false) ∧
    (¬ ((up 3).mode = .lockdown ∨ (up 3).pitState 4095 ≠ 0) ∧ (up 6).mode = .lockdown) ∧
    (255 < 256 ∧ (up 3).takesWrite .basecamp .HIF_WIN_ACC_CTL 0 ∧ (up 3).takesWrite .basecamp .HIF_WIN_COMMIT 0) ∧
    (dirty.mode ≠ .lockdown ∧ dirty.hif.waiting = none ∧ dirty.hif.dirty = true ∧ firstFail dirty.winChecks = 0 ∧ (up 3).hif.dirty = false) := by unfold Dev.takesWrite; decide +kernel

theorem test_witness_HostInterface_requests :
    let trained := (up 3).setFld .HIF_LINK_STATUS 0 11 8 2
    let r : Req := { inst := 0, unit := 0, off := 0, len := 4, flush := false, issued := 0, got := [] }
    let d : Dev := { up 3 with
      clk := { (up 3).clk with vn := 2000000 }
      hif := { (up 3).hif with reqs := [(tagKey 3 1023, r)], quarantine := [(tagKey 3 5, 7)], waiting := some (3, [], true) } }
    let w : Nat := 2 ^ 83 + 2 ^ 81 + 2 ^ 80 + 3 * 2 ^ 30
    let win := ((up 3).wr .HIF_WIN_ENTRY 510 (w % 2 ^ 64)).wr .HIF_WIN_ENTRY 511 (w / 2 ^ 64)
    d.hif.waiting = some (3, [], true) ∧
    (3 < 4 ∧ (up 3).hears (.bar2 0 0) = true ∧ (up 3).winHit 3 0 = none ∧ win.winHit 3 0 = some 255 ∧ win.winRefuse 255 3 none true = none ∧
      2 ^ 36 - 4 + max 1 4 ≤ 2 ^ 36 ∧ 2 ^ 36 < 2 ^ 36 - 3 + max 1 4 ∧ regForm 2 4 = false) ∧
    (Sparse.get? d.hif.reqs (tagKey 3 1023) = some r ∧ r.issued + d.cplTimeout 3 ≤ d.vn) ∧
    (Sparse.get? d.hif.reqs (tagKey 3 5) = none ∧ Sparse.get? d.hif.quarantine (tagKey 3 5) = some 7 ∧ 7 ≤ d.vn ∧
      Sparse.get? d.hif.reqs (tagKey 3 4) = none ∧ Sparse.get? d.hif.quarantine (tagKey 3 4) = none) ∧
    ((up 3).linkPresent 0 = true ∧ (up 3).pstate 0 = 1) ∧ (trained.pstate 0 = 2 ∧ trained.awake = true ∧ trained.linkPresent 0 = true ∧ 0 / 2 ∉ trained.bcp.perst) ∧
    (8191 < 8192 ∧ (up 3).hears (.bar0 0) = true ∧ 4095 < (up 3).vectors 0) ∧ (trained.setFld .HIF_LINK_STATUS 0 11 8 3).pstate 0 = 3 ∧
    (1 < 2 ∧ 1 ∉ (up 3).bcp.perst ∧ 1 - 1 ∉ (up 3).bcp.perst ∧ (up 3).awake = true) := by decide +kernel

/-- A link whose L0p partner and ASPM are on, and which has been idle. -/
theorem test_witness_HostInterface_power :
    let a := ((((up 3).setFld .HIF_LINK_STATUS 0 11 8 2).setFld .HIF_LINK_STATUS 0 16 12 16).setFld .HIF_LINK_STATUS 0 2 2 1).wr .HIF_LPM 0 (2 ^ 16 + 2 * 2 ^ 6)
    let b := a.wr .HIF_CFG 24 2
    let d : Dev := { b with clk := { b.clk with vn := 25 }, hif := { b.hif with l0p := [0] } }
    (d.pstate 0 = 2 ∧ (d.linkCfg 0).aspm = true ∧ d.fld .HIF_LPM 0 31 16 ≠ 0 ∧ d.linkIdle 0 (d.fld .HIF_LPM 0 31 16) = true ∧ d.linkQuiet 0 = true) ∧
    (d.fld .HIF_LINK_STATUS 0 2 2 = 1 ∧ (d.linkCfg 0).l0p = true ∧ d.l0pWidth 0 ≠ 0 ∧ d.fld .HIF_LPM 0 15 8 ≤ 0 ∧ d.l0pWidth 0 < d.fld .HIF_LINK_STATUS 0 16 12) := by
  decide +kernel

theorem test_witness_RingCommands :
    let x : Ring := { Ring.blank with st := 1 }
    let ring (y : Ring) : Dev := { up 3 with rng := { (up 3).rng with rings := [(65535, y)] } }
    let d := ring x
    let drain : Dev := { ring { Ring.blank with st := 3 } with rng := { (ring { Ring.blank with st := 3 }).rng with accBusy := some (5, 65535) } }
    let q : Cq := { Cq.blank with enabled := true }
    let e : Dev := { up 3 with rng := { (up 3).rng with cqs := [(16383, q)] } }
    let y : Item := { lostItem Ring.blank 65535 4 0 with kind := 5, stage := 1, busy := false }
    let fw : Dev := { ring { x with ctx := putBits 0 3 0 5 } with rng := { (ring { x with ctx := putBits 0 3 0 5 }).rng with items := [(itemKey 65535 4, y)] } }
    (4095 < 4096 ∧ (up 3).hears (.bar2 0 4095) = true ∧ (up 3).clocked 9 = true ∧ ((up 3).useLink 0).pageBar 0 4095 = some (.HIF_DB_FOREIGN, 0)) ∧
    (((up 3).wr .HIF_PMAP_ENTRY 4095 (2 ^ 22)).pageBar 0 4095 = none ∧ ((up 3).wr .HIF_PMAP_ENTRY 4095 (2 ^ 22)).pageDrops 4095 = false) ∧
    (2 ^ 32 - 1 < 2 ^ 32 ∧ ((d.ring 65535).st = 1 ∨ (d.ring 65535).st = 2) ∧ ixSub 1 (d.ring 65535).p ≠ 0 ∧
      ixSub 1 (d.ring 65535).p ≤ (d.ring 65535).size - ixSub (d.ring 65535).p (d.ring 65535).c ∧
      (d.ring 65535).size - ixSub (d.ring 65535).p (d.ring 65535).c < ixSub (2 ^ 32 - 1) (d.ring 65535).p ∧ ((up 3).ring 65535).st = 0) ∧
    ((e.cq 16383).enabled = true ∧ ixSub 0 (e.cq 16383).ccq ≤ ixSub (e.cq 16383).pcq (e.cq 16383).ccq ∧ ((up 3).cq 16383).enabled = false) ∧
    ((up 3).rngOrigin .basecamp 0 65535 true = true ∧ (up 3).rng.accBusy = none ∧ 65535 < rngTableSize 0 ∧ rngTableSize 0 ≤ 65536 ∧
      (up 3).rngOrigin (.thread 0 1) 0 65535 true = false ∧ drain.rng.accBusy.isSome = true) ∧
    (3 < 4 ∧ 65535 < 2 ^ 16 ∧ 0xFFFF < 2 ^ 16 ∧ (up 3).takesWrite .basecamp .RNG_RING_ACC_CTL 0) ∧
    (drain.rng.accBusy = some (5, 65535) ∧ (drain.ring 65535).st = 3 ∧ (drain.ring 65535).done = (drain.ring 65535).c ∧ (drain.ring 65535).errDue = false ∧
      (drain.ring 65535).owed = []) ∧ (up 3).frozen = false ∧
    ((up 3).takesWrite (.thread 0 0) .RNG_FW_DONE 0 ∧ (fw.item ⟨65535, 4⟩).any (fun y => y.stage = 1) = true) ∧ (up 3).takesRead 0 .RNG_ERR_LOG 0 := by
  unfold Dev.takesWrite Dev.takesRead; decide +kernel

theorem test_witness_ChannelCommands :
    let n := 128 * 8 + 63
    let own := (up 3).wr .DMA_CH_OWNER n (2 + 9 * 2 ^ 8)
    let o : Origin := .thread 0 9
    let armed := own.setFld .DMA_CH_STATUS n 1 1 1
    let fail : Dev := { own.setFld .DMA_CH_STATUS n 9 8 1 with dma := { (up 3).dma with chans := [(n, { Chan.blank with failed := some 3 })] } }
    let point := (own.setFld .DMA_CH_STATUS n 9 8 1).wr .DMA_ACT_CFG n 4
    let dead := (((up 3).wr .DMA_CH_OWNER n (2 + 9 * 2 ^ 8)).setFld .DMA_CH_STATUS n 2 2 1).setCtx 9 { Ctx.blank with st := 6 }
    let halted : Dev := { dead with dma := { dead.dma with chans := [(n, { Chan.blank with halt := 2 ^ 64 })] } }
    (chanOk 8 63 = true ∧ 3 < 4 ∧ 0xFFFF < 2 ^ 16 ∧ (∀ w, w < 4 → own.takesWrite o (shadowReg w) n) ∧
      own.takesWrite o .DMA_CH_CTL n ∧ own.takesWrite o .DMA_CH_OWNER n) ∧
    (n < 1088 ∧ own.isOwner o n = true ∧ own.isOwner .basecamp n = false ∧ own.armed n = false ∧ armed.isOwner o n = true ∧ armed.armed n = true) ∧
    (own.mayReclaim .basecamp n = true ∧ own.mayReclaim (.bar0 0) n = false ∧ own.mayReset .basecamp n = true) ∧
    (own.mode ≠ .lockdown ∧ own.isFenced (chanUnit n) = false ∧ own.chState n = 0) ∧
    ((up 3).pickChannel 4 = none ∧ 4 < 5 ∧ (own.mayOwn (.thread 1 0) n 2 = false)) ∧
    (point.atPoint n = true ∧ ((((point.bump .DMA_CH_TRANSFERS n).add .DMA_CH_BYTES n (point.rd .DMA_ACT_LEN n)).transferEnd n 0).chan n).work = none) ∧
    (fail.chState n = 1 ∧ (fail.chan n).failed = some 3 ∧ (fail.chan n).outst = 0 ∧ 8 < 9) ∧
    ((own.setFld .DMA_CH_STATUS n 9 8 3).chState n = 3 ∧ (own.chan n).outst = 0) ∧
    (halted.ownerHalted n = true ∧ halted.fld .DMA_CH_STATUS n 4 4 = 0 ∧ max 250 (halted.rd .DMA_OWNER_HALT_LIMIT 8) ≤ (halted.chan n).halt) ∧
    (up 3).takesRead 0 .DMA_HALT_LOG 8 := by unfold Dev.takesWrite Dev.takesRead; decide +kernel

theorem test_witness_CryptoCommands :
    let holds (o : Origin) : Dev := { up 3 with cry := { (up 3).cry with holder := some (o, 0) } }
    let op : Dev := { holds .basecamp with cry := { (holds .basecamp).cry with op := some (keyCtlWord 2 9 0 0 false 5, .basecamp) } }
    let j : Job := { frame := none, item := ⟨0, 0⟩, sa := 262144, img := 0, key := 0, num := 0, lane := 15 }
    let lane : Dev := { up 3 with cry := { (up 3).cry with jobs := [j] } }
    let x : Frame := { Frame.fresh [] 0 with loc := .crypto }
    let f : Dev := { oneFrame x with cry := { (oneFrame x).cry with arrived := [7] } }
    (262143 < 262144 ∧ (up 3).takesWrite .basecamp .CRY_SA_ACC_CTL 0 ∧ (up 3).saWriter .basecamp = true ∧ (up 3).saWriter (.thread 0 1) = false ∧ (up 6).mode = .lockdown ∧
      firstFail (saChecks ((up 3).sa 262143) (saMask (up 3).saData)) = 0 ∧ firstFail (saChecks 0 (2 ^ 27)) ≠ 0) ∧
    (Origin.basecamp.atPort.mayHold = true ∧ (up 3).clocked 0xB = true ∧ (up 3).hears .basecamp = true ∧ (up 3).cry.holder = none ∧
      (up 3).takesWrite .basecamp .CRY_KEYPORT_LOCK 0 ∧ (up 3).holds .basecamp = false ∧ (holds .basecamp).holds .basecamp = true ∧ (holds (.bar0 0)).cry.holder = some (.bar0 0, 0)) ∧
    ((holds .basecamp).cry.holder = some (.basecamp, 0) ∧ 0 ≤ (holds .basecamp).vn ∧ (holds .basecamp).cry.relDue = false) ∧
    (2 ^ 18 - 1 < 2 ^ 18 ∧ 255 < 256 ∧ 4095 < 4096 ∧ 0xFFFF < 2 ^ 16 ∧ (up 3).takesWrite .basecamp .CRY_KEYPORT_CTL 0 ∧ (holds .basecamp).cry.op = none ∧ op.cry.op.isSome = true) ∧
    (0x3EFFF < 0x3F000 ∧ (up 3).mode ≠ .lockdown ∧ (up 3).cry.erasing = false ∧ (up 3).cry.kek = none ∧ ({ (up 3).cry with kek := some 5 } : Cry).kek = some 5) ∧
    (f.pathOpen = true ∧ f.cry.erasing = false ∧ f.lanePick = some 0 ∧ f.frame 7 = some x ∧ f.inLane 7 = false ∧
      f.cryFirst 7 x = true) ∧ (lane.pathOpen = true ∧ lane.laneHead 15 = some j) ∧
    ((up 3).awake = true ∧ 31 % 32 ≠ 0) ∧ ((up 2).bcpRuns = true ∧ (up 2).mode = .bringup ∧ (up 2).cry.noPitch = none) ∧
    ({ (up 3).cry with erasing := true, zeroing := some 0 } : Cry).zeroing.isSome = true ∧ ({ (up 3).cry with erasing := true } : Cry).erasing = true := by
  unfold Dev.takesWrite; decide +kernel

theorem test_witness_StorageCommands :
    let x : Conn := { Conn.blank with img := 2 ^ 640 + 1, ackDue := some 0, timer := some 0, rnrEnd := some 0, sendq := [1] }
    let conn (y : Conn) : Dev := { up 3 with stx := { (up 3).stx with conns := [(65535, y)] } }
    let d := conn x
    let f : Frame := { Frame.fresh [] 0 with loc := .stx, tag := 65535 }
    let i : Item := { lostItem Ring.blank 9 4 0 with kind := 4, stage := 1, busy := false }
    let e : Dev := { up 3 with rng := { (up 3).rng with items := [(itemKey 9 4, i)] } }
    let m : StxCmd := ⟨0, ⟨9, 4⟩, 0, [], true, 0, 0, []⟩
    let w : Dev := { conn { x with waiting := [m], rnrEnd := none } with rng := { (up 3).rng with items := [(itemKey 9 4, { i with busy := true, filled := false })] } }
    let t := w.pruneConn 65535
    (65535 < 2 ^ 16 ∧ 0xFFFF < 2 ^ 16 ∧ (up 3).takesWrite .basecamp .STX_ACC_CTL 0 ∧ Origin.basecamp.stxWriter = true ∧ (Origin.thread 0 1).stxWriter = false ∧
      (up 3).stx.removing = none ∧ 4095 < 4096) ∧ (up 3).takesRead 0 .STX_CONN_LOG 0 ∧
    (e.pathOpen = true ∧ e.item ⟨9, 4⟩ = some i ∧ i.kind = 4 ∧ i.stage = 1 ∧ i.busy = false ∧ e.startFirst i = true ∧ e.startBar i ≠ 0) ∧
    (w.pathOpen = true ∧ (t.conn 65535).waiting = m :: [] ∧ (t.conn 65535).freeTag = some 0 ∧ (t.item m.item).isSome = true ∧ (t.conn 65535).active = true ∧
      (t.conn 65535).rnrEnd = none ∧ w.mute 65535 = false) ∧
    (let r := { x with rx := [5, 0, 8, 0, 8, 0, 0, 0] }
     r.nextPdu = some ([5, 0, 8, 0, 8, 0, 0, 0], []) ∧ r.active = true ∧ r.tcp = true ∧ (conn r).pathOpen = true) ∧
    ((oneFrame f).pathOpen = true ∧ (oneFrame f).stxHead 65535 = some (7, f) ∧ connState ((oneFrame f).conn 65535).img = 0) ∧
    (d.pathOpen = true ∧ x.active = true ∧ d.mute 65535 = false ∧ x.tcp = true ∧ d.conn 65535 = x ∧ x.ackDue = some 0 ∧ 0 ≤ d.vn ∧ x.timer = some 0 ∧ x.flight = [] ∧
      x.sndWnd = 0 ∧ x.sendq = [1] ∧ x.rnrEnd = some 0) ∧
    (let y : Conn := { x with flight := [⟨0, [1], 0, false⟩] }
     y.active = true ∧ y.flight ≠ [] ∧ y.probing = true) := by unfold Dev.takesWrite Dev.takesRead; decide +kernel

theorem test_witness_PitchesAndReferee :
    let y (op : Nat) (ph : Nat) : PitOp := { op := op, pitch := 4095, link := 0, tag := 5, start := 1, since := 0, phase := ph, result := 0, detail := 0, last := 9, len := 0 }
    let d (op ph : Nat) : Dev := { up 3 with pit := { (up 3).pit with op := some (y op ph) }, clk := { (up 3).clk with vn := 2 ^ 63 } }
    let u := unitId 0x0B 0 1
    let x : FenceDue := ⟨u, 0x0E, 0, 99⟩
    let w : WhistleMsg := ⟨0, u, 0x0E, 0, 1, 0, 0, 0⟩
    let z (pos taker : Option Nat) : Subst := ⟨u, pos, 0, none, taker⟩
    let r : Dev := { up 3 with
      clk := { (up 3).clk with vn := 2 ^ 62 }, whistles := [w]
      ref := { (up 3).ref with due := [x], testing := [(u, 0)], copies := [(3, 4)], repairing := [(unitId 0x01 0 0, 0)], subst := [z none none] } }
    let back : Dev := { r with ref := { r.ref with passed := [x] } }
    let st : LogEntry := ⟨0, powerUpRec, some ⟨.device, Reg.PIT_STATE.key 4095, 8, 0xF, none⟩⟩
    let rp : LogEntry := ⟨0, powerUpRec, some ⟨.referee, u, 0x0E, 0, none⟩⟩
    (4095 < 4096 ∧ 3 < 4 ∧ 0xFFFF < 2 ^ 16 ∧ (up 3).hears .basecamp = true ∧ ({ (up 3).bcp with off := true } : Bcp).off = true) ∧
    ((up 3).regFenced .PIT_CTL 0 = false ∧ (up 3).clocked 0x12 = true ∧ Origin.basecamp.pitWriter = true ∧ (Origin.thread 0 1).pitWriter = false ∧ (up 3).pit.op = none ∧
      pitAllows 1 ((up 3).pitState 4095) = true ∧ (up 3).mode ≠ .lockdown) ∧
    ((up 3).jnl.fail < 4 ∧ st.held = some ⟨.device, Reg.PIT_STATE.key 4095, 8, 0xF, none⟩ ∧ rp.held = some ⟨.referee, u, 0x0E, 0, none⟩) ∧
    (15 < 16 ∧ (up 3).bcp.caps = []) ∧
    ((d 2 0).pit.op = some (y 2 0) ∧ (y 2 0).since < (d 2 0).vn ∧ (d 2 0).pitMoving 4095 = false) ∧
    ((d 2 1).pitchItems 4095 = [] ∧ (y 2 1).since + (d 2 1).pitLimit .PIT_DRAIN_LIMIT ≤ (d 2 1).vn) ∧ ((y 2 2).last = 9 ∧ (y 2 3).phase = 3) ∧
    ((d 3 1).channelsSettled = true ∧ (d 3 1).pitchDone 4095 = true) ∧ ((d 4 1).pitchItems 4095 = [] ∧ (y 4 1).since + (d 4 1).pitLimit .PIT_FREEZE_LIMIT ≤ (d 4 1).vn) ∧
    ((d 7 1).restoreChecks 4095 []).toOption.isNone = true ∧ r.whistles = w :: [] ∧ (UnitCheck.mk 0x13 (2 ^ 24 - 1) 0 0).wf = true ∧
    (let e := r.wr .REF_WIN 32766 (2 ^ 63)
     16383 < 16384 ∧ e.winDue 16383 = true ∧ e.fld .REF_WIN 32766 47 32 = 0 ∧ (r.wr .REF_WIN 32766 (2 ^ 63 + 2 ^ 32)).winDue 16383 = true ∧
       (r.wr .REF_WIN 32766 (2 ^ 63 + 2 ^ 32)).fld .REF_WIN 32766 47 32 ≠ 0 ∧ r.winDue 16383 = false) ∧
    (r.fenceNext = some x ∧ (up 3).fenceNext = none) ∧ (r.substNext = some (z none none) ∧ (up 3).substNext = none) ∧
    (z (some 1) (some u)).taker = some u ∧ r.ref.copies = (3, 4) :: [] ∧
    (r.underRepair (unitId 0x01 0 0) = true ∧ r.repairDone (unitId 0x01 0 0) = true) ∧ (r.underTest u = true ∧ ∀ d ∈ r.ref.passed, d.unit ≠ u) ∧
    (back.readmitNext = some x ∧ r.readmitNext = none) ∧ (up 3).takesWrite .basecamp .REF_CLEAR 0 := by unfold Dev.takesWrite; decide +kernel

/-- A device at a boundary of VN 25,000 with `n` as the stage of its power failure. -/
def failing (n : Nat) : Dev := { up 3 with clk := { (up 3).clk with vn := 25000 }, jnl := { (up 3).jnl with fail := n, failVn := 24999 } }

theorem test_witness_JournalAndPower :
    let a := failing 0
    let z : ResetRun := ⟨some 3, 0, .device, 99⟩
    let d : Dev := { a with jnl := { a.jnl with resets := [z], replay := [65535], ckptRun := some (1, 0, []) } }
    (a.ckptDue = true ∧ a.jnl.ckptRun = none ∧ d.ckptDue = true ∧ d.jnl.ckptRun.isSome = true ∧ (up 3).ckptDue = false) ∧ d.jnl.ckptRun = some (1, 0, []) ∧
    (d.resetNext = some z ∧ (up 3).resetNext = none) ∧ (d.jnl.replay.contains 65535 = true ∧ d.replayOpen = true) ∧
    (a.awake = true ∧ a.jnl.fail = 0) ∧ ((failing 1).jnl.fail = 1 ∧ (failing 1).jnl.failVn ≤ (failing 1).vn) ∧
    ((failing 2).jnl.fail = 2 ∧ (failing 2).jnl.failVn < (failing 2).vn ∧ (failing 2).dor.releases = []) ∧ (failing 3).jnl.fail = 3 ∧
    ((failing 4).jnl.fail = 4 ∧ (failing 4).bcp.off = false) ∧
    ((up 2).mode = .bringup ∧ (up 2).bcp.off = false ∧ (up 2).jnl.restored = false ∧ (up 2).jnl.fail = 0 ∧ (up 2).restoreImage [] = none) ∧
    (a.ticking = true ∧ a.vn % 25000 = 0) ∧ (up 3).takesRead 0 .BCP_EVENT_LOG 0 := by unfold Dev.takesRead; decide +kernel

theorem test_witness_JournalAndPower_writes : (up 3).takesWrite .basecamp .SITE_RESET 0 ∧ (up 3).takesWrite .basecamp .JNL_CTL 0 ∧
    (up 3).takesWrite .basecamp .BCP_WDT 0 ∧ (up 3).takesWrite .basecamp .BCP_BOOT_CONFIRM 0 ∧ (up 3).takesWrite .basecamp .PWR_MODE 0 ∧
    (up 3).takesWrite .basecamp .CLK_PLL_CTL 0 ∧ (up 3).takesWrite .basecamp .CLK_SRC 18 := by unfold Dev.takesWrite; decide +kernel

theorem test_witness_JournalAndPower_basecamp :
    let r : ModeReq := ⟨.maintenance, 1, 0, 99, .maintenance, .basecamp⟩
    let torn : Dev := { up 2 with log := { (up 2).log with store := [{ powerUpRec with seq := 4 }] } }
    let e : Dev := { (up 3).wr .BCP_STATUS 0 9 with
      clk := { (up 3).clk with vn := 125000000 }, modeReqs := [r]
      bcp := { (up 3).bcp with dormant := some (1, 0, .basecamp), trialBack := some 0, perst := [1], armed := true, pll := some 0 } }
    let busy : Dev := { itemOn 3 1 [] with clk := e.clk, bcp := e.bcp }
    (e.bcp.dormant = some (1, 0, .basecamp) ∧ e.rng.items = [] ∧ busy.rng.items ≠ [] ∧ 0 + 250000 ≤ busy.vn) ∧
    (({ e.bcp with dormant := some (2, 0, .basecamp) } : Bcp).dormant = some (2, 0, .basecamp) ∧ e.jnl.fail ≠ 3) ∧
    (torn.bcpRuns = true ∧ torn.mode = .bringup ∧ torn.tornRecs ≠ []) ∧
    (e.awake = true ∧ e.fld .BCP_STATUS 0 1 0 ≠ 2 ∧ e.bcpRuns = true ∧ e.bcp.wdtAt + 25000 * max 10 (e.fld .BCP_WDT 0 15 0) ≤ e.vn ∧
      (up 3).vn < (up 3).bcp.wdtAt + 25000 * max 10 ((up 3).fld .BCP_WDT 0 15 0)) ∧
    (e.bcp.trialBack = some 0 ∧ e.fld .BCP_STATUS 0 3 3 = 1 ∧ e.bcp.started + 125000000 ≤ e.vn) ∧
    (1 < 2 ∧ e.bcp.perst.contains 1 = true ∧ e.bcp.off = false ∧ e.bcp.armed = true ∧ e.mode ≠ .dormant ∧ e.bcp.pll.isSome = true ∧ 18 < 19) ∧
    (e.modeNext = some r ∧ (up 3).modeNext = none) ∧ { (up 3).bcp with off := true }.off = true := by decide +kernel

theorem test_witness_ManagementCommands :
    let u (n : Nat) : Upd := ⟨n, 4096, 4096, none⟩
    let d (n : Nat) : Dev := { (up 3).setFld .HIF_LINK_STATUS 3 11 8 2 with bcp := { (up 3).bcp with upd := some (u n) } }
    (3 < 4 ∧ (d 6).linkUp 3 = true ∧ (d 6).bcpRuns = true ∧ (d 6).mgmtUp = true ∧ 103 < 104) ∧ ((d 6).bcp.upd = some (u 6) ∧ (up 3).bcp.upd = none) ∧ (d 6).jnl.fail < 2 ∧
    ((u 3).stage = 3 ∧ (u 3).size ≤ (u 3).got) ∧ (30 < 31 ∧ 31 < 32 ∧ (0 : Nat) ≠ 0xE7A5 ∧ 0x0002 % 2 ^ 16 = 0x0002) := by decide +kernel

/-- A command that waits, and the command of an idle block. -/
theorem test_witness_StepRunsFront : ({ State.reset with pending := [.ageTick] } : State).pending = .ageTick :: [] ∧ State.reset.pending = [] := by decide

theorem test_witness_EveryCommandRuns : Instr.ageTick.wf = true ∧ (Instr.clkSrcWrite .basecamp 18 3).wf = true ∧
    ({ State.reset with pending := [.ageTick] } : State).queueOk = true := by decide

theorem test_witness_RegisterPlace : Reg.CLK_SRC.info.cls < 99 ∧ 18 < dimCount Reg.CLK_SRC.info.dims ∧ 0 < 2 ^ 24 := by decide

theorem test_witness_QueueStaysSafe : ({ State.reset with pending := [.ageTick, .clkSrcWrite .basecamp 18 3] } : State).queueOk = true := by decide

/-! ### The worked examples of the spec

Each expected value below stands in a worked example or a table of spec/, at the place the docstring names. -/

/-- What an outcome's device shows; nothing where the command stopped. -/
def shown {α : Type} (x : Host.Outcome State Fault Refusal) (f : Dev → α) : Option α :=
  match x with
  | .next s => some (f s.dev)
  | _ => none

/-- 19_address_map.md, the example: DOR_CTX_STATE[9][3] of cluster 5 at BAR0 + 0x00F4_196C, HBM line 0x4_0001_0000 on pseudo-channel 20.
12_dma_engines.md, the example: channel 17 of instance 0 at 0x0140_3200. R495: SITE_RESET at window offset 0x1_0100. -/
theorem test_places : Reg.DOR_CTX_STATE.bar0 (256 * 5 + 8 * 9 + 3) = 0xF4196C ∧ Reg.DMA_SH_SRC.bar0 17 = 0x1403200 ∧ Reg.SITE_RESET.bar0 0 = 0x10100 := by
  decide +kernel

/-- 09_dorut_isa.md, the example: the words at 0x100, 0x104, 0x120, 0x124 and 0x130. -/
theorem test_words : wordI 0x39 4 0 4 = 0xE4800004 ∧ wordR 0x3A 0 0 0 0 = 0xE8000000 ∧ wordI 0x08 11 5 8 = 0x21650008 ∧
    wordR 1 11 20 11 0 = 0x05745800 ∧ wordR 0x3A 0 0 0 1 = 0xE8000001 := by decide

/-- R271: −7 ÷ 2 is −3 and leaves −1; R272: SHI with IMM16[7:6] = 0b11 rotates. g1 is −7, g2 is 2. -/
theorem test_thread_arithmetic :
    let s (w : Nat) : State := ⟨thr w [2 ^ 64 - 7, 2], []⟩
    shown (exec (.div 5 3 1 2) (s (wordR 1 3 1 2 0x14))) (fun d => (d.ctx 5).res) = some (some (resOf [(3, BitVec.ofInt 64 (-3))] none)) ∧
    shown (exec (.rem 5 3 1 2) (s (wordR 1 3 1 2 0x16))) (fun d => (d.ctx 5).res) = some (some (resOf [(3, BitVec.ofInt 64 (-1))] none)) ∧
    shown (exec (.shi 5 3 2 0x00C2) (s (wordI 0x08 3 2 0x00C2))) (fun d => ((d.ctx 5).reg 3, (d.ctx 5).pc)) =
      some ((0x8000000000000000 : Word), 0xFFFF000000000004) := by decide +kernel

/-- R269, R290: a word of no instruction halts the thread that fetches it: ILLEGAL (0x01), with the word as DETAIL. -/
theorem test_reserved_word : shown (exec (.add 5 3 1 2) ⟨thr (wordR 1 3 1 2 0x013) [], []⟩) (fun d => ((d.ctx 5).st, (d.fq 0).map (fun r => (bits r 79 72, bits r 255 224)))) =
    some (4, [(0x01, 0x04611013)]) := by decide +kernel

/-- R290, R471: a fetch whose word fails parity again halts the thread that was to issue: MEM_ERROR (0x07), with the address. -/
theorem test_fetch_parity : shown (exec (.whistle (some ⟨0x0C, unitId 0x07 0 0, 0, 1⟩)) ⟨thr (wordR 1 3 1 2 0x010) [], []⟩) (fun d =>
    ((d.ctx 5).st, (d.fq 0).map (fun r => bits r 79 72), d.whistles.map (fun w => w.kind))) = some (4, [0x07], [0x0C]) := by decide +kernel

/-- 01_volley_and_modes.md, the example, steps 1, 2 and 4: an inconsistent apply reads 0x0011_0103 and counts one reject, the repaired one
0x0012_0001. The command itself raises a record, and the effect comes with its seal (R28). -/
theorem test_apply_example :
    let force := ((up 3).wr .CLK_TOUT_PERIOD 0 25000).wr .CLK_TOUT_WIDTH 0 2500
    let a := force.pendWrite .CLK_TOUT_PERIOD 0 2500
    let b := a.pendWrite .CLK_TOUT_WIDTH 0 250
    let k := blkOf 0x11 0
    (let d := a.groupApply .basecamp k 0 0x11 false false
     (d.rd .GROUP_STATUS k, d.rd .GROUP_REJECT_COUNT k, d.pend.length) = (0x00110103, 1, 1)) ∧
    (let d := b.groupApply .basecamp k 0 0x12 false false
     (d.rd .GROUP_STATUS k, d.pend.length, d.waits.length) = (0x00120001, 0, 1)) ∧
    shown (exec (.apply .basecamp k 0 0x12 false) ⟨b, []⟩) (fun d => (d.pend.length, d.waits.length, d.log.ord.length)) = some (2, 0, 1) := by decide +kernel

/-- 13_crypto_and_keys.md, the example: the lock reads 7 for host admin on A0, then 6 for Basecamp with one denied, and 0xF for Basecamp when it is free;
the CTL word of the load. -/
theorem test_key_port_example :
    let s : State := ⟨up 3, []⟩
    let held : State := ⟨{ up 3 with cry := { (up 3).cry with holder := some (.bar0 0, 25000) } }, []⟩
    shown (exec (.keyportAcquire (.bar0 0)) s) (fun d => d.out) = some [.hostCpl 0 true (leBytes 4 7)] ∧
    shown (exec (.keyportAcquire .basecamp) held) (fun d => (d.out, d.rd .CRY_KEYPORT_DENIED 0)) = some ([.reply 0 [6]], 1) ∧
    shown (exec (.keyportAcquire .basecamp) s) (fun d => d.out) = some [.reply 0 [0xF]] ∧ keyCtlWord 1 0x1234 2 0x12C true 0x61 = 0x0061112C02041234 := by decide +kernel

/-- The members that a level serves in its next turns. -/
def turns (d : Dev) (ms : List (Nat × Nat)) : Nat → List Nat
  | 0 => []
  | n + 1 => match d.takeTurn 0 ms with
    | some (m, e) => m :: turns e ms n
    | none => []

/-- 11_rings_and_completions.md, the example: the cycle of level 1 is 0x010, 0x011, 0x010, and that of level 2 is 10, 11, 10, 10. -/
theorem test_turn_example : turns (up 3) [(0x10, 2), (0x11, 1)] 6 = [0x10, 0x11, 0x10, 0x10, 0x11, 0x10] ∧
    turns (up 3) [(10, 3), (11, 1)] 8 = [10, 11, 10, 10, 10, 11, 10, 10] := by decide +kernel

/-- 12_dma_engines.md, the example: RECLAIM by the supervisor of cluster 3 gives it the channel, and counts one. -/
theorem test_reclaim_example :
    let d := (((up 3).wr .DMA_CH_OWNER 17 (2 + 0x2C * 2 ^ 8 + 3 * 2 ^ 16)).wr .DMA_SH_SRC 17 0x200010000).reclaim (.thread 3 0) 17 9
    (d.rd .DMA_CH_OWNER 17, d.rd .DMA_SH_SRC 17, d.rd .DMA_RECLAIMS 0, d.fld .DMA_CH_STATUS 17 63 48) = (2 + 3 * 2 ^ 16, 0, 1, 9) := by decide +kernel

/-- R502: PWRFAIL is latched at t0, and V0 is the next boundary. R32, R539: a wake reads CAUSE 0x05 and PREV 0x1. R540: a switch to the oscillator is dropped
for a class other than the four, and one to the unused value for each. -/
theorem test_power :
    let s : State := ⟨up 3, []⟩
    let asleep : State := ⟨{ up 1 with bcp := { (up 1).bcp with armed := true } }, []⟩
    shown (exec .pwrfail s) (fun d => (d.jnl.fail, d.jnl.failVn)) = some (1, 1) ∧
    shown (exec .wakeIn asleep) (fun d => (d.rd .SITE_MODE 0, d.rd .PWR_WAKE_STATUS 0)) = some (0x512, 4) ∧
    shown (exec (.clkSrcWrite .basecamp 7 1) s) (fun d => (d.rd .CLK_SRC 7, d.rd .CLK_SRC_DROPPED 0)) = some (2, 1) ∧
    shown (exec (.clkSrcWrite .basecamp 0x12 1) s) (fun d => (d.rd .CLK_SRC 0x12, d.rd .CLK_SRC_DROPPED 0)) = some (1, 0) := by decide +kernel

end Sys2Proof.Tests
end

section
/-! PROOFS of the family 00_scope.md: the register file after power-on, and the records of register writes from BAR0. -/

namespace Sys2Proof.Machine

open Host

/-! ### The register file after power-on -/

@[simp] theorem Reg.ofKey_key (r : Reg) {i : Nat} (hi : i < 2 ^ 24) : Reg.ofKey (r.key i) = r := by
  have : r.key i / 2 ^ 24 = r.ctorIdx := by simp only [Reg.key]; omega
  rw [Reg.ofKey, this, Reg.ofNat_ctorIdx]

@[simp] theorem Reg.ixOf_key (r : Reg) {i : Nat} (hi : i < 2 ^ 24) : Reg.ixOf (r.key i) = i := by
  simp only [Reg.ixOf, Reg.key]; omega

/-- The register file lists no register at power-on, so each reads as its Reset column says (R13). -/
theorem State.reset_rd (r : Reg) {i : Nat} (hi : i < 2 ^ 24) : State.reset.dev.rd r i = Reg.resetAt r i % 2 ^ 64 := by
  have unlisted : State.reset.dev.reg r i = Reg.dflt (r.key i) := rfl
  rw [Dev.rd, unlisted, Reg.dflt, Reg.ofKey_key r hi, Reg.ixOf_key r hi, BitVec.toNat_ofNat]

/-- SITE_MODE 0x512 at power-on: BRINGUP, entered from DORMANT, with CAUSE 0x05 (R32). -/
theorem State.reset_siteMode : State.reset.dev.rd .SITE_MODE 0 = 0x512 := State.reset_rd .SITE_MODE (by decide)

theorem State.reset_mode : State.reset.dev.mode = .bringup := by
  rw [Dev.mode, Dev.fld, State.reset_siteMode]; rfl

/-- Settles O55: every register is unlisted at power-on, and the mode is a field of one of them. -/
theorem resetRegisters : Obligations.ResetRegisters :=
  ⟨fun r _ hi => State.reset_rd r hi, State.reset_siteMode, State.reset_mode, State.reset_rd .SITE_MODE_VN (by decide), rfl⟩

/-! ### A write from BAR0 that reaches two registers

The record of the second register is made after the request has woken its link (R312), so its OLD field is what the register then holds.
On a link of the device the wake changes HIF_LINK_STATUS of that link. A link number of 2^24 or more, which no hypothesis of the
statement keeps out, names the cell of another register instead. -/

/-- The device after a write from BAR0 that reaches two registers: the OLD field of the second record is read on the link in use. -/
theorem exec_registerWrite_two {l off width v : Nat} (left : Nat) {s : State} {p q : RegPart} (hs : s.dev.hears (.bar0 l) = true)
    (hf : regForm off width = true) (hb : halfBad off width = false) (hpq : regParts off width v = [p, q]) :
    exec (.registerWrite (.bar0 l) off width v left) s = .next (s.withDev
      (((s.dev.useLink l).logOrd (s.dev.regRec (.bar0 l) p.r p.i width p.v) none).logOrd
        ((s.dev.useLink l).regRec (.bar0 l) q.r q.i width q.v)
        (some ⟨.bar0 l, q.r.key q.i, q.v, q.m, some (p.r.key p.i, p.v, p.m)⟩))) := by
  refine State.act_next (f := fun s => if s.hears (.bar0 l) = false then .next s else .next (s.bar0Write l off width v)) ?_
  simp only [hs, Dev.bar0Write, hf, hb, hpq, Dev.holdParts]
  rfl

/-- The last ordinary record raised is read back. -/
theorem Dev.logOrd_inj {s : Dev} {a b : LogRec} {h : Option HeldWrite} (e : s.logOrd a h = s.logOrd b h) : a = b := by
  have ord : (s.logOrd a h).log.ord = (s.logOrd b h).log.ord := by rw [e]
  simpa [Dev.logOrd] using ord

/-- The OLD field of a REGISTER record is the register before the write. -/
theorem Dev.regRec_old (s : Dev) (o : Origin) (r : Reg) (i width v : Nat) : (s.regRec o r i width v).old = s.rd r i := by
  have := s.rd_lt r i
  simp only [Dev.regRec, mkRec, Option.getD_some]
  omega

/-- A link number that the device does not have, whose HIF_LINK_STATUS has the cell of BCP_WDT. -/
def strayLink : Nat := Reg.BCP_WDT.key 0 - Reg.HIF_LINK_STATUS.key 0

/-- The device after power-on with BCP_WDT at 0x401: read as HIF_LINK_STATUS, a link that is present and in L1. -/
def strayState : State := ⟨Dev.reset.wr .BCP_WDT 0 0x401, []⟩

theorem strayState_hears : strayState.dev.hears (.bar0 strayLink) = true := by decide +kernel

theorem strayState_wdt : strayState.dev.rd .BCP_WDT 0 = 0x401 := Dev.rd_wr_same ..

/-- The wake of the stray link rewrites the watchdog's register. -/
theorem strayState_wdt_woken : (strayState.dev.useLink strayLink).rd .BCP_WDT 0 = 0x201 := by decide +kernel

/-- Refutes O28: its first clause takes the OLD field of the second record from the state before the request, for every link number. A write of
8 bytes at BCP_STATUS over the stray link reaches BCP_STATUS and BCP_WDT; the second record says 0x201, and the register held 0x401. -/
theorem not_registerWriteRule : ¬ Obligations.RegisterWriteRule := by
  unfold Obligations.RegisterWriteRule
  rintro ⟨bar0, -⟩
  have form : regForm (Reg.BCP_STATUS.bar0 0) 8 = true := by decide +kernel
  have whole : halfBad (Reg.BCP_STATUS.bar0 0) 8 = false := by decide +kernel
  have parts : regParts (Reg.BCP_STATUS.bar0 0) 8 0 = [⟨.BCP_STATUS, 0, 0, 2 ^ 32 - 1⟩, ⟨.BCP_WDT, 0, 0, 2 ^ 32 - 1⟩] := by decide +kernel
  obtain ⟨-, two, -⟩ := bar0 strayLink _ 8 0 0 strayState strayState_hears form whole
  have claimed := two _ _ parts
  rw [exec_registerWrite_two 0 strayState_hears form whole parts] at claimed
  have devs := congrArg State.dev (Outcome.next.inj claimed)
  have olds := congrArg LogRec.old (Dev.logOrd_inj devs)
  rw [Dev.regRec_old, Dev.regRec_old, strayState_wdt, strayState_wdt_woken] at olds
  exact absurd olds (by decide)

end Sys2Proof.Machine
end

section
/-! PROOFS of the family 01_volley_and_modes.md: network time, the volley boundary, staged configuration, and what is inside the device
at power-on. -/

namespace Sys2Proof.Machine

open Host

/-! ### The state at power-on -/

/-- No thread context is listed at power-on, so each is the blank one (R230, R264). -/
@[simp] theorem State.reset_ctx (k : Nat) : State.reset.dev.ctx k = Ctx.blank := rfl

/-- No byte of any memory is listed at power-on, which is its canonical form (log entry 16). -/
theorem State.reset_memOk : State.reset.memOk = true := rfl

/-- Settles O56: the reset state lists nothing but the power-up's MODE record, and a context that is not listed is FREE. -/
theorem resetState : Obligations.ResetState :=
  ⟨rfl, rfl, fun k => congrArg Ctx.st (State.reset_ctx k), rfl, rfl, rfl, State.reset_memOk⟩

/-! ### Fields and signed numbers read back -/

/-- A field within the low `n` bits does not see the bits above them. -/
theorem bits_mod_two_pow (v lo : Nat) {hi n : Nat} (h : hi < n) : bits (v % 2 ^ n) hi lo = bits v hi lo := by
  refine Nat.eq_of_testBit_eq fun j => ?_
  simp only [bits, Nat.testBit_mod_two_pow, Nat.testBit_div_two_pow]
  by_cases hj : j < hi + 1 - lo
  · have : lo + j < n := by omega
    simp [this, Nat.add_comm]
  · simp [hj]

/-- A field that was replaced reads as what was put there, cut to the field's width. -/
theorem bits_putBits_same (v x : Nat) {hi lo : Nat} (h : lo ≤ hi) : bits (putBits v hi lo x) hi lo = x % 2 ^ (hi + 1 - lo) := by
  obtain ⟨w, hw⟩ : ∃ w, hi + 1 = lo + w := ⟨hi + 1 - lo, by omega⟩
  have hsub : lo + w - lo = w := by omega
  have parts : putBits v hi lo x = 2 ^ lo * (2 ^ w * (v / 2 ^ (lo + w)) + x % 2 ^ w) + v % 2 ^ lo := by
    have shift : v / 2 ^ (lo + w) * 2 ^ (lo + w) = 2 ^ lo * (2 ^ w * (v / 2 ^ (lo + w))) := by
      rw [Nat.mul_comm, ← Nat.mul_assoc, ← Nat.pow_add]
    rw [putBits, hw, hsub, shift, Nat.mul_add, Nat.mul_comm (2 ^ lo) (x % 2 ^ w)]
  have low : v % 2 ^ lo / 2 ^ lo = 0 := Nat.div_eq_of_lt (Nat.mod_lt _ (Nat.two_pow_pos lo))
  rw [bits, hw, hsub, parts, Nat.mul_add_div (Nat.two_pow_pos lo), low, Nat.add_zero, Nat.mul_add_mod, Nat.mod_mod]

/-- The two's complement reading of `w` bits does not see the bits above them. -/
theorem signed_mod_two_pow (v : Nat) {w n : Nat} (h : w ≤ n) : signed w (v % 2 ^ n) = signed w v := by
  simp only [signed, Nat.mod_mod_of_dvd v (Nat.pow_dvd_pow 2 h)]

/-- A number within the range of `w + 1` bits of two's complement is read back from them. -/
theorem signed_unsigned {w : Nat} {x : Int} (lo : -2 ^ w ≤ x) (hi : x < 2 ^ w) : signed (w + 1) (unsigned (w + 1) x) = x := by
  have double : (2 : Int) ^ (w + 1) = 2 ^ w * 2 := Int.pow_succ 2 w
  have pos : (0 : Int) < 2 ^ w := Int.pow_pos (by decide)
  have rest : x % 2 ^ (w + 1) = if 0 ≤ x then x else x + 2 ^ (w + 1) := by
    split
    · exact Int.emod_eq_of_lt ‹_› (by omega)
    · rw [← Int.add_emod_right, Int.emod_eq_of_lt (by omega) (by omega)]
  have image : ((unsigned (w + 1) x % 2 ^ (w + 1) : Nat) : Int) = x % 2 ^ (w + 1) := by
    have nonneg : 0 ≤ x % 2 ^ (w + 1) := Int.emod_nonneg _ (by omega)
    rw [unsigned, Int.natCast_emod, Int.natCast_pow, Int.cast_ofNat_Int, Int.toNat_of_nonneg nonneg]
    exact Int.emod_emod_of_dvd x (Int.dvd_refl _)
  have half : (unsigned (w + 1) x % 2 ^ (w + 1) < 2 ^ w) ↔ x % 2 ^ (w + 1) < 2 ^ w := by
    rw [← image]; norm_cast
  simp only [signed, Nat.add_sub_cancel, half, image, rest]
  by_cases nonneg : 0 ≤ x
  · simp only [nonneg, hi, if_true]
  · have upper : ¬ x + 2 ^ (w + 1) < 2 ^ w := by omega
    simp [nonneg, upper]

/-! ### Registers -/

theorem Dev.fld_setFld_same (s : Dev) (r : Reg) (i v : Nat) {hi lo : Nat} (h : lo ≤ hi) (h64 : hi < 64) :
    (s.setFld r i hi lo v).fld r i hi lo = v % 2 ^ (hi + 1 - lo) := by
  rw [Dev.fld, Dev.setFld, Dev.rd_wr_same, bits_mod_two_pow _ _ h64, bits_putBits_same _ _ h]

/-- A write of one register leaves every other one as it is. -/
theorem Dev.rd_wr_other (s : Dev) {r q : Reg} {i j : Nat} (v : Nat) (hi : i < 2 ^ 24) (hj : j < 2 ^ 24) (h : q ≠ r) :
    (s.wr r i v).rd q j = s.rd q j := by
  rw [Dev.rd_wr, if_neg fun e => h ((Reg.key_inj _ _ _ _ hj hi).1 e).1]

theorem Dev.rd_setFld_other (s : Dev) {r q : Reg} {i j : Nat} (hi lo v : Nat) (hi' : i < 2 ^ 24) (hj : j < 2 ^ 24) (h : q ≠ r) :
    (s.setFld r i hi lo v).rd q j = s.rd q j := s.rd_wr_other _ hi' hj h

/-! ### Network time (R16 to R18) -/

/-- CLK_PHASE_ERR as it was set, saturated (R19). -/
@[simp] theorem Dev.phaseErr_setPhaseErr (s : Dev) (e : Int) : (s.setPhaseErr e).phaseErr = max (-2147483647) (min 2147483647 e) := by
  rw [Dev.phaseErr, Dev.setPhaseErr, Dev.rd_wr_same, signed_mod_two_pow _ (by decide)]
  exact signed_unsigned (w := 31) (by omega) (by omega)

theorem Dev.rd_setPhaseErr_other (s : Dev) (e : Int) {q : Reg} {j : Nat} (hj : j < 2 ^ 24) (h : q ≠ .CLK_PHASE_ERR) :
    (s.setPhaseErr e).rd q j = s.rd q j := s.rd_wr_other _ (by decide) hj h

@[simp] theorem Dev.timeState_setPhaseErr (s : Dev) (e : Int) : (s.setPhaseErr e).timeState = s.timeState := by
  rw [Dev.timeState, Dev.fld, s.rd_setPhaseErr_other e (by decide) (by decide)]; rfl

@[simp] theorem Dev.phaseErr_setState (s : Dev) (v : Nat) : (s.setFld .CLK_TIME_STATUS 0 1 0 v).phaseErr = s.phaseErr := by
  rw [Dev.phaseErr, s.rd_setFld_other _ _ _ (by decide) (by decide) (by decide)]; rfl

@[simp] theorem Dev.timeState_setState (s : Dev) (v : Nat) : (s.setFld .CLK_TIME_STATUS 0 1 0 v).timeState = v % 4 :=
  s.fld_setFld_same _ _ _ (by decide) (by decide)

@[simp] theorem Dev.timeState_clkCount (s : Dev) (n : Nat) : (s.clkCount n).timeState = s.timeState := rfl
@[simp] theorem Dev.phaseErr_clkCount (s : Dev) (n : Nat) : (s.clkCount n).phaseErr = s.phaseErr := rfl

/-- The effect of CLK_ADJ on the phase error and the count alone (R16). -/
def Dev.addPhase (s : Dev) (v : Nat) : Dev := (s.setPhaseErr (s.phaseErr + signed 32 (v % 2 ^ 32))).clkCount 0

theorem Dev.clkAdj_of_holdover {s : Dev} (h : s.timeState = 2) (v : Nat) : s.clkAdj v = (s.addPhase v).setFld .CLK_TIME_STATUS 0 1 0 1 := by
  simp [Dev.clkAdj, Dev.addPhase, h]

theorem Dev.clkAdj_of_not_holdover {s : Dev} (h : s.timeState ≠ 2) (v : Nat) : s.clkAdj v = s.addPhase v := by
  simp [Dev.clkAdj, Dev.addPhase, h]

theorem Dev.addPhase_phaseErr (s : Dev) (v : Nat) :
    (s.addPhase v).phaseErr = max (-2147483647) (min 2147483647 (s.phaseErr + signed 32 (v % 2 ^ 32))) := by
  rw [Dev.addPhase, Dev.phaseErr_clkCount, Dev.phaseErr_setPhaseErr]

theorem Dev.addPhase_timeState (s : Dev) (v : Nat) : (s.addPhase v).timeState = s.timeState := by
  rw [Dev.addPhase, Dev.timeState_clkCount, Dev.timeState_setPhaseErr]

theorem Dev.rd_addPhase_other (s : Dev) (v : Nat) {q : Reg} {j : Nat} (hj : j < 2 ^ 24) (h : q ≠ .CLK_PHASE_ERR) :
    (s.addPhase v).rd q j = s.rd q j := s.rd_setPhaseErr_other _ hj h

/-- Settles O25, by whether the device is in HOLDOVER when CLK_ADJ is written. -/
theorem timeKeeping : Obligations.TimeKeeping := by
  unfold Obligations.TimeKeeping
  refine ⟨fun o v s takes => ?adjWrite, fun d v => ?adj, fun o t elapsed s takes => ?load, fun s => ?holdover⟩
  case adjWrite =>
    exact show execClkAdj o v s = _ from State.act_next (by rw [Dev.regWrite_ok takes])
  case adj =>
    by_cases h : d.timeState = 2
    · rw [Dev.clkAdj_of_holdover h, if_pos h]
      refine ⟨by rw [Dev.phaseErr_setState, Dev.addPhase_phaseErr], rfl, by rw [Dev.timeState_setState], rfl, rfl, rfl, ?_⟩
      intro r i hi hp ht
      rw [Dev.rd_setFld_other _ _ _ _ (by decide) hi ht, Dev.rd_addPhase_other _ _ hi hp]
    · rw [Dev.clkAdj_of_not_holdover h, if_neg h]
      exact ⟨d.addPhase_phaseErr v, rfl, d.addPhase_timeState v, rfl, rfl, rfl, fun r i hi hp _ => d.rd_addPhase_other v hi hp⟩
  case load =>
    have run : exec (.clkTimeLoad o t elapsed) s = .next (s.withDev (s.dev.clkLoad t elapsed)) :=
      show execClkTimeLoad o t elapsed s = _ from State.act_next (by rw [Dev.regWrite_ok takes])
    exact ⟨fun h => by rw [run, Dev.clkLoad, if_pos h], fun h => by rw [run, Dev.clkLoad, if_neg h]⟩
  case holdover =>
    exact ⟨fun due => show execHoldover s = _ from State.act_next (if_pos due),
      fun notDue => show execHoldover s = .next (s.withDev s.dev) from State.act_next (if_neg notDue)⟩

/-! ### The volley boundary (R15 to R17) -/

/-- Without a loaded time the volley that ends brings the phase error nearer to 0, and VN advances (R15, R16). -/
theorem Dev.tick_of_no_load {d : Dev} (h : d.clk.timeLoad = none) :
    let e := d.setPhaseErr (slewed d.clk.volleyNs d.phaseErr)
    d.tick = { e with clk := { d.clk with
      vn := d.clk.vn + 1, sinceAdj := d.clk.sinceAdj + b2n (e.timeState = 1), volleyNs := volleyLen e.phaseErr,
      lens := (d.clk.volleyNs :: d.clk.lens).take 32 } } := by
  unfold Dev.tick; rw [h]; rfl

/-- A loaded time takes effect at the boundary (R17). -/
theorem Dev.tick_of_load {d : Dev} {t e : Nat} (h : d.clk.timeLoad = some (t, e)) :
    let s := (d.setPhaseErr (((t + e) % 40 : Nat) : Int)).setFld .CLK_TIME_STATUS 0 1 0 1
    d.tick = { s with clk := { d.clk with
      vn := (t + e) / 40 % 2 ^ 64, timeLoad := none, sinceAdj := 0, volleyNs := volleyLen s.phaseErr,
      lens := (d.clk.volleyNs :: d.clk.lens).take 32 } } := by
  unfold Dev.tick; rw [h]; rfl

/-- CLK_PHASE_ERR is a register, which the clock's own state does not touch. -/
theorem Dev.phaseErr_withClk (s : Dev) (c : Clk) : ({ s with clk := c } : Dev).phaseErr = s.phaseErr := rfl

theorem exec_volleyBoundary {late : List Nat} (ok : late.all unitOk = true) (scanBad : Bool) (s : State) :
    exec (.volleyBoundary late scanBad) s = .next (s.withDev
      (if s.dev.ticking && s.dev.boundaryDone then s.dev.volleyEnd.tick.volleyStart late scanBad else s.dev)) :=
  show execVolleyBoundary late scanBad s = _ from State.act_next (by
    rw [if_neg (by simp [ok])]
    split <;> rfl)

/-- Settles O26, by whether a loaded time waits for the boundary. -/
theorem volleyBoundary : Obligations.VolleyBoundary := by
  unfold Obligations.VolleyBoundary
  refine ⟨fun s scanBad late ok => ?boundary, fun d unloaded => ?slews, fun d t e loaded => ?loads⟩
  case boundary =>
    rw [exec_volleyBoundary ok]
    constructor
    · intro ticks done
      rw [ticks, done]; rfl
    · intro stands
      rw [Bool.and_eq_false_iff.2 stands]; rfl
  case slews =>
    rw [Dev.tick_of_no_load unloaded]
    exact ⟨rfl, rfl, Dev.phaseErr_setPhaseErr .., rfl⟩
  case loads =>
    have small : (((t + e) % 40 : Nat) : Int) < 40 := by omega
    rw [Dev.tick_of_load loaded]
    refine ⟨rfl, ?_, Dev.timeState_setState .., rfl⟩
    rw [Dev.phaseErr_withClk, Dev.phaseErr_setState, Dev.phaseErr_setPhaseErr]
    omega

/-! ### The requests of GROUP_APPLY (R22 to R26) -/

/-- A request fits the register: no bit of it is lost. -/
theorem groupWord_and_ones {a : Nat} (ha : a < 4) (g tag : Nat) (timed : Bool) :
    groupWord a g tag timed &&& Reg.GROUP_APPLY.ones = groupWord a g tag timed := by
  have fits : groupWord a g tag timed < 2 ^ 32 := by
    have : b2n timed ≤ 1 := by cases timed <;> decide
    simp only [groupWord]; omega
  rw [show Reg.GROUP_APPLY.ones = 2 ^ 32 - 1 from rfl, Nat.and_two_pow_sub_one_eq_mod, Nat.mod_eq_of_lt fits]

/-- The fields of a request read back: ACTION, GROUP, TAG and TIMED. -/
theorem groupWord_fields {a g tag : Nat} (ha : a < 4) (hg : g < 32) (ht : tag < 2 ^ 16) (timed : Bool) :
    bits (groupWord a g tag timed) 2 1 = a ∧ bits (groupWord a g tag timed) 7 3 = g ∧
      bits (groupWord a g tag timed) 31 16 = tag ∧ bit (groupWord a g tag timed) 0 = timed := by
  cases timed <;> simp [groupWord, bits, bit, b2n] <;> omega

theorem Dev.groupCtl_apply (s : Dev) (o : Origin) (b : Nat) {g tag : Nat} (hg : g < 32) (ht : tag < 2 ^ 16) (timed early : Bool) :
    s.groupCtl o b (groupWord 1 g tag timed) early = s.groupApply o b g tag timed early := by
  obtain ⟨action, group, tags, time⟩ := groupWord_fields (a := 1) (by decide) hg ht timed
  simp only [Dev.groupCtl, action, group, tags, time]

theorem Dev.groupCtl_discard (s : Dev) (o : Origin) (b : Nat) {g tag : Nat} (hg : g < 32) (ht : tag < 2 ^ 16) (early : Bool) :
    s.groupCtl o b (groupWord 2 g tag false) early = s.groupDiscard o b g tag := by
  obtain ⟨action, group, tags, -⟩ := groupWord_fields (a := 2) (by decide) hg ht false
  simp only [Dev.groupCtl, action, group, tags]

/-- The effect of a held write of GROUP_APPLY with its seal (R24, R28). -/
theorem Dev.regEffect_groupWord (s : Dev) (o : Origin) (b left : Nat) {a : Nat} (ha : a < 4) (g tag : Nat) (timed : Bool) :
    s.regEffect o .GROUP_APPLY b (groupWord a g tag timed) Reg.GROUP_APPLY.ones (some left) =
      s.groupCtl o b (groupWord a g tag timed) (decide (20 ≤ left)) := by
  show s.groupCtl o b (groupWord a g tag timed &&& Reg.GROUP_APPLY.ones) (inTime left) = _
  rw [groupWord_and_ones ha]; rfl

/-- A request of GROUP_APPLY that the device hears waits for its record (R28). -/
theorem Dev.groupReq_heard {s : Dev} {o : Origin} (h : s.hears o = true) (b v : Nat) :
    s.groupReq o b v = s.holdWrite o .GROUP_APPLY b 4 v Reg.GROUP_APPLY.ones := if_pos h

/-! ### The outcomes of APPLY and DISCARD (R26) -/

/-- A pending copy from which a group's cells were taken holds none of them. -/
theorem Dev.pendOf_of_taken {s d : Dev} {b g : Nat} (h : d.pend = s.pend.filter (fun e => !decide (keyGroup e.1 = some (b, g)))) :
    d.pendOf b g = [] := by
  simp [Dev.pendOf, h, List.filter_filter]

@[simp] theorem Dev.groupStatus_pend (s : Dev) (b tag detail g res : Nat) : (s.groupStatus b tag detail g res).pend = s.pend := s.wr_pend ..
@[simp] theorem Dev.groupStatus_waits (s : Dev) (b tag detail g res : Nat) : (s.groupStatus b tag detail g res).waits = s.waits := s.wr_waits ..

theorem Dev.rd_groupStatus (s : Dev) {b tag detail g res : Nat} (ht : tag < 2 ^ 16) (hd : detail < 2 ^ 8) (hg : g < 32) (hr : res < 8) :
    (s.groupStatus b tag detail g res).rd .GROUP_STATUS b = tag * 2 ^ 16 + detail * 2 ^ 8 + g * 2 ^ 3 + res := by
  rw [Dev.groupStatus, Dev.rd_wr_same]; omega

/-- The groups of a block are numbered in the 5 bits of GROUP. -/
theorem blkGroups_le (b : Nat) : blkGroups b ≤ 9 := by
  unfold blkGroups; split <;> decide

section
variable {d : Dev} {o : Origin} {b g tag : Nat} {timed early : Bool}

/-- The first case of R26's order: the block has no such group. -/
theorem Dev.groupApply_no_group (h : blkGroups b ≤ g) : d.groupApply o b g tag timed early = d.groupStatus b tag 0xFC g 7 := if_pos h

variable (group : g < blkGroups b)
include group

theorem Dev.groupApply_lockdown (locked : d.mode = .lockdown ∧ lockdownClass (blkClass b).1 = true) :
    d.groupApply o b g tag timed early = d.groupStatus b tag 0xFD g 7 := by
  rw [Dev.groupApply, if_neg (Nat.not_le.2 group), if_pos locked]

variable (allowed : ¬ (d.mode = .lockdown ∧ lockdownClass (blkClass b).1 = true))
include allowed

theorem Dev.groupApply_waiting (w : (d.waitOf b g).isSome) : d.groupApply o b g tag timed early = d.groupStatus b tag 0 g 6 := by
  rw [Dev.groupApply, if_neg (Nat.not_le.2 group), if_neg allowed, if_pos w]

variable (idle : d.waitOf b g = none)
include idle

theorem Dev.groupApply_empty (nothing : d.pendOf b g = []) : d.groupApply o b g tag timed early = d.groupStatus b tag 0 g 4 := by
  simp [Dev.groupApply, Nat.not_le.2 group, allowed, idle, nothing]

variable (changes : d.pendOf b g ≠ [])
include changes

theorem Dev.groupApply_barred (bar : d.targetBar b timed early ≠ 0) :
    d.groupApply o b g tag timed early = d.groupStatus b tag (d.targetBar b timed early) g 7 := by
  simp [Dev.groupApply, Nat.not_le.2 group, allowed, idle, changes, bar]

variable (target : d.targetBar b timed early = 0)
include target

theorem Dev.groupApply_failed (fails : firstFail (d.groupChecks b g) ≠ 0) :
    d.groupApply o b g tag timed early =
      (d.groupStatus b tag (firstFail (d.groupChecks b g)) g 3).bump .GROUP_REJECT_COUNT b := by
  simp [Dev.groupApply, Nat.not_le.2 group, allowed, idle, changes, target]

theorem Dev.groupApply_accepted (passes : firstFail (d.groupChecks b g) = 0) :
    d.groupApply o b g tag timed early = d.groupWait o b g tag (d.applyDue b timed early) := by
  simp [Dev.groupApply, Nat.not_le.2 group, allowed, idle, changes, target, passes]

end

/-- An accepted apply takes the group's pending cells with it. -/
theorem Dev.groupWait_pendOf (d : Dev) (o : Origin) (b g tag due : Nat) : (d.groupWait o b g tag due).pendOf b g = [] :=
  Dev.pendOf_of_taken (s := d) (Dev.groupStatus_pend ..)

theorem Dev.groupWait_log_prio (d : Dev) (o : Origin) (b g tag due : Nat) :
    (d.groupWait o b g tag due).log.prio.length = d.log.prio.length + 1 := by
  show (d.log.prio ++ [_]).length = _
  simp

/-- A DISCARD of a group with no WAITING apply throws the pending copy away, and that is all. -/
theorem Dev.groupDiscard_idle {d : Dev} {b g : Nat} (group : g < blkGroups b) (idle : d.waitOf b g = none) (o : Origin) (tag : Nat) :
    d.groupDiscard o b g tag =
      ({ d with pend := d.pend.filter (fun e => !decide (keyGroup e.1 = some (b, g))) } : Dev).groupStatus b tag 0 g 5 := by
  have idle' : ({ d with pend := d.pend.filter (fun e => !decide (keyGroup e.1 = some (b, g))) } : Dev).waitOf b g = none := idle
  rw [Dev.groupDiscard, if_neg (Nat.not_le.2 group)]
  simp only [idle']

/-! ### APPLIED (R23, R30) -/

theorem exec_applied_due {s : State} {w : ApplyWait} (h : s.dev.waits.find? s.dev.waitDue = some w) (rxBusy : List Nat) :
    exec (.applied rxBusy) s = .next (s.withDev (s.dev.applyNow w rxBusy)) :=
  show execApplied rxBusy s = _ from State.act_next (by rw [h])

theorem exec_applied_none {s : State} (h : s.dev.waits.find? s.dev.waitDue = none) (rxBusy : List Nat) :
    exec (.applied rxBusy) s = .next s :=
  show execApplied rxBusy s = .next (s.withDev s.dev) from State.act_next (by rw [h])

/-- Settles O27: the requests, their effect with the seal, the outcomes of R26 in their order, and APPLIED. -/
theorem stagedApply : Obligations.StagedApply := by
  unfold Obligations.StagedApply
  refine ⟨fun o b g tag timed s block heard => ?requests, fun d o b g tag left timed hg ht => ?sealed,
    fun d o b g tag timed early => ?apply, fun d o b g tag _ group ht idle => ?discard,
    fun s w rxBusy due => exec_applied_due due rxBusy, fun s rxBusy idle => exec_applied_none idle rxBusy⟩
  case requests =>
    have named : ¬ 40 ≤ b := by omega
    exact ⟨show execApply o b g tag timed s = _ from State.act_next (by rw [if_neg named, Dev.groupReq_heard heard]),
      show execDiscard o b g tag s = _ from State.act_next (by rw [if_neg named, Dev.groupReq_heard heard])⟩
  case sealed =>
    constructor
    · rw [Dev.regEffect_groupWord _ _ _ _ (by decide), Dev.groupCtl_apply _ _ _ hg ht]
    · rw [Dev.regEffect_groupWord _ _ _ _ (by decide), Dev.groupCtl_discard _ _ _ hg ht]
  case apply =>
    refine ⟨Dev.groupApply_no_group, Dev.groupApply_lockdown, fun group allowed =>
      ⟨Dev.groupApply_waiting group allowed, Dev.groupApply_empty group allowed, Dev.groupApply_barred group allowed,
        Dev.groupApply_failed group allowed, fun idle changes target passes => ?_⟩⟩
    simp only [Dev.groupApply_accepted group allowed idle changes target passes]
    exact ⟨rfl, d.groupWait_pendOf .., rfl, d.groupWait_log_prio ..⟩
  case discard =>
    have := blkGroups_le b
    rw [Dev.groupDiscard_idle group idle]
    refine ⟨Dev.pendOf_of_taken (s := d) (Dev.groupStatus_pend ..), Dev.groupStatus_waits .., ?_⟩
    rw [Dev.rd_groupStatus _ ht (by decide) (by omega) (by decide)]
    omega

end Sys2Proof.Machine
end

section
/-! PROOFS of the family 02_wire_ports_and_time.md: frames received on a port, the life of a port, FEC windows, transmit timestamps and
the Trim Set. -/

namespace Sys2Proof.Machine

open Host

/-! ### Counters and fields of the registers of a port or a lane -/

/-- A counter reads what was added to it, cut to 64 bits (R9). -/
theorem Dev.rd_add_same (s : Dev) (r : Reg) (i n : Nat) : (s.add r i n).rd r i = (s.rd r i + n) % 2 ^ 64 := by
  rw [Dev.add, Dev.rd, Dev.reg_setReg_same, BitVec.toNat_add, BitVec.toNat_ofNat, Nat.add_mod_mod]; rfl

theorem Dev.rd_add_other (s : Dev) {r q : Reg} {i j : Nat} (n : Nat) (hi : i < 2 ^ 24) (hj : j < 2 ^ 24) (h : q ≠ r) :
    (s.add r i n).rd q j = s.rd q j := by
  rw [Dev.rd, Dev.add, Dev.reg_setReg, if_neg fun e => h ((Reg.key_inj _ _ _ _ hj hi).1 e).1]; rfl

/-- A write of one element of a register leaves the others as they are. -/
theorem Dev.rd_wr_element (s : Dev) {r : Reg} {i j : Nat} (v : Nat) (hi : i < 2 ^ 24) (hj : j < 2 ^ 24) (h : j ≠ i) :
    (s.wr r i v).rd r j = s.rd r j := by
  rw [Dev.rd_wr, if_neg fun e => h ((Reg.key_inj _ _ _ _ hj hi).1 e).2]

/-- Count one where the condition holds. -/
def Dev.bumpWhen (s : Dev) (c : Bool) (r : Reg) (i : Nat) : Dev := if c then s.bump r i else s

theorem Dev.bumpWhen_eq (s : Dev) (c : Bool) (r : Reg) (i : Nat) : ∃ regs, s.bumpWhen c r i = { s with regs := regs } := by
  cases c
  · exact ⟨s.regs, rfl⟩
  · exact ⟨_, rfl⟩

@[simp] theorem Dev.bumpWhen_wire (s : Dev) (c : Bool) (r : Reg) (i : Nat) : (s.bumpWhen c r i).wire = s.wire := by
  obtain ⟨_, h⟩ := s.bumpWhen_eq c r i; rw [h]
@[simp] theorem Dev.bumpWhen_vn (s : Dev) (c : Bool) (r : Reg) (i : Nat) : (s.bumpWhen c r i).vn = s.vn := by
  obtain ⟨_, h⟩ := s.bumpWhen_eq c r i; rw [h]; rfl
@[simp] theorem Dev.bumpWhen_frames (s : Dev) (c : Bool) (r : Reg) (i : Nat) : (s.bumpWhen c r i).frames = s.frames := by
  obtain ⟨_, h⟩ := s.bumpWhen_eq c r i; rw [h]

theorem Dev.rd_bumpWhen_other (s : Dev) (c : Bool) {r q : Reg} {i j : Nat} (hi : i < 2 ^ 24) (hj : j < 2 ^ 24) (h : q ≠ r) :
    (s.bumpWhen c r i).rd q j = s.rd q j := by
  cases c
  · rfl
  · exact s.rd_add_other 1 hi hj h

/-! ### What is beside the registers of a port or a lane -/

@[simp] theorem Dev.wport_setWport_same (s : Dev) (p : Nat) (x : WirePort) : (s.setWport p x).wport p = x := Sparse.get_set_same ..
@[simp] theorem Dev.wlane_setWlane_same (s : Dev) (l : Nat) (x : WireLane) : (s.setWlane l x).wlane l = x := Sparse.get_set_same ..
@[simp] theorem Dev.rd_setWport (s : Dev) (p : Nat) (x : WirePort) (r : Reg) (i : Nat) : (s.setWport p x).rd r i = s.rd r i := rfl
@[simp] theorem Dev.rd_setWlane (s : Dev) (l : Nat) (x : WireLane) (r : Reg) (i : Nat) : (s.setWlane l x).rd r i = s.rd r i := rfl

/-! ### The state of a port (R46) -/

/-- WIRE_PORT_STATUS as it was set reads back in its fields. -/
theorem Dev.rd_setPort (s : Dev) {p st drain lock align : Nat} (hst : st < 16) (hd : drain < 2) (hl : lock < 2) (ha : align < 2) :
    (s.setPort p st drain lock align).rd .WIRE_PORT_STATUS p =
      st * 2 ^ 4 + drain * 2 ^ 3 + lock * 2 ^ 2 + align * 2 + (if st = 4 then 1 else 0) := by
  rw [Dev.setPort, Dev.rd_wr_same]
  split <;> omega

theorem Dev.portState_setPort (s : Dev) {p st drain lock align : Nat} (hst : st < 16) (hd : drain < 2) (hl : lock < 2) (ha : align < 2) :
    (s.setPort p st drain lock align).portState p = st := by
  rw [Dev.portState, Dev.fld, s.rd_setPort hst hd hl ha, bits]
  split <;> omega

theorem Dev.portState_setPort_other (s : Dev) {p q : Nat} (st drain lock align : Nat) (hp : p < 2 ^ 24) (hq : q < 2 ^ 24) (h : q ≠ p) :
    (s.setPort p st drain lock align).portState q = s.portState q := by
  rw [Dev.portState, Dev.fld, Dev.setPort, s.rd_wr_element _ hp hq h]; rfl

/-! ### A port goes down (R47, R188) -/

theorem Dev.abortTx_of_idle {s : Dev} {p : Nat} (h : s.framesIf (fun f => f.loc = .mac p) = []) : s.abortTx p = s := by
  rw [Dev.abortTx, h]; rfl

/-- The hold of a port with HOLD above 0 starts, and flushes nothing yet (R188). -/
theorem Dev.startHold_of_hold {s : Dev} {p : Nat} (h : s.fld .SWB_PORT_CFG p 43 28 ≠ 0) :
    s.startHold p = { s with swb := { s.swb with hold := Sparse.put s.swb.hold p (some (s.holdEnd p)) } } := if_neg h

/-- The device as an idle port's hold is about to start: the port resets, and what ended is counted. -/
def Dev.portCut (d : Dev) (p : Nat) (rxBusy : Bool) : Dev :=
  (((d.setPort p 5 0 0 0).setWport p { d.wport p with since := d.vn, rxPause := [] }).bumpWhen rxBusy .WIRE_RX_ABORTED p).bumpWhen
    (decide (d.portState p = 4)) .WIRE_LINK_DOWN p

theorem Dev.portDown_of_idle {d : Dev} {p : Nat} (h : d.framesIf (fun f => f.loc = .mac p) = []) (rxBusy : Bool) :
    d.portDown p rxBusy = (d.portCut p rxBusy).startHold p := by
  rw [Dev.portDown, Dev.abortTx_of_idle h]; rfl

theorem Dev.rd_portCut (d : Dev) {p : Nat} (rxBusy : Bool) {q : Reg} (hp : p < 2 ^ 24) (ha : q ≠ .WIRE_RX_ABORTED) (hl : q ≠ .WIRE_LINK_DOWN) :
    (d.portCut p rxBusy).rd q p = (d.setPort p 5 0 0 0).rd q p := by
  rw [Dev.portCut, Dev.rd_bumpWhen_other _ _ hp hp hl, Dev.rd_bumpWhen_other _ _ hp hp ha, Dev.rd_setWport]

theorem Dev.portState_portCut (d : Dev) {p : Nat} (rxBusy : Bool) (hp : p < 2 ^ 24) : (d.portCut p rxBusy).portState p = 5 := by
  rw [Dev.portState, Dev.fld, d.rd_portCut rxBusy hp (by decide) (by decide)]
  exact d.portState_setPort (by decide) (by decide) (by decide) (by decide)

theorem Dev.holdCfg_portCut (d : Dev) {p : Nat} (rxBusy : Bool) (hp : p < 2 ^ 24) :
    (d.portCut p rxBusy).fld .SWB_PORT_CFG p 43 28 = d.fld .SWB_PORT_CFG p 43 28 := by
  rw [Dev.fld, d.rd_portCut rxBusy hp (by decide) (by decide), Dev.setPort, Dev.rd_wr_other _ _ hp hp (by decide)]; rfl

theorem Dev.vn_portCut (d : Dev) (p : Nat) (rxBusy : Bool) : (d.portCut p rxBusy).vn = d.vn := by
  rw [Dev.portCut, Dev.bumpWhen_vn, Dev.bumpWhen_vn]; rfl

theorem Dev.holdEnd_portCut (d : Dev) {p : Nat} (rxBusy : Bool) (hp : p < 2 ^ 24) : (d.portCut p rxBusy).holdEnd p = d.holdEnd p := by
  rw [Dev.holdEnd, d.holdCfg_portCut rxBusy hp, Dev.vn_portCut, Dev.holdEnd]

theorem Dev.wport_portCut (d : Dev) (p : Nat) (rxBusy : Bool) :
    (d.portCut p rxBusy).wport p = { d.wport p with since := d.vn, rxPause := [] } := by
  rw [Dev.wport, Dev.portCut, Dev.bumpWhen_wire, Dev.bumpWhen_wire]
  exact Dev.wport_setWport_same ..

theorem Dev.frames_portCut (d : Dev) (p : Nat) (rxBusy : Bool) : (d.portCut p rxBusy).frames = d.frames := by
  rw [Dev.portCut, Dev.bumpWhen_frames, Dev.bumpWhen_frames]; rfl

/-! ### A port resets, trains and comes up (R47, R48, R189) -/

/-- A reset write on a port that is up and not yet draining starts its drain. -/
theorem Dev.portReset_of_up {d : Dev} {p : Nat} (up : d.portState p = 4) (flows : d.fld .WIRE_PORT_STATUS p 3 3 = 0) :
    d.portReset p = (d.setFld .WIRE_PORT_STATUS p 3 3 1).setWport p { d.wport p with since := d.vn } := by
  rw [Dev.portReset, if_neg (by omega)]

/-- TX_DRAIN stands beside STATE: to set it leaves STATE as it is. -/
theorem Dev.portState_setDrain (d : Dev) (p v : Nat) : (d.setFld .WIRE_PORT_STATUS p 3 3 v).portState p = d.portState p := by
  have := d.rd_lt .WIRE_PORT_STATUS p
  simp only [Dev.portState, Dev.fld, Dev.setFld, Dev.rd_wr_same, bits, putBits]
  omega

/-- The lanes of a port are set one after another, which changes nothing but the lanes' own state. -/
theorem forEach_setWlane_eq (f : Dev → Nat → WireLane) (p : Nat) (l : List Nat) (s : Dev) :
    ∃ w, forEach l s (fun s k => s.setWlane (p + k) (f s k)) = { s with wire := w } := by
  induction l generalizing s with
  | nil => exact ⟨s.wire, rfl⟩
  | cons k l ih =>
    obtain ⟨w, h⟩ := ih (s.setWlane (p + k) (f s k))
    exact ⟨w, h⟩

/-- Training changes the port's STATE, and beyond that only what is beside the registers of the port and its lanes. -/
theorem Dev.trainPort_eq (d : Dev) (p : Nat) : ∃ w, d.trainPort p = { d.setPort p 2 0 0 0 with wire := w } := by
  obtain ⟨w, h⟩ := forEach_setWlane_eq (fun s k => { s.wlane (p + k) with retrain := none, polarity := s.lanePolarity (p + k) }) p _
    ((d.setPort p 2 0 0 0).setWport p { d.wport p with since := d.vn })
  exact ⟨w, h⟩

/-- The device after LINK_UP of a port whose hold, if it had one, has not lapsed (R47, R189). -/
def Dev.portUp (d : Dev) (p : Nat) : Dev :=
  let s := (d.setPort p 4 0 1 1).setWport p { d.wport p with since := d.vn }
  { s with
    swb := { s.swb with hold := Sparse.put s.swb.hold p none }
    sch := { s.sch with afterHold := Sparse.put s.sch.afterHold p (if (Sparse.get? s.swb.hold p).isSome then some s.vn else none) } }

theorem exec_linkUp {p : Nat} {s : State} (hp : p < 32) (st : s.dev.portState p = 2 ∨ s.dev.portState p = 3)
    (held : ∀ v, Sparse.get? s.dev.swb.hold p = some v → s.dev.vn ≤ v) : exec (.linkUp p) s = .next (s.withDev (s.dev.portUp p)) := by
  have lasts : (Sparse.get? s.dev.swb.hold p).any (fun v => decide (v < s.dev.vn)) = false := by
    cases h : Sparse.get? s.dev.swb.hold p with
    | none => rfl
    | some v => exact decide_eq_false (Nat.not_lt.2 (held v h))
  exact show execLinkUp p s = _ from State.act_next (by rw [if_neg (by omega), if_pos st]; simp only [lasts]; rfl)

theorem Dev.rd_portUp (d : Dev) (p : Nat) : (d.portUp p).rd .WIRE_PORT_STATUS p = 71 :=
  show (d.setPort p 4 0 1 1).rd .WIRE_PORT_STATUS p = 71 from d.rd_setPort (by decide) (by decide) (by decide) (by decide)

/-- A lane that no port uses and that does not retrain begins to (R48). -/
theorem Dev.retrainLane_of_free {d : Dev} {l : Nat} (free : d.lanePort l = none) (idle : (d.wlane l).retrain = none) :
    d.retrainLane l = d.setWlane l { d.wlane l with retrain := some d.vn } := by
  simp [Dev.retrainLane, free, idle]

/-- Settles O30: the rows of a port's life under their conditions, and what each operation leaves. -/
theorem portLife : Obligations.PortLife := by
  unfold Obligations.PortLife
  refine ⟨fun o p s hp takes => ?reset, fun p d hp up flows => ?drain, fun p b s hp drains waited idle => ?drained,
    fun p b s hp up => ?down, fun p b d hp idle holds => ?cut, fun p s hp st free trim => ?trains, fun p s hp st late => ?retries,
    fun p d hp => ?training, fun p s hp st => ⟨?locks, ?deskews⟩, fun p s hp st held => ⟨s.dev.portUp p, exec_linkUp hp st held, ?up⟩,
    fun o l s hl takes => ?retrain, fun l d free idle => Dev.retrainLane_of_free free idle, fun l s hl => ?retrained⟩
  case reset =>
    exact show execPortReset o p s = _ from State.act_next (by rw [if_neg (by omega), Dev.regWrite_ok takes])
  case drain =>
    rw [Dev.portReset_of_up up flows]
    exact ⟨(d.portState_setDrain p 1).trans up, d.fld_setFld_same _ _ _ (by decide) (by decide),
      congrArg WirePort.since (Dev.wport_setWport_same ..), rfl, rfl⟩
  case drained =>
    have ends : ¬ (s.dev.fld .WIRE_PORT_STATUS p 3 3 = 0 ∨ s.dev.vn ≤ (s.dev.wport p).since ∨
        (s.dev.firstIf (fun f => f.loc = .mac p)).isSome) := by
      rw [idle, drains]; simpa using waited
    exact show execTxDrainEnd p b s = _ from State.act_next (by rw [if_neg (by omega), if_neg ends])
  case down =>
    exact show execLinkDown p b s = _ from State.act_next (by rw [if_neg (by omega), if_pos up])
  case cut =>
    have small : p < 2 ^ 24 := by omega
    have holds' : (d.portCut p b).fld .SWB_PORT_CFG p 43 28 ≠ 0 := by rwa [d.holdCfg_portCut b small]
    rw [Dev.portDown_of_idle idle, Dev.startHold_of_hold holds', d.holdEnd_portCut b small]
    exact ⟨d.portState_portCut b small, Sparse.get?_put_same (d.portCut p b).swb.hold p (some (d.holdEnd p)),
      congrArg WirePort.rxPause (d.wport_portCut p b), d.frames_portCut p b⟩
  case trains =>
    exact show execTrainingStart p s = _ from State.act_next (by rw [if_neg (by omega), if_pos ⟨st, free, trim⟩])
  case retries =>
    exact show execTrainingRetry p s = _ from State.act_next (by rw [if_neg (by omega), if_pos ⟨st, late⟩])
  case training =>
    obtain ⟨w, h⟩ := d.trainPort_eq p
    rw [h]
    exact ⟨d.portState_setPort (by decide) (by decide) (by decide) (by decide), rfl, rfl,
      fun q hq other => d.portState_setPort_other 2 0 0 0 (by omega) (by omega) other⟩
  case locks =>
    exact show execFecAlignLock p s = _ from State.act_next (by rw [if_neg (by omega), if_pos st])
  case deskews => exact s.dev.portState_setPort (by decide) (by decide) (by decide) (by decide)
  case up =>
    refine ⟨?_, ?_, Sparse.get?_put_same s.dev.swb.hold p none, rfl, rfl⟩
    · rw [Dev.portState, Dev.fld, Dev.rd_portUp]; rfl
    · rw [Dev.fld, Dev.rd_portUp]; rfl
  case retrain =>
    exact show execRetrain o l s = _ from State.act_next (by rw [if_neg (by omega), Dev.regWrite_ok takes])
  case retrained =>
    exact show execRetrainComplete l s = _ from State.act_next (if_neg (by omega))

/-! ### The end of a FEC window (R49) -/

/-- A port of the map lies in the port group of its lanes. -/
theorem Dev.lanePort_lt {d : Dev} {l p : Nat} (h : d.lanePort l = some p) : p < 8 * (l / 8) + 8 := by
  obtain ⟨o, ho, found⟩ := List.exists_of_findSome?_eq_some h
  have := List.mem_range.1 ho
  split at found
  · split at found <;> cases found
    omega
  · cases found

/-- The port map is no counter. -/
theorem Dev.lanePort_add (d : Dev) (r : Reg) (i n l : Nat) (hi : i < 2 ^ 24) (hl : l < 2 ^ 24) (h : .WIRE_PG_MAP ≠ r) :
    (d.add r i n).lanePort l = d.lanePort l := by
  rw [Dev.lanePort, d.rd_add_other n hi (by omega) h]; rfl

/-- The counters at the end of a lane's FEC window: the symbol errors at the lane, the codewords at its port. -/
def Dev.fecCount (d : Dev) (l n corrected uncorrected : Nat) : Dev :=
  let s := d.add .WIRE_LANE_FEC_SYMBOLS l n
  match s.lanePort l with
  | some p => (s.add .WIRE_FEC_CW_CORRECTED p corrected).add .WIRE_FEC_CW_UNCORRECTED p uncorrected
  | none => s

/-- The device after the end of a lane's FEC window, before the whistle. -/
def Dev.fecWindow (d : Dev) (l n corrected uncorrected : Nat) : Dev :=
  let s := d.fecCount l n corrected uncorrected
  s.setWlane l { s.wlane l with window := s.vn, errors := n }

section
variable {d : Dev} {l : Nat} (hl : l < 32) (n corrected uncorrected : Nat)
include hl

theorem Dev.fecCount_of_no_port (free : d.lanePort l = none) :
    d.fecCount l n corrected uncorrected = d.add .WIRE_LANE_FEC_SYMBOLS l n := by
  simp only [Dev.fecCount, d.lanePort_add .WIRE_LANE_FEC_SYMBOLS l n l (by omega) (by omega) (by decide), free]

theorem Dev.fecCount_of_port {p : Nat} (used : d.lanePort l = some p) : d.fecCount l n corrected uncorrected =
    ((d.add .WIRE_LANE_FEC_SYMBOLS l n).add .WIRE_FEC_CW_CORRECTED p corrected).add .WIRE_FEC_CW_UNCORRECTED p uncorrected := by
  simp only [Dev.fecCount, d.lanePort_add .WIRE_LANE_FEC_SYMBOLS l n l (by omega) (by omega) (by decide), used]

/-- A register that is none of the three counters reads as before. -/
theorem Dev.rd_fecCount_other {q : Reg} {j : Nat} (hj : j < 2 ^ 24) (hs : q ≠ .WIRE_LANE_FEC_SYMBOLS)
    (hc : q ≠ .WIRE_FEC_CW_CORRECTED) (hu : q ≠ .WIRE_FEC_CW_UNCORRECTED) :
    (d.fecCount l n corrected uncorrected).rd q j = d.rd q j := by
  have lane : l < 2 ^ 24 := by omega
  cases used : d.lanePort l with
  | none => rw [Dev.fecCount_of_no_port hl _ _ _ used, Dev.rd_add_other _ _ lane hj hs]
  | some p =>
    have port : p < 2 ^ 24 := by have := Dev.lanePort_lt used; omega
    rw [Dev.fecCount_of_port hl _ _ _ used, Dev.rd_add_other _ _ port hj hu, Dev.rd_add_other _ _ port hj hc,
      Dev.rd_add_other _ _ lane hj hs]

end

/-- The end of a window counts in registers and begins the lane's new window. -/
theorem Dev.fecWindow_eq (d : Dev) (l n corrected uncorrected : Nat) : d.fecWindow l n corrected uncorrected =
    (d.fecCount l n corrected uncorrected).setWlane l { d.wlane l with window := d.vn, errors := n } := by
  have counts : ∃ regs, d.fecCount l n corrected uncorrected = { d with regs := regs } := by
    simp only [Dev.fecCount]
    split <;> exact ⟨_, rfl⟩
  obtain ⟨regs, h⟩ := counts
  rw [Dev.fecWindow, h]; rfl

theorem exec_fecWindowEnd {l : Nat} {s : State} (hl : l < 32) (due : (s.dev.wlane l).window + 25000 ≤ s.dev.vn) (n a b : Nat) :
    exec (.fecWindowEnd l n a b) s = .next (s.withDev (if s.dev.rd .WIRE_LANE_DEGRADE_LIMIT (l / 8) < n
      then (s.dev.fecWindow l n a b).whistle 0x03 (laneUnit l) 0 n else s.dev.fecWindow l n a b)) := by
  have limit : (s.dev.fecWindow l n a b).rd .WIRE_LANE_DEGRADE_LIMIT (l / 8) = s.dev.rd .WIRE_LANE_DEGRADE_LIMIT (l / 8) :=
    Dev.rd_fecCount_other hl n a b (by omega) (by decide) (by decide) (by decide)
  refine show execFecWindowEnd l n a b s = _ from State.act_next ?_
  rw [if_neg (by omega), if_neg (by omega)]
  change (if (s.dev.fecWindow l n a b).rd .WIRE_LANE_DEGRADE_LIMIT (l / 8) < n then _ else _) = _
  rw [limit]
  split <;> rfl

/-- Settles O31, by whether the lane has a port when its FEC window ends. -/
theorem laneAndTimestamp : Obligations.LaneAndTimestamp := by
  unfold Obligations.LaneAndTimestamp
  refine ⟨fun l n a b s hl due free => ?alone, fun l p n a b s hl due used quiet => ⟨s.dev.fecWindow l n a b, ?run, ?counts⟩,
    fun o p s hp takes => ?pop, fun s runs bringup untrained => ?trim⟩
  case alone =>
    rw [exec_fecWindowEnd hl due, Dev.fecWindow_eq, Dev.fecCount_of_no_port hl _ _ _ free]
  case run =>
    rw [exec_fecWindowEnd hl due, if_neg (Nat.not_lt.2 quiet)]
  case counts =>
    have lane : l < 2 ^ 24 := by omega
    have port : p < 2 ^ 24 := by have := Dev.lanePort_lt used; omega
    rw [Dev.fecWindow_eq, Dev.fecCount_of_port hl _ _ _ used]
    simp only [Dev.rd_setWlane, Dev.wlane_setWlane_same]
    refine ⟨?_, fun _ => ⟨?_, ?_⟩, trivial, trivial, rfl, rfl⟩
    · rw [Dev.rd_add_other _ _ port lane (by decide), Dev.rd_add_other _ _ port lane (by decide), Dev.rd_add_same]
    · rw [Dev.rd_add_other _ _ port port (by decide), Dev.rd_add_same, Dev.rd_add_other _ _ lane port (by decide)]
    · rw [Dev.rd_add_same, Dev.rd_add_other _ _ port port (by decide), Dev.rd_add_other _ _ lane port (by decide)]
  case pop =>
    exact show execTsTxPop o p s = _ from State.act_next (by rw [if_neg (by omega), Dev.regWrite_ok takes])
  case trim =>
    exact show execTrimSetLoad s = _ from State.act_next (by rw [runs, bringup, untrained]; rfl)

/-! ### Frames received (R45, R176)

The clause for a bad frame takes every number as a port, where the other clauses ask for a port below 32. A number of 2^24 or more names, as a
port's counter, the cell of another register; the count of a bad frame at such a number can turn cut-through on, and the frame then
enters. -/

/-- A bad frame that may be cut through once it is counted takes a frame number (R177). -/
theorem Dev.nextFrame_macReceive_early {d : Dev} {p : Nat} {bytes : List Byte} {fcsOk cut : Bool} {r : Reg} (t : Nat)
    (bad : rxVerdict (bytes.length + 4) (d.fld .WIRE_PORT_CFG p 31 18) cut fcsOk = some r)
    (fits : bytes.length + 4 ≤ d.fld .WIRE_PORT_CFG p 31 18) (carries : (d.bump r p).mode.carriesFrames = true)
    (early : (d.bump r p).entersEarly p bytes = true) : (d.macReceive p bytes fcsOk cut t).nextFrame = d.nextFrame + 1 := by
  simp only [Dev.macReceive, bad, fits, carries, early, and_self, if_true]
  rfl

/-- A port number that the device does not have, whose WIRE_RX_FCS_ERR has the cell of SWB_PORT_CFG of port 0. -/
def strayPort : Nat := Reg.SWB_PORT_CFG.key 0 - Reg.WIRE_RX_FCS_ERR.key 0

/-- A device in SERVICE in which no port cuts through. Port 0 has the speed, and SWB_SHARED_USED the value, that the stray port's WIRE_PG_MAP and
WIRE_PORT_CFG read as. -/
def strayPortDev : Dev := ((Dev.reset.wr .SITE_MODE 0 3).wr .WIRE_PG_MAP 0 0).wr .SWB_SHARED_USED 0 (2 ^ 32 - 1)

/-- Refutes O29: its clause for a bad frame that enters nowhere is about every port number. At the stray port a frame of 512 zero bytes with a bad
FCS makes the count of the error set the cut-through mask of port 0, so that the frame enters the front end. -/
theorem not_frameReception : ¬ Obligations.FrameReception := by
  unfold Obligations.FrameReception
  rintro ⟨-, -, badFrame, -⟩
  have outside : strayPortDev.entersEarly strayPort (List.replicate 512 0) = false := by decide +kernel
  have verdict : rxVerdict ((List.replicate 512 (0 : Byte)).length + 4) (strayPortDev.fld .WIRE_PORT_CFG strayPort 31 18) false false =
    some .WIRE_RX_FCS_ERR := by decide +kernel
  have fits : (List.replicate 512 (0 : Byte)).length + 4 ≤ strayPortDev.fld .WIRE_PORT_CFG strayPort 31 18 := by decide +kernel
  have carries : (strayPortDev.bump .WIRE_RX_FCS_ERR strayPort).mode.carriesFrames = true := by decide +kernel
  have inside : (strayPortDev.bump .WIRE_RX_FCS_ERR strayPort).entersEarly strayPort (List.replicate 512 0) = true := by decide +kernel
  have entered := Dev.nextFrame_macReceive_early 0 verdict fits carries inside
  rw [badFrame _ _ 0 _ _ _ _ outside verdict, Dev.bump_nextFrame] at entered
  omega

end Sys2Proof.Machine
end

section
/-! PROOFS of the family 03_parse_and_classify.md: the rows of the datapath, the parser, admission, and what moves a frame on from each
place inside. -/

namespace Sys2Proof.Machine

open Host

/-! ### Rows of the datapath (R7, R33, R38) -/

/-- While the datapath runs, a row leaves what its own effect leaves, and the XON that is due after it. -/
theorem State.flow_next {s : State} {f : Dev → Outcome Dev Fault Refusal} {d : Dev} (runs : s.dev.pathOpen = true)
    (h : f s.dev = .next d) : s.flow f = .next (s.withDev d.xonCheck) :=
  State.act_next (by rw [if_pos runs, h]; rfl)

/-- While it does not run, no row does anything. -/
theorem State.flow_closed {s : State} (closed : s.dev.pathOpen = false) (f : Dev → Outcome Dev Fault Refusal) : s.flow f = .next s :=
  State.act_next (d := s.dev) (by rw [closed]; rfl)

@[simp] theorem Dev.moveFrame_vn (s : Dev) (f : Nat) (x : Frame) (l : FrameLoc) : (s.moveFrame f x l).vn = s.vn := by
  simp [Dev.vn]

/-! ### The parser and admission (R60 to R95) -/

/-- Settles O35, by whether the frame is the next to parse and how its walk ends. -/
theorem parseResult : Obligations.ParseResult := by
  unfold Obligations.ParseResult
  refine fun f x s runs present => ⟨fun notYet => ?waits, fun atFront first w => ⟨fun ends => ?parsed, fun r step n o fails => ?malformed⟩⟩
  case waits =>
    exact show execParseFrame f s = _ from State.flow_next runs (by simp only [present, if_pos notYet])
  case parsed =>
    exact show execParseFrame f s = _ from State.flow_next runs (by
      simp only [present, atFront, first, ends]; rfl)
  case malformed =>
    exact show execParseFrame f s = _ from State.flow_next runs (by
      simp only [present, atFront, first, fails, Dev.moveFrame_vn]; rfl)

/-- The slot that an admission takes is beside the epochs. -/
@[simp] theorem Dev.noteAdmitted_epc (s : Dev) (p : Nat) : (s.noteAdmitted p).epc = s.epc := rfl

/-- The stamp that admission gives changes nothing else of a frame (R95). -/
theorem Frame.stamped_eq (x : Frame) (n : Nat) : ∃ b e,
    (if x.stamped then x else { x with stamped := true, epoch := n }) = { x with stamped := b, epoch := e } := by
  split
  · exact ⟨x.stamped, x.epoch, rfl⟩
  · exact ⟨true, n, rfl⟩

/-- Settles O36, by whether the frame is admitted, is malformed, meets a frozen entry or waits for its flow entry. The key vector of a
classified frame shows its pitch, so the last two cases look at whether it has one. -/
theorem admissionResult : Obligations.AdmissionResult := by
  unfold Obligations.AdmissionResult
  refine ⟨fun f x miss parity s runs present => ?admission, fun f x parity s runs present waits => ?returns, fun d f x admits => ?conditions⟩
  case admission =>
    obtain ⟨b, e, stamp⟩ := x.stamped_eq s.dev.epc.cur
    have row : exec (.headerAdmission f miss parity) s = execHeaderAdmission f miss parity s := rfl
    simp only [row, stamp]
    refine ⟨fun closed => State.flow_next runs (by simp only [present, if_pos closed]), fun admits =>
      ⟨fun bad => State.flow_next runs ?malformed, fun good => ⟨fun d frozen => State.flow_next runs ?frozen,
        fun d p resolved c viol tcam e z classified noted =>
          ⟨fun reads => State.flow_next runs ?flowMiss, fun goes => State.flow_next runs ?proceeds⟩⟩⟩⟩
    all_goals simp only [present, admits, Bool.true_eq_false, if_false, Dev.noteAdmitted_epc, stamp]
    case malformed => rw [if_pos bad]; rfl
    case frozen => simp only [if_neg (not_not_intro good), frozen]
    case flowMiss =>
      cases p <;> simp only at classified noted <;>
        simp only [if_neg (not_not_intro good), resolved, classified, noted, if_pos reads]
    case proceeds =>
      cases p <;> simp only at classified noted <;>
        simp only [if_neg (not_not_intro good), resolved, classified, noted, goes] <;> rfl
  case returns =>
    exact show execFlowMissReturn f parity s = _ from State.flow_next runs (by simp only [present, waits]; rfl)
  case conditions =>
    simp only [Dev.admissible, Bool.and_eq_true, Bool.not_eq_true', decide_eq_true_eq] at admits
    obtain ⟨⟨⟨⟨⟨⟨traffic, -⟩, flows⟩, parsed⟩, -⟩, -⟩, slot⟩ := admits
    exact ⟨traffic, flows, parsed, slot⟩

/-! ### From the paths to the ways out -/

theorem Dev.portSends_iff (s : Dev) (p : Nat) : s.portSends p = true ↔ s.portState p = 4 ∧ s.mode.traffic = true := by
  simp [Dev.portSends]

/-- A port that is not up, or whose device carries no traffic, sends nothing (R575). -/
theorem Dev.portSends_eq_false {s : Dev} {p : Nat} (h : s.portState p ≠ 4 ∨ s.mode.traffic = false) : s.portSends p = false := by
  rw [← Bool.not_eq_true, s.portSends_iff, Decidable.not_and_iff_or_not, Bool.not_eq_true]
  exact h

/-- Neither a pause nor the mode stops the hand-over (R115, R575). -/
theorem Dev.handsOver {s : Dev} (flows : s.held = false) (traffic : s.mode.traffic = true) :
    ¬ (s.held = true ∨ s.mode.traffic = false) := by
  simp [flows, traffic]

section
variable {s : State} (runs : s.dev.pathOpen = true)
include runs

section
variable {p f : Nat} {x : Frame} (ns : Nat) (hp : p < 8) (first : s.dev.firstIf (fun y => y.loc = .path p) = some (f, x))
include hp first

/-- A multicast frame waits at the head of its path for an extension of its item (R487). -/
theorem exec_pathDeliver_waits
    (waits : actBase x.action = 2 ∧ actCrypto x.action ≠ 2 ∧ (s.dev.forwardTo x).1 = 2 ∧ s.dev.extWait x = true) :
    exec (.pathDeliver p ns) s = .next (s.withDev s.dev.xonCheck) := by
  obtain ⟨forwards, plain, group, busy⟩ := waits
  exact show execPathDeliver p ns s = _ from State.flow_next runs (by
    rw [if_neg (by omega), first]; exact if_pos ⟨⟨forwards, plain, group⟩, busy⟩)

/-- Any other frame is delivered, after its mirror copy (R168). -/
theorem exec_pathDeliver_delivers
    (moves : ¬ (actBase x.action = 2 ∧ actCrypto x.action ≠ 2 ∧ (s.dev.forwardTo x).1 = 2 ∧ s.dev.extWait x = true)) :
    exec (.pathDeliver p ns) s = .next (s.withDev
      ((if bit x.action 49 then s.dev.mirrorCopy x (bits x.action 55 50) f else s.dev).deliver f x ns).xonCheck) :=
  show execPathDeliver p ns s = _ from State.flow_next runs (by
    rw [if_neg (by omega), first]
    exact if_neg fun ⟨⟨forwards, plain, group⟩, busy⟩ => moves ⟨forwards, plain, group, busy⟩)

end

theorem exec_egressPipeline_first {q f : Nat} {x : Frame} (parity : List (Nat × Nat)) (flows : s.dev.held = false)
    (first : s.dev.firstIf (fun y => y.loc = .queue q && !y.ready) = some (f, x)) :
    exec (.egressPipeline q parity) s = .next (s.withDev (s.dev.egressFrame f x parity).xonCheck) :=
  show execEgressPipeline q parity s = _ from State.flow_next runs (by rw [flows, first]; rfl)

section
variable (flows : s.dev.held = false) (traffic : s.dev.mode.traffic = true)
include flows traffic

section
variable {q : Nat} (ns : Nat) (bad : Bool) (hq : q < 32 ∨ 40 ≤ q ∧ q < 46)
include hq

theorem exec_scheduleFrame_chosen {f : Nat} {x : Frame} {d : Dev}
    (chosen : ((s.dev.dropOversize q).countGuard q ns).choose q ns (fun _ => true) = some (f, x, d)) :
    exec (.scheduleFrame q ns bad) s = .next (s.withDev (if bad then d.badCell f x else d.handOverFrame f x).xonCheck) :=
  show execScheduleFrame q ns bad s = _ from State.flow_next runs (by
    rw [if_neg (by omega), if_neg (Dev.handsOver flows traffic)]; simp only [chosen])

theorem exec_scheduleFrame_none (idle : ((s.dev.dropOversize q).countGuard q ns).choose q ns (fun _ => true) = none) :
    exec (.scheduleFrame q ns bad) s = .next (s.withDev ((s.dev.dropOversize q).countGuard q ns).xonCheck) :=
  show execScheduleFrame q ns bad s = _ from State.flow_next runs (by
    rw [if_neg (by omega), if_neg (Dev.handsOver flows traffic)]; simp only [idle])

end

section
variable {c : Nat} (ns : Nat) (bad : Bool) (hc : c < 8)
include hc

/-- A punt that waits wakes its sleeping cluster (R286). -/
theorem exec_puntHandover_wakes {b : Bool} (sleeps : Sparse.get? s.dev.dor.asleep c = some b) (heads : s.dev.schedHeads (32 + c) ≠ []) :
    exec (.puntHandover c ns bad) s = .next (s.withDev (s.dev.wakeDue c).xonCheck) :=
  show execPuntHandover c ns bad s = _ from State.flow_next runs (by
    rw [if_neg (by omega), if_neg (Dev.handsOver flows traffic), sleeps]
    simp [heads])

theorem exec_puntHandover_chosen {f : Nat} {x : Frame} {d : Dev} (awake : Sparse.get? s.dev.dor.asleep c = none)
    (chosen : s.dev.choose (32 + c) ns (fun y => s.dev.puntRoom c y) = some (f, x, d)) :
    exec (.puntHandover c ns bad) s = .next (s.withDev (if bad then d.badCell f x else d.puntTo c f x).xonCheck) :=
  show execPuntHandover c ns bad s = _ from State.flow_next runs (by
    rw [if_neg (by omega), if_neg (Dev.handsOver flows traffic), awake]; simp only [chosen]; rfl)

end

end

section
variable {p : Nat} (ago sub : Nat) (hp : p < 32)
include hp

theorem exec_transmitFrame_sends {f : Nat} {x : Frame} (sends : s.dev.portSends p = true)
    (first : s.dev.firstIf (fun y => y.loc = .mac p) = some (f, x)) (starts : s.dev.macStops x = false) :
    exec (.transmitFrame p ago sub) s = .next (s.withDev (if s.dev.maxLen p < wireLen x
      then (s.dev.loseFrame f).bump .WIRE_TX_OVERSIZE p else s.dev.sendOn p f x ago sub).xonCheck) := by
  refine show execTransmitFrame p ago sub s = _ from State.flow_next runs ?_
  rw [if_neg (by omega), if_neg (by simp [sends]), first]
  simp only [starts, Bool.false_eq_true, if_false]
  split <;> rfl

theorem exec_transmitFrame_silent (silent : s.dev.portSends p = false) :
    exec (.transmitFrame p ago sub) s = .next (s.withDev s.dev.xonCheck) :=
  show execTransmitFrame p ago sub s = _ from State.flow_next runs (by rw [if_neg (by omega), if_pos silent])

end

theorem exec_spillReadback_first {q f : Nat} {x : Frame}
    (first : s.dev.firstIf (fun y => y.inQueue && y.queue = q && y.spilled) = some (f, x)) (budget : s.dev.swb.spillRead < 8000) :
    let d := s.dev.setFrame f { x with spilled := false }
    exec (.spillReadback q) s = .next (s.withDev
      (Dev.xonCheck { d with swb := { d.swb with spillRead := d.swb.spillRead + (x.bytes.length + 4) } })) :=
  show execSpillReadback q s = _ from State.flow_next runs (by rw [first]; exact if_neg (Nat.not_le.2 budget))

section
variable {r f : Nat} {x : Frame} (first : s.dev.firstIf (fun y => y.loc = .ringEngine && y.rxRing = some r) = some (f, x))
include first

theorem exec_receiveDelivery_fills {i : Item} (next : s.dev.nextRecv r = some i) :
    exec (.receiveDelivery r) s = .next (s.withDev (s.dev.fillItem f x i).xonCheck) :=
  show execReceiveDelivery r s = _ from State.flow_next runs (by rw [next, first])

variable (full : s.dev.nextRecv r = none)
include full

theorem exec_receiveDelivery_waits (waits : (s.dev.rxRingOf x).2 = true ∧ (s.dev.ring r).st = 1) :
    exec (.receiveDelivery r) s = .next (s.withDev s.dev.xonCheck) :=
  show execReceiveDelivery r s = _ from State.flow_next runs (by rw [full, first]; exact if_pos waits)

theorem exec_receiveDelivery_drops (lost : ¬ ((s.dev.rxRingOf x).2 = true ∧ (s.dev.ring r).st = 1)) :
    exec (.receiveDelivery r) s = .next (s.withDev ((s.dev.bump .RNG_RX_NO_BUF 0).dropFrame f).xonCheck) :=
  show execReceiveDelivery r s = _ from State.flow_next runs (by rw [full, first]; exact if_neg lost)

end

end

/-- While the datapath does not run, no frame moves on from any place (R33, R38, R575). -/
theorem exec_moves_closed {s : State} (closed : s.dev.pathOpen = false) (p q a b : Nat) (bad : Bool) (e : List (Nat × Nat)) :
    exec (.pathDeliver p a) s = .next s ∧ exec (.egressPipeline q e) s = .next s ∧ exec (.scheduleFrame p a bad) s = .next s ∧
      exec (.puntHandover p a bad) s = .next s ∧ exec (.transmitFrame p a b) s = .next s ∧ exec (.spillReadback q) s = .next s ∧
      exec (.receiveDelivery q) s = .next s := by
  show execPathDeliver p a s = _ ∧ execEgressPipeline q e s = _ ∧ execScheduleFrame p a bad s = _ ∧
    execPuntHandover p a bad s = _ ∧ execTransmitFrame p a b s = _ ∧ execSpillReadback q s = _ ∧ execReceiveDelivery q s = _
  exact ⟨State.flow_closed closed _, State.flow_closed closed _, State.flow_closed closed _, State.flow_closed closed _,
    State.flow_closed closed _, State.flow_closed closed _, State.flow_closed closed _⟩

/-- Settles O37, place by place. -/
theorem frameMovement : Obligations.FrameMovement := by
  unfold Obligations.FrameMovement
  exact ⟨fun p ns f x s hp runs first =>
      ⟨exec_pathDeliver_waits runs ns hp first, exec_pathDeliver_delivers runs ns hp first⟩,
    fun q f x parity s runs flows first => exec_egressPipeline_first runs parity flows first,
    fun q ns bad s hq runs flows traffic =>
      ⟨fun f x d => exec_scheduleFrame_chosen runs flows traffic ns bad hq, exec_scheduleFrame_none runs flows traffic ns bad hq⟩,
    fun c ns bad s hc runs flows traffic =>
      ⟨fun b => exec_puntHandover_wakes runs flows traffic ns bad hc, fun f x d => exec_puntHandover_chosen runs flows traffic ns bad hc⟩,
    fun p ago sub f x s hp runs up traffic => exec_transmitFrame_sends runs ago sub hp ((s.dev.portSends_iff p).2 ⟨up, traffic⟩),
    fun p ago sub s hp silent runs => exec_transmitFrame_silent runs ago sub hp (Dev.portSends_eq_false silent),
    fun p q a b bad e s _ closed => exec_moves_closed closed p q a b bad e,
    fun q f x s runs => exec_spillReadback_first runs,
    fun r f x s runs first => ⟨fun i => exec_receiveDelivery_fills runs first,
      fun full => ⟨exec_receiveDelivery_waits runs first full, exec_receiveDelivery_drops runs first full⟩⟩⟩

end Sys2Proof.Machine
end

section
/-! PROOFS of the family 04_rule_epochs.md: writes of EPC_MODE, and the commit that follows one. -/

namespace Sys2Proof.Machine

open Host

/-! ### Writes of EPC_MODE (R113) -/

theorem exec_epcModeWrite {o : Origin} {s : State} (takes : s.dev.takesWrite o .EPC_MODE 0) (v : Nat) :
    exec (.epcModeWrite o v) s = .next (s.withDev (s.dev.epcMode v)) :=
  show execEpcModeWrite o v s = _ from State.act_next (by rw [Dev.regWrite_ok takes])

section
variable {d : Dev}

/-- MODE changes while no change is staged, no commit waits or is held, and no pause is in progress. -/
theorem Dev.epcMode_of_idle
    (idle : d.stagedCount = 0 ∧ d.epc.closed = none ∧ d.epc.heldC = none ∧ d.epc.pauseFrom = none) (v : Nat) :
    d.epcMode v = d.wr .EPC_MODE 0 (bits v 0 0) := by
  simp only [Dev.epcMode, Option.isNone_iff_eq_none, if_pos idle]

/-- Otherwise the write is dropped, and MODE_DROPPED tells of it. -/
theorem Dev.epcMode_of_busy
    (busy : ¬ (d.stagedCount = 0 ∧ d.epc.closed = none ∧ d.epc.heldC = none ∧ d.epc.pauseFrom = none)) (v : Nat) :
    d.epcMode v = d.setFld .EPC_STATUS 0 0 0 1 := by
  simp only [Dev.epcMode, Option.isNone_iff_eq_none, if_neg busy]

end

/-- Either way only a register is written. -/
theorem Dev.epcMode_eq (d : Dev) (v : Nat) : ∃ regs, d.epcMode v = { d with regs := regs } := by
  unfold Dev.epcMode
  split <;> exact ⟨_, rfl⟩

/-! ### The commit that follows (R104, R113, R114) -/

@[simp] theorem Dev.epcStatus_epc (s : Dev) (tag detail result : Nat) : (s.epcStatus tag detail result).epc = s.epc := rfl

/-- An untimed commit that no refusal of R122 meets, with no closed set before it, closes the open set. -/
theorem Dev.epcCommit_untimed {d : Dev} (runs : d.mode ≠ .lockdown) (free : d.epc.heldC = none) (noneWaits : d.epc.closed = none)
    (fits : d.fld .EPC_MODE 0 0 0 = 1 → pauseLen d.stagedCount ≤ 496) (o : Origin) (tag : Nat) (early : Bool) :
    d.epcCommit o tag false early =
      (d.closeSet { o, tag, timed := false, target := d.untimedDue early, due := d.untimedDue early,
                    pause := decide (d.fld .EPC_MODE 0 0 0 = 1), recNo := 0, count := 0 }).epcStatus tag 0 1 := by
  have fitting : ¬ (decide (d.fld .EPC_MODE 0 0 0 = 1) = true ∧ 496 < pauseLen d.stagedCount) :=
    fun ⟨pause, long⟩ => absurd (fits (of_decide_eq_true pause)) (Nat.not_le.2 long)
  simp only [Dev.epcCommit, if_neg runs, free, noneWaits, Option.isSome_none, Bool.false_eq_true, false_and, if_false, if_neg fitting]

/-- Settles O41, by whether the machinery is idle when the write comes. -/
theorem epochMode : Obligations.EpochMode := by
  unfold Obligations.EpochMode
  refine ⟨fun o v s takes => ⟨s.dev.epcMode v, exec_epcModeWrite takes v, ?epc, ?tbl, ?frames, fun idle => ⟨?mode, ?others⟩,
    fun busy => ⟨?flag, ?rest⟩⟩, fun d o tag early runs free noneWaits fits => ?commit⟩
  case epc | tbl | frames =>
    obtain ⟨_, h⟩ := s.dev.epcMode_eq v
    rw [h]
  case mode =>
    rw [Dev.epcMode_of_idle idle, Dev.rd_wr_same, bits]
    omega
  case others =>
    intro r i hi other
    rw [Dev.epcMode_of_idle idle, Dev.rd_wr_other _ _ (by decide) hi other]
  case flag =>
    rw [Dev.epcMode_of_busy busy]
    exact s.dev.fld_setFld_same _ _ _ (by decide) (by decide)
  case rest =>
    intro r i hi other
    rw [Dev.epcMode_of_busy busy, Dev.rd_setFld_other _ _ _ _ (by decide) hi other]
  case commit =>
    rw [Dev.epcCommit_untimed runs free noneWaits fits]
    exact ⟨_, rfl, rfl⟩

/-! ### The new epoch and the frozen entries (R104, R159, R161)

A commit makes a rewrite of a frozen TENANT entry visible, and the entry's freeze ends with it. FROZEN of TBL_SHADOW_STATUS counts the
frozen entries, so the register file changes at the boundary at which such a commit applies. -/

/-- Fields are read from the register file alone. -/
theorem Dev.fld_congr {d e : Dev} (h : d.regs = e.regs) (r : Reg) (i hi lo : Nat) : d.fld r i hi lo = e.fld r i hi lo := by
  simp only [Dev.fld, Dev.rd, Dev.reg, h]

/-- The device after power-on with TENANT entry 0 frozen, its rewrite staged by a port that may clear it, and that set closed by an untimed
commit. -/
def rewriteClosed : Dev :=
  ((Dev.reset.setIso 6 0 (some { pending := none, frozen := true, clearing := true })).setEntry 6 0
    { TblEntry.blank with staged := some 1 }).closeSet
      { o := .basecamp, tag := 0, timed := false, target := 1, due := 1, pause := false, recNo := 0, count := 0 }

theorem rewriteClosed_frozen : rewriteClosed.fld .TBL_SHADOW_STATUS 0 31 16 = 1 := by decide +kernel

/-- The new epoch shows the rewrite, and no entry is frozen any more. -/
theorem rewriteClosed_newEpoch_frozen : rewriteClosed.newEpoch.fld .TBL_SHADOW_STATUS 0 31 16 = 0 := by decide +kernel

/-- Refutes O42: its clause on the new epoch says that no register changes, for every device. When the closed set holds the rewrite of a frozen
TENANT entry, the entry thaws, and FROZEN of TBL_SHADOW_STATUS goes from 1 to 0. -/
theorem not_commitsAndPauses : ¬ Obligations.CommitsAndPauses := by
  unfold Obligations.CommitsAndPauses
  rintro ⟨-, -, -, -, -, -, newEpoch, -⟩
  obtain ⟨-, -, -, sameRegs, -⟩ := newEpoch rewriteClosed
  have sameCount := Dev.fld_congr sameRegs .TBL_SHADOW_STATUS 0 31 16
  rw [rewriteClosed_newEpoch_frozen, rewriteClosed_frozen] at sameCount
  exact absurd sameCount (by decide)

end Sys2Proof.Machine
end

section
/-! PROOFS of the family 05_tables_and_learning.md: the command ports and what a command leaves in its table, learning, aging, the shadow
sweep, and the reads of the table logs. -/

namespace Sys2Proof.Machine

open Host

/-! ### A command is issued (R138, R139) -/

theorem Dev.tblIssue_ok {s : Dev} {o : Origin} {n : Nat} (hn : n < 16) (takes : s.takesWrite o .TBL_CMD_CTL n) (op table tag : Nat) (sv : Bool) :
    s.tblIssue o n op table tag sv = .next (s.tblGo o n op table tag sv) := by
  rw [Dev.tblIssue, if_neg (by omega)]
  simp only [Dev.regWrite_ok takes]

section
variable {d : Dev} {o : Origin} {n : Nat} (op table tag : Nat) (sv : Bool)

theorem Dev.tblGo_foreign (foreign : d.ownsPort o n = false) : d.tblGo o n op table tag sv = d.bump .TBL_CMD_FOREIGN 0 := if_pos foreign

theorem Dev.tblGo_overlap (owns : d.ownsPort o n = true) (busy : (d.tblCmd n).isSome = true) :
    d.tblGo o n op table tag sv = d.setFld .TBL_CMD_STATUS n 1 1 1 := by
  rw [Dev.tblGo, if_neg (by simp [owns]), if_pos busy]

theorem Dev.tblGo_accepted (owns : d.ownsPort o n = true) (idle : d.tblCmd n = none) {table tag : Nat} (ht : table < 16) (hg : tag < 2 ^ 16) :
    d.tblGo o n op table tag sv = ((d.setFld .TBL_CMD_STATUS n 31 16 tag).setFld .TBL_CMD_STATUS n 0 0 1).setTblCmd n
      (some ⟨o, op, table, tag, sv, decide (d.fld .TBL_CMD_MODE n 0 0 = 1), d.fld .TBL_CMD_INDEX n 31 0, d.cmdData n⟩) := by
  rw [Dev.tblGo, if_neg (by simp [owns]), if_neg (by simp [idle]), Nat.mod_eq_of_lt ht, Nat.mod_eq_of_lt hg]

end

/-! ### A command completes (R117, R139, R142) -/

section
variable {n : Nat} {c : TblCmd} {s : State} (outstanding : s.dev.tblCmd n = some c)
include outstanding

theorem exec_tblCmdComplete_runs (runs : ¬ (s.dev.held = true ∨ c.writes = true ∧ s.dev.portsBelow n c.table = true)) :
    exec (.tblCmdComplete n) s = .next (s.withDev (Dev.tblPublish n c (s.dev.tblRun n c))) :=
  show execTblCmdComplete n s = _ from State.act_next (by rw [outstanding]; exact if_neg runs)

theorem exec_tblCmdComplete_waits (waits : s.dev.held = true ∨ c.writes = true ∧ s.dev.portsBelow n c.table = true) :
    exec (.tblCmdComplete n) s = .next s :=
  show execTblCmdComplete n s = .next (s.withDev s.dev) from State.act_next (by rw [outstanding]; exact if_pos waits)

end

/-! ### What a command does to its table (R100, R101, R103, R139, R140)

A command that writes either is refused and changes nothing, or ends in one write of an image, before which only an INSERT may have moved
entries to make room. -/

theorem Dev.entry_setEntry_same (s : Dev) (code i : Nat) (e : TblEntry) : (s.setEntry code i e).entry code i = e.norm :=
  Sparse.get_set_same ..

@[simp] theorem TblEntry.norm_staged (e : TblEntry) : e.norm.staged = e.staged := by
  unfold TblEntry.norm; split <;> rfl

/-- The stored form of an entry reads as the entry does, for either kind of port. -/
@[simp] theorem TblEntry.norm_view (e : TblEntry) (n : Nat) (direct : Bool) : e.norm.view n direct = e.view n direct := by
  simp only [TblEntry.view, TblEntry.norm_at, TblEntry.norm_staged]

/-- A port reads the image it has stored: in every live epoch, or staged (R101). -/
theorem Dev.view_putImage (s : Dev) (o : Origin) {code : Nat} (i v n : Nat) {direct : Bool} (stamp : Bool)
    (reads : tblVersioned code = true ∨ direct = true) : ((s.putImage o code i v direct stamp).entry code i).view n direct = v := by
  unfold Dev.putImage
  cases direct with
  | true =>
    simp only [Bool.true_or, if_true, Dev.entry_setEntry_same, TblEntry.norm_view]
    exact TblEntry.at_single (s.entry code i) v n
  | false =>
    have versioned : tblVersioned code = true := by simpa using reads
    simp [versioned, Dev.entry_setEntry_same, TblEntry.view]

theorem Dev.entry_congr {s t : Dev} (h : s.tbl.entries = t.tbl.entries) (code i : Nat) : s.entry code i = t.entry code i := by
  simp only [Dev.entry, h]

@[simp] theorem Dev.isoStatus_tbl (s : Dev) : s.isoStatus.tbl = s.tbl := by
  unfold Dev.isoStatus
  rw [Dev.setFld_tbl, Dev.setFld_tbl]

theorem Dev.setIso_entries (s : Dev) (table i : Nat) (m : Option IsoMark) : (s.setIso table i m).tbl.entries = s.tbl.entries := by
  rw [Dev.setIso, Dev.isoStatus_tbl]

/-- The mark of a frozen TENANT entry is beside the tables. -/
theorem Dev.entry_noteRewrite (s : Dev) (code i k j : Nat) (direct : Bool) : (s.noteRewrite code i direct).entry k j = s.entry k j := by
  refine Dev.entry_congr ?_ k j
  unfold Dev.noteRewrite
  split
  · split <;> exact s.setIso_entries ..
  · rfl

/-- A write to a known entry is refused, or stores its image there. -/
theorem Dev.writeAt_cases (s : Dev) (o : Origin) (code i v : Nat) (direct clears stamp : Bool) :
    (∃ k, k ≠ 0 ∧ s.writeAt o code i v direct clears stamp = .no s k i) ∨
      s.writeAt o code i v direct clears stamp = ⟨(s.putImage o code i v direct stamp).noteRewrite code i direct, 0, i, none⟩ := by
  simp only [Dev.writeAt]
  split
  · exact .inl ⟨9, by decide, rfl⟩
  split
  · exact .inl ⟨10, by decide, rfl⟩
  split
  · exact .inl ⟨4, by decide, rfl⟩
  · exact .inr rfl

/-- What a command that writes image `v` can come to. -/
inductive TblOut.Writes (s : Dev) (c : TblCmd) (v : Nat) : TblOut → Prop
  | refused {k : Nat} (i : Nat) (h : k ≠ 0) : Writes s c v (.no s k i)
  | written {t : Dev} (i : Nat) (clears stamp : Bool) (h : c.op ≠ 3 → t = s) :
      Writes s c v (t.writeAt c.o c.table i v c.direct clears stamp)

section
variable {s : Dev} {c : TblCmd} {v : Nat} {r : TblOut} (writes : TblOut.Writes s c v r)
include writes

/-- One that fails leaves the device as it was, but for the entries that an INSERT has moved. -/
theorem TblOut.Writes.keeps (fails : r.result ≠ 0) (op : c.op ≠ 3) : r.s = s := by
  cases writes with
  | refused => rfl
  | @written t i clears stamp same =>
    obtain ⟨k, -, refused⟩ | stored := t.writeAt_cases c.o c.table i v c.direct clears stamp
    · rw [refused]; exact same op
    · rw [stored] at fails; exact absurd rfl fails

/-- One that succeeds has stored an image that its port reads (R101). -/
theorem TblOut.Writes.view (succeeds : r.result = 0) (reads : tblVersioned c.table = true ∨ c.direct = true) (n : Nat) :
    (r.s.entry c.table r.index).view n c.direct = v := by
  cases writes with
  | refused _ h => exact absurd succeeds h
  | @written t i clears stamp =>
    obtain ⟨k, nonzero, refused⟩ | stored := t.writeAt_cases c.o c.table i v c.direct clears stamp
    · rw [refused] at succeeds; exact absurd succeeds nonzero
    · rw [stored, Dev.entry_noteRewrite]; exact t.view_putImage c.o i v n stamp reads

end

/-- A check that may refuse the command can stand before any outcome. -/
theorem TblOut.Writes.unless {s : Dev} {c : TblCmd} {v k : Nat} {r : TblOut} {p : Prop} [Decidable p] (i : Nat) (hk : k ≠ 0)
    (h : TblOut.Writes s c v r) : TblOut.Writes s c v (if p then .no s k i else r) := by
  split
  · exact .refused i hk
  · exact h

section
variable (s : Dev) (c : TblCmd) (clears : Bool)

theorem Dev.opWrite_writes : TblOut.Writes s c (tblMask c.table c.data) (s.opWrite c clears) :=
  .unless _ (by decide) <| .unless _ (by decide) <| .unless _ (by decide) <| .written _ _ _ fun _ => rfl

theorem Dev.opUpdate_writes : TblOut.Writes s c (tblMask c.table c.data) (s.opUpdate c clears) := by
  refine .unless _ (by decide) <| .unless _ (by decide) ?_
  split
  · exact .refused _ (by decide)
  · exact .written _ _ _ fun _ => rfl

theorem Dev.insertRoute_writes {v : Nat} (route : c.table = 2) (index : Nat) :
    TblOut.Writes s c v (s.insertRoute c.o v c.direct index) := by
  have written (i : Nat) : TblOut.Writes s c v (s.writeAt c.o 2 i v c.direct false false) :=
    route ▸ .written i false false fun _ => rfl
  simp only [Dev.insertRoute]
  refine .unless _ (by decide) ?_
  split
  · exact .refused _ (by decide)
  split
  · exact written _
  · exact .unless _ (by decide) (written _)

theorem Dev.insertKey_writes {v : Nat} (insert : c.op = 3) (index : Nat) :
    TblOut.Writes s c v (s.insertKey c.o c.table v c.direct clears index) := by
  simp only [Dev.insertKey]
  split
  · exact .refused _ (by decide)
  split
  · exact .written _ _ _ fun _ => rfl
  refine .unless _ (by decide) <| .unless _ (by decide) ?_
  split
  · exact .refused _ (by decide)
  next moved i _ =>
    split
    · exact .refused _ (by decide)
    · exact .written i clears true fun other => absurd insert other

theorem Dev.opInsert_writes (insert : c.op = 3) : TblOut.Writes s c (tblMask c.table c.data) (s.opInsert c clears) := by
  unfold Dev.opInsert
  split
  · exact s.insertRoute_writes c ‹_› _
  · exact .unless _ (by decide) (s.insertKey_writes c clears insert _)

/-- A DELETE by key writes an absent image, one by index the newest image with VALID cleared (R139). -/
theorem Dev.opDelete_writes :
    ∃ v, TblOut.Writes s c v (s.opDelete c clears) ∧ (tblKeyed c.table = true ∨ c.table = 2 → v = 0) := by
  unfold Dev.opDelete
  split
  next =>
    refine ⟨0, ?_, fun _ => rfl⟩
    split
    · exact .refused _ (by decide)
    · exact .written _ _ _ fun _ => rfl
  next byIndex => exact ⟨_, .unless _ (by decide) (.written _ _ _ fun _ => rfl), fun keyed => absurd keyed byIndex⟩

theorem Dev.opRead_s : (s.opRead c).s = s := by
  unfold Dev.opRead
  split
  · rfl
  · split <;> rfl

theorem Dev.opSearch_s : (s.opSearch c).s = s := by
  simp only [Dev.opSearch]
  split <;> rfl

end

/-- Every table with a key has an image per epoch (R99, R123). -/
theorem tblVersioned_of_keyed {code : Nat} (keyed : tblKeyed code = true ∨ code = 2) : tblVersioned code = true := by
  simp [tblKeyed, tblVersioned] at keyed ⊢
  omega

/-- The operations of the ports are numbered 1 to 6 (R139). -/
theorem opAllowed_range {op code : Nat} (allowed : opAllowed op code = true) : 1 ≤ op ∧ op ≤ 6 := by
  match op, allowed with
  | 1, _ | 2, _ | 3, _ | 4, _ | 5, _ | 6, _ => omega

/-- The image that a command writes (R139): the DATA buffer with its read-only bits in place, and for a DELETE by key an absent one. -/
def TblCmd.Stores (c : TblCmd) (v : Nat) : Prop :=
  (c.op = 2 ∨ c.op = 3 ∨ c.op = 6 → v = tblMask c.table c.data) ∧ (c.op = 4 → tblKeyed c.table = true ∨ c.table = 2 → v = 0)

theorem TblCmd.exists_stores (c : TblCmd) : ∃ v, c.Stores v := by
  by_cases delete : c.op = 4
  · exact ⟨0, by omega, fun _ _ => rfl⟩
  · exact ⟨_, fun _ => rfl, fun op => absurd op delete⟩

section
variable (d : Dev) (n : Nat) (c : TblCmd)

/-- An operation that its table does not have changes nothing (R139). -/
theorem Dev.tblRun_of_not_allowed (h : opAllowed c.op c.table = false) : d.tblRun n c = .no d 5 c.index := if_pos h

/-- In LOCKDOWN a command that writes changes nothing (R143). -/
theorem Dev.tblRun_of_lockdown (locked : d.mode = .lockdown) (allowed : opAllowed c.op c.table = true) (read : c.op ≠ 1) (search : c.op ≠ 5) :
    d.tblRun n c = .no d 0xB c.index := by
  rw [Dev.tblRun, if_neg (by simp [allowed]), if_pos ⟨locked, read, search⟩]

theorem Dev.tblRun_s_of_read (h : c.op = 1 ∨ c.op = 5) : (d.tblRun n c).s = d := by
  simp only [Dev.tblRun]
  split
  · rfl
  · rcases h with h | h <;> simp [h, Dev.opRead_s, Dev.opSearch_s]

/-- Every other operation writes its image, or is refused. -/
theorem Dev.tblRun_writes (read : c.op ≠ 1) (search : c.op ≠ 5) : ∃ v, TblOut.Writes d c v (d.tblRun n c) ∧ c.Stores v := by
  obtain ⟨v, stores⟩ := c.exists_stores
  unfold Dev.tblRun
  split
  · exact ⟨v, .refused _ (by decide), stores⟩
  next allowed =>
  split
  · exact ⟨v, .refused _ (by decide), stores⟩
  split
  · exact ⟨v, .refused _ (by decide), stores⟩
  obtain ⟨lo, hi⟩ := opAllowed_range (eq_true_of_ne_false allowed)
  split
  · exact absurd ‹_› read
  · exact ⟨_, d.opWrite_writes c _, fun _ => rfl, by omega⟩
  · exact ⟨_, d.opInsert_writes c _ ‹_›, fun _ => rfl, by omega⟩
  · obtain ⟨v, writes, absent⟩ := d.opDelete_writes c (decide (n < 4) || c.o.capsule)
    exact ⟨v, writes, by omega, fun _ => absent⟩
  · exact absurd ‹_› search
  next _ _ _ other _ => exact ⟨_, d.opUpdate_writes c _, fun _ => rfl, fun delete => absurd delete other⟩

end

/-! ### The result is published (R139 to R141) -/

/-- What no step of an iteration changes is the same after it. -/
theorem forEach_same {α β : Type} (g : Dev → β) {f : Dev → α → Dev} {l : List α} (step : ∀ s, ∀ a ∈ l, g (f s a) = g s) (s : Dev) :
    g (forEach l s f) = g s := by
  induction l generalizing s with
  | nil => rfl
  | cons a l ih =>
    exact (ih (fun s b hb => step s b (List.mem_cons_of_mem a hb)) (f s a)).trans (step s a List.mem_cons_self)

theorem tblBits_le (code : Nat) : tblBits code ≤ 1472 := by
  unfold tblBits; split <;> decide

theorem Dev.putCmdData_tbl (s : Dev) (n code v : Nat) : (s.putCmdData n code v).tbl = s.tbl :=
  forEach_same (f := fun s w => s.wr .TBL_CMD_DATA (64 * n + w) (v / 2 ^ (32 * w) % 2 ^ 32)) Dev.tbl (fun _ _ _ => rfl) s

theorem Dev.rd_putCmdData_other (s : Dev) {n : Nat} (code v : Nat) {q : Reg} {j : Nat} (hn : n < 16) (hj : j < 2 ^ 24) (h : q ≠ .TBL_CMD_DATA) :
    (s.putCmdData n code v).rd q j = s.rd q j := by
  refine forEach_same (fun s => s.rd q j) (fun s w hw => s.rd_wr_other _ ?_ hj h) s
  have := List.mem_range.1 hw
  have := tblBits_le code
  omega

/-- The device after a command, before the image it has read is placed in the port's DATA buffer. -/
def Dev.tblDone (n : Nat) (r : TblOut) : Dev :=
  (((r.s.setTblCmd n none).setFld .TBL_CMD_STATUS n 15 8 r.result).setFld .TBL_CMD_STATUS n 0 0 0).wr .TBL_CMD_INDEX n r.index

theorem Dev.tblPublish_eq (n : Nat) (c : TblCmd) (r : TblOut) :
    Dev.tblPublish n c r = match r.image with
      | some v => (Dev.tblDone n r).putCmdData n c.table v
      | none => Dev.tblDone n r := rfl

theorem Dev.tblPublish_tbl (n : Nat) (c : TblCmd) (r : TblOut) : (Dev.tblPublish n c r).tbl = (r.s.setTblCmd n none).tbl := by
  rw [Dev.tblPublish_eq]
  split
  · exact Dev.putCmdData_tbl ..
  · rfl

/-- The port has no command outstanding any more. -/
theorem Dev.tblPublish_tblCmd (n : Nat) (c : TblCmd) (r : TblOut) : (Dev.tblPublish n c r).tblCmd n = none := by
  rw [Dev.tblCmd, Dev.tblPublish_tbl]
  exact Sparse.get?_put_same r.s.tbl.cmds n none

theorem Dev.tblPublish_entries (n : Nat) (c : TblCmd) (r : TblOut) : (Dev.tblPublish n c r).tbl.entries = r.s.tbl.entries := by
  rw [Dev.tblPublish_tbl]; rfl

theorem Dev.rd_tblPublish {n : Nat} (hn : n < 16) (c : TblCmd) (r : TblOut) {q : Reg} (h : q ≠ .TBL_CMD_DATA) :
    (Dev.tblPublish n c r).rd q n = (Dev.tblDone n r).rd q n := by
  rw [Dev.tblPublish_eq]
  split
  · exact Dev.rd_putCmdData_other _ _ _ hn (by omega) h
  · rfl

/-- TBL_CMD_STATUS of a port whose command has completed: its RESULT, and BUSY 0. -/
theorem Dev.rd_tblDone_status {n : Nat} (hn : n < 16) (r : TblOut) :
    (Dev.tblDone n r).rd .TBL_CMD_STATUS n = putBits (putBits (r.s.rd .TBL_CMD_STATUS n) 15 8 r.result % 2 ^ 64) 0 0 0 % 2 ^ 64 := by
  rw [Dev.tblDone, Dev.rd_wr_other _ _ (by omega) (by omega) (by decide), Dev.setFld, Dev.rd_wr_same, Dev.setFld, Dev.rd_wr_same]
  rfl

theorem Dev.tblPublish_status {n : Nat} (hn : n < 16) (c : TblCmd) (r : TblOut) :
    (Dev.tblPublish n c r).fld .TBL_CMD_STATUS n 15 8 = r.result % 256 ∧ (Dev.tblPublish n c r).fld .TBL_CMD_STATUS n 0 0 = 0 := by
  have := r.s.rd_lt .TBL_CMD_STATUS n
  simp only [Dev.fld, Dev.rd_tblPublish hn c r (q := .TBL_CMD_STATUS) (by decide), Dev.rd_tblDone_status hn, bits, putBits]
  omega

theorem Dev.tblPublish_index {n : Nat} (hn : n < 16) (c : TblCmd) (r : TblOut) :
    (Dev.tblPublish n c r).rd .TBL_CMD_INDEX n = r.index % 2 ^ 64 := by
  rw [Dev.rd_tblPublish hn c r (by decide), Dev.tblDone, Dev.rd_wr_same]

/-! ### Learns and moves (R117, R142, R143, R149) -/

theorem Dev.learnHeld_iff (s : Dev) (table : Nat) :
    s.learnHeld table = true ↔ s.held = true ∨ s.mode = .lockdown ∨ s.portsBelow 16 table = true := by
  simp [Dev.learnHeld, or_assoc]

section
variable {q : LearnReq} {l : List LearnReq} {s : State} (head : s.dev.tbl.learnQ = q :: l)
include head

theorem exec_learn_takes (flows : ¬ s.dev.learnHeld 0 = true) (learn : q.isMove = false) :
    exec .learn s = .next (s.withDev (Dev.learnNow { s.dev with tbl := { s.dev.tbl with learnQ := l } } q)) :=
  show execLearn s = _ from State.act_next (by rw [head]; exact if_neg (by simp [flows, learn]))

theorem exec_move_takes (flows : ¬ s.dev.learnHeld 0 = true) (move : q.isMove = true) :
    exec .move s = .next (s.withDev (Dev.moveNow { s.dev with tbl := { s.dev.tbl with learnQ := l } } q)) :=
  show execMove s = _ from State.act_next (by rw [head]; exact if_neg (by simp [flows, move]))

theorem exec_learn_move_held (held : s.dev.learnHeld 0 = true) : exec .learn s = .next s ∧ exec .move s = .next s :=
  ⟨show execLearn s = .next (s.withDev s.dev) from State.act_next (by rw [head]; exact if_pos (.inl held)),
    show execMove s = .next (s.withDev s.dev) from State.act_next (by rw [head]; exact if_pos (.inl held))⟩

end

/-- A key that is present by now is refreshed or moved by a learn, and moved by a move; a STATIC one is never moved. -/
theorem Dev.learnNow_of_known {d : Dev} {q : LearnReq} {i : Nat} (found : d.findKey 0 q.key (fun e => e.at d.epc.cur) = some i) :
    let v := (d.entry 0 i).at d.epc.cur
    d.learnNow q = if bit v 189 ∨ actionPort v = q.port then d.touch 0 i else d.moveStation i q := by
  simp only [Dev.learnNow, found]

theorem Dev.moveNow_of_known {d : Dev} {q : LearnReq} {i : Nat} (found : d.findKey 0 q.key (fun e => e.at d.epc.cur) = some i) :
    d.moveNow q = if bit ((d.entry 0 i).at d.epc.cur) 189 then d else d.moveStation i q := by
  simp only [Dev.moveNow, found]

/-! ### Learn tokens (R150) and age stamps (R152) -/

theorem Dev.tokens_setTokens (s : Dev) (p q n : Nat) : (s.setTokens p n).tokens q = if q = p then n else s.tokens q :=
  Sparse.get_set ..

/-- The refill of one port. -/
def Dev.refill (s : Dev) (p : Nat) : Dev :=
  s.setTokens p (min (s.tokens p + s.fld .TBL_LEARN_CFG p 31 16) (s.fld .TBL_LEARN_CFG p 15 8))

/-- Each port of a list of different ports is refilled once. -/
theorem Dev.tokens_forEach_refill {l : List Nat} (distinct : l.Nodup) (s : Dev) (p : Nat) :
    (forEach l s Dev.refill).tokens p = if p ∈ l then (s.refill p).tokens p else s.tokens p := by
  induction l generalizing s with
  | nil => rfl
  | cons a l ih =>
    obtain ⟨new, rest⟩ := List.nodup_cons.1 distinct
    refine (ih rest (s.refill a)).trans ?_
    by_cases same : p = a
    · subst same; simp [new]
    · have other : (s.refill a).tokens p = s.tokens p := by rw [Dev.refill, Dev.tokens_setTokens, if_neg same]
      have refilled : ((s.refill a).refill p).tokens p = (s.refill p).tokens p := by
        simp only [Dev.refill, Dev.tokens_setTokens, if_neg same, if_true]; rfl
      simp only [List.mem_cons, same, false_or, other, refilled]

theorem exec_learnTokenRefill {s : State} (due : s.dev.vn % 25000 = 0) :
    exec .learnTokenRefill s = .next (s.withDev (forEach (List.range 32) s.dev Dev.refill)) :=
  show execLearnTokenRefill s = _ from State.act_next (if_neg (by simp [due]))

/-- The next stamp of a table whose TICK is that of register `r` (R152). -/
def Dev.ageStep (s : Dev) (r : Reg) (stamp : Nat) : Nat := if s.vn % s.fld r 0 63 32 = 0 then (stamp + 1) % 256 else stamp

theorem Dev.ageNow_lt (s : Dev) (code : Nat) : s.ageNow code < 256 := by
  unfold Dev.ageNow Dev.fld bits
  split <;> omega

theorem Dev.ageStep_lt (s : Dev) (r : Reg) {stamp : Nat} (h : stamp < 256) : s.ageStep r stamp < 256 := by
  unfold Dev.ageStep
  split <;> omega

/-- The device with the age stamps of STATION and FLOW set. -/
def Dev.setAges (s : Dev) (station flow : Nat) : Dev := s.wr .TBL_AGE_NOW 0 (flow * 2 ^ 8 + station)

theorem Dev.ageNow_setAges (s : Dev) {station flow : Nat} (hs : station < 256) (hf : flow < 256) :
    (s.setAges station flow).ageNow 0 = station ∧ (s.setAges station flow).ageNow 4 = flow := by
  simp only [Dev.ageNow, Dev.setAges, Dev.fld, Dev.rd_wr_same, bits, if_true, if_neg (show ¬ (0 : Nat) = 4 by decide)]
  omega

theorem exec_ageTick (s : State) : exec .ageTick s = .next (s.withDev
    (s.dev.setAges (s.dev.ageStep .TBL_AGE_STN (s.dev.ageNow 0)) (s.dev.ageStep .TBL_AGE_FLOW (s.dev.ageNow 4)))) :=
  show execAgeTick s = _ from State.act_next rfl

/-! ### Age-outs (R142, R154) -/

/-- The head of the aging queue is next when nothing holds the writes of its table. -/
theorem Dev.ageNext_of_head {s : Dev} {q : AgeReq} {l : List AgeReq} (head : s.tbl.ageQ = q :: l) (flows : ¬ s.learnHeld q.table = true)
    (first : q.table = 0 → s.tbl.learnQ = []) : s.ageNext = some q := by
  rw [Dev.ageNext, head]
  refine List.find?_cons_of_pos ?_
  by_cases station : q.table = 0
  · simp [station, first station, station ▸ flows]
  · simp [station, flows]

/-- A compare-and-delete that the engine has taken from its queue (R154). -/
def Dev.ageTake (s : Dev) (q : AgeReq) : Outcome Dev Fault Refusal :=
  match s.findKey q.table q.key (fun e => e.at s.epc.cur) with
  | none => .next s
  | some i =>
    let v := (s.entry q.table i).at s.epc.cur
    let t := s.purge q.table i
    if (s.entry q.table i).age ≠ q.stamp then .next s
    else if q.table = 4 then .next (t.bump .TBL_AGED_FLOW 0)
    else .next ((t.draw.2.bump .TBL_AGED_STN 0).notice 3 (bits v 175 128) (bits v 187 176) i (t.draw.1 % 64) (actionPort v))

theorem exec_ageOut_takes {s : State} {q : AgeReq} {l : List AgeReq} (head : s.dev.tbl.ageQ = q :: l) (next : s.dev.ageNext = some q)
    {d : Dev} (taken : Dev.ageTake { s.dev with tbl := { s.dev.tbl with ageQ := l } } q = .next d) :
    exec .ageOut s = .next (s.withDev d) := by
  have rest : s.dev.tbl.ageQ.erase q = l := by rw [head, List.erase_cons_head]
  refine show execAgeOut s = _ from State.act_next ?_
  rw [← taken, ← rest, next]
  rfl

section
variable {s : Dev} {q : AgeReq}

theorem Dev.ageTake_of_gone (gone : s.findKey q.table q.key (fun e => e.at s.epc.cur) = none) : s.ageTake q = .next s := by
  rw [Dev.ageTake, gone]

variable {i : Nat} (found : s.findKey q.table q.key (fun e => e.at s.epc.cur) = some i)
include found

theorem Dev.ageTake_of_touched (touched : (s.entry q.table i).age ≠ q.stamp) : s.ageTake q = .next s := by
  rw [Dev.ageTake, found]; exact if_pos touched

variable (aged : (s.entry q.table i).age = q.stamp)
include aged

theorem Dev.ageTake_of_flow (flow : q.table = 4) : s.ageTake q = .next ((s.purge 4 i).bump .TBL_AGED_FLOW 0) := by
  rw [Dev.ageTake, found]
  simp only [if_neg (not_not_intro aged), if_pos flow]
  rw [flow]

theorem Dev.ageTake_of_station (station : q.table ≠ 4) :
    let v := (s.entry q.table i).at s.epc.cur
    s.ageTake q = .next ((Dev.bump { s.purge q.table i with free := s.free + 1 } .TBL_AGED_STN 0).notice 3 (bits v 175 128) (bits v 187 176) i
      (Config.freeNat s.free % 64) (actionPort v)) := by
  rw [Dev.ageTake, found]
  simp only [if_neg (not_not_intro aged), if_neg station]
  rfl

end

/-! ### The shadow sweep (R158 to R160) -/

theorem exec_shadowSweep_begins {s : State}
    (due : s.dev.fld .TBL_SHADOW_CTL 0 0 0 = 1 ∧ s.dev.vn % 250000 = 0 ∧ s.dev.tbl.sweep = none) :
    exec .shadowSweep s = .next (s.withDev { s.dev with tbl := { s.dev.tbl with sweep := some s.dev.vn } }) :=
  show execShadowSweep s = _ from State.act_next (if_pos (by simpa using due))

theorem exec_shadowSweep_waits {s : State}
    (waits : ¬ (s.dev.fld .TBL_SHADOW_CTL 0 0 0 = 1 ∧ s.dev.vn % 250000 = 0 ∧ s.dev.tbl.sweep = none)) :
    exec .shadowSweep s = .next s :=
  show execShadowSweep s = .next (s.withDev s.dev) from State.act_next (if_neg (by simpa using waits))

/-- The device whose sweep has ended. -/
def Dev.sweepEnded (s : Dev) : Dev := { s with tbl := { s.tbl with sweep := none } }

/-- Every isolation entry compared with the shadow (R159). -/
def Dev.sweepAll (s : Dev) (sh : Sparse Nat) : Dev :=
  forEach isoEntries s (fun d e => d.sweepEntry e.1 e.2 (Sparse.get (fun _ => 0) sh (isoKey e.1 e.2)))

/-- A sweep that fails (R160). -/
def Dev.sweepFails (s : Dev) : Dev := ((s.bump .TBL_SHADOW_FAIL 0).setFld .TBL_SHADOW_STATUS 0 0 0 0).whistle 0x06 (blkId 7) 0 1

section
variable {s : State} (runs : s.dev.tbl.sweep.isSome = true)
include runs

theorem exec_shadowSweepEnd_compares (sh : Sparse Nat) (issued : s.dev.outboundBar none (s.dev.fld .TBL_SHADOW_CTL 0 2 1) = none) :
    exec (.shadowSweepEnd (some sh)) s = .next (s.withDev
      (((s.dev.sweepEnded.sweepAll sh).bump .TBL_SHADOW_SWEEPS 0).setFld .TBL_SHADOW_STATUS 0 0 0 1)) := by
  refine show execShadowSweepEnd (some sh) s = _ from State.act_next ?_
  rw [if_neg (by simp [Option.isSome_iff_ne_none.1 runs])]
  change (match some sh, s.dev.outboundBar none (s.dev.fld .TBL_SHADOW_CTL 0 2 1) with
    | some sh, none => _
    | _, _ => _) = _
  rw [issued]
  rfl

theorem exec_shadowSweepEnd_barred (sh : Sparse Nat) (barred : (s.dev.outboundBar none (s.dev.fld .TBL_SHADOW_CTL 0 2 1)).isSome = true) :
    exec (.shadowSweepEnd (some sh)) s = .next (s.withDev s.dev.sweepEnded.sweepFails) := by
  obtain ⟨k, bar⟩ := Option.isSome_iff_exists.1 barred
  refine show execShadowSweepEnd (some sh) s = _ from State.act_next ?_
  rw [if_neg (by simp [Option.isSome_iff_ne_none.1 runs])]
  change (match some sh, s.dev.outboundBar none (s.dev.fld .TBL_SHADOW_CTL 0 2 1) with
    | some sh, none => _
    | _, _ => _) = _
  rw [bar]
  rfl

theorem exec_shadowSweepEnd_unread : exec (.shadowSweepEnd none) s = .next (s.withDev s.dev.sweepEnded.sweepFails) := by
  refine show execShadowSweepEnd none s = _ from State.act_next ?_
  rw [if_neg (by simp [Option.isSome_iff_ne_none.1 runs])]
  rfl

end

section
variable {d : Dev} {table i shadow : Nat}

theorem Dev.sweepEntry_new (noMark : Sparse.get? d.tbl.iso (isoKey table i) = none) :
    d.sweepEntry table i shadow = if d.isoLive table i = shadow then d else
      d.setIso table i (some { pending := some (d.isoLive table i), frozen := false, clearing := false }) := by
  simp only [Dev.sweepEntry, noMark]

theorem Dev.sweepEntry_pending {m : IsoMark} (mark : Sparse.get? d.tbl.iso (isoKey table i) = some m) (thawed : m.frozen = false) :
    d.sweepEntry table i shadow = if m.pending = some (d.isoLive table i) ∧ d.isoLive table i ≠ shadow then d.freeze table i
      else d.setIso table i none := by
  simp only [Dev.sweepEntry, mark, thawed, Bool.false_eq_true, if_false]

end

/-! ### Reads of the logs (R10, R161) -/

/-- A read of a log FIFO that reaches it returns and removes its head. -/
theorem State.logAt_ok {s : State} {l : Nat} {r : Reg} {i : Nat} (hl : l < 4) (takes : s.dev.takesRead l r i) :
    s.logAt l r i = .next (s.withDev ((s.dev.regRead (.bar0 l) r i).2.readReply (.bar0 l) 8 (s.dev.regRead (.bar0 l) r i).1)) := by
  obtain ⟨heard, reached, clocked⟩ := takes
  refine State.act_next ?_
  rw [if_neg (by omega), Dev.logRead, if_neg (by simp [heard])]
  simp only [Dev.regReadBy, reached, clocked, Bool.false_eq_true, if_false, if_true]

/-- Settles O43, clause by clause: the command ports, what their commands leave, learning and aging, the shadow sweep, the logs. -/
theorem tableCommands : Obligations.TableCommands := by
  unfold Obligations.TableCommands
  refine ⟨fun o n table tag sv s hn takes => ?issue, fun o n op table tag sv d _ ht hg => ?go, fun n c s outstanding => ?complete,
    fun d n c => ?run, fun n c r hn => ?publish, fun q l s head => ?learn, fun d q i found => ?known, fun s due => ?tokens,
    fun s => ?stamps, fun q l s head flows runs free first => ?ages, fun s => ⟨exec_shadowSweep_begins, exec_shadowSweep_waits⟩,
    fun sh s runs => ?sweepEnd, fun d table i shadow => ?entry, fun l s hl => ?logs⟩
  case issue =>
    have issued := Dev.tblIssue_ok hn takes
    simp only [List.forall_mem_cons]
    exact ⟨show execReadIndex o n table tag sv s = _ from State.act_next (issued ..),
      show execWriteIndex o n table tag s = _ from State.act_next (issued ..),
      show execInsert o n table tag s = _ from State.act_next (issued ..),
      show execDelete o n table tag s = _ from State.act_next (issued ..),
      show execSearch o n table tag s = _ from State.act_next (issued ..),
      show execUpdate o n table tag s = _ from State.act_next (issued ..), List.forall_mem_nil _⟩
  case go =>
    exact ⟨Dev.tblGo_foreign op table tag sv, Dev.tblGo_overlap op table tag sv, fun owns idle => Dev.tblGo_accepted op sv owns idle ht hg⟩
  case complete => exact ⟨exec_tblCmdComplete_runs outstanding, exec_tblCmdComplete_waits outstanding⟩
  case run =>
    refine ⟨d.tblRun_s_of_read n c, fun fails insert => ?_, fun refused => ?_, fun locked allowed read search => ?_,
      fun op reads succeeds => ?_, fun op keyed succeeds => ?_⟩
    · by_cases reading : c.op = 1 ∨ c.op = 5
      · exact d.tblRun_s_of_read n c reading
      · obtain ⟨v, writes, -⟩ := d.tblRun_writes n c (by omega) (by omega)
        exact writes.keeps fails insert
    · rw [d.tblRun_of_not_allowed n c refused]; rfl
    · rw [d.tblRun_of_lockdown n c locked allowed read search]; rfl
    · obtain ⟨v, writes, image, -⟩ := d.tblRun_writes n c (by omega) (by omega)
      rw [writes.view succeeds reads, image op]
    · obtain ⟨v, writes, -, absent⟩ := d.tblRun_writes n c (by omega) (by omega)
      rw [writes.view succeeds (.inl (tblVersioned_of_keyed keyed)), absent op keyed]
  case publish =>
    obtain ⟨result, idle⟩ := Dev.tblPublish_status hn c r
    exact ⟨Dev.tblPublish_tblCmd n c r, result, idle, Dev.tblPublish_index hn c r, Dev.tblPublish_entries n c r⟩
  case learn =>
    simp only [← s.dev.learnHeld_iff]
    exact ⟨exec_learn_takes head, exec_move_takes head, exec_learn_move_held head⟩
  case known => exact ⟨Dev.learnNow_of_known found, Dev.moveNow_of_known found⟩
  case tokens =>
    refine ⟨_, exec_learnTokenRefill due, forEach_same (f := Dev.refill) Dev.regs (fun _ _ _ => rfl) _,
      forEach_same (f := Dev.refill) (fun d => d.tbl.entries) (fun _ _ _ => rfl) _, fun p hp => ?_⟩
    rw [Dev.tokens_forEach_refill List.nodup_range, if_pos (List.mem_range.2 hp), Dev.refill, Dev.tokens_setTokens, if_pos rfl]
  case stamps =>
    exact ⟨_, exec_ageTick s, rfl, rfl, Dev.ageNow_setAges _ (s.dev.ageStep_lt _ (s.dev.ageNow_lt 0)) (s.dev.ageStep_lt _ (s.dev.ageNow_lt 4))⟩
  case ages =>
    have flowing : ¬ s.dev.learnHeld q.table = true := by simp [s.dev.learnHeld_iff, flows, runs, free]
    have next := Dev.ageNext_of_head head flowing first
    exact ⟨fun gone => exec_ageOut_takes head next (Dev.ageTake_of_gone gone), fun i found =>
      ⟨fun touched => exec_ageOut_takes head next (Dev.ageTake_of_touched found touched),
        fun aged flow => exec_ageOut_takes head next (Dev.ageTake_of_flow found aged flow),
        fun aged station => ⟨Config.freeNat s.dev.free % 64, Nat.mod_lt _ (by decide),
          exec_ageOut_takes head next (Dev.ageTake_of_station found aged station)⟩⟩⟩
  case sweepEnd =>
    exact ⟨exec_shadowSweepEnd_compares runs sh, exec_shadowSweepEnd_barred runs sh, exec_shadowSweepEnd_unread runs⟩
  case entry =>
    refine ⟨fun noMark same => ?_, fun noMark differs => ?_, fun m mark thawed => ⟨fun pending differs => ?_, fun clears => ?_⟩⟩
    · rw [Dev.sweepEntry_new noMark, if_pos same]
    · rw [Dev.sweepEntry_new noMark, if_neg differs]
    · rw [Dev.sweepEntry_pending mark thawed, if_pos ⟨pending, differs⟩]
    · rw [Dev.sweepEntry_pending mark thawed, if_neg fun ⟨pending, differs⟩ => clears.elim (absurd pending) differs]
  case logs =>
    exact ⟨fun takes => show s.logAt l .TBL_PARITY_LOG 0 = _ from State.logAt_ok hl takes,
      fun takes => show s.logAt l .TBL_FROZEN_LOG 0 = _ from State.logAt_ok hl takes⟩

end Sys2Proof.Machine
end

section
/-! PROOFS of the family 06_switching_and_buffers.md: PFC, the barriers at the entry of the switch core, holds, the reorder sequencer, and
the multicast tables. -/

namespace Sys2Proof.Machine

open Host

/-! ### PFC (R174) -/

section
variable {p c v : Nat} {s : State} (hp : p < 32) (hc : c < 8) (paused : Sparse.get? s.dev.swb.xoff (8 * p + c) = some v)
include hp hc paused

theorem exec_pfcRefresh_sends (due : v + 500 ≤ s.dev.vn ∧ s.dev.fld .SWB_PORT_PFC p 39 20 < s.dev.ingressCells p c) :
    exec (.pfcRefresh p c) s = .next (s.withDev ((s.dev.sendPfc p c 0xFFFF).setXoff p c (some s.dev.vn))) :=
  show execPfcRefresh p c s = _ from State.act_next (by rw [if_neg (by omega), paused]; exact if_pos due)

theorem exec_pfcRefresh_waits (recent : s.dev.vn < v + 500) : exec (.pfcRefresh p c) s = .next s :=
  show execPfcRefresh p c s = .next (s.withDev s.dev) from State.act_next (by
    rw [if_neg (by omega), paused]
    exact if_neg fun ⟨due, _⟩ => Nat.not_le.2 recent due)

end

theorem Dev.sendPfc_of_silent {d : Dev} {p : Nat} (silent : d.portSends p = false) (c n : Nat) : d.sendPfc p c n = d := if_pos silent

/-- An XOFF or its refresh goes out as one frame, and is counted at the port and as XOFF. -/
theorem Dev.sendPfc_xoff {d : Dev} {p n : Nat} (sends : d.portSends p = true) (xoff : n ≠ 0) (c : Nat) : d.sendPfc p c n =
    ((d.emit (.flowControl p (if d.fld .WIRE_PORT_CFG p 5 4 = 2 then 2 ^ c else 0) n)).bump .WIRE_TX_FC p).bump .SWB_PFC_XOFF_SENT p := by
  rw [Dev.sendPfc, if_neg (by simp [sends]), if_neg xoff]

theorem Dev.rd_sendPfc_xoffSent {d : Dev} {p n : Nat} (hp : p < 2 ^ 24) (sends : d.portSends p = true) (xoff : n ≠ 0) (c : Nat) :
    (d.sendPfc p c n).rd .SWB_PFC_XOFF_SENT p = (d.rd .SWB_PFC_XOFF_SENT p + 1) % 2 ^ 64 := by
  rw [Dev.sendPfc_xoff sends xoff, Dev.bump, Dev.rd_add_same, Dev.bump, Dev.rd_add_other _ _ hp hp (by decide)]
  rfl

/-! ### The drain barrier of a bucket (R169) -/

section
variable {b old : Nat} {s : State} (raised : Sparse.get? s.dev.swb.barrier b = some old)
include raised

theorem exec_pathBarrierEnd_ends (drained : ∀ e ∈ s.dev.frames, ¬ (e.2.loc = .path old ∧ e.2.hash % 256 = b)) :
    exec (.pathBarrierEnd b) s = .next (s.withDev
      (Dev.reenter { s.dev with swb := { s.dev.swb with barrier := Sparse.put s.dev.swb.barrier b none } } (fun x => x.hash % 256 = b))) :=
  show execPathBarrierEnd b s = _ from State.act_next (by rw [raised]; exact if_neg (by simpa using drained))

theorem exec_pathBarrierEnd_waits (inside : ∃ e ∈ s.dev.frames, e.2.loc = .path old ∧ e.2.hash % 256 = b) :
    exec (.pathBarrierEnd b) s = .next s :=
  show execPathBarrierEnd b s = .next (s.withDev s.dev) from State.act_next (by rw [raised]; exact if_pos (by simpa using inside))

end

/-! ### The cluster barriers (R194) -/

/-- The barrier of an apply of group 0 ends when what it waits for has left. -/
def Dev.endCluBarrier (s : Dev) : Dev :=
  match s.swb.cluBarrier with
  | some w => if s.barrierBusy w then s else { s with swb := { s.swb with cluBarrier := none } }
  | none => s

/-- The frames that no barrier holds any more enter the switch again. -/
def Dev.reenterFree (s : Dev) : Dev := s.reenter (fun x => !s.puntHeld x && (Sparse.get? s.swb.barrier (x.hash % 256)).isNone)

/-- The order queues that the barrier of a change of EN still waits for. -/
def Dev.enWaits (s : Dev) (w : List (Nat × Nat)) : List (Nat × Nat) := w.filter (fun e => s.orderBusy e.1 e.2)

/-- The barrier of a change of EN has nothing to wait for and holds no frame. -/
def Dev.enEnds (s : Dev) (w : List (Nat × Nat)) : Bool :=
  (s.enWaits w).isEmpty && !s.frames.any (fun e => e.2.loc = .held && s.puntHeld e.2)

/-- The barrier of a change of EN ends, or goes on for the order queues that are still busy. -/
def Dev.keepEnBarrier (s : Dev) (old : Nat) (w : List (Nat × Nat)) : Dev :=
  { s with swb := { s.swb with enBarrier := if s.enEnds w then none else some (old, s.enWaits w) } }

/-- The barrier of a change of EN, where one is raised, at a CLUSTER_BARRIER_END. -/
def Dev.stepEnBarrier (s : Dev) : Dev :=
  match s.swb.enBarrier with
  | some (old, w) => s.keepEnBarrier old w
  | none => s

theorem exec_clusterBarrierEnd (s : State) :
    exec .clusterBarrierEnd s = .next (s.withDev s.dev.endCluBarrier.reenterFree.stepEnBarrier) := by
  refine show execClusterBarrierEnd s = _ from State.act_next ?_
  change (match s.dev.endCluBarrier.reenterFree.swb.enBarrier with
    | some (old, w) => Outcome.next (s.dev.endCluBarrier.reenterFree.keepEnBarrier old w)
    | none => Outcome.next s.dev.endCluBarrier.reenterFree) = _
  unfold Dev.stepEnBarrier
  cases s.dev.endCluBarrier.reenterFree.swb.enBarrier <;> rfl

theorem exec_clusterBarrierEnd_free {s : State} (free : s.dev.endCluBarrier.reenterFree.swb.enBarrier = none) :
    exec .clusterBarrierEnd s = .next (s.withDev s.dev.endCluBarrier.reenterFree) := by
  rw [exec_clusterBarrierEnd, Dev.stepEnBarrier, free]

theorem exec_clusterBarrierEnd_raised {s : State} {old : Nat} {w : List (Nat × Nat)}
    (raised : s.dev.endCluBarrier.reenterFree.swb.enBarrier = some (old, w)) :
    exec .clusterBarrierEnd s = .next (s.withDev (s.dev.endCluBarrier.reenterFree.keepEnBarrier old w)) := by
  rw [exec_clusterBarrierEnd, Dev.stepEnBarrier, raised]

section
variable {d : Dev} {w : List (Nat × Nat)} (old : Nat)

theorem Dev.keepEnBarrier_ends (idle : ∀ k ∈ w, d.orderBusy k.1 k.2 = false)
    (released : ∀ k ∈ d.frames, ¬ (k.2.loc = .held ∧ d.puntHeld k.2 = true)) : (d.keepEnBarrier old w).swb.enBarrier = none := by
  have drained : d.enWaits w = [] := List.filter_eq_nil_iff.2 (by simpa using idle)
  have ends : d.enEnds w = true := by simpa [Dev.enEnds, drained] using released
  exact if_pos ends

theorem Dev.keepEnBarrier_waits {k : Nat × Nat} (hk : k ∈ w) (busy : d.orderBusy k.1 k.2 = true) :
    ∃ v, (d.keepEnBarrier old w).swb.enBarrier = some (old, v) ∧ k ∈ v := by
  have waits : k ∈ d.enWaits w := List.mem_filter.2 ⟨hk, busy⟩
  have stays : ¬ d.enEnds w = true := by simp [Dev.enEnds, List.ne_nil_of_mem waits]
  exact ⟨d.enWaits w, if_neg stays, waits⟩

end

/-! ### The end of a hold (R189) -/

section
variable {p v : Nat} {s : State} (holds : Sparse.get? s.dev.swb.hold p = some v)
include holds

theorem exec_holdExpiry_flushes (due : v ≤ s.dev.vn) (down : s.dev.portState p ≠ 4) :
    exec (.holdExpiry p) s = .next (s.withDev (s.dev.expireHold p)) :=
  show execHoldExpiry p s = _ from State.act_next (by rw [holds]; exact if_neg (by simp [due, down]))

theorem exec_holdExpiry_waits (waits : s.dev.vn < v ∨ s.dev.portState p = 4) : exec (.holdExpiry p) s = .next s :=
  show execHoldExpiry p s = .next (s.withDev s.dev) from State.act_next (by rw [holds]; exact if_pos waits)

end

/-! ### The reorder sequencer (R192) -/

/-- A slot number that is skipped is kept among the last 65,535 (log entry 124). -/
def Dev.noteSkipped (s : Dev) (i : Nat) : Dev :=
  { s with swb := { s.swb with skipped := (s.swb.skipped ++ [i]).drop (s.swb.skipped.length + 1 - 65535) } }

section
variable {c q i : Nat} {x : Slot} {s : State} (head : s.dev.headSlot c q = some (i, x)) (unresolved : x.resolved = false)
include head unresolved

theorem exec_rsqSkip_skips (on : s.dev.fld .SWB_RSQ_SKIP 0 31 0 ≠ 0) (due : x.since + s.dev.fld .SWB_RSQ_SKIP 0 31 0 ≤ s.dev.vn) :
    exec (.rsqSkip c q) s = .next (s.withDev (((s.dev.noteSkipped i).setSlot i (some { x with resolved := true })).rsqRun c q)) :=
  show execRsqSkip c q s = _ from State.act_next (by rw [head]; exact if_neg (by simp [on, unresolved, due]))

theorem exec_rsqStall_reports (due : x.since + (x.stalls + 1) * max 25000 (s.dev.fld .SWB_RSQ_STALL 0 31 0) ≤ s.dev.vn) :
    exec (.rsqStall c q) s = .next (s.withDev
      ((s.dev.setSlot i (some { x with stalls := x.stalls + 1 })).whistle 0x09 (blkId 8) 0 (q + c * 2 ^ 12))) :=
  show execRsqStall c q s = _ from State.act_next (by rw [head]; exact if_neg (not_or.2 ⟨by simp [unresolved], Nat.not_lt.2 due⟩))

end

/-! ### The multicast tables (R184, R196) -/

section
variable {o : Origin} {i : Nat} {s : State} (hi : i < 2 ^ 19) (takes : s.dev.takesWrite o .SWB_MC_ACC_CTL 0)
include hi takes

theorem exec_mcAccRead (replica : Bool) : exec (.mcAccRead o replica i) s = .next (s.withDev (s.dev.wr .SWB_MC_ACC_DATA 0
    (if replica then s.dev.rd .SWB_MC_REPLICA i else if i < 65536 then s.dev.rd .SWB_MC_GROUP i else 0))) :=
  show execMcAccRead o replica i s = _ from State.act_next (by simp only [Dev.regWrite_ok takes, Nat.mod_eq_of_lt hi])

theorem exec_mcAccWrite (replica : Bool) : exec (.mcAccWrite o replica i) s = .next (s.withDev (s.dev.mcWrite replica i)) :=
  show execMcAccWrite o replica i s = _ from State.act_next (by simp only [Dev.regWrite_ok takes, Nat.mod_eq_of_lt hi])

end

/-- A field within the 64 bits of a register goes into one uncut. -/
theorem bits_mod_word (v lo : Nat) {hi : Nat} (h : hi < 64) : bits v hi lo % 2 ^ 64 = bits v hi lo :=
  Nat.mod_eq_of_lt (Nat.lt_of_lt_of_le (Nat.mod_lt _ (Nat.two_pow_pos _)) (Nat.pow_le_pow_right (by decide) (by omega)))

section
variable {d : Dev} {i : Nat}

theorem Dev.mcWrite_replica (good : bits (d.rd .SWB_MC_ACC_DATA 0) 31 30 ≠ 3) :
    d.mcWrite true i = d.wr .SWB_MC_REPLICA i (bits (d.rd .SWB_MC_ACC_DATA 0) 36 0) := if_neg good

theorem Dev.mcWrite_replica_bad (bad : bits (d.rd .SWB_MC_ACC_DATA 0) 31 30 = 3) : d.mcWrite true i = d.bump .SWB_MC_BAD_WRITE 0 :=
  if_pos bad

theorem Dev.mcWrite_group (hi : i < 65536) (fits : bits (d.rd .SWB_MC_ACC_DATA 0) 18 0 + bits (d.rd .SWB_MC_ACC_DATA 0) 28 19 ≤ 524288) :
    d.mcWrite false i = d.wr .SWB_MC_GROUP i (bits (d.rd .SWB_MC_ACC_DATA 0) 29 0) :=
  if_neg (not_or.2 ⟨Nat.not_le.2 hi, Nat.not_lt.2 fits⟩)

theorem Dev.mcWrite_group_bad
    (bad : 65536 ≤ i ∨ 524288 < bits (d.rd .SWB_MC_ACC_DATA 0) 18 0 + bits (d.rd .SWB_MC_ACC_DATA 0) 28 19) :
    d.mcWrite false i = d.bump .SWB_MC_BAD_WRITE 0 := if_pos bad

end

/-- Settles O38, event by event. -/
theorem switchEvents : Obligations.SwitchEvents := by
  unfold Obligations.SwitchEvents
  refine ⟨fun p c v s hp hc paused => ⟨exec_pfcRefresh_sends hp hc paused, exec_pfcRefresh_waits hp hc paused⟩,
    fun d p c n hp => ⟨fun up traffic xoff => ?sent, fun silent => Dev.sendPfc_of_silent (Dev.portSends_eq_false silent) c n⟩,
    fun b old s raised => ⟨exec_pathBarrierEnd_ends raised, exec_pathBarrierEnd_waits raised⟩,
    fun s => ⟨exec_clusterBarrierEnd_free, fun old w raised => ⟨_, exec_clusterBarrierEnd_raised raised, rfl, rfl,
      Dev.keepEnBarrier_ends (d := s.dev.endCluBarrier.reenterFree) old,
      fun k hk => Dev.keepEnBarrier_waits (d := s.dev.endCluBarrier.reenterFree) old hk⟩⟩,
    fun p v s holds => ⟨exec_holdExpiry_flushes holds, exec_holdExpiry_waits holds⟩,
    fun c q i x s head on unresolved => exec_rsqSkip_skips head unresolved on,
    fun c q i x s head unresolved => exec_rsqStall_reports head unresolved,
    fun o i s hi takes => ⟨exec_mcAccRead hi takes true, exec_mcAccRead hi takes false, exec_mcAccWrite hi takes⟩,
    fun d i _ => ⟨fun good => ?replica, Dev.mcWrite_replica_bad, fun hi fits => ?group, Dev.mcWrite_group_bad⟩⟩
  case sent =>
    have sends : d.portSends p = true := (d.portSends_iff p).2 ⟨up, traffic⟩
    exact ⟨by rw [Dev.sendPfc_xoff sends xoff]; rfl, Dev.rd_sendPfc_xoffSent (by omega) sends xoff c,
      by rw [Dev.sendPfc_xoff sends xoff]; rfl⟩
  case replica => rw [Dev.mcWrite_replica good, Dev.rd_wr_same, bits_mod_word _ _ (by decide)]
  case group => rw [Dev.mcWrite_group hi fits, Dev.rd_wr_same, bits_mod_word _ _ (by decide)]

end Sys2Proof.Machine
end

section
/-! PROOFS of the family 07_gates_shapers_policers.md: the gate list of a port and its changes, and the access registers of shapers and
policers. -/

namespace Sys2Proof.Machine

open Host

/-! ### Registers written one after another -/

/-- Writes of registers change nothing but the register file. -/
theorem forEach_wr_eq {α : Type} (r : Reg) (i v : α → Nat) (l : List α) (s : Dev) :
    ∃ regs, forEach l s (fun s a => s.wr r (i a) (v a)) = { s with regs := regs } := by
  induction l generalizing s with
  | nil => exact ⟨s.regs, rfl⟩
  | cons a l ih =>
    obtain ⟨regs, h⟩ := ih (s.wr r (i a) (v a))
    exact ⟨regs, h⟩

/-- The first `n` elements of a register, filled one after another, read what each was given. -/
theorem Dev.rd_fill (s : Dev) (r : Reg) (f : Nat → Nat) {n w : Nat} (hn : n ≤ 2 ^ 24) (hw : w < n) :
    (forEach (List.range n) s (fun s i => s.wr r i (f i))).rd r w = f w % 2 ^ 64 := by
  induction n with
  | zero => omega
  | succ n ih =>
    have last : forEach (List.range (n + 1)) s (fun s i => s.wr r i (f i)) =
        (forEach (List.range n) s (fun s i => s.wr r i (f i))).wr r n (f n) := by
      simp only [forEach, List.range_succ, List.foldl_append, List.foldl_cons, List.foldl_nil]
    rw [last]
    by_cases h : w = n
    · rw [h, Dev.rd_wr_same]
    · rw [Dev.rd_wr_element _ _ (by omega) (by omega) h, ih (by omega) (by omega)]

/-! ### The operational list runs (R203) -/

section
variable {p : Nat} {s : State} (hp : p < 32)
include hp

theorem exec_gateTransition_moves (gated : s.dev.gated p = true) (begun : s.dev.gateBase p ≤ s.dev.vn) :
    let es := s.dev.gateList p
    let i := gateEntry es ((s.dev.vn - s.dev.gateBase p) % gateCycle es)
    exec (.gateTransition p) s =
      .next (s.withDev ((s.dev.setFld .SCH_GATE_STATE p 9 0 i).setFld .SCH_GATE_STATE p 28 21 (gateBits (es.getD i 0)))) :=
  show execGateTransition p s = _ from State.act_next (by rw [if_neg (by omega), if_neg (by simp [gated, begun])])

theorem exec_gateTransition_rests (rests : s.dev.gated p = false ∨ s.dev.vn < s.dev.gateBase p) :
    exec (.gateTransition p) s = .next s :=
  show execGateTransition p s = .next (s.withDev s.dev) from State.act_next (by rw [if_neg (by omega), if_pos rests])

end

/-! ### SCH_GATE_STATUS and the pending change (R209) -/

@[simp] theorem Dev.gateChange_setGateChange (s : Dev) (p : Nat) (g : Option GateChange) : (s.setGateChange p g).gateChange p = g :=
  Sparse.get?_put_same s.sch.change p g

@[simp] theorem Dev.gateChange_wr (s : Dev) (r : Reg) (i v p : Nat) : (s.wr r i v).gateChange p = s.gateChange p := rfl
@[simp] theorem Dev.gateChange_gateStatus (s : Dev) (p tag detail res q : Nat) :
    (s.gateStatus p tag detail res).gateChange q = s.gateChange q := rfl
@[simp] theorem Dev.gateStatus_sch (s : Dev) (p tag detail res : Nat) : (s.gateStatus p tag detail res).sch = s.sch := s.wr_sch ..
@[simp] theorem Dev.gateStatus_mem (s : Dev) (p tag detail res : Nat) : (s.gateStatus p tag detail res).mem = s.mem := s.wr_mem ..
@[simp] theorem Dev.gateStatus_frames (s : Dev) (p tag detail res : Nat) : (s.gateStatus p tag detail res).frames = s.frames := s.wr_frames ..

theorem Dev.rd_gateStatus_other (s : Dev) {p : Nat} (tag detail res : Nat) {q : Reg} (hp : p < 2 ^ 24) (h : q ≠ .SCH_GATE_STATUS) :
    (s.gateStatus p tag detail res).rd q p = s.rd q p := s.rd_wr_other _ hp hp h

theorem Dev.rd_gateStatus (s : Dev) (p tag detail res : Nat) : (s.gateStatus p tag detail res).rd .SCH_GATE_STATUS p =
    (tag % 2 ^ 16 * 2 ^ 16 + detail * 2 ^ 8 + b2n (s.gateChange p).isSome * 2 ^ 4 + s.fld .SCH_GATE_STATUS p 3 3 * 2 ^ 3 + res) % 2 ^ 64 :=
  s.rd_wr_same ..

/-- The fields of an event of a gate engine read back: RESULT, OPER_VALID as it was, and TAG. -/
theorem Dev.gateStatus_fields (s : Dev) (p tag : Nat) {detail res : Nat} (hd : detail < 2 ^ 8) (hr : res < 8) :
    (s.gateStatus p tag detail res).fld .SCH_GATE_STATUS p 2 0 = res ∧
      (s.gateStatus p tag detail res).fld .SCH_GATE_STATUS p 3 3 = s.fld .SCH_GATE_STATUS p 3 3 ∧
      (s.gateStatus p tag detail res).fld .SCH_GATE_STATUS p 31 16 = tag % 2 ^ 16 := by
  have pending : b2n (s.gateChange p).isSome ≤ 1 := by cases (s.gateChange p).isSome <;> decide
  have oper : s.fld .SCH_GATE_STATUS p 3 3 < 2 := Nat.mod_lt _ (by decide)
  simp only [Dev.fld, Dev.rd_gateStatus, bits] at oper ⊢
  omega

/-! ### A change is requested or cancelled (R204, R205) -/

section
variable {o : Origin} {p : Nat} {s : State} (hp : p < 32) (takes : s.dev.takesWrite o .SCH_GATE_CTL p) (tag : Nat)
include hp takes

theorem exec_gateChange (early : Bool) :
    exec (.gateChange o p tag early) s = .next (s.withDev (s.dev.gateRequest o p (tag % 2 ^ 16) early)) :=
  show execGateChange o p tag early s = _ from State.act_next (by rw [if_neg (by omega)]; simp only [Dev.regWrite_ok takes])

theorem exec_gateCancel : exec (.gateCancel o p tag) s = .next (s.withDev (s.dev.gateCancel o p)) :=
  show execGateCancel o p tag s = _ from State.act_next (by rw [if_neg (by omega)]; simp only [Dev.regWrite_ok takes])

end

/-- The snapshot that a request takes of the admin list, with the time X it would get and the number of its record. -/
def Dev.gateSnapshot (s : Dev) (p tag : Nat) (early : Bool) : GateChange :=
  let en := decide (s.fld .SCH_GATE_ADMIN_CFG p 16 16 = 1)
  let base := s.rd .SCH_GATE_ADMIN_BASE p
  let cycle := s.rd .SCH_GATE_ADMIN_CYCLE p
  { tag, en, base, cycle
    entries := (List.range (min (s.fld .SCH_GATE_ADMIN_CFG p 10 0) 1024)).map (fun i => s.rd .SCH_GATE_ADMIN (1024 * p + i))
    x := gateX en base cycle (s.untimedDue early), recNo := s.log.nextId }

/-- The first check of R204 that a snapshot with this LEN fails, or 0. -/
def GateChange.failing (g : GateChange) (len : Nat) : Nat := firstFail (gateChecks g.en len g.base g.cycle g.entries)

/-- A change that passes its checks waits for X, with its record. -/
def Dev.gateWait (s : Dev) (o : Origin) (p : Nat) (g : GateChange) : Dev :=
  (((s.logPrio (applyRec o 9 (0x200 + p) 0 g.tag 0 g.x)).setGateChange p (some g)).wr .SCH_GATE_CHANGE_VN p g.x).gateStatus p g.tag 0 1

section
variable {d : Dev} {o : Origin} {p tag : Nat} {early : Bool}

theorem Dev.gateRequest_lockdown (locked : d.mode = .lockdown) : d.gateRequest o p tag early = d.gateStatus p tag 0xFD 7 := if_pos locked

variable (allowed : d.mode ≠ .lockdown)
include allowed

theorem Dev.gateRequest_overlap (pending : (d.gateChange p).isSome) : d.gateRequest o p tag early = d.gateStatus p tag 0 6 := by
  rw [Dev.gateRequest, if_neg allowed, if_pos pending]

variable (idle : d.gateChange p = none)
include idle

theorem Dev.gateRequest_inconsistent (fails : (d.gateSnapshot p tag early).failing (d.fld .SCH_GATE_ADMIN_CFG p 10 0) ≠ 0) :
    d.gateRequest o p tag early =
      d.gateStatus p tag ((d.gateSnapshot p tag early).failing (d.fld .SCH_GATE_ADMIN_CFG p 10 0)) 3 := by
  rw [Dev.gateRequest, if_neg allowed, if_neg (by simp [idle])]
  split
  · contradiction
  · rfl

variable (passes : (d.gateSnapshot p tag early).failing (d.fld .SCH_GATE_ADMIN_CFG p 10 0) = 0)
include passes

theorem Dev.gateRequest_far (far : d.vn + 2 ^ 32 < (d.gateSnapshot p tag early).x) :
    d.gateRequest o p tag early = d.gateStatus p tag 0xFF 7 := by
  rw [Dev.gateRequest, if_neg allowed, if_neg (by simp [idle])]
  split
  · exact if_pos far
  · contradiction

theorem Dev.gateRequest_accepted (near : (d.gateSnapshot p tag early).x ≤ d.vn + 2 ^ 32) :
    d.gateRequest o p tag early = d.gateWait o p (d.gateSnapshot p tag early) := by
  rw [Dev.gateRequest, if_neg allowed, if_neg (by simp [idle])]
  split
  · exact if_neg (Nat.not_lt.2 near)
  · contradiction

end

theorem Dev.gateChange_gateWait (d : Dev) (o : Origin) (p : Nat) (g : GateChange) : (d.gateWait o p g).gateChange p = some g := by
  rw [Dev.gateWait, Dev.gateChange_gateStatus, Dev.gateChange_wr, Dev.gateChange_setGateChange]

theorem Dev.rd_gateWait_changeVn (d : Dev) (o : Origin) {p : Nat} (g : GateChange) (hp : p < 2 ^ 24) :
    (d.gateWait o p g).rd .SCH_GATE_CHANGE_VN p = g.x % 2 ^ 64 := by
  rw [Dev.gateWait, Dev.rd_gateStatus_other _ _ _ _ hp (by decide), Dev.rd_wr_same]

/-- RESULT reads WAITING, with the request's TAG. -/
theorem Dev.gateWait_status (d : Dev) (o : Origin) (p : Nat) (g : GateChange) :
    (d.gateWait o p g).fld .SCH_GATE_STATUS p 2 0 = 1 ∧ (d.gateWait o p g).fld .SCH_GATE_STATUS p 31 16 = g.tag % 2 ^ 16 := by
  obtain ⟨result, -, tag⟩ := Dev.gateStatus_fields
    (((d.logPrio (applyRec o 9 (0x200 + p) 0 g.tag 0 g.x)).setGateChange p (some g)).wr .SCH_GATE_CHANGE_VN p g.x)
    p g.tag (detail := 0) (res := 1) (by decide) (by decide)
  exact ⟨result, tag⟩

/-- A pending change whose X is 2 volleys away or more is taken back, with a record of its own. -/
theorem Dev.gateCancel_of_early {d : Dev} {p : Nat} {g : GateChange} (pending : d.gateChange p = some g) (early : d.vn + 2 ≤ g.x)
    (o : Origin) : d.gateCancel o p =
      ((d.logPrio (applyRec o 9 (0x200 + p) 0 g.tag 1 d.vn)).setGateChange p none).gateStatus p g.tag 0 5 := by
  simp only [Dev.gateCancel, pending, if_neg (Nat.not_lt.2 early)]

theorem Dev.gateCancel_of_late {d : Dev} {p : Nat} {g : GateChange} (pending : d.gateChange p = some g) (late : g.x < d.vn + 2)
    (o : Origin) : d.gateCancel o p = d := by
  simp only [Dev.gateCancel, pending, if_pos late]

/-! ### The lists are swapped (R205) -/

/-- LEN of the operational list that a change brings: no entry when it removes gating. -/
def GateChange.operLen (g : GateChange) : Nat := if g.en then g.entries.length else 0

/-- GATES from volley X on: those of entry 0, or all of them open. -/
def GateChange.firstGates (g : GateChange) : Nat := if g.en then gateBits (g.entries.headD 0) else 0xFF

/-- SCH_GATE_OPER takes the entries of the snapshot, and behind them its reset value. -/
def Dev.gateFill (s : Dev) (p : Nat) (g : GateChange) : Dev :=
  forEach (List.range 1024) s (fun s i =>
    s.wr .SCH_GATE_OPER (1024 * p + i) (if i < g.operLen then g.entries.getD i 0 else 0xFF000000))

/-- The snapshot becomes the operational list. -/
def Dev.gateInstall (s : Dev) (p : Nat) (g : GateChange) : Dev :=
  let s := s.gateFill p g
  (((s.wr .SCH_GATE_OPER_BASE p (if g.en then 40 * s.vn else 0)).wr .SCH_GATE_OPER_CYCLE p (if g.en then g.cycle else 0)).wr
    .SCH_GATE_STATE p (g.firstGates * 2 ^ 21 + g.operLen * 2 ^ 10)).setFld .SCH_GATE_STATUS p 3 3 (b2n g.en)

/-- The change of a port takes effect, is reported and counted. -/
def Dev.gateSwapped (s : Dev) (p : Nat) (g : GateChange) : Dev :=
  (((s.setGateChange p none).gateInstall p g).gateStatus p g.tag 0 2).bump .SCH_GATE_SWAPS p

theorem Dev.gateFill_eq (s : Dev) (p : Nat) (g : GateChange) : ∃ regs, s.gateFill p g = { s with regs := regs } :=
  forEach_wr_eq .SCH_GATE_OPER (fun i => 1024 * p + i) _ (List.range 1024) s

@[simp] theorem Dev.gateFill_sch (s : Dev) (p : Nat) (g : GateChange) : (s.gateFill p g).sch = s.sch := by
  obtain ⟨_, h⟩ := s.gateFill_eq p g; rw [h]
@[simp] theorem Dev.gateFill_mem (s : Dev) (p : Nat) (g : GateChange) : (s.gateFill p g).mem = s.mem := by
  obtain ⟨_, h⟩ := s.gateFill_eq p g; rw [h]
@[simp] theorem Dev.gateFill_frames (s : Dev) (p : Nat) (g : GateChange) : (s.gateFill p g).frames = s.frames := by
  obtain ⟨_, h⟩ := s.gateFill_eq p g; rw [h]
theorem Dev.vn_gateFill (s : Dev) (p : Nat) (g : GateChange) : (s.gateFill p g).vn = s.vn := by
  obtain ⟨_, h⟩ := s.gateFill_eq p g; rw [h]; rfl

@[simp] theorem Dev.gateInstall_sch (s : Dev) (p : Nat) (g : GateChange) : (s.gateInstall p g).sch = s.sch := by
  rw [Dev.gateInstall, Dev.setFld_sch, Dev.wr_sch, Dev.wr_sch, Dev.wr_sch, Dev.gateFill_sch]
@[simp] theorem Dev.gateInstall_mem (s : Dev) (p : Nat) (g : GateChange) : (s.gateInstall p g).mem = s.mem := by
  rw [Dev.gateInstall, Dev.setFld_mem, Dev.wr_mem, Dev.wr_mem, Dev.wr_mem, Dev.gateFill_mem]
@[simp] theorem Dev.gateInstall_frames (s : Dev) (p : Nat) (g : GateChange) : (s.gateInstall p g).frames = s.frames := by
  rw [Dev.gateInstall, Dev.setFld_frames, Dev.wr_frames, Dev.wr_frames, Dev.wr_frames, Dev.gateFill_frames]

/-- A swap takes the pending change away. -/
theorem Dev.gateChange_gateSwapped (s : Dev) (p : Nat) (g : GateChange) : (s.gateSwapped p g).gateChange p = none := by
  rw [Dev.gateChange, Dev.gateSwapped, Dev.bump_sch, Dev.gateStatus_sch, Dev.gateInstall_sch]
  exact s.gateChange_setGateChange p none

/-- A swap leaves the memories and the frames as they are. -/
theorem Dev.gateSwapped_frame (s : Dev) (p : Nat) (g : GateChange) :
    (s.gateSwapped p g).frames = s.frames ∧ (s.gateSwapped p g).mem = s.mem := by
  constructor
  · rw [Dev.gateSwapped, Dev.bump_frames, Dev.gateStatus_frames, Dev.gateInstall_frames]; rfl
  · rw [Dev.gateSwapped, Dev.bump_mem, Dev.gateStatus_mem, Dev.gateInstall_mem]; rfl

theorem exec_gateSwap {p : Nat} {g : GateChange} {s : State} (hp : p < 32) (pending : s.dev.gateChange p = some g) (due : g.x ≤ s.dev.vn)
    (sealed : s.dev.sealedBefore g.recNo = true) : exec (.gateSwap p) s = .next (s.withDev (s.dev.gateSwapped p g)) :=
  show execGateSwap p s = _ from State.act_next (by
    rw [if_neg (by omega), pending]
    exact if_neg (by simp [due, sealed]))

section
variable (d : Dev) {p : Nat} (g : GateChange) (hp : p < 32)
include hp

theorem Dev.rd_gateFill_other {q : Reg} (h : q ≠ .SCH_GATE_OPER) : (d.gateFill p g).rd q p = d.rd q p := by
  refine forEach_same (fun s => s.rd q p) (fun s i hi => s.rd_wr_other _ ?_ (by omega) h) d
  have := List.mem_range.1 hi
  omega

/-- What a swap leaves in a register beside its report and its count is what the installed list leaves there. -/
theorem Dev.rd_gateSwapped {q : Reg} (hs : q ≠ .SCH_GATE_STATUS) (hc : q ≠ .SCH_GATE_SWAPS) :
    (d.gateSwapped p g).rd q p = ((d.setGateChange p none).gateInstall p g).rd q p := by
  rw [Dev.gateSwapped, Dev.bump, Dev.rd_add_other _ _ (by omega) (by omega) hc, Dev.rd_gateStatus_other _ _ _ _ (by omega) hs]

theorem Dev.rd_gateInstall_base :
    (d.gateInstall p g).rd .SCH_GATE_OPER_BASE p = (if g.en then 40 * d.vn else 0) % 2 ^ 64 := by
  have hp' : p < 2 ^ 24 := by omega
  rw [← d.vn_gateFill p g, Dev.gateInstall, Dev.rd_setFld_other _ _ _ _ hp' hp' (by decide), Dev.rd_wr_other _ _ hp' hp' (by decide),
    Dev.rd_wr_other _ _ hp' hp' (by decide), Dev.rd_wr_same]

theorem Dev.gateInstall_gates (short : g.entries.length ≤ 1024) : (d.gateInstall p g).fld .SCH_GATE_STATE p 28 21 = g.firstGates := by
  have hp' : p < 2 ^ 24 := by omega
  have len : g.operLen ≤ 1024 := by unfold GateChange.operLen; split <;> omega
  have gates : g.firstGates < 2 ^ 8 := by
    unfold GateChange.firstGates
    split
    · exact Nat.mod_lt _ (by decide)
    · decide
  rw [Dev.fld, Dev.gateInstall, Dev.rd_setFld_other _ _ _ _ hp' hp' (by decide), Dev.rd_wr_same, bits]
  omega

theorem Dev.rd_gateInstall_swaps : (d.gateInstall p g).rd .SCH_GATE_SWAPS p = d.rd .SCH_GATE_SWAPS p := by
  have hp' : p < 2 ^ 24 := by omega
  rw [Dev.gateInstall, Dev.rd_setFld_other _ _ _ _ hp' hp' (by decide), Dev.rd_wr_other _ _ hp' hp' (by decide),
    Dev.rd_wr_other _ _ hp' hp' (by decide), Dev.rd_wr_other _ _ hp' hp' (by decide), d.rd_gateFill_other g hp (by decide)]

omit hp in
theorem Dev.gateInstall_operValid : (d.gateInstall p g).fld .SCH_GATE_STATUS p 3 3 = b2n g.en := by
  rw [Dev.gateInstall, Dev.fld_setFld_same _ _ _ _ (by decide) (by decide)]
  cases g.en <;> rfl

/-- RESULT reads APPLIED after a swap, and OPER_VALID tells whether a list is in force. -/
theorem Dev.gateSwapped_status : (d.gateSwapped p g).fld .SCH_GATE_STATUS p 2 0 = 2 ∧
    (d.gateSwapped p g).fld .SCH_GATE_STATUS p 3 3 = b2n g.en := by
  have counted : (d.gateSwapped p g).rd .SCH_GATE_STATUS p =
      (((d.setGateChange p none).gateInstall p g).gateStatus p g.tag 0 2).rd .SCH_GATE_STATUS p :=
    Dev.rd_add_other _ _ (by omega) (by omega) (by decide)
  obtain ⟨result, valid, -⟩ := ((d.setGateChange p none).gateInstall p g).gateStatus_fields p g.tag
    (detail := 0) (res := 2) (by decide) (by decide)
  rw [Dev.fld, Dev.fld, counted]
  exact ⟨result, valid.trans (Dev.gateInstall_operValid ..)⟩

theorem Dev.rd_gateSwapped_swaps : (d.gateSwapped p g).rd .SCH_GATE_SWAPS p = (d.rd .SCH_GATE_SWAPS p + 1) % 2 ^ 64 := by
  rw [Dev.gateSwapped, Dev.bump, Dev.rd_add_same, Dev.rd_gateStatus_other _ _ _ _ (by omega) (by decide),
    Dev.rd_gateInstall_swaps _ _ hp]
  rfl

end

/-- Settles O39, from the run of a list through the request of a change to its cancel and its swap. -/
theorem gateLists : Obligations.GateLists := by
  unfold Obligations.GateLists
  refine ⟨fun p s hp => ⟨exec_gateTransition_moves hp, exec_gateTransition_rests hp⟩,
    fun o p tag early s hp takes => ⟨exec_gateChange hp takes tag early, exec_gateCancel hp takes tag⟩,
    fun o p tag early d hp ht => ⟨Dev.gateRequest_lockdown, Dev.gateRequest_overlap, fun allowed idle =>
      ⟨Dev.gateRequest_inconsistent allowed idle, Dev.gateRequest_far allowed idle, fun passes near => ?accepted⟩⟩,
    fun o p g d hp pending => ⟨fun early => ?cancelled, fun late => Dev.gateCancel_of_late pending late o⟩,
    fun p g s hp pending short due sealed => ⟨_, exec_gateSwap hp pending due sealed, ?swapped⟩⟩
  case accepted =>
    obtain ⟨result, tags⟩ := d.gateWait_status o p (d.gateSnapshot p tag early)
    rw [Dev.gateRequest_accepted allowed idle passes near]
    exact ⟨d.gateChange_gateWait .., d.rd_gateWait_changeVn o _ (by omega), result, tags.trans (Nat.mod_eq_of_lt ht), rfl, rfl⟩
  case cancelled =>
    rw [Dev.gateCancel_of_early pending early]
    obtain ⟨result, -, -⟩ := Dev.gateStatus_fields
      ((d.logPrio (applyRec o 9 (0x200 + p) 0 g.tag 1 d.vn)).setGateChange p none) p g.tag (detail := 0) (res := 5) (by decide) (by decide)
    exact ⟨by rw [Dev.gateChange_gateStatus, Dev.gateChange_setGateChange], result, List.length_append⟩
  case swapped =>
    obtain ⟨result, valid⟩ := s.dev.gateSwapped_status g hp
    obtain ⟨frames, mem⟩ := s.dev.gateSwapped_frame p g
    refine ⟨s.dev.gateChange_gateSwapped p g, result, valid, ?gates, ?base, s.dev.rd_gateSwapped_swaps g hp, frames, mem⟩
    case gates =>
      rw [Dev.fld, s.dev.rd_gateSwapped g hp (by decide) (by decide)]
      exact Dev.gateInstall_gates _ g hp short
    case base =>
      rw [s.dev.rd_gateSwapped g hp (by decide) (by decide)]
      exact Dev.rd_gateInstall_base _ g hp

/-! ### The access registers (R213, R225) -/

/-- RESULT of an access reads as reported. -/
theorem Dev.fld_accResult (s : Dev) (r : Reg) (result : Nat) : (s.accResult r result).fld r 0 1 0 = result % 4 :=
  s.fld_setFld_same r 0 result (by decide) (by decide)

theorem Dev.rd_accResult_other (s : Dev) {r q : Reg} (result : Nat) {j : Nat} (hj : j < 2 ^ 24) (h : q ≠ r) :
    (s.accResult r result).rd q j = s.rd q j := s.rd_setFld_other _ _ _ (by decide) hj h

@[simp] theorem Dev.accResult_sch (s : Dev) (r : Reg) (result : Nat) : (s.accResult r result).sch = s.sch := rfl
@[simp] theorem Dev.accResult_pend (s : Dev) (r : Reg) (result : Nat) : (s.accResult r result).pend = s.pend := rfl

@[simp] theorem Dev.pendWrite_sch (s : Dev) (r : Reg) (i v : Nat) : (s.pendWrite r i v).sch = s.sch := rfl
@[simp] theorem Dev.pendWrite_regs (s : Dev) (r : Reg) (i v : Nat) : (s.pendWrite r i v).regs = s.regs := rfl

/-- A write of the pending copy changes no value in force. -/
@[simp] theorem Dev.rd_pendWrite (s : Dev) (r q : Reg) (i j v : Nat) : (s.pendWrite r i v).rd q j = s.rd q j := by
  simp only [Dev.rd, Dev.reg, Dev.pendWrite_regs]

/-! ### Shapers (R213, R214) -/

section
variable {o : Origin} {n : Nat} {s : State} (hn : n < 2 ^ 17) (takes : s.dev.takesWrite o .SCH_SHP_ACC_CTL 0)
include hn takes

theorem exec_shaperRead : exec (.shaperRead o n) s = .next (s.withDev (s.dev.shaperRead n)) :=
  show execShaperRead o n s = _ from State.act_next (by simp only [Dev.regWrite_ok takes, Nat.mod_eq_of_lt hn])

theorem exec_shaperStateRead : exec (.shaperStateRead o n) s = .next (s.withDev (s.dev.shaperState n)) :=
  show execShaperStateRead o n s = _ from State.act_next (by simp only [Dev.regWrite_ok takes, Nat.mod_eq_of_lt hn])

theorem exec_shaperWrite : exec (.shaperWrite o n) s = .next (s.withDev (s.dev.shaperWrite n)) :=
  show execShaperWrite o n s = _ from State.act_next (by simp only [Dev.regWrite_ok takes, Nat.mod_eq_of_lt hn])

end

/-- The two data registers of the shapers take a 128-bit value, word by word, and RESULT reads OK. -/
def Dev.shpAnswer (s : Dev) (lo hi : Nat) : Dev :=
  ((s.wr .SCH_SHP_ACC_DATA0 0 lo).wr .SCH_SHP_ACC_DATA1 0 hi).accResult .SCH_SHP_ACC_STATUS 0

@[simp] theorem Dev.shpAnswer_sch (s : Dev) (lo hi : Nat) : (s.shpAnswer lo hi).sch = s.sch := by simp [Dev.shpAnswer]

theorem Dev.shpAnswer_ok (s : Dev) (lo hi : Nat) : (s.shpAnswer lo hi).fld .SCH_SHP_ACC_STATUS 0 1 0 = 0 := Dev.fld_accResult ..

theorem Dev.rd_shpAnswer (s : Dev) (lo hi : Nat) : (s.shpAnswer lo hi).rd .SCH_SHP_ACC_DATA0 0 = lo % 2 ^ 64 ∧
    (s.shpAnswer lo hi).rd .SCH_SHP_ACC_DATA1 0 = hi % 2 ^ 64 := by
  constructor
  · rw [Dev.shpAnswer, Dev.rd_accResult_other _ _ (by decide) (by decide), Dev.rd_wr_other _ _ (by decide) (by decide) (by decide),
      Dev.rd_wr_same]
  · rw [Dev.shpAnswer, Dev.rd_accResult_other _ _ (by decide) (by decide), Dev.rd_wr_same]

section
variable {d : Dev} {n : Nat}

/-- No access reaches a node that does not exist: each reports BAD_INDEX, and that is all. -/
theorem Dev.shaper_access_of_unused (unused : shpUsed n = false) : d.shaperRead n = d.accResult .SCH_SHP_ACC_STATUS 1 ∧
    d.shaperState n = d.accResult .SCH_SHP_ACC_STATUS 1 ∧ d.shaperWrite n = d.accResult .SCH_SHP_ACC_STATUS 1 :=
  ⟨if_pos unused, if_pos unused, if_pos unused⟩

variable (used : shpUsed n = true)
include used

theorem Dev.shaperRead_of_used : d.shaperRead n = d.shpAnswer (d.shaper n) (d.shaper n / 2 ^ 64) := if_neg (by simp [used])

theorem Dev.shaperState_of_used :
    d.shaperState n = d.shpAnswer (if shpShape (d.shaper n) then unsigned 64 (d.bucket n) else 0) 0 := if_neg (by simp [used])

/-- The entry of a node enters the pending copy while that has room. -/
theorem Dev.shaperWrite_of_room (room : (d.pendEntries .SCH_SHP_ENTRY 2).length < 4096) :
    let v := shpMask n (d.rd .SCH_SHP_ACC_DATA0 0 + d.rd .SCH_SHP_ACC_DATA1 0 * 2 ^ 64)
    d.shaperWrite n = ((d.pendWrite .SCH_SHP_ENTRY (2 * n) (v % 2 ^ 64)).pendWrite .SCH_SHP_ENTRY (2 * n + 1) (v / 2 ^ 64)).accResult
      .SCH_SHP_ACC_STATUS 0 := by
  rw [Dev.shaperWrite, if_neg (by simp [used]), if_neg (fun ⟨_, full⟩ => Nat.not_le.2 room full)]

theorem Dev.shaperWrite_of_full (full : 4096 ≤ (d.pendEntries .SCH_SHP_ENTRY 2).length)
    (new : (d.pendEntries .SCH_SHP_ENTRY 2).contains n = false) : d.shaperWrite n = d.accResult .SCH_SHP_ACC_STATUS 2 := by
  rw [Dev.shaperWrite, if_neg (by simp [used]), if_pos ⟨new, full⟩]

end

/-! ### Policers (R225) -/

section
variable {o : Origin} {n : Nat} {s : State} (hn : n < 2 ^ 18) (takes : s.dev.takesWrite o .SCH_POL_ACC_CTL 0)
include hn takes

theorem exec_policerRead : exec (.policerRead o n) s = .next (s.withDev (s.dev.policerRead n)) :=
  show execPolicerRead o n s = _ from State.act_next (by simp only [Dev.regWrite_ok takes, Nat.mod_eq_of_lt hn])

theorem exec_policerStateRead : exec (.policerStateRead o n) s = .next (s.withDev (s.dev.policerState n)) :=
  show execPolicerStateRead o n s = _ from State.act_next (by simp only [Dev.regWrite_ok takes, Nat.mod_eq_of_lt hn])

theorem exec_policerWrite : exec (.policerWrite o n) s = .next (s.withDev (s.dev.policerWrite n)) :=
  show execPolicerWrite o n s = _ from State.act_next (by simp only [Dev.regWrite_ok takes, Nat.mod_eq_of_lt hn])

end

/-- The data registers of the policers take the four words of an answer, and RESULT reads OK. -/
def Dev.polAnswer (s : Dev) (f : Nat → Nat) : Dev := (s.polData f).accResult .SCH_POL_ACC_STATUS 0

theorem Dev.policerRead_eq (d : Dev) (n : Nat) : d.policerRead n = d.polAnswer (fun w => d.rd .SCH_POL_ENTRY (4 * n + w)) := rfl

/-- The words of a state read: the two buckets, the VN of the last charge, and DATA[3] as it was. -/
def Dev.polStateWord (s : Dev) (n w : Nat) : Nat :=
  if w = 0 then (s.polState n).1 else if w = 1 then (s.polState n).2.1 else if w = 2 then (s.polState n).2.2 else s.rd .SCH_POL_ACC_DATA 3

theorem Dev.policerState_eq (d : Dev) (n : Nat) : d.policerState n = d.polAnswer (d.polStateWord n) := rfl

theorem Dev.polAnswer_ok (s : Dev) (f : Nat → Nat) : (s.polAnswer f).fld .SCH_POL_ACC_STATUS 0 1 0 = 0 := Dev.fld_accResult ..

theorem Dev.rd_polAnswer (s : Dev) (f : Nat → Nat) {w : Nat} (hw : w < 4) : (s.polAnswer f).rd .SCH_POL_ACC_DATA w = f w % 2 ^ 64 := by
  rw [Dev.polAnswer, Dev.rd_accResult_other _ _ (by omega) (by decide)]
  exact s.rd_fill .SCH_POL_ACC_DATA f (by decide) hw

@[simp] theorem Dev.polAnswer_sch (s : Dev) (f : Nat → Nat) : (s.polAnswer f).sch = s.sch := by
  rw [Dev.polAnswer, Dev.accResult_sch]
  exact forEach_same (f := fun s w => s.wr .SCH_POL_ACC_DATA w (f w)) Dev.sch (fun _ _ _ => rfl) s

section
variable {d : Dev} {n : Nat}

theorem Dev.policerWrite_of_room (room : (d.pendEntries .SCH_POL_ENTRY 4).length < 4096) :
    let v := bits (policerOf (fun w => d.rd .SCH_POL_ACC_DATA w)) 212 0
    d.policerWrite n = (forEach (List.range 4) d (fun t w => t.pendWrite .SCH_POL_ENTRY (4 * n + w) (v / 2 ^ (64 * w) % 2 ^ 64))).accResult
      .SCH_POL_ACC_STATUS 0 := if_neg fun ⟨_, full⟩ => Nat.not_le.2 room full

theorem Dev.policerWrite_of_full (full : 4096 ≤ (d.pendEntries .SCH_POL_ENTRY 4).length)
    (new : (d.pendEntries .SCH_POL_ENTRY 4).contains n = false) : d.policerWrite n = d.accResult .SCH_POL_ACC_STATUS 2 :=
  if_pos ⟨new, full⟩

end

/-- Settles O40, by the kind of access, whether the node exists, and whether the pending copy has room. -/
theorem shaperAndPolicerAccess : Obligations.ShaperAndPolicerAccess := by
  unfold Obligations.ShaperAndPolicerAccess
  refine ⟨fun o n s hn takes => ⟨exec_shaperRead hn takes, exec_shaperStateRead hn takes, exec_shaperWrite hn takes⟩,
    fun o n s hn takes => ⟨exec_policerRead hn takes, exec_policerStateRead hn takes, exec_policerWrite hn takes⟩,
    fun n d hn => ⟨Dev.shaper_access_of_unused, fun used => ?shaper⟩, fun n d hn => ?policer⟩
  case shaper =>
    rw [Dev.shaperRead_of_used used, Dev.shaperState_of_used used]
    obtain ⟨data0, data1⟩ := d.rd_shpAnswer (d.shaper n) (d.shaper n / 2 ^ 64)
    obtain ⟨state, -⟩ := d.rd_shpAnswer (if shpShape (d.shaper n) then unsigned 64 (d.bucket n) else 0) 0
    refine ⟨data0, data1, d.shpAnswer_ok .., d.shpAnswer_sch .., state, d.shpAnswer_ok .., d.shpAnswer_sch ..,
      fun room => ?_, Dev.shaperWrite_of_full used⟩
    rw [Dev.shaperWrite_of_room used room]
    refine ⟨Dev.fld_accResult .., by simp, fun i hi => ?_, Dev.accResult_pend ..⟩
    rw [Dev.rd_accResult_other _ _ hi (by decide), Dev.rd_pendWrite, Dev.rd_pendWrite]
  case policer =>
    rw [Dev.policerRead_eq, Dev.policerState_eq]
    refine ⟨fun w hw => ?read, d.polAnswer_ok _, d.polAnswer_sch _, d.rd_polAnswer _ (by decide), d.rd_polAnswer _ (by decide),
      d.rd_polAnswer _ (by decide), d.polAnswer_sch _, fun room => ?write, Dev.policerWrite_of_full⟩
    case read => rw [d.rd_polAnswer _ hw, Nat.mod_eq_of_lt (d.rd_lt ..)]
    case write =>
      rw [Dev.policerWrite_of_room room]
      refine ⟨Dev.fld_accResult .., ?_, Dev.accResult_pend ..⟩
      rw [Dev.accResult_sch]
      exact forEach_same Dev.sch (fun s _ _ => s.pendWrite_sch ..) d

end Sys2Proof.Machine
end

section
/-! PROOFS of the family 08_dorut_threads.md: stores held in a step, events and timers, results and releases, and the operations on threads
and clusters. -/

namespace Sys2Proof.Machine

open Host

/-! ### Stores held in a step (R254, R267) -/

theorem length_leBytes (n v : Nat) : (leBytes n v).length = n := by
  induction n generalizing v with
  | zero => rfl
  | succ n ih => rw [leBytes, List.length_cons, ih]

/-- Bytes that are held further on leave an offset as it was. -/
theorem get?_holdBytes_before (m : Sparse Byte) (bs : List Byte) {off p : Nat} (h : p < off) :
    Sparse.get? (holdBytes m off bs) p = Sparse.get? m p := by
  induction bs generalizing m off with
  | nil => rfl
  | cons b bs ih => rw [holdBytes, ih _ (by omega), Sparse.get?_put_other _ _ (by omega)]

/-- Held bytes are read back. -/
theorem get?_holdBytes (m : Sparse Byte) (off : Nat) {bs : List Byte} {j : Nat} (h : j < bs.length) :
    Sparse.get? (holdBytes m off bs) (off + j) = some bs[j] := by
  induction bs generalizing m off j with
  | nil => simp at h
  | cons b bs ih =>
    cases j with
    | zero => rw [holdBytes, get?_holdBytes_before _ _ (by omega)]; exact Sparse.get?_put_same ..
    | succ j =>
      have next := ih (Sparse.put m off (some b)) (off + 1) (Nat.lt_of_succ_lt_succ h)
      rwa [Nat.add_right_comm] at next

/-- The context whose open step also holds the bytes of a store. -/
def Ctx.holding (x : Ctx) (r : StepRec) (off : Nat) (bs : List Byte) : Ctx :=
  { x with step := some { r with lines := holdBytes r.lines off bs } }

/-- A thread reads what its open step holds, in front of all else (R289). -/
theorem Dev.threadRead_held {s : Dev} {k off n : Nat} {x : Ctx} {r : StepRec} {bs : List Byte} (len : bs.length = n)
    (held : (s.ctx k).step = (x.holding r off bs).step) : s.threadRead k off n = bs := by
  refine List.ext_getElem (by simp [Dev.threadRead, len]) fun j _ hj => ?_
  simp [Dev.threadRead, Dev.ownStores, held, Ctx.holding, get?_holdBytes r.lines off hj]

/-- An address of the shared memory leads there for every thread of a cluster (R266). -/
theorem placeOf_shared {k a : Nat} (n : Nat) (store : Bool) (thread : k ≠ 2048) (lo : sharedBase ≤ a) (hi : a < sharedBase + 0x800000) :
    placeOf k a n store = .shared (a - sharedBase) := by
  have size : fetchSize k = 0x40000 := if_neg thread
  simp only [sharedBase] at lo hi
  have noHbm : ¬ a < hbmSize := by simp only [hbmSize]; omega
  have noReg : ¬ (0x020000000000 ≤ a ∧ a < 0x020013000000) := by omega
  have noLoc : ¬ (localBase ≤ a ∧ a < localBase + fetchSize k) := by simp only [size, localBase]; omega
  rw [placeOf, if_neg noHbm, if_neg noReg, if_neg noLoc, if_pos ⟨thread, lo, hi⟩]

@[simp] theorem Ctx.awaits_step (x : Ctx) (r : Res) : (x.awaits r).step = x.step := rfl

/-- What a variable-latency instruction of a thread leaves in its context. -/
theorem Dev.ctx_vary_same (s : Dev) {k : Nat} (thread : k ≠ 2048) (r : Res) : (s.vary k r).ctx k = (s.ctx k).awaits r := by
  rw [Dev.vary, if_neg thread, Dev.ctx_setCtx_same, Ctx.awaits]

theorem Dev.vary_mem (s : Dev) {k : Nat} (thread : k ≠ 2048) (r : Res) : (s.vary k r).mem = s.mem := by
  rw [Dev.vary, if_neg thread, Dev.setCtx_mem]

theorem Dev.threadWrite_held {s : Dev} {k off : Nat} {r : StepRec} {bs : List Byte} (opened : (s.ctx k).step = some r)
    (room : linesOf (holdBytes r.lines off bs) ≤ 64) : s.threadWrite k off bs = some (s.setCtx k ((s.ctx k).holding r off bs)) := by
  simp [Dev.threadWrite, opened, Nat.not_lt.2 room, Ctx.holding]

/-- A store of a doubleword to the shared memory inside a step: the step's record holds it, and its result is to wait for (R254). -/
theorem exec_stD_held {k : Nat} {rb ra : Fin 32} {imm : BitVec 16} {s : State} {r : StepRec} {a : Nat}
    (may : s.dev.mayIssue k (wordI 0x1B rb ra imm)) (thread : k ≠ 2048) (opened : (s.dev.ctx k).step = some r)
    (addr : ((s.dev.ctx k).reg ra.val + immS imm).toNat = a) (aligned : a % 8 = 0) (lo : sharedBase ≤ a) (hi : a < sharedBase + 0x800000)
    (room : linesOf (holdBytes r.lines (a - sharedBase) (leBytes 8 ((s.dev.ctx k).reg rb.val).toNat)) ≤ 64) :
    exec (.stD k rb ra imm) s = .next (s.withDev (((s.dev.countIssue k).setCtx k ((s.dev.ctx k).holding r (a - sharedBase)
      (leBytes 8 ((s.dev.ctx k).reg rb.val).toNat))).vary k (resOf [] none))) := by
  have noHbm : ¬ a < hbmSize := by simp only [sharedBase] at lo; simp only [hbmSize]; omega
  have whole : ((s.dev.ctx k).reg rb.val).toNat % 256 ^ 8 = ((s.dev.ctx k).reg rb.val).toNat := Nat.mod_eq_of_lt (BitVec.isLt _)
  refine show execStD k rb ra imm s = _ from State.act_run may (.inl rfl) ?_
  simp only [Dev.gr_countIssue, addr, whole]
  rw [if_neg (fun h => noHbm h.2), if_neg (fun h => h aligned), placeOf_shared 8 true thread lo hi]
  have write := Dev.threadWrite_held (s := s.dev.countIssue k) (by rwa [Dev.ctx_countIssue]) room
  simp only [Dev.storeAt, write, Dev.ctx_countIssue]

/-- Settles O8: the step's record takes the bytes in front of what it holds, and a store to HBM is found before its address is looked at. -/
theorem storeHeldInStep : Obligations.StoreHeldInStep := by
  unfold Obligations.StoreHeldInStep
  intro k rb ra imm s r may thread opened
  refine ⟨fun aligned lo hi room => ⟨_, exec_stD_held may thread opened rfl aligned lo hi room, ?memory, ?readBack⟩, fun hbm => ?hbm⟩
  case memory => rw [Dev.vary_mem _ thread, Dev.setCtx_mem, Dev.countIssue_mem]
  case readBack =>
    exact Dev.threadRead_held (x := s.dev.ctx k) (r := r) (length_leBytes ..)
      (by rw [Dev.ctx_vary_same _ thread, Dev.ctx_setCtx_same, Ctx.awaits_step]; rfl)
  case hbm =>
    have inside : (s.dev.countIssue k).inStep k = true := by simp [Dev.inStep, opened]
    refine show execStD k rb ra imm s = _ from State.act_run may (.inl rfl) ?_
    rw [Dev.gr_countIssue]
    exact if_pos ⟨inside, hbm⟩

/-! ### Contexts stored one after another -/

/-- The second of two stores of a context stays; the stall count sees one change of STATE where the first has the STATE of the second. -/
theorem Dev.setCtx_setCtx (s : Dev) (k : Nat) {x y : Ctx} (st : x.st = y.st) : (s.setCtx k x).setCtx k y = s.setCtx k y := by
  have no : ¬ (y.st = 3 ∧ y.st ≠ 3) := fun h => h.2 h.1
  simp only [Dev.setCtx, Dev.ctx, Sparse.set_set, Sparse.get_set_same, st, if_neg no]
  rfl

/-! ### SEV, TMARM and TMDIS (R240, R241, R282) -/

section
variable {k : Nat} {ra : Fin 32} {s : State}

/-- SEV outside a step: its effect comes behind the thread's earlier stores, and the thread goes on (R289). -/
theorem exec_sev (may : s.dev.mayIssue k (wordR 0x38 0 ra 0 6)) (thread : k ≠ 2048) (outside : (s.dev.ctx k).step = none) :
    let d := s.dev.countIssue k
    let t := ((s.dev.ctx k).reg ra.val).toNat % 256
    exec (.sev k 0 ra 0) s = .next (s.withDev ((d.afterStores k (.sev t) (fun d => d.sev k t)).skip k)) := by
  have noStep : (s.dev.countIssue k).inStep k = false := by simp [Dev.inStep, outside]
  refine show execSev k 0 ra 0 s = _ from State.act_run may (.inr thread) ?_
  simp only [Dev.holdOr, noStep, Dev.gr_countIssue]
  rfl

theorem Dev.sev_live {d : Dev} {k t : Nat} (free : (d.ctx (ctxKey (k / 256) t)).st ≠ 0) (exited : (d.ctx (ctxKey (k / 256) t)).st ≠ 5) :
    d.sev k t = d.setEvent (ctxKey (k / 256) t) 0 := if_neg (not_or.2 ⟨free, exited⟩)

theorem Dev.sev_lost {d : Dev} {k t : Nat} (gone : (d.ctx (ctxKey (k / 256) t)).st = 0 ∨ (d.ctx (ctxKey (k / 256) t)).st = 5) :
    d.sev k t = d.bump .DOR_SEV_LOST (k / 256) := if_pos gone

/-- An instruction that changes its own context but for STATE, and goes on. -/
theorem Dev.setCtx_skip (s : Dev) {k : Nat} {x : Ctx} : (s.setCtx k x).skip k = s.setCtx k { x with pc := x.pc + 4 } := by
  rw [Dev.skip, Dev.ctx_setCtx_same]
  exact s.setCtx_setCtx k rfl

theorem exec_tmarm (may : s.dev.mayIssue k (wordR 0x38 0 ra 0 7)) :
    let x := s.dev.ctx k
    exec (.tmarm k 0 ra 0) s = .next (s.withDev (s.dev.afterIssue k
      { x with timer := some (x.reg ra.val).toNat, armed := s.dev.vn, events := putBits x.events 1 1 0, pc := x.pc + 4 })) := by
  refine show execTmarm k 0 ra 0 s = _ from State.act_run may (.inl rfl) ?_
  simp only [Dev.setCtx_skip, Dev.gr_countIssue, Dev.ctx_countIssue, Dev.countIssue_vn]
  rfl

theorem exec_tmdis (may : s.dev.mayIssue k (wordR 0x38 0 0 0 8)) :
    let x := s.dev.ctx k
    exec (.tmdis k 0 0 0) s = .next (s.withDev (s.dev.afterIssue k { x with timer := none, pc := x.pc + 4 })) := by
  refine show execTmdis k 0 0 0 s = _ from State.act_run may (.inl rfl) ?_
  simp only [Dev.setCtx_skip, Dev.ctx_countIssue]
  rfl

end

/-- Settles O20, by whether a committed step of the thread is still to be released, and then by the state of the thread that SEV names. -/
theorem eventInstructions : Obligations.EventInstructions := by
  unfold Obligations.EventInstructions
  refine fun k ra s => ⟨fun may thread outside => ⟨fun released free exited => ?live, fun released gone => ?lost, fun releasing => ?behind⟩,
    exec_tmarm, exec_tmdis⟩
  case live =>
    refine (exec_sev may thread outside).trans ?_
    rw [Dev.afterStores, if_neg (by simp [released]), Dev.sev_live free exited]; rfl
  case lost =>
    refine (exec_sev may thread outside).trans ?_
    rw [Dev.afterStores, if_neg (by simp [released]), Dev.sev_lost gone]
  case behind =>
    refine (exec_sev may thread outside).trans ?_
    rw [Dev.afterStores, if_pos releasing]

/-! ### RESULT_RETURN and STEP_RELEASE (R233, R235, R255, R256) -/

/-- The arrival of a result or an event passes cycles of its core, which may draw a free value, and sets the cycle before which its thread
does not issue (R235). -/
theorem Dev.arrive_eq (s : Dev) (k : Nat) (onBoundary : Bool) : s.arrive k onBoundary = s ∨
    ∃ free j n, s.arrive k onBoundary = (({ s with free := free } : Dev).setCyc (coreNo k) j).setCtx k { s.ctx k with notBefore := n } := by
  unfold Dev.arrive
  split
  · exact .inl rfl
  · right
    dsimp only
    split <;> split <;> exact ⟨_, _, _, rfl⟩

theorem Dev.ctx_arrive_same (s : Dev) (k : Nat) (onBoundary : Bool) :
    ∃ n, (s.arrive k onBoundary).ctx k = { s.ctx k with notBefore := n } := by
  obtain h | ⟨free, j, n, h⟩ := s.arrive_eq k onBoundary <;> rw [h]
  · exact ⟨_, rfl⟩
  · exact ⟨n, Dev.ctx_setCtx_same ..⟩

/-- A thread to which neither a halt nor a QUIESCE is due takes a result of registers, and goes on. -/
theorem Dev.takeResult_register {s : Dev} {k : Nat} {rd : Fin 32} {v : Word} (noHalt : (s.ctx k).haltDue = false)
    (noQuiesce : (s.ctx k).byQuiesce = false) :
    let d := s.arrive k false
    s.takeResult k (resOf [(rd.val, v)] none) = d.setCtx k { (d.ctx k).wrote rd v with st := 1, res := none } := by
  obtain ⟨n, arrived⟩ := s.ctx_arrive_same k false
  have goesOn : ¬ (((s.arrive k false).ctx k).haltDue = true ∨
      ((s.arrive k false).ctx k).byQuiesce = true ∧ ((s.arrive k false).ctx k).step.isNone = true) := by
    simp [arrived, noHalt, noQuiesce]
  exact if_neg goesOn

theorem exec_resultReturn {k : Nat} {r : Res} {s : State} (context : k ≤ 2048) (out : (s.dev.ctx k).res = some r)
    (due : s.dev.resultDue k r = true) : exec (.resultReturn k) s = .next (s.withDev (s.dev.takeResult k r)) :=
  show execResultReturn k s = _ from State.act_next (by rw [if_neg (Nat.not_lt.2 context)]; simp only [out, due, if_true])

theorem exec_stepRelease {c k : Nat} {r : StepRec} {s : State} (cluster : c < 8)
    (oldest : s.dev.dor.releases.find? (fun e => e.1 / 256 = c) = some (k, r)) :
    exec (.stepRelease c) s = .next (s.withDev (s.dev.releaseStep k r)) :=
  show execStepRelease c s = _ from State.act_next (by rw [if_neg (Nat.not_le.2 cluster)]; simp only [oldest])

/-- Settles O24: a result of one register is due with the thread WAITING and its cluster awake; a release is the engine's whole pass over
the oldest record. -/
theorem resultAndRelease : Obligations.ResultAndRelease := by
  unfold Obligations.ResultAndRelease
  refine ⟨fun k v rd s context waiting noHalt noQuiesce awake out => ?result, fun c k r s cluster oldest => exec_stepRelease cluster oldest⟩
  have due : s.dev.resultDue k (resOf [(rd.val, v)] none) = true := by simp [Dev.resultDue, waiting, awake, resOf]
  exact (exec_resultReturn context out due).trans (by rw [Dev.takeResult_register noHalt noQuiesce])

/-! ### Writes of DOR_SUP_ACT (R253) -/

theorem Dev.supWrite_ok {s : Dev} {o : Origin} {c : Nat} (cluster : c < 8) (takes : s.takesWrite o .DOR_SUP_ACT c) (thread op : Nat)
    (pcSet : Bool) (tag : Nat) : s.supWrite o c thread op pcSet tag = .next (s.supAct o c thread op pcSet tag) := by
  rw [Dev.supWrite, if_neg (Nat.not_le.2 cluster)]
  simp only [Dev.regWrite_ok takes]

/-- The command of an operation has just its effect when its write takes effect at once. -/
theorem State.act_supWrite {s : State} {o : Origin} {c : Nat} (cluster : c < 8) (takes : s.dev.takesWrite o .DOR_SUP_ACT c) (thread op : Nat)
    (pcSet : Bool) (tag : Nat) :
    s.act (fun d => d.supWrite o c thread op pcSet tag) = .next (s.withDev (s.dev.supAct o c thread op pcSet tag)) :=
  State.act_next (f := fun d => d.supWrite o c thread op pcSet tag) (Dev.supWrite_ok cluster takes thread op pcSet tag)

/-- The origins that may write DOR_SUP_ACT of a cluster: Basecamp and the cluster's supervisor. -/
def Dev.mayAct (d : Dev) (o : Origin) (c : Nat) : Bool :=
  match o with
  | .thread e u => e = c && d.supervisor c = u
  | .basecamp => true
  | _ => false

theorem Dev.mayAct_iff {d : Dev} {o : Origin} {c : Nat} :
    d.mayAct o c = true ↔ o = .basecamp ∨ ∃ u, o = .thread c u ∧ d.supervisor c = u := by
  cases o with
  | thread e u =>
    simp only [Dev.mayAct, Bool.and_eq_true, decide_eq_true_eq, Origin.thread.injEq, reduceCtorEq, false_or]
    exact ⟨fun ⟨here, sup⟩ => ⟨u, ⟨here, rfl⟩, sup⟩, fun ⟨_, ⟨here, same⟩, sup⟩ => ⟨here, by rw [sup, same]⟩⟩
  | _ => simp [Dev.mayAct]

theorem Dev.supAct_foreign {d : Dev} {o : Origin} {c : Nat} (foreign : d.mayAct o c = false) (thread op : Nat) (pcSet : Bool) (tag : Nat) :
    d.supAct o c thread op pcSet tag = d.bump .DOR_ACT_FOREIGN c := if_pos foreign

/-- The reply to an operation of DOR_SUP_ACT that was carried out. -/
def Dev.supDone (d : Dev) (c tag : Nat) : Dev := d.wr .DOR_SUP_STATUS c (tag * 2 ^ 16)

/-- The reply to one that was refused: BAD_STATE (1) or BAD_THREAD (2). -/
def Dev.supBad (d : Dev) (c tag result : Nat) : Dev := d.wr .DOR_SUP_STATUS c (tag * 2 ^ 16 + result)

/-- The core of a thread can be restarted on request of an origin: it is stopped, the origin is not one of its threads, and neither the
device nor the core is in LOCKDOWN (R253). -/
def Dev.coreRestartable (d : Dev) (o : Origin) (c thread : Nat) : Prop :=
  d.coreStopped c (thread / 8) = true ∧ (∀ u, o = .thread c u → u / 8 ≠ thread / 8) ∧ d.mode ≠ .lockdown ∧
    d.fld .DOR_CORE_STATUS (32 * c + thread / 8) 11 9 ≠ 3

section
variable {d : Dev} {o : Origin} {c thread tag : Nat} (may : d.mayAct o c = true) (context : thread < 256) (fits : tag < 2 ^ 16)
include may context fits

theorem Dev.supAct_resume (p : Bool) :
    let x := d.ctx (ctxKey c thread)
    d.supAct o c thread 1 p tag = if x.st = 4 ∨ x.st = 6
      then (d.resumeThread (ctxKey c thread) (if p then some (d.rd .DOR_SUP_PC c) else none)).supDone c tag else d.supBad c tag 1 := by
  simp only [Dev.supAct, Nat.mod_eq_of_lt context, Nat.mod_eq_of_lt fits]
  exact if_neg (ne_false_of_eq_true may)

theorem Dev.supAct_restart :
    let x := d.ctx (ctxKey c thread)
    d.supAct o c thread 2 false tag = if (x.st = 4 ∨ x.st = 6) ∧ x.step.isSome
      then (d.restartStep (ctxKey c thread)).supDone c tag else d.supBad c tag 1 := by
  simp only [Dev.supAct, Nat.mod_eq_of_lt context, Nat.mod_eq_of_lt fits]
  exact if_neg (ne_false_of_eq_true may)

theorem Dev.supAct_kill :
    d.supAct o c thread 3 false tag = if (d.ctx (ctxKey c thread)).st ≠ 0
      then (d.killThread (ctxKey c thread)).supDone c tag else d.supBad c tag 1 := by
  simp only [Dev.supAct, Nat.mod_eq_of_lt context, Nat.mod_eq_of_lt fits]
  exact if_neg (ne_false_of_eq_true may)

theorem Dev.supAct_halt :
    let x := d.ctx (ctxKey c thread)
    d.supAct o c thread 4 false tag = if x.st = 1 ∨ x.st = 2 ∨ x.st = 3
      then (d.haltThread (ctxKey c thread)).supDone c tag else d.supBad c tag 1 := by
  simp only [Dev.supAct, Nat.mod_eq_of_lt context, Nat.mod_eq_of_lt fits]
  exact if_neg (ne_false_of_eq_true may)

theorem Dev.supAct_start :
    let x := d.ctx (ctxKey c thread)
    d.supAct o c thread 5 false tag = if x.st = 0
      then (d.setCtx (ctxKey c thread) (newThread (d.rd .DOR_SUP_PC c) (d.rd .DOR_SUP_ARG c) 0xFF none false x.credits)).supDone c tag
      else d.supBad c tag 1 := by
  simp only [Dev.supAct, Nat.mod_eq_of_lt context, Nat.mod_eq_of_lt fits]
  exact if_neg (ne_false_of_eq_true may)

theorem Dev.supAct_coreRestart (runs : d.coreRestartable o c thread) :
    d.supAct o c thread 6 false tag = (d.restartCore c (thread / 8) 2).supDone c tag := by
  obtain ⟨stopped, elsewhere, mode, cause⟩ := runs
  simp only [Dev.supAct, Nat.mod_eq_of_lt context, Nat.mod_eq_of_lt fits, stopped, mode, cause]
  refine (if_neg (ne_false_of_eq_true may)).trans (if_neg ?_)
  obtain rfl | ⟨u, rfl, -⟩ := Dev.mayAct_iff.1 may
  · simp
  · simpa using elsewhere u rfl

theorem Dev.supAct_coreRestart_bad (stays : ¬ d.coreRestartable o c thread) :
    d.supAct o c thread 6 false tag = d.supBad c tag 2 := by
  simp only [Dev.supAct, Nat.mod_eq_of_lt context, Nat.mod_eq_of_lt fits]
  refine (if_neg (ne_false_of_eq_true may)).trans (if_pos ?_)
  refine Decidable.byContradiction fun unbarred => stays ?_
  obtain rfl | ⟨u, rfl, -⟩ := Dev.mayAct_iff.1 may <;> simpa [Dev.coreRestartable, and_assoc] using unbarred

end

/-! ### HALT and QUIESCE (R253, R260) -/

/-- The context of a thread that is halted: it keeps what it waits for. -/
def Ctx.halted (x : Ctx) : Ctx := { x with st := 6, was := x.st, haltDue := false }

@[simp] theorem Dev.ctx_haltNow_same (d : Dev) (k : Nat) : (d.haltNow k).ctx k = (d.ctx k).halted := Dev.ctx_setCtx_same ..

theorem Dev.haltThread_waiting {d : Dev} {k : Nat} (waiting : (d.ctx k).st = 2) :
    d.haltThread k = d.setCtx k { d.ctx k with haltDue := true } := if_pos waiting

theorem Dev.haltThread_now {d : Dev} {k : Nat} (now : (d.ctx k).st ≠ 2) : d.haltThread k = d.haltNow k := if_neg now

/-- HALT stores the one context, and that is all. -/
theorem Dev.haltThread_eq (d : Dev) (k : Nat) : ∃ x, d.haltThread k = d.setCtx k x := by
  by_cases waiting : (d.ctx k).st = 2
  · exact ⟨_, Dev.haltThread_waiting waiting⟩
  · exact ⟨_, Dev.haltThread_now waiting⟩

/-- What QUIESCE makes of a context (R260): a live thread without an open step is halted, and one with a step is marked. -/
def Ctx.quiesced (x : Ctx) : Ctx :=
  if x.live = false then x
  else if x.step.isSome then { x with byQuiesce := true } else Ctx.halted { x with byQuiesce := true }

theorem Ctx.quiesced_dead {x : Ctx} (dead : x.live = false) : x.quiesced = x := if_pos dead

theorem Ctx.quiesced_inStep {x : Ctx} (live : x.live = true) (inStep : x.step.isSome) : x.quiesced = { x with byQuiesce := true } := by
  rw [Ctx.quiesced, if_neg (by simp [live]), if_pos inStep]

theorem Ctx.quiesced_outside {x : Ctx} (live : x.live = true) (outside : x.step = none) :
    x.quiesced = Ctx.halted { x with byQuiesce := true } := by
  rw [Ctx.quiesced, if_neg (by simp [live]), if_neg (by simp [outside])]

theorem Dev.ctx_quiesceThread (d : Dev) (k j : Nat) : (d.quiesceThread k).ctx j = if j = k then (d.ctx j).quiesced else d.ctx j := by
  by_cases same : j = k
  · subst same
    rw [if_pos rfl, Dev.quiesceThread, Ctx.quiesced]
    split
    · rfl
    · split <;> simp
  · rw [if_neg same, Dev.quiesceThread]
    split
    · rfl
    · split <;> simp [Dev.haltNow, Dev.ctx_setCtx, same]

/-- QUIESCE changes only the contexts, and the stall counts of their cores. -/
theorem Dev.quiesceThread_eq (d : Dev) (k : Nat) : ∃ dor, d.quiesceThread k = { d with dor := dor } := by
  rw [Dev.quiesceThread]
  split
  · exact ⟨d.dor, rfl⟩
  · split <;> exact ⟨_, rfl⟩

/-- QUIESCE of one thread after another. -/
theorem Dev.ctx_forEach_quiesceThread {c : Nat} {l : List Nat} (distinct : l.Nodup) (d : Dev) (t : Nat) :
    (forEach l d (fun d t => d.quiesceThread (ctxKey c t))).ctx (ctxKey c t) =
      if t ∈ l then (d.ctx (ctxKey c t)).quiesced else d.ctx (ctxKey c t) := by
  induction l generalizing d with
  | nil => rfl
  | cons a l ih =>
    obtain ⟨new, rest⟩ := List.nodup_cons.1 distinct
    refine (ih rest (d.quiesceThread (ctxKey c a))).trans ?_
    have key : ctxKey c t = ctxKey c a ↔ t = a := by simp [ctxKey]
    by_cases same : t = a
    · subst same; simp [new, Dev.ctx_quiesceThread]
    · simp [same, Dev.ctx_quiesceThread, key]

/-- What QUIESCE leaves as it was. -/
theorem Dev.cluCtl_quiesce_same {β : Type} (g : Dev → β) (keeps : ∀ d dor, g { d with dor := dor } = g d) (d : Dev) (c : Nat) :
    g (d.cluCtl c 1) = g (d.wr .DOR_CLU_CTL c 1) := by
  refine forEach_same g (fun d t _ => ?_) (d.wr .DOR_CLU_CTL c 1)
  obtain ⟨dor, h⟩ := d.quiesceThread_eq (ctxKey c t)
  rw [h, keeps]

theorem Dev.ctx_cluCtl_quiesce (d : Dev) (c : Nat) {t : Nat} (ht : t < 256) :
    (d.cluCtl c 1).ctx (ctxKey c t) = (d.ctx (ctxKey c t)).quiesced :=
  (Dev.ctx_forEach_quiesceThread List.nodup_range (d.wr .DOR_CLU_CTL c 1) t).trans (if_pos (List.mem_range.2 ht))

/-! ### Restarts of cores (R252, R257, R262) -/

theorem exec_coreCtlRestart {o : Origin} {c l : Nat} {s : State} (cluster : c < 8) (core : l < 32)
    (takes : s.dev.takesWrite o .DOR_CORE_CTL (32 * c + l)) :
    exec (.coreCtlRestart o c l) s = .next (s.withDev (s.dev.coreCtl o c l)) :=
  show execCoreCtlRestart o c l s = _ from State.act_next (by rw [if_neg (by omega), Dev.regWrite_ok takes])

section
variable {c l : Nat} {s : State} (cluster : c < 8) (core : l < 32)
include cluster core

theorem exec_benchCoreRestart_due (due : 32 * c + l ∈ s.dev.dor.restarts ∧ s.dev.mode ≠ .lockdown ∧
      s.dev.fld .DOR_CORE_STATUS (32 * c + l) 11 9 ≠ 3) :
    exec (.benchCoreRestart c l) s = .next (s.withDev (Dev.restartCore { s.dev with
      dor := { s.dev.dor with restarts := s.dev.dor.restarts.filter (fun m => !decide (m = 32 * c + l)) } } c l 1)) :=
  show execBenchCoreRestart c l s = _ from State.act_next (by
    rw [if_neg (by omega)]
    exact if_pos (by simpa [and_assoc] using due))

theorem exec_benchCoreRestart_not_due (notDue : ¬ (32 * c + l ∈ s.dev.dor.restarts ∧ s.dev.mode ≠ .lockdown ∧
      s.dev.fld .DOR_CORE_STATUS (32 * c + l) 11 9 ≠ 3)) : exec (.benchCoreRestart c l) s = .next s :=
  show execBenchCoreRestart c l s = .next (s.withDev s.dev) from State.act_next (by
    rw [if_neg (by omega)]
    exact if_neg (by simpa [and_assoc] using notDue))

end

/-! ### The queues of the supervisor and QUIESCE (R249, R251, R260) -/

section
variable {o : Origin} {c : Nat} {s : State} (cluster : c < 8)
include cluster

theorem exec_fqPop (takes : s.dev.takesWrite o .DOR_FQ_POP c) : exec (.fqPop o c) s = .next (s.withDev (s.dev.fqPop c)) :=
  show execFqPop o c s = _ from State.act_next (by rw [if_neg (Nat.not_le.2 cluster), Dev.regWrite_ok takes])

theorem exec_nqPop (takes : s.dev.takesWrite o .DOR_NQ_POP c) : exec (.nqPop o c) s = .next (s.withDev (s.dev.nqPop c)) :=
  show execNqPop o c s = _ from State.act_next (by rw [if_neg (Nat.not_le.2 cluster), Dev.regWrite_ok takes])

theorem exec_quiesce (takes : s.dev.takesWrite o .DOR_CLU_CTL c) : exec (.quiesce o c) s = .next (s.withDev (s.dev.cluCtl c 1)) :=
  show execQuiesce o c s = _ from State.act_next (by rw [if_neg (Nat.not_le.2 cluster), Dev.regWrite_ok takes])

theorem exec_quiesceRelease (takes : s.dev.takesWrite o .DOR_CLU_CTL c) :
    exec (.quiesceRelease o c) s = .next (s.withDev (s.dev.cluCtl c 0)) :=
  show execQuiesceRelease o c s = _ from State.act_next (by rw [if_neg (Nat.not_le.2 cluster), Dev.regWrite_ok takes])

end

@[simp] theorem Dev.fq_fqPop_same (d : Dev) (c : Nat) : (d.fqPop c).fq c = (d.fq c).drop 1 := Sparse.get_set_same ..
@[simp] theorem Dev.nq_nqPop_same (d : Dev) (c : Nat) : (d.nqPop c).nq c = (d.nq c).drop 1 := Sparse.get_set_same ..

theorem Dev.fq_fqPop_other (d : Dev) {c j : Nat} (h : j ≠ c) : (d.fqPop c).fq j = d.fq j := Sparse.get_set_other _ _ _ h
theorem Dev.nq_nqPop_other (d : Dev) {c j : Nat} (h : j ≠ c) : (d.nqPop c).nq j = d.nq j := Sparse.get_set_other _ _ _ h

/-! ### Timers and the wake of a cluster (R241, R286) -/

theorem exec_timerFire_due {k v : Nat} {s : State} (context : k ≤ 2048) (armed : (s.dev.ctx k).timer = some v) (due : v ≤ s.dev.vn)
    (earlier : (s.dev.ctx k).armed ≠ s.dev.vn) :
    exec (.timerFire k) s = .next (s.withDev ((s.dev.setCtx k { s.dev.ctx k with timer := none }).setEvent k 1)) :=
  show execTimerFire k s = _ from State.act_next (by
    rw [if_neg (Nat.not_lt.2 context)]
    exact if_pos (by simp [Ctx.timerDue, armed, due, earlier]))

theorem exec_timerFire_not_due {k : Nat} {s : State} (context : k ≤ 2048)
    (notDue : (s.dev.ctx k).timer = none ∨ (∀ v, (s.dev.ctx k).timer = some v → s.dev.vn < v) ∨ (s.dev.ctx k).armed = s.dev.vn) :
    exec (.timerFire k) s = .next s := by
  have idle : (s.dev.ctx k).timerDue s.dev.vn = false := by
    rw [Ctx.timerDue, Bool.and_eq_false_iff]
    obtain unarmed | later | now := notDue
    · exact .inl (by simp [unarmed])
    · exact .inl (by simpa [Option.any_eq_false_iff_get] using fun set => later _ (Option.some_get set).symm)
    · exact .inr (by simp [now])
  refine show execTimerFire k s = .next (s.withDev s.dev) from State.act_next ?_
  rw [if_neg (Nat.not_lt.2 context)]
  exact if_neg (by simp [idle])

/-- The waits of a cluster's threads end where what they wait for has come. -/
def Dev.endWaits (d : Dev) (c : Nat) : Dev := forEach (List.range 256) d (fun d j => d.endWait (ctxKey c j) false)

/-- A cluster is awake. -/
def Dev.awakened (d : Dev) (c : Nat) : Dev := { d with dor := { d.dor with asleep := Sparse.put d.dor.asleep c none } }

/-- The WAIT of a cluster's supervisor returns with the result it waits for. -/
def Dev.wakeSupervisor (d : Dev) (c : Nat) : Dev :=
  match (d.ctx (ctxKey c (d.supervisor c))).res with
  | some r => d.takeResult (ctxKey c (d.supervisor c)) r
  | none => d

theorem Dev.wakeSupervisor_result {d : Dev} {c : Nat} {r : Res} (out : (d.ctx (ctxKey c (d.supervisor c))).res = some r) :
    d.wakeSupervisor c = d.takeResult (ctxKey c (d.supervisor c)) r := by simp only [Dev.wakeSupervisor, out]

theorem Dev.wakeSupervisor_noResult {d : Dev} {c : Nat} (idle : (d.ctx (ctxKey c (d.supervisor c))).res = none) :
    d.wakeSupervisor c = d := by simp only [Dev.wakeSupervisor, idle]

theorem exec_clusterWake_due {c : Nat} {s : State} (due : Sparse.get? s.dev.dor.asleep c = some true) :
    exec (.clusterWake c) s = .next (s.withDev (((s.dev.awakened c).wakeSupervisor c).endWaits c)) :=
  show execClusterWake c s = _ from State.act_next (if_pos due)

theorem exec_clusterWake_not_due {c : Nat} {s : State} (notDue : Sparse.get? s.dev.dor.asleep c ≠ some true) :
    exec (.clusterWake c) s = .next s :=
  show execClusterWake c s = .next (s.withDev s.dev) from State.act_next (if_neg notDue)

/-! ### The supervisor of a cluster is named by a register (R251) -/

theorem Dev.supervisor_congr {d e : Dev} (same : d.regs = e.regs) (c : Nat) : d.supervisor c = e.supervisor c := by
  simp only [Dev.supervisor, Dev.fld, Dev.rd, Dev.reg, same]

@[simp] theorem Dev.arrive_regs (d : Dev) (k : Nat) (onBoundary : Bool) : (d.arrive k onBoundary).regs = d.regs := by
  obtain h | ⟨free, j, n, h⟩ := d.arrive_eq k onBoundary <;> rw [h]
  rfl

@[simp] theorem Dev.goOn_regs (d : Dev) (k rd : Nat) (v : Word) (onBoundary : Bool) : (d.goOn k rd v onBoundary).regs = d.regs :=
  d.arrive_regs k onBoundary

@[simp] theorem Dev.endWait_regs (d : Dev) (k : Nat) (onBoundary : Bool) : (d.endWait k onBoundary).regs = d.regs := by
  unfold Dev.endWait
  dsimp only
  split
  · split
    · rfl
    · rw [Dev.setCtx_regs, Dev.goOn_regs]
  · rfl

@[simp] theorem Dev.wakeDue_regs (d : Dev) (c : Nat) : (d.wakeDue c).regs = d.regs := by
  unfold Dev.wakeDue; split <;> rfl

@[simp] theorem Dev.setEvent_regs (d : Dev) (k bitNo : Nat) : (d.setEvent k bitNo).regs = d.regs := by
  unfold Dev.setEvent
  dsimp only
  split
  · rfl
  · split <;> simp

@[simp] theorem Dev.pushFault_regs (d : Dev) (c r : Nat) : (d.pushFault c r).regs = d.regs := Dev.setEvent_regs ..

/-! ### Event stalls (R245, R246) -/

/-- A whistle goes into the queue of its block, and counts in its source's sequence, and that is all. -/
theorem Dev.whistle_eq (d : Dev) (kind source addr detail : Nat) :
    ∃ n q, d.whistle kind source addr detail = { d with whistleSeq := n, whistles := q } := by
  unfold Dev.whistle
  split <;> exact ⟨_, _, rfl⟩

/-- The device once the whistle of a core's event stall is raised and the stall counts as told. -/
def Dev.stallNoted (d : Dev) (c l : Nat) : Dev :=
  let t := d.whistle 0x0A (unitId 0x07 c (d.physCore c l)) 0 l
  { t with dor := { t.dor with stallRec := Sparse.put t.dor.stallRec (32 * c + l) (some 0) } }

theorem Dev.stallNoted_eq (d : Dev) (c l : Nat) : ∃ n q r,
    d.stallNoted c l = { d with whistleSeq := n, whistles := q, dor := { d.dor with stallRec := r } } := by
  obtain ⟨n, q, h⟩ := d.whistle_eq 0x0A (unitId 0x07 c (d.physCore c l)) 0 l
  exact ⟨n, q, _, by rw [Dev.stallNoted, h]⟩

/-- The fault record of an event stall, with the lowest live thread of the core. -/
def Dev.stallRecord (d : Dev) (c l : Nat) : Nat :=
  let t := (d.lowestLive c l none).getD (8 * l)
  let x := d.ctx (ctxKey c t)
  faultRec d.vn x.pc 0 0 t 0x50 (b2n x.step.isSome)

theorem Dev.stallRecord_stallNoted (d : Dev) (c l : Nat) : (d.stallNoted c l).stallRecord c l = d.stallRecord c l := by
  obtain ⟨n, q, r, h⟩ := d.stallNoted_eq c l
  rw [h]; rfl

theorem Dev.fq_stallNoted (d : Dev) (c l j : Nat) : (d.stallNoted c l).fq j = d.fq j := by
  obtain ⟨n, q, r, h⟩ := d.stallNoted_eq c l
  rw [h]; rfl

theorem Dev.stallNoted_regs (d : Dev) (c l : Nat) : (d.stallNoted c l).regs = d.regs := by
  obtain ⟨n, q, r, h⟩ := d.stallNoted_eq c l
  rw [h]

/-- The record of an event stall goes into the fault queue, or counts as lost where the queue is full. -/
def Dev.queueStall (d : Dev) (c l : Nat) : Dev :=
  if (d.fq c).length < 16 then d.pushFault c (d.stallRecord c l) else d.bump .DOR_FQ_OVERFLOW c

/-- The supervisor `t` of a cluster is told of an event stall: STALL is set, and any wait of it ends. -/
def Dev.tellStall (d : Dev) (c t : Nat) : Dev := ((d.setEvent (ctxKey c t) 9).endAnyWait (ctxKey c t)).bump .DOR_EVENT_STALLS c

theorem Dev.queueStall_room {d : Dev} {c l : Nat} (room : (d.fq c).length < 16) :
    (d.stallNoted c l).queueStall c l = (d.stallNoted c l).pushFault c (d.stallRecord c l) := by
  rw [Dev.queueStall, Dev.fq_stallNoted, if_pos room, Dev.stallRecord_stallNoted]

theorem Dev.queueStall_full {d : Dev} {c l : Nat} (full : 16 ≤ (d.fq c).length) :
    (d.stallNoted c l).queueStall c l = (d.stallNoted c l).bump .DOR_FQ_OVERFLOW c := by
  rw [Dev.queueStall, Dev.fq_stallNoted, if_neg (Nat.not_lt.2 full)]

theorem Dev.supervisor_queueStall (d : Dev) {c l : Nat} (cluster : c < 8) :
    ((d.stallNoted c l).queueStall c l).supervisor c = d.supervisor c := by
  have noted := Dev.supervisor_congr (d.stallNoted_regs c l) c
  rw [Dev.queueStall]
  split
  · rw [Dev.supervisor_congr (Dev.pushFault_regs ..), noted]
  · rw [← noted, Dev.supervisor, Dev.fld, Dev.bump, Dev.rd_add_other _ _ (by omega) (by omega) (by decide)]
    rfl

section
variable {c l : Nat} {s : State} (cluster : c < 8) (core : l < 32)
include cluster core

theorem exec_eventStall_due (due : s.dev.stallMet (32 * c + l) = true) :
    exec (.eventStall c l) s = .next (s.withDev (((s.dev.stallNoted c l).queueStall c l).tellStall c (s.dev.supervisor c))) := by
  rw [← s.dev.supervisor_queueStall (l := l) cluster]
  refine show execEventStall c l s = _ from State.act_next ?_
  rw [if_neg (by omega), if_neg (by simp [due])]
  rfl

theorem exec_eventStall_not_due (notDue : s.dev.stallMet (32 * c + l) = false) : exec (.eventStall c l) s = .next s :=
  show execEventStall c l s = .next (s.withDev s.dev) from State.act_next (by rw [if_neg (by omega), if_pos notDue])

theorem exec_eventStallEscalate : exec (.eventStallEscalate c l) s = .next (s.withDev
    (if s.dev.escalates (32 * c + l) then s.dev.escalateStall c l else s.dev)) :=
  show execEventStallEscalate c l s = _ from State.act_next (if_neg (by omega))

end

/-- The cluster of a core, by the core's number. -/
theorem coreIndex_div (c : Nat) {l : Nat} (core : l < 32) : (32 * c + l) / 32 = c := by omega

theorem Dev.stallMet_iff (d : Dev) (c : Nat) {l : Nat} (core : l < 32) : d.stallMet (32 * c + l) = true ↔
    d.stallLimit c ≤ Sparse.get (fun _ => 0) d.dor.stall (32 * c + l) ∧ Sparse.get? d.dor.stallRec (32 * c + l) = none := by
  simp [Dev.stallMet, coreIndex_div c core]

theorem Dev.escalates_iff (d : Dev) (c : Nat) {l : Nat} (core : l < 32) : d.escalates (32 * c + l) = true ↔
    ∃ m, Sparse.get? d.dor.stallRec (32 * c + l) = some m ∧
      (32 * c + l ∈ d.dor.stallBoth ∨ d.stallQueued (32 * c + l) = true ∧ d.stallLimit c ≤ m) := by
  rw [Dev.escalates, coreIndex_div c core]
  cases told : Sparse.get? d.dor.stallRec (32 * c + l) <;> simp

/-- Settles O44: the operations of DOR_SUP_ACT by who writes it and the state of the thread, and then each row by whether it is due. -/
theorem clusterControl : Obligations.ClusterControl := by
  unfold Obligations.ClusterControl
  refine ⟨fun o c thread tag p s cluster takes => ?writes, fun o c thread tag p d cluster context fits => ⟨fun foreign op => ?foreign,
    fun may => ?acts⟩, fun k d => ?halts, fun o c l s cluster core takes => ?coreCtl,
    fun c l s cluster core => ⟨exec_benchCoreRestart_due cluster core, exec_benchCoreRestart_not_due cluster core⟩,
    fun o c s cluster takes => ⟨_, exec_fqPop cluster takes, Dev.fq_fqPop_same .., fun j h => Dev.fq_fqPop_other _ h, rfl, rfl, fun _ => rfl⟩,
    fun o c s cluster takes => ⟨_, exec_nqPop cluster takes, Dev.nq_nqPop_same .., fun j h => Dev.nq_nqPop_other _ h, rfl, rfl, fun _ => rfl⟩,
    fun o c s cluster takes => ⟨exec_quiesce cluster takes, exec_quiesceRelease cluster takes⟩,
    fun c d cluster => ?quiesce, fun k s context => ⟨fun _ => exec_timerFire_due context, exec_timerFire_not_due context⟩,
    fun c s => ⟨fun due => ⟨fun idle => ?noResult, fun r out => ?result⟩, exec_clusterWake_not_due⟩,
    fun c l s cluster core => ⟨fun due room => ?room, fun due full => ?full, fun notDue => ?notDue⟩, fun c l s cluster core => ?escalate⟩
  case writes =>
    have act := fun op pcSet => State.act_supWrite cluster takes thread op pcSet tag
    exact ⟨act 1 p, act 2 false, act 3 false, act 4 false, act 5 false, act 6 false⟩
  case foreign => exact Dev.supAct_foreign (Bool.eq_false_iff.2 fun may => foreign (Dev.mayAct_iff.1 may)) ..
  case acts =>
    have may := Dev.mayAct_iff.2 may
    have resume := Dev.supAct_resume may context fits p
    have restart := Dev.supAct_restart may context fits
    have kill := Dev.supAct_kill may context fits
    have halt := Dev.supAct_halt may context fits
    have start := Dev.supAct_start may context fits
    exact ⟨fun h => resume.trans (if_pos h), fun h => resume.trans (if_neg h), fun h => restart.trans (if_pos h),
      fun h => restart.trans (if_neg h), fun h => kill.trans (if_pos h), fun h => kill.trans (if_neg (fun live => live h)),
      fun h => halt.trans (if_pos h), fun h => halt.trans (if_neg h), fun h => start.trans (if_pos h), fun h => start.trans (if_neg h),
      Dev.supAct_coreRestart may context fits, Dev.supAct_coreRestart_bad may context fits⟩
  case halts =>
    obtain ⟨y, stored⟩ := d.haltThread_eq k
    have now := d.ctx_haltNow_same k
    refine ⟨by rw [stored]; rfl, by rw [stored]; rfl, fun j other => by rw [stored, Dev.ctx_setCtx, if_neg other],
      fun waiting => by rw [Dev.haltThread_waiting waiting, Dev.ctx_setCtx_same], Dev.haltThread_now, ?_⟩
    rw [now]
    exact ⟨rfl, rfl, rfl, rfl⟩
  case coreCtl =>
    have run := exec_coreCtlRestart cluster core takes
    exact ⟨fun runs => run.trans (by rw [Dev.coreCtl, if_pos runs]), fun stays => run.trans (by rw [Dev.coreCtl, if_neg stays]; rfl)⟩
  case quiesce =>
    refine ⟨?_, Dev.cluCtl_quiesce_same Dev.mem (fun _ _ => rfl) d c, Dev.cluCtl_quiesce_same Dev.frames (fun _ _ => rfl) d c, fun j hj => ?_⟩
    · exact (Dev.cluCtl_quiesce_same (fun d => d.rd .DOR_CLU_CTL c) (fun _ _ => rfl) d c).trans (Dev.rd_wr_same ..)
    · rw [d.ctx_cluCtl_quiesce c hj]
      refine ⟨fun live outside => ?_, Ctx.quiesced_inStep, Ctx.quiesced_dead⟩
      rw [Ctx.quiesced_outside live outside]
      exact ⟨rfl, rfl, rfl, rfl⟩
  case noResult => exact (exec_clusterWake_due due).trans (by rw [Dev.wakeSupervisor_noResult (d := s.dev.awakened c) idle]; rfl)
  case result => exact (exec_clusterWake_due due).trans (by rw [Dev.wakeSupervisor_result (d := s.dev.awakened c) out]; rfl)
  case room =>
    exact (exec_eventStall_due cluster core ((s.dev.stallMet_iff c core).2 due)).trans (by rw [Dev.queueStall_room room]; rfl)
  case full =>
    exact (exec_eventStall_due cluster core ((s.dev.stallMet_iff c core).2 due)).trans (by rw [Dev.queueStall_full full]; rfl)
  case notDue =>
    exact exec_eventStall_not_due cluster core (Bool.eq_false_iff.2 fun met => notDue ((s.dev.stallMet_iff c core).1 met))
  case escalate =>
    have run := exec_eventStallEscalate (s := s) cluster core
    have due := s.dev.escalates_iff c core
    exact ⟨fun h => run.trans (by rw [if_pos (due.2 h)]), fun h => run.trans (by rw [if_neg fun met => h (due.1 met)]; rfl)⟩

end Sys2Proof.Machine
end

section
/-! PROOFS of the family 09_dorut_isa.md: the instructions of the Dorut set, each by the shared form that its command has. -/

namespace Sys2Proof.Machine

open Host

/-! ### Commands of instructions (R234, R268, R269) -/

/-- The command of an illegal word raises ILLEGAL with the word in DETAIL. -/
theorem State.act_bad {s : State} {k word : Nat} {legal onBcp : Bool} {body : Dev → Dev} (may : s.dev.mayIssue k word)
    (bad : legal = false) :
    s.act (fun d => d.run k word legal onBcp body) = .next (s.withDev ((s.dev.countIssue k).raise k 1 0 word)) :=
  State.act_next (f := fun d => d.run k word legal onBcp body) (Dev.run_bad body may bad)

/-- A context at whose PC another word stands: nothing happens when that spells an instruction, else it is ILLEGAL. -/
theorem State.act_other {s : State} {k w word : Nat} {legal onBcp : Bool} {body : Dev → Dev} (may : s.dev.mayIssue k w)
    (other : w ≠ word) : s.act (fun d => d.run k word legal onBcp body) =
      if spelled w then .next s else .next (s.withDev ((s.dev.countIssue k).raise k 1 0 w)) := by
  obtain ⟨context, ready, pc, fetched⟩ := may
  have here : s.dev.otherWord k word = spelled w := by simp [Dev.otherWord, pc, fetched, other]
  have dispatched : (s.dev.countIssue k).dispatch k word legal onBcp body = (s.dev.countIssue k).raise k 1 0 w := by
    simp [Dev.dispatch, pc, Dev.fetchWord_countIssue _ context, fetched, other]
  cases spells : spelled w <;>
    simp [State.act, Dev.run, Nat.not_lt.2 context, ready, here, spells, dispatched, State.withDev]

/-- The same as `State.act_run` where the check of the fields is still to be made. -/
theorem State.act_legal {s : State} {k word : Nat} {legal onBcp : Bool} {body : Dev → Dev} {d : Dev} (may : s.dev.mayIssue k word)
    (good : legal = true) (here : onBcp = true ∨ k ≠ 2048) (effect : body (s.dev.countIssue k) = d) :
    s.act (fun t => t.run k word legal onBcp body) = .next (s.withDev d) := good ▸ State.act_run may here effect

/-- The command of a legal instruction of fixed latency that writes a register. -/
theorem State.act_fixed {s : State} {k word : Nat} {legal : Bool} {rd : Fin 32} {v : Dev → Word} (may : s.dev.mayIssue k word)
    (good : legal = true) :
    s.act (fun d => d.run k word legal true (fun d => d.fixed k rd (v d))) =
      .next (s.withDev (s.dev.afterIssue k ((s.dev.ctx k).wrote rd (v (s.dev.countIssue k))))) :=
  State.act_legal may good (.inl rfl) (Dev.fixed_countIssue ..)

theorem decide_val_eq_zero_of_ne {n : Fin 32} (h : n ≠ 0) : decide (n.val = 0) = false :=
  decide_eq_false fun zero => h (Fin.ext zero)

theorem decide_vals_eq_zero_of_ne {m n : Fin 32} (h : m ≠ 0 ∨ n ≠ 0) : (decide (m.val = 0) && decide (n.val = 0)) = false :=
  Bool.and_eq_false_iff.2 (h.imp decide_val_eq_zero_of_ne decide_val_eq_zero_of_ne)

/-! ### Integer instructions (R271) -/

/-- The commands of the ALU instructions of two operands are the rows of the table of R271. -/
theorem exec_alu : ∀ p ∈ aluTable, ∀ (k : Nat) (rd ra rb : Fin 32) (s : State),
    exec (p.1 k rd ra rb) s = s.act (fun d => d.alu k p.2.1 rd ra rb p.2.2) := by
  have high : ((2 ^ 64 : Nat) : Int) = 2 ^ 64 := rfl
  simp only [aluTable, ← high, ← BitVec.slt_iff_toInt_lt, ← BitVec.ult_iff_toNat_lt, List.forall_mem_cons, List.not_mem_nil,
    false_imp_iff, implies_true, and_true]
  and_intros <;> exact fun _ _ _ _ _ => rfl

theorem exec_alu1 : ∀ p ∈ aluTable1, ∀ (k : Nat) (rd ra rb : Fin 32) (s : State),
    exec (p.1 k rd ra rb) s = s.act (fun d => d.alu1 k p.2.1 rd ra rb p.2.2) := by
  have zeros (a : Word) : (if a = 0 then (64 : Word) else BitVec.ofNat 64 (63 - Nat.log2 a.toNat)) = BitVec.ofNat 64 (leadZeros a) :=
    (apply_ite (BitVec.ofNat 64) ..).symm
  simp only [aluTable1, zeros, List.forall_mem_cons, List.not_mem_nil, false_imp_iff, implies_true, and_true]
  and_intros <;> exact fun _ _ _ _ _ => rfl

/-- Settles O1: the four forms of an issue, over the rows of the tables. -/
theorem aluResult : Obligations.AluResult := by
  unfold Obligations.AluResult
  refine fun k rd ra rb s => ⟨fun p row may => ?two, fun p row may => ?one, fun used p row may => ?illegal,
    fun p row w other may => ?other⟩
  case two => rw [exec_alu p row, ← Dev.gr_countIssue, ← Dev.gr_countIssue]; exact State.act_fixed may rfl
  case one => rw [exec_alu1 p row, ← Dev.gr_countIssue]; exact State.act_fixed may rfl
  case illegal => rw [exec_alu1 p row]; exact State.act_bad may (decide_val_eq_zero_of_ne used)
  case other => rw [exec_alu p row]; exact State.act_other may other

theorem divS_eq (a b : Word) : divS a b = if b = 0 then BitVec.allOnes 64 else BitVec.ofInt 64 (a.toInt.tdiv b.toInt) := by
  have quotient : a.sdiv b = BitVec.ofInt 64 (a.toInt.tdiv b.toInt) :=
    BitVec.eq_of_toInt_eq (by rw [BitVec.toInt_sdiv, BitVec.toInt_ofInt])
  rw [divS, quotient]

theorem remS_eq (a b : Word) : remS a b = if b = 0 then a else BitVec.ofInt 64 (a.toInt.tmod b.toInt) := by
  rw [remS, ← BitVec.toInt_srem, BitVec.ofInt_toInt]

theorem divU_eq (a b : Word) : divU a b = if b = 0 then BitVec.allOnes 64 else BitVec.ofNat 64 (a.toNat / b.toNat) := by
  rw [divU, ← BitVec.toNat_udiv, BitVec.ofNat_toNat, BitVec.setWidth_eq]; rfl

theorem remU_eq (a b : Word) : remU a b = if b = 0 then a else BitVec.ofNat 64 (a.toNat % b.toNat) := by
  rw [remU, ← BitVec.toNat_umod, BitVec.ofNat_toNat, BitVec.setWidth_eq]; rfl

theorem exec_div : ∀ p ∈ divTable, ∀ (k : Nat) (rd ra rb : Fin 32) (s : State),
    exec (p.1 k rd ra rb) s = s.act (fun d => d.aluVar k p.2.1 rd ra rb p.2.2) := by
  simp only [divTable, ← divS_eq, ← divU_eq, ← remS_eq, ← remU_eq, List.forall_mem_cons, List.not_mem_nil, false_imp_iff, implies_true,
    and_true]
  and_intros <;> exact fun _ _ _ _ _ => rfl

/-- In Basecamp an instruction of variable latency that writes one register ends at once (R292). -/
theorem Dev.vary_basecamp {s : Dev} {rd : Fin 32} {v : Word} (noHalt : (s.ctx 2048).haltDue = false)
    (noQuiesce : (s.ctx 2048).byQuiesce = false) :
    (s.countIssue 2048).vary 2048 (resOf [(rd.val, v)] none) =
      s.afterIssue 2048 { (s.ctx 2048).wrote rd v with st := 1, res := none } := by
  have result := Dev.takeResult_register (s := s.countIssue 2048) (k := 2048) (rd := rd) (v := v)
    (by rwa [Dev.ctx_countIssue]) (by rwa [Dev.ctx_countIssue])
  have once : (s.countIssue 2048).arrive 2048 false = s.countIssue 2048 := rfl
  rw [Dev.vary, if_pos rfl, result]
  simp only [once, Dev.ctx_countIssue]
  rfl

/-- Settles O2: by where the result goes; and the four corners of the table. -/
theorem divResult : Obligations.DivResult := by
  unfold Obligations.DivResult
  refine ⟨fun k rd ra rb s p row may => ⟨fun thread => ?thread, fun basecamp noHalt noQuiesce => ?basecamp⟩, fun a => ?corners⟩
  case thread =>
    rw [exec_div p row, ← Dev.gr_countIssue, ← Dev.gr_countIssue]
    exact State.act_run may (.inl rfl) (Dev.vary_countIssue _ _ _ thread)
  case basecamp =>
    subst basecamp
    rw [exec_div p row, ← Dev.gr_countIssue, ← Dev.gr_countIssue]
    exact State.act_run may (.inl rfl) (Dev.vary_basecamp noHalt noQuiesce)
  case corners => exact ⟨rfl, rfl, rfl, rfl, by decide, by decide⟩

/-! ### Integer instructions with an immediate (R269, R272) -/

theorem exec_imm : ∀ p ∈ immTable, ∀ (k : Nat) (rd ra : Fin 32) (imm : BitVec 16) (s : State),
    exec (p.1 k rd ra imm) s = s.act (fun d => d.aluImm k p.2.1 rd ra imm true (fun a => p.2.2 a imm)) := by
  have wide (i : BitVec 16) : i.toInt = (i.signExtend 64).toInt := (BitVec.toInt_signExtend_of_le (by decide)).symm
  simp only [immTable, wide, ← BitVec.slt_iff_toInt_lt, ← BitVec.ult_iff_toNat_lt, List.forall_mem_cons, List.not_mem_nil, false_imp_iff,
    implies_true, and_true]
  and_intros <;> exact fun _ _ _ _ _ => rfl

theorem shiftImm_row : ∀ p ∈ shiTable, shiftImm p.1 = fun n a => p.2 a n := by
  simp only [shiTable, List.forall_mem_cons, List.not_mem_nil, false_imp_iff, implies_true, and_true]
  and_intros <;> rfl

/-- SHI of a legal immediate shifts as its row says, by IMM16[5:0] places. -/
theorem shiftImm_legal {p : Nat × (Word → Nat → Word)} (row : p ∈ shiTable) {n : Nat} (legal : n / 256 = 0) (kind : n / 64 = p.1) (a : Word) :
    shiftImm (bits n 7 6) (bits n 5 0) a = p.2 a (n % 64) := by
  have hi : bits n 7 6 = p.1 := by simp only [bits]; omega
  have lo : bits n 5 0 = n % 64 := by simp [bits]
  rw [hi, lo, shiftImm_row p row]

/-- Settles O3, instruction by instruction; SHI by whether IMM16[15:8] is 0. -/
theorem immediateResult : Obligations.ImmediateResult := by
  unfold Obligations.ImmediateResult
  refine fun k rd ra imm wide s => ⟨fun p row may => ?imm, fun may => ⟨fun p row legal kind => ?shift, fun wrong => ?illegal⟩,
    fun may => State.act_fixed may rfl, fun may => ?adr⟩
  case imm => rw [exec_imm p row, ← Dev.gr_countIssue]; exact State.act_fixed may rfl
  case shift =>
    rw [← shiftImm_legal row legal kind, ← Dev.gr_countIssue]
    exact State.act_fixed may (decide_eq_true legal)
  case illegal => exact State.act_bad may (decide_eq_false wrong)
  case adr => exact (State.act_fixed may rfl).trans (by rw [Dev.ctx_countIssue])

/-! ### Branches and jumps (R270, R274) -/

/-- The comparisons of the branches as the model writes them. -/
theorem exec_branch : ∀ p ∈ branchTable, ∀ (k : Nat) (rb ra : Fin 32) (imm : BitVec 16) (s : State),
    exec (p.1 k rb ra imm) s = s.act (fun d => d.branchIf k p.2.1 rb ra imm p.2.2) := by
  have bge (a b : Word) : decide (b.toInt ≤ a.toInt) = !(a.slt b) := (decide_eq_decide.2 Int.not_lt.symm).trans decide_not
  have bgeu (a b : Word) : decide (b.toNat ≤ a.toNat) = !(a.ult b) := (decide_eq_decide.2 Nat.not_lt.symm).trans decide_not
  have bne (a b : Word) : decide (a ≠ b) = !(decide (a = b)) := decide_not
  simp only [branchTable, bge, bgeu, bne, List.forall_mem_cons, List.not_mem_nil, false_imp_iff, implies_true, and_true]
  and_intros <;> exact fun _ _ _ _ _ => rfl

theorem Dev.goto_countIssue (s : Dev) (k : Nat) (target : Word) : (s.countIssue k).goto k target = s.jumped k (s.ctx k) target := by
  simp only [Dev.goto, Dev.ctx_countIssue]
  rfl

/-- A branch goes to its target when it is taken, else to the next instruction. -/
theorem Dev.branch_countIssue (s : Dev) (k : Nat) (taken : Bool) (off : Word) :
    (s.countIssue k).branch k taken off = if taken then s.jumped k (s.ctx k) (BitVec.ofNat 64 (s.ctx k).pc + 4 * off)
      else s.afterIssue k { s.ctx k with pc := (s.ctx k).pc + 4 } := by
  rw [Dev.branch, Dev.goto_countIssue, Dev.skip_countIssue, Dev.ctx_countIssue]

/-- Settles O4, by whether the branch compares registers or tests F, and is legal. -/
theorem branchResult : Obligations.BranchResult := by
  unfold Obligations.BranchResult
  refine fun k rb ra imm s => ⟨fun p row may => ?compare, fun may => ?bf, fun may => ?bnf, fun used => ?illegal⟩
  case compare =>
    rw [exec_branch p row, ← Dev.gr_countIssue, ← Dev.gr_countIssue]
    exact State.act_run may (.inl rfl) (Dev.branch_countIssue ..)
  case bf =>
    exact State.act_run may (.inl rfl) ((Dev.branch_countIssue ..).trans (by rw [Dev.ctx_countIssue]; rfl))
  case bnf =>
    refine State.act_run may (.inl rfl) ((Dev.branch_countIssue ..).trans ?_)
    simp only [Dev.ctx_countIssue, Bool.not_eq_true', ← Bool.not_eq_true, ite_not]
    rfl
  case illegal =>
    simp only [List.forall_mem_cons, List.not_mem_nil, false_imp_iff, implies_true, and_true]
    exact ⟨fun may => State.act_bad may (decide_vals_eq_zero_of_ne used), fun may => State.act_bad may (decide_vals_eq_zero_of_ne used)⟩

theorem Ctx.setReg_st (x : Ctx) (n : Nat) (v : Word) : (x.setReg n v).st = x.st := by
  unfold Ctx.setReg; split <;> rfl

/-- A jump that writes the address of the next instruction goes to its target with that register written. -/
theorem Dev.link_goto (s : Dev) (k n : Nat) (target : Word) :
    ((s.countIssue k).link k n).goto k target =
      s.jumped k ((s.ctx k).setReg n (BitVec.ofNat 64 ((s.ctx k).pc + 4))) target := by
  simp only [Dev.goto, Dev.link, Dev.ctx_setCtx_same, Dev.ctx_countIssue]
  rw [Dev.setCtx_setCtx _ _ (by rfl)]
  rfl

/-- Settles O5, jump by jump, the legal ones first. -/
theorem jumpResult : Obligations.JumpResult := by
  unfold Obligations.JumpResult
  refine fun k rd ra rb off s => ⟨fun may => ?jmp, fun may => ?call, fun may => ?jr, fun may => ?jalr,
    fun used may => State.act_bad may (decide_vals_eq_zero_of_ne used), fun used may => State.act_bad may (decide_val_eq_zero_of_ne used)⟩
  case jmp => exact State.act_run may (.inl rfl) (Dev.branch_countIssue _ _ true _)
  case call =>
    refine State.act_run may (.inl rfl) ((Dev.link_goto ..).trans ?_)
    simp only [Dev.link, Dev.ctx_setCtx_same, Dev.ctx_countIssue, Ctx.setReg_pc]
  case jr => exact State.act_run may (.inl rfl) ((Dev.goto_countIssue ..).trans (by rw [Dev.gr_countIssue]))
  case jalr => exact State.act_run may (.inl rfl) ((Dev.link_goto ..).trans (by rw [Dev.gr_countIssue]))

/-! ### What the count of an issue leaves as it was -/

/-- The count of an issue changes the counter of its context, the cycle and the issues of its core, and the mark on the round robin. -/
theorem Dev.countIssue_eq (s : Dev) (k : Nat) :
    ∃ r c f i, s.countIssue k = { s with regs := r, dor := { s.dor with cyc := c, fill := f, issued := i } } := by
  unfold Dev.countIssue
  split
  · exact ⟨_, _, _, _, rfl⟩
  · obtain ⟨c, f, cycle⟩ := s.takeCycle_eq k
    exact ⟨_, c, f, _, by rw [cycle]; rfl⟩

section
variable (s : Dev) (k : Nat)

@[simp] theorem Dev.countIssue_releases : (s.countIssue k).dor.releases = s.dor.releases := by
  obtain ⟨r, c, f, i, h⟩ := s.countIssue_eq k; rw [h]
@[simp] theorem Dev.countIssue_blocks : (s.countIssue k).dor.blocks = s.dor.blocks := by
  obtain ⟨r, c, f, i, h⟩ := s.countIssue_eq k; rw [h]
@[simp] theorem Dev.countIssue_frames : (s.countIssue k).frames = s.frames := by
  obtain ⟨r, c, f, i, h⟩ := s.countIssue_eq k; rw [h]
@[simp] theorem Dev.countIssue_tbl : (s.countIssue k).tbl = s.tbl := by
  obtain ⟨r, c, f, i, h⟩ := s.countIssue_eq k; rw [h]
@[simp] theorem Dev.countIssue_epc : (s.countIssue k).epc = s.epc := by
  obtain ⟨r, c, f, i, h⟩ := s.countIssue_eq k; rw [h]

theorem Dev.threadRead_countIssue (off n : Nat) : (s.countIssue k).threadRead k off n = s.threadRead k off n := by
  simp [Dev.threadRead, Dev.ownStores, Dev.countIssue_mem]

theorem Dev.blocksOf_countIssue (f : Nat) : (s.countIssue k).blocksOf f = s.blocksOf f := by
  simp [Dev.blocksOf, Dev.chainOf]

theorem Dev.handleFrame_countIssue (h : Word) : (s.countIssue k).handleFrame k h = s.handleFrame k h := by
  simp [Dev.handleFrame, Dev.ownFrames, Dev.framesIf, Dev.frame, Dev.blocksOf_countIssue]

theorem Dev.puntQueue_countIssue (c l : Nat) : (s.countIssue k).puntQueue c l = s.puntQueue c l := by
  simp [Dev.puntQueue, Dev.inOrder, Dev.framesIf]

theorem Dev.entry_countIssue (code i : Nat) : (s.countIssue k).entry code i = s.entry code i := by simp [Dev.entry]

end

/-! ### Where an address leads (R266, R545) -/

theorem placeOf_local {k a : Nat} (n : Nat) (store : Bool) (lo : localBase ≤ a) (hi : a < localBase + 0x40000) :
    placeOf k a n store = .loc (a - localBase) := by
  have size : 0x40000 ≤ fetchSize k := by unfold fetchSize; split <;> omega
  have noHbm : ¬ a < hbmSize := by simp only [localBase] at lo; simp only [hbmSize]; omega
  have noReg : ¬ (0x020000000000 ≤ a ∧ a < 0x020013000000) := by simp only [localBase] at lo; omega
  rw [placeOf, if_neg noHbm, if_neg noReg, if_pos ⟨lo, by omega⟩]

/-- Between the internal map and the cores' own memory lies no region. -/
theorem placeOf_none {k a : Nat} (n : Nat) (store : Bool) (lo : 2 ^ 48 ≤ a) (hi : a < localBase) : placeOf k a n store = .none := by
  simp only [localBase] at hi
  have noHbm : ¬ a < hbmSize := by simp only [hbmSize]; omega
  have noReg : ¬ (0x020000000000 ≤ a ∧ a < 0x020013000000) := by omega
  have noLoc : ¬ (localBase ≤ a ∧ a < localBase + fetchSize k) := by simp only [localBase]; omega
  have noShared : ¬ (k ≠ 2048 ∧ sharedBase ≤ a ∧ a < sharedBase + 0x800000) := by simp only [sharedBase]; omega
  have noFlash : ¬ (k = 2048 ∧ 0xFFFF000100000000 ≤ a ∧ a < 0xFFFF000108000000) := by omega
  have noStore : ¬ (k = 2048 ∧ 0x030000000000 ≤ a ∧ a < 0x030020000000) := by omega
  have known : foreignMap a = false := by simp only [foreignMap, Bool.or_eq_false_iff, Bool.and_eq_false_iff, decide_eq_false_iff_not]; omega
  rw [placeOf, if_neg noHbm, if_neg noReg, if_neg noLoc, if_neg noShared, if_neg noFlash, if_neg noStore, known]
  rfl

/-! ### Loads (R270) -/

theorem exec_load : ∀ p ∈ loadTable, ∀ (k : Nat) (rd ra : Fin 32) (imm : BitVec 16) (bad : Bool) (s : State),
    exec (p.1 k rd ra imm bad) s = s.act (fun d => d.load k p.2.1 p.2.2.1 p.2.2.2 rd ra imm bad) := by
  simp only [loadTable, List.forall_mem_cons, List.not_mem_nil, false_imp_iff, implies_true, and_true]
  and_intros <;> exact fun _ _ _ _ _ _ => rfl

section
variable {s : State} {k op n : Nat} {sgn : Bool} {rd ra : Fin 32} {imm : BitVec 16} (may : s.dev.mayIssue k (wordI op rd ra imm))
include may

/-- An aligned load has the effect of the place that its address leads to. -/
theorem State.act_load_aligned {p : Place} {a : Nat} (addr : ((s.dev.ctx k).reg ra.val + imm.signExtend 64).toNat = a) (aligned : a % n = 0)
    (place : placeOf k a n false = p) (bad : Bool) :
    s.act (fun d => d.load k op n sgn rd ra imm bad) = .next (s.withDev ((s.dev.countIssue k).loadAt k p a n rd sgn bad)) := by
  refine State.act_run may (.inl rfl) ?_
  simp only [Dev.gr_countIssue, immS, addr, place]
  exact if_neg (not_not_intro aligned)

theorem State.act_load_misaligned {a : Nat} (addr : ((s.dev.ctx k).reg ra.val + imm.signExtend 64).toNat = a) (skewed : a % n ≠ 0) (bad : Bool) :
    s.act (fun d => d.load k op n sgn rd ra imm bad) = .next (s.withDev ((s.dev.countIssue k).raise k 4 a n)) := by
  refine State.act_run may (.inl rfl) ?_
  simp only [Dev.gr_countIssue, immS, addr]
  exact if_pos skewed

end

/-- Settles O6, by where the address leads. -/
theorem loadResult : Obligations.LoadResult := by
  unfold Obligations.LoadResult
  intro k rd ra imm s
  refine fun p row may => ⟨fun aligned lo hi => ?own, fun aligned thread lo hi => ?shared, fun skewed => ?misaligned,
    fun aligned lo hi => ?nowhere⟩
    <;> rw [exec_load p row]
  case own =>
    rw [State.act_load_aligned may rfl aligned (placeOf_local _ _ lo hi)]
    simp only [Dev.loadAt, Bool.false_and, Dev.ownRead_countIssue _ may.1, Dev.fixed_countIssue]
    rfl
  case shared =>
    rw [State.act_load_aligned may rfl aligned (placeOf_shared _ _ thread lo hi)]
    simp only [Dev.loadAt, Dev.threadRead_countIssue, Dev.vary_countIssue _ _ _ thread]
    rfl
  case misaligned => exact State.act_load_misaligned may rfl skewed false
  case nowhere => exact State.act_load_aligned may rfl aligned (placeOf_none _ _ lo hi) false

/-! ### Stores (R270) -/

theorem exec_store : ∀ p ∈ storeTable, ∀ (k : Nat) (rb ra : Fin 32) (imm : BitVec 16) (s : State),
    exec (p.1 k rb ra imm) s = s.act (fun d => d.put k p.2.1 p.2.2 rb ra imm) := by
  simp only [storeTable, List.forall_mem_cons, List.not_mem_nil, false_imp_iff, implies_true, and_true]
  and_intros <;> exact fun _ _ _ _ _ => rfl

theorem Dev.ctx_ownWrite (s : Dev) (k off j : Nat) (bs : List Byte) : (s.ownWrite k off bs).ctx j = s.ctx j := by
  unfold Dev.ownWrite; split <;> rfl

theorem Dev.threadWrite_now {s : Dev} {k : Nat} (outside : (s.ctx k).step = none) (off : Nat) (bs : List Byte) :
    s.threadWrite k off bs = some (s.sharedWrite (k / 256) off bs) := by simp [Dev.threadWrite, outside]

/-- A store of a thread to its cluster's memory, and its result to wait for. -/
theorem Dev.vary_sharedWrite (s : Dev) {k : Nat} (thread : k ≠ 2048) (c off : Nat) (bs : List Byte) (r : Res) :
    ((s.countIssue k).sharedWrite c off bs).vary k r = ((s.countIssue k).sharedWrite c off bs).setCtx k ((s.ctx k).awaits r) := by
  have same : ((s.countIssue k).sharedWrite c off bs).ctx k = s.ctx k := Dev.ctx_countIssue s k k
  rw [Dev.vary, if_neg thread, same, Ctx.awaits]

section
variable {s : State} {k op n : Nat} {rb ra : Fin 32} {imm : BitVec 16} {a : Nat} (may : s.dev.mayIssue k (wordI op rb ra imm))
  (addr : ((s.dev.ctx k).reg ra.val + imm.signExtend 64).toNat = a) (allowed : ¬ ((s.dev.ctx k).step.isSome = true ∧ a < hbmSize))
include may addr allowed

theorem State.act_put_aligned {p : Place} (aligned : a % n = 0) (place : placeOf k a n true = p) :
    s.act (fun d => d.put k op n rb ra imm) = .next (s.withDev ((s.dev.countIssue k).storeAt k p a n
      (((s.dev.ctx k).reg rb.val).toNat % 256 ^ n))) := by
  refine State.act_run may (.inl rfl) ?_
  simp only [Dev.gr_countIssue, immS, addr, place, Dev.inStep, Dev.ctx_countIssue]
  rw [if_neg allowed, if_neg (not_not_intro aligned)]

theorem State.act_put_misaligned (skewed : a % n ≠ 0) :
    s.act (fun d => d.put k op n rb ra imm) = .next (s.withDev ((s.dev.countIssue k).raise k 4 a n)) := by
  refine State.act_run may (.inl rfl) ?_
  simp only [Dev.gr_countIssue, immS, addr, Dev.inStep, Dev.ctx_countIssue]
  rw [if_neg allowed, if_pos skewed]

end

/-- Settles O7, by where the address leads. -/
theorem storeResult : Obligations.StoreResult := by
  unfold Obligations.StoreResult
  intro k rb ra imm s
  refine fun p row may => ⟨fun aligned lo hi => ?own, fun aligned outside thread lo hi => ?shared, fun skewed outside => ?misaligned⟩
    <;> rw [exec_store p row]
  case own =>
    rw [State.act_put_aligned may rfl (fun h => absurd h.2 (by simp only [hbmSize]; omega)) aligned (placeOf_local _ _ lo hi)]
    simp only [Dev.storeAt, Dev.skip, Dev.ctx_ownWrite, Dev.ctx_countIssue]
    rfl
  case shared =>
    rw [State.act_put_aligned may rfl (by simp [outside]) aligned (placeOf_shared _ _ thread lo hi)]
    have write := Dev.threadWrite_now (s := s.dev.countIssue k) (k := k) (by rwa [Dev.ctx_countIssue])
    simp only [Dev.storeAt, write, Dev.vary_sharedWrite _ thread]
    rfl
  case misaligned => exact State.act_put_misaligned may rfl (by simp [outside]) skewed

/-! ### Atomics (R273) -/

theorem exec_amo : ∀ p ∈ amoTable, ∀ (k : Nat) (rd ra rb : Fin 32) (bad : Bool) (s : State),
    exec (p.1 k rd ra rb bad) s = s.act (fun d => d.amo k p.2.1 rd ra rb bad p.2.2) := by
  simp only [amoTable, ← BitVec.slt_iff_toInt_lt, ← BitVec.ult_iff_toNat_lt, List.forall_mem_cons, List.not_mem_nil, false_imp_iff,
    implies_true, and_true]
  and_intros <;> exact fun _ _ _ _ _ _ => rfl

/-- The end of an atomic on a core's own memory: RD takes the old value, and F what the atomic tells. -/
theorem Dev.atomDone_local (s : Dev) (k : Nat) (rd : Fin 32) (old : Word) (f : Option Bool) :
    s.atomDone k true rd old f = s.setCtx k { (s.ctx k).wrote rd old with f := f.getD ((s.ctx k).wrote rd old).f } := by
  simp only [Dev.atomDone, if_true, Ctx.setReg_pc]
  rfl

section
variable {s : State} {k w a : Nat} {legal : Bool} {rd ra : Fin 32} {f : Dev → Word → Option Word × Option Bool} {g : Option Bool}
  (may : s.dev.mayIssue k w) (good : legal = true)
  (addr : ((s.dev.ctx k).reg ra.val).toNat = a) (aligned : a % 8 = 0) (lo : localBase ≤ a) (hi : a < localBase + 0x40000)
include may good addr aligned lo hi

/-- An atomic on an aligned word of the core's own memory is not one that a step forbids, and it reaches that word. -/
theorem State.act_atom_local :
    s.act (fun d => d.atom k w legal rd ra false f) = .next (s.withDev
      ((s.dev.countIssue k).atomAt k (.loc (a - localBase)) a rd false (f (s.dev.countIssue k)))) := by
  subst good
  have allowed : ¬ ((s.dev.countIssue k).inStep k = true ∧ (a < hbmSize ∨ (sharedBase ≤ a ∧ a < sharedBase + 0x800000))) := by
    simp only [localBase] at lo hi
    simp only [hbmSize, sharedBase]
    omega
  refine State.act_run may (.inl rfl) ?_
  simp only [Dev.gr_countIssue, addr]
  rw [if_neg allowed, if_neg (not_not_intro aligned), placeOf_local 8 true lo hi]

theorem State.act_atom_writes {old v : Word} (was : BitVec.ofNat 64 (leNat (s.dev.ownRead k (a - localBase) 8)) = old)
    (effect : f (s.dev.countIssue k) old = (some v, g)) :
    s.act (fun d => d.atom k w legal rd ra false f) = .next (s.withDev
      (((s.dev.countIssue k).ownWrite k (a - localBase) (leBytes 8 v.toNat)).setCtx k
        { (s.dev.ctx k).wrote rd old with f := g.getD ((s.dev.ctx k).wrote rd old).f })) := by
  rw [State.act_atom_local may good addr aligned lo hi]
  simp only [Dev.atomAt, Dev.ownRead_countIssue _ may.1, was, effect, Bool.false_and, Bool.false_eq_true, if_false, Dev.atomDone_local,
    Dev.ctx_ownWrite, Dev.ctx_countIssue]

theorem State.act_atom_keeps {old : Word} (was : BitVec.ofNat 64 (leNat (s.dev.ownRead k (a - localBase) 8)) = old)
    (effect : f (s.dev.countIssue k) old = (none, g)) :
    s.act (fun d => d.atom k w legal rd ra false f) = .next (s.withDev ((s.dev.countIssue k).setCtx k
      { (s.dev.ctx k).wrote rd old with f := g.getD ((s.dev.ctx k).wrote rd old).f })) := by
  rw [State.act_atom_local may good addr aligned lo hi]
  simp only [Dev.atomAt, Dev.ownRead_countIssue _ may.1, was, effect, Bool.false_and, Bool.false_eq_true, if_false, Dev.atomDone_local,
    Dev.ctx_countIssue]

end

/-- Settles O9: AMO always writes, CAS where the old value is that of RD. -/
theorem atomicResult : Obligations.AtomicResult := by
  unfold Obligations.AtomicResult
  intro k rd ra rb s x a off old d aligned lo hi
  refine ⟨fun p row may => ?amo, fun may => ⟨fun same => ?swaps, fun differs => ?keeps⟩⟩
  case amo =>
    rw [exec_amo p row]
    refine State.act_atom_writes (g := none) may rfl rfl aligned lo hi rfl ?_
    rw [Dev.gr_countIssue]
  case swaps =>
    refine show execCas k rd ra rb 0 false s = _ from State.act_atom_writes (g := some false) may rfl rfl aligned lo hi rfl ?_
    simp only [Dev.gr_countIssue]
    exact if_pos same
  case keeps =>
    refine show execCas k rd ra rb 0 false s = _ from State.act_atom_keeps (g := some true) may rfl rfl aligned lo hi rfl ?_
    simp only [Dev.gr_countIssue]
    exact if_neg differs

/-! ### The key vector (R275, R276) -/

/-- Settles O10, by whether the field ends within the key vector, and by the fields that must be g0. -/
theorem keyVectorBits : Obligations.KeyVectorBits := by
  unfold Obligations.KeyVectorBits
  intro k rd ra kbit w s thread
  refine ⟨fun may => ⟨fun inside => ?xtr, fun beyond => ?xtrRange⟩, fun may => ⟨fun inside => ?ins, fun beyond => ?insRange⟩,
    fun used may => State.act_bad may (decide_val_eq_zero_of_ne used), fun used may => State.act_bad may (decide_val_eq_zero_of_ne used),
    fun may => ?kvclr⟩
  case xtr =>
    have width : kbit.toNat + w.toNat + 1 - kbit.toNat = w.toNat + 1 := by omega
    refine State.act_run may (.inr thread) ((if_neg (Nat.not_lt.2 inside)).trans ?_)
    rw [Dev.fixed_countIssue, Dev.ctx_countIssue, bits, width]
  case xtrRange => exact State.act_run may (.inr thread) (if_pos beyond)
  case ins =>
    refine State.act_run may (.inr thread) ((if_neg (Nat.not_lt.2 inside)).trans ?_)
    simp only [Dev.setCtx_skip, Dev.ctx_countIssue, Dev.gr_countIssue]
    rfl
  case insRange => exact State.act_run may (.inr thread) (if_pos beyond)
  case kvclr =>
    refine State.act_run may (.inr thread) ?_
    simp only [Dev.setCtx_skip, Dev.ctx_countIssue]
    rfl

section
variable {s : Dev} {k : Nat} {h : Word}

/-- An instruction on a handle of a frame that the thread owns. -/
theorem Dev.withHandle_owned {f : Nat} (owned : s.handleFrame k h = some f) (body : Nat → Dev) :
    (s.countIssue k).withHandle k h body = body f := by
  simp only [Dev.withHandle, Dev.handleFrame_countIssue, owned]

theorem Dev.withHandle_bad (bad : s.handleFrame k h = none) (body : Nat → Dev) :
    (s.countIssue k).withHandle k h body = (s.countIssue k).raise k 9 0 (h.toNat % 2 ^ 32) := by
  simp only [Dev.withHandle, Dev.handleFrame_countIssue, bad]

end

/-- Settles O11, by whether the thread owns a frame of that handle. -/
theorem keyVectorMemory : Obligations.KeyVectorMemory := by
  unfold Obligations.KeyVectorMemory
  intro k ra s thread
  refine ⟨fun may => ⟨fun f owned => ⟨?kvld, ?parity⟩, fun bad _ => ?kvldBad⟩,
    fun may => ⟨fun f owned outside => ?kvst, fun bad => ?kvstBad⟩⟩
    <;> refine State.act_run may (.inr thread) ?_ <;> rw [Dev.gr_countIssue]
  case kvld =>
    rw [Dev.withHandle_owned owned]
    simp only [Dev.blocksOf_countIssue, Dev.threadRead_countIssue, Bool.false_eq_true, if_false]
    exact Dev.vary_countIssue _ _ _ thread
  case parity =>
    rw [Dev.withHandle_owned owned]
    simp only [Dev.blocksOf_countIssue, if_true]
    rfl
  case kvldBad => exact Dev.withHandle_bad bad _
  case kvst =>
    rw [Dev.withHandle_owned owned]
    simp only [Dev.threadWrite_now (s := s.dev.countIssue k) (k := k) (by rwa [Dev.ctx_countIssue]), Dev.blocksOf_countIssue, Dev.ctx_countIssue]
    exact Dev.vary_sharedWrite _ thread _ _ _ _
  case kvstBad => exact Dev.withHandle_bad bad _

/-! ### CRC and FENCE (R278, R289) -/

/-- In Basecamp a FENCE ends at once (R292). -/
theorem Dev.fence_basecamp {s : Dev} (noHalt : (s.ctx 2048).haltDue = false) (noQuiesce : (s.ctx 2048).byQuiesce = false) :
    (s.countIssue 2048).vary 2048 { resOf [] none with fence := true } =
      s.afterIssue 2048 { s.ctx 2048 with st := 1, res := none, pc := (s.ctx 2048).pc + 4 } := by
  have once : (s.countIssue 2048).arrive 2048 false = s.countIssue 2048 := rfl
  have goesOn : ¬ ((s.ctx 2048).haltDue = true ∨ (s.ctx 2048).byQuiesce = true ∧ (s.ctx 2048).step.isNone = true) := by
    simp [noHalt, noQuiesce]
  simp only [Dev.vary, if_true, Dev.takeResult, resOf, once, Dev.ctx_countIssue, if_neg goesOn, List.foldl_nil]
  rfl

/-- Settles O12: CRC is of fixed latency; FENCE by where its result goes. -/
theorem crcAndFence : Obligations.CrcAndFence := by
  unfold Obligations.CrcAndFence
  refine fun k rd ra rb fn s => ⟨fun small may => ?crc, fun may => ⟨fun thread => ?thread, fun basecamp noHalt noQuiesce => ?basecamp⟩⟩
  case crc =>
    refine (State.act_fixed may (decide_eq_true (Nat.div_eq_of_lt small))).trans ?_
    simp only [Dev.gr_countIssue]
    rfl
  case thread => exact State.act_run may (.inl rfl) (Dev.vary_countIssue _ _ _ thread)
  case basecamp =>
    subst basecamp
    exact State.act_run may (.inl rfl) (Dev.fence_basecamp noHalt noQuiesce)

/-! ### NEXTHOP lookups (R277) -/

section
variable {k : Nat} {rd ra : Fin 32} {s : State} (may : s.dev.mayIssue k (wordR 0x33 rd ra 0 7)) (thread : k ≠ 2048) (lo : 1 ≤ rd.val)
  (hi : rd.val ≤ 28)
include may thread lo hi

/-- A NEXTHOP lookup reads the current epoch; its key is the index in RA. -/
theorem exec_lkpNexthop :
    let i := ((s.dev.ctx k).reg ra.val).toNat
    let d := s.dev.countIssue k
    exec (.lkp k rd ra 0 7 false) s = .next (s.withDev
      (if i = 0 ∨ 262144 ≤ i then d.raise k 0x0E 0 (i % 2 ^ 32) else d.lookFor k 7 s.dev.epc.cur i rd false)) := by
  have good : (decide (7 / 32 = 0) && decide (7 % 16 < 8) && decide (1 ≤ rd.val) && decide (rd.val ≤ 28) && true && true) = true := by
    simp [lo, hi]
  have epoch : (s.dev.countIssue k).lkpEpoch k false = some s.dev.epc.cur := by simp [Dev.lkpEpoch]
  refine show execLkp k rd ra 0 7 false s = _ from State.act_legal may good (.inr thread) ?_
  rw [show bit (7 : BitVec 11).toNat 4 = false from rfl]
  simp only [epoch, Dev.gr_countIssue]
  exact (if_neg (fun h => absurd h.1 (by decide))).trans (by simp)

end

/-- A NEXTHOP lookup of a good entry returns what it holds. -/
theorem Dev.lookFor_nexthop_hit {s : Dev} {k epoch i : Nat} (rd : Fin 32) (thread : k ≠ 2048)
    (valid : tblValid 3 ((s.entry 3 i).at epoch) = true) (sound : (s.entry 3 i).bad = false) :
    let v := (s.entry 3 i).at epoch
    (s.countIssue k).lookFor k 7 epoch i rd false = s.afterIssue k ((s.ctx k).awaits (resOf
      [(rd.val, BitVec.ofNat 64 (bits v 63 0)), (rd.val + 1, BitVec.ofNat 64 (bits v 127 64)),
       (rd.val + 2, BitVec.ofNat 64 (bits v 191 128)), (rd.val + 3, BitVec.ofNat 64 (bits v 255 192))] (some false))) := by
  have found : (s.countIssue k).lkpFind 7 (s.ctx k).kv epoch i = some (i, (s.entry 3 i).at epoch, false) := by
    simp [Dev.lkpFind, Dev.entry_countIssue, valid, sound]
  simp only [Dev.lookFor, Dev.ctx_countIssue, found]
  exact Dev.vary_countIssue _ _ _ thread

theorem Dev.lookFor_nexthop_miss {s : Dev} {k epoch i : Nat} (rd : Fin 32) (thread : k ≠ 2048)
    (invalid : tblValid 3 ((s.entry 3 i).at epoch) = false) :
    (s.countIssue k).lookFor k 7 epoch i rd false = s.afterIssue k ((s.ctx k).awaits (resOf
      [(rd.val, 0), (rd.val + 1, 0), (rd.val + 2, 0), (rd.val + 3, 0)] (some true))) := by
  have found : (s.countIssue k).lkpFind 7 (s.ctx k).kv epoch i = none := by simp [Dev.lkpFind, Dev.entry_countIssue, invalid]
  simp only [Dev.lookFor, Dev.ctx_countIssue, found]
  exact Dev.vary_countIssue _ _ _ thread

/-- Settles O13, by whether the index lies in the table and the entry is valid. -/
theorem lookupResult : Obligations.LookupResult := by
  unfold Obligations.LookupResult
  refine fun k rd ra s may thread lo hi => ⟨fun pos top valid sound => ?hit, fun pos top invalid => ?miss, fun outside => ?badIndex⟩
    <;> rw [exec_lkpNexthop may thread lo hi]
  case hit => rw [if_neg (by omega), Dev.lookFor_nexthop_hit rd thread valid sound]
  case miss => rw [if_neg (by omega), Dev.lookFor_nexthop_miss rd thread invalid]
  case badIndex => rw [if_pos outside]

/-! ### Counters (R279) -/

/-- An effect that takes place outside a step is not held. -/
theorem Dev.holdOr_now {s : Dev} {k : Nat} (outside : (s.ctx k).step = none) (h : Held) (now next : Dev → Dev) :
    (s.countIssue k).holdOr k h now next = next (now (s.countIssue k)) := if_neg (by simp [Dev.inStep, outside])

theorem Dev.pair_countIssue (s : Dev) (k i : Nat) : (s.countIssue k).pair i = s.pair i := by simp [Dev.pair, Dev.entry_countIssue]

theorem Dev.ctrAdd_eq (s : Dev) (i p b : Nat) : ∃ e, s.ctrAdd i p b = s.setEntry 5 i e := ⟨_, by unfold Dev.ctrAdd; rfl⟩

theorem Dev.ctx_ctrAdd (s : Dev) (i p b k : Nat) : (s.ctrAdd i p b).ctx k = s.ctx k := by
  obtain ⟨e, added⟩ := s.ctrAdd_eq i p b; rw [added]; rfl

theorem Dev.ctrAdd_mem (s : Dev) (i p b : Nat) : (s.ctrAdd i p b).mem = s.mem := by
  obtain ⟨e, added⟩ := s.ctrAdd_eq i p b; rw [added]; rfl

theorem Dev.skip_mem (s : Dev) (k : Nat) : (s.skip k).mem = s.mem := rfl

theorem Dev.pair_skip (s : Dev) (k i : Nat) : (s.skip k).pair i = s.pair i := rfl

theorem Dev.ctx_skip_same (s : Dev) (k : Nat) : (s.skip k).ctx k = { s.ctx k with pc := (s.ctx k).pc + 4 } := Dev.ctx_setCtx_same ..

section
variable {s : State} {k fn i n : Nat} {ra rb : Fin 32} (one : Nat) (may : s.dev.mayIssue k (wordR 0x35 0 ra rb fn))
  (outside : (s.dev.ctx k).step = none) (index : ((s.dev.ctx k).reg ra.val).toNat = i) (count : ((s.dev.ctx k).reg rb.val).toNat = n)
  (inside : i < 4194304)
include may outside index count inside

/-- CTRADD outside a step adds to its counter pair, and the thread goes on. -/
theorem State.act_addPair : s.act (fun d => d.addPair k 0 ra rb fn one) = .next (s.withDev (((s.dev.countIssue k).ctrAdd i one n).skip k)) := by
  refine State.act_run may (.inl rfl) ?_
  simp only [Dev.gr_countIssue, index, count]
  rw [if_neg (Nat.not_le.2 inside), Dev.holdOr_now outside]

/-- What CTRADD leaves: only the one pair and the PC are new. -/
theorem State.act_addPair_frame :
    ∃ d, s.act (fun d => d.addPair k 0 ra rb fn one) = .next (s.withDev d) ∧ d.ctx k = { s.dev.ctx k with pc := (s.dev.ctx k).pc + 4 } ∧
      d.mem = s.dev.mem ∧
      d.pair i = (bits (s.dev.pair i) 63 0 + one) % 2 ^ 64 + (bits (s.dev.pair i) 127 64 + n) % 2 ^ 64 * 2 ^ 64 ∧
      ∀ j, j < 4194304 → j ≠ i → d.pair j = s.dev.pair j := by
  refine ⟨_, State.act_addPair one may outside index count inside, ?_, ?_, ?_, fun j hj other => ?_⟩
  · rw [Dev.ctx_skip_same, Dev.ctx_ctrAdd, Dev.ctx_countIssue]
  · rw [Dev.skip_mem, Dev.ctrAdd_mem, Dev.countIssue_mem]
  · rw [Dev.pair_skip, Dev.pair_ctrAdd _ _ _ _ _ (by omega) (by omega), if_pos rfl, Dev.pair_countIssue]
  · rw [Dev.pair_skip, Dev.pair_ctrAdd _ _ _ _ _ (by omega) (by omega), if_neg other, Dev.pair_countIssue]

end

/-- Settles O14: the form with the packet and the form without. -/
theorem counterResult : Obligations.CounterResult := by
  unfold Obligations.CounterResult
  refine fun k ra rb s outside inside => ⟨fun may => ?packet, fun may => ?bytes⟩
  case packet => exact State.act_addPair_frame 1 may outside rfl rfl inside
  case bytes =>
    have whole (v : Nat) : (bits v 63 0 + 0) % 2 ^ 64 = bits v 63 0 := by simp [bits]
    have added := State.act_addPair_frame 0 may outside rfl rfl inside
    rw [whole] at added
    exact added

/-! ### Frames (R247, R280) -/

/-- A variable-latency instruction of a thread leaves its result to wait for. -/
theorem Dev.vary_thread (s : Dev) {k : Nat} (thread : k ≠ 2048) (r : Res) : s.vary k r = s.setCtx k ((s.ctx k).awaits r) := by
  rw [Dev.vary, if_neg thread, Ctx.awaits]

section
variable {s : State} {k : Nat} {rd : Fin 32}

theorem Dev.ctx_moveFrame (s : Dev) (f : Nat) (x : Frame) (l : FrameLoc) (k : Nat) : (s.moveFrame f x l).ctx k = s.ctx k := by
  simp [Dev.ctx]

/-- A frame that a thread takes outside a step is the thread's, and its handle the result. -/
theorem Dev.takeFrame_outside {s : Dev} {k : Nat} (rd : Fin 32) (f : Nat) (x : Frame) (thread : k ≠ 2048) (outside : (s.ctx k).step = none) :
    (s.countIssue k).takeFrame k rd f x = ((s.countIssue k).moveFrame f x (.thread (k / 256) (k % 256))).setCtx k
      ((s.ctx k).awaits (resOf [(rd.val, BitVec.ofNat 64 ((s.countIssue k).blocksOf f).1)] (some false))) := by
  simp only [Dev.takeFrame, Dev.ctx_moveFrame, Dev.ctx_countIssue, outside, Dev.vary_thread _ thread]

/-- A take or an allocation that fails is counted. -/
theorem Dev.bump_noFrame (s : Dev) {k : Nat} (rd : Fin 32) (r : Reg) (i : Nat) (thread : k ≠ 2048) :
    ((s.countIssue k).bump r i).noFrame k rd = ((s.countIssue k).bump r i).setCtx k
      ((s.ctx k).awaits (resOf [(rd.val, 0)] (some true))) := by
  rw [Dev.noFrame, Dev.vary_thread _ thread, Dev.ctx_bump, Dev.ctx_countIssue]

/-- PTAKE outside a step takes a new frame. -/
theorem exec_ptake (may : s.dev.mayIssue k (wordR 0x36 rd 0 0 0)) (thread : k ≠ 2048) (outside : (s.dev.ctx k).step = none) :
    exec (.ptake k rd 0 0) s = .next (s.withDev ((s.dev.countIssue k).takeNew k rd)) := by
  refine show execPtake k rd 0 0 s = _ from State.act_run may (.inr thread) ?_
  simp only [Dev.ctx_countIssue, outside]

theorem Dev.takeNew_empty {s : Dev} {k : Nat} (thread : k ≠ 2048) (empty : s.puntQueue (k / 256) (k % 256 / 8) = []) (rd : Fin 32) :
    (s.countIssue k).takeNew k rd = s.afterIssue k ((s.ctx k).awaits (resOf [(rd.val, 0)] (some true))) := by
  simp only [Dev.takeNew, Dev.puntQueue_countIssue, empty]
  exact Dev.vary_countIssue _ _ _ thread

section
variable {d : Dev} {f : Nat} {y : Frame} {l : List (Nat × Frame)} (rd : Fin 32)
  (head : d.puntQueue (k / 256) (k % 256 / 8) = (f, y) :: l)
include head

theorem Dev.takeNew_takes (outside : (d.ctx k).step = none)
    (room : (d.countIssue k).blocksOk (k / 256) (k % 256) ((d.countIssue k).blocksOf f).2 = true) :
    (d.countIssue k).takeNew k rd = (d.countIssue k).takeFrame k rd f y := by
  simp only [Dev.takeNew, Dev.puntQueue_countIssue, head, room, Dev.ctx_countIssue, outside]
  rfl

theorem Dev.takeNew_barred (full : (d.countIssue k).blocksOk (k / 256) (k % 256) ((d.countIssue k).blocksOf f).2 = false) :
    (d.countIssue k).takeNew k rd = ((d.countIssue k).bump .DOR_BUF_FAILS (k / 256)).noFrame k rd := by
  simp only [Dev.takeNew, Dev.puntQueue_countIssue, head, full, if_true]

end

end

/-- An effect on a frame of the thread outside a step is made at once, and its result is to wait for. -/
theorem Dev.holdOr_frame {s : Dev} {k : Nat} (outside : (s.ctx k).step = none) (f : Nat) (h : Held) (now : Dev → Dev) :
    (s.countIssue k).holdOr k h now (fun t => (if (s.countIssue k).inStep k then t.stepHold k f else t).vary k (resOf [] none)) =
      (now (s.countIssue k)).vary k (resOf [] none) := by
  rw [Dev.holdOr_now outside, if_neg (by simp [Dev.inStep, outside])]

/-- Settles O15: PTAKE by whether a frame waits and the thread may gain its blocks; the returns of a frame that the thread owns. -/
theorem frameResult : Obligations.FrameResult := by
  unfold Obligations.FrameResult
  intro k rd ra rb s thread outside
  refine ⟨fun may => ⟨fun f y l head => ⟨fun room => ?takes, fun full => ?barred⟩, fun empty => ?empty⟩,
    fun f owned => ⟨fun may => ?pret, fun may => ?pretEnd, fun may => ?pfree⟩⟩
  case takes => rw [exec_ptake may thread outside, Dev.takeNew_takes rd head outside room, Dev.takeFrame_outside rd f y thread outside]
  case barred => rw [exec_ptake may thread outside, Dev.takeNew_barred rd head full, Dev.bump_noFrame _ _ _ _ thread]
  case empty => rw [exec_ptake may thread outside, Dev.takeNew_empty thread empty]
  all_goals
    refine State.act_run may (.inr thread) ?_
    simp only [Dev.gr_countIssue]
    rw [Dev.withHandle_owned owned, Dev.holdOr_frame outside]

theorem Dev.blockRun_countIssue (s : Dev) {k c : Nat} (n : Nat) (context : k ≤ 2048) (cluster : c < 2 ^ 24) :
    (s.countIssue k).blockRun c n = s.blockRun c n := by
  have config := s.rd_countIssue (q := .DOR_BUF_CFG) context cluster (by decide)
  unfold Dev.blockRun Dev.fld
  rw [config, Dev.countIssue_blocks]

section
variable {k : Nat} {rd ra : Fin 32} {s : State} (may : s.dev.mayIssue k (wordR 0x36 rd ra 0 4)) (thread : k ≠ 2048)
include may thread

theorem exec_balloc_badCount (wrong : ((s.dev.ctx k).reg ra.val).toNat = 0 ∨ 64 < ((s.dev.ctx k).reg ra.val).toNat) :
    exec (.balloc k rd ra 0) s = .next (s.withDev ((s.dev.countIssue k).raise k 0x0E 0 (((s.dev.ctx k).reg ra.val).toNat % 2 ^ 32))) := by
  refine show execBalloc k rd ra 0 s = _ from State.act_run may (.inr thread) ?_
  simp only [Dev.gr_countIssue]
  exact if_pos wrong

section
variable {n : Nat} (count : ((s.dev.ctx k).reg ra.val).toNat = n) (lo : 1 ≤ n) (hi : n ≤ 64)
include count lo hi

/-- BALLOC where enough blocks are free, by whether the thread may gain them. -/
theorem exec_balloc_found {bs : List Nat} (run : s.dev.blockRun (k / 256) n = some bs) :
    let d := s.dev.countIssue k
    exec (.balloc k rd ra 0) s = .next (s.withDev (if d.blocksOk (k / 256) (k % 256) n then d.allocFrame k rd bs
      else (d.bump .DOR_BUF_FAILS (k / 256)).noFrame k rd)) := by
  have context := may.1
  refine show execBalloc k rd ra 0 s = _ from State.act_run may (.inr thread) ?_
  simp only [Dev.gr_countIssue, count, Dev.blockRun_countIssue _ _ context (by omega : k / 256 < 2 ^ 24), run]
  rw [if_neg (by omega)]

theorem exec_balloc_tooFew (run : s.dev.blockRun (k / 256) n = none) : exec (.balloc k rd ra 0) s =
    .next (s.withDev (((s.dev.countIssue k).bump .DOR_BUF_FAILS (k / 256)).noFrame k rd)) := by
  have context := may.1
  refine show execBalloc k rd ra 0 s = _ from State.act_run may (.inr thread) ?_
  simp only [Dev.gr_countIssue, count, Dev.blockRun_countIssue _ _ context (by omega : k / 256 < 2 ^ 24), run]
  rw [if_neg (by omega)]

end

end

/-- Settles O16, by the count, the free blocks, and whether the thread may gain them. -/
theorem ballocResult : Obligations.BallocResult := by
  unfold Obligations.BallocResult
  refine fun k rd ra s may thread => ⟨fun bs lo hi run => ⟨fun room => ?grants, fun full => ?barred⟩, fun lo hi short => ?tooFew,
    exec_balloc_badCount may thread⟩
  case grants => rw [exec_balloc_found may thread rfl lo hi run, if_pos room]
  case barred => rw [exec_balloc_found may thread rfl lo hi run, if_neg (ne_true_of_eq_false full), Dev.bump_noFrame _ _ _ _ thread]
  case tooFew => rw [exec_balloc_tooFew may thread rfl lo hi short, Dev.bump_noFrame _ _ _ _ thread]

/-! ### Forks (R242, R243, R265, R282) -/

theorem exec_fork : ∀ p ∈ [(Instr.fork, 0, false), (.forkD, 1, true)], ∀ (k : Nat) (rd ra rb : Fin 32) (s : State),
    exec (p.1 k rd ra rb) s = s.act (fun d => d.fork k rd ra rb p.2.1 p.2.2) := by
  simp only [List.forall_mem_cons, List.not_mem_nil, false_imp_iff, implies_true, and_true]
  and_intros <;> exact fun _ _ _ _ _ => rfl

theorem exec_forkw : ∀ p ∈ [(Instr.forkw, 2, false), (.forkwD, 3, true)], ∀ (k : Nat) (rd ra rb : Fin 32) (s : State),
    exec (p.1 k rd ra rb) s = s.act (fun d => d.forkw k rd ra rb p.2.1 p.2.2) := by
  simp only [List.forall_mem_cons, List.not_mem_nil, false_imp_iff, implies_true, and_true]
  and_intros <;> exact fun _ _ _ _ _ => rfl

/-- Every fork looks at its start PC first. -/
theorem exec_forkAt : ∀ p ∈ [(Instr.fork, 0), (.forkD, 1), (.forkw, 2), (.forkwD, 3)], ∀ (k : Nat) (rd ra rb : Fin 32),
    ∃ started : Dev → Dev, ∀ s : State, exec (p.1 k rd ra rb) s = s.act (fun d => d.run k (wordR 0x38 rd ra rb p.2) true false
      (fun d => d.forkAt k (wordR 0x38 rd ra rb p.2) (d.gr k ra) (started d))) := by
  simp only [List.forall_mem_cons, List.not_mem_nil, false_imp_iff, implies_true, and_true]
  and_intros <;> exact fun _ _ _ _ => ⟨_, fun _ => rfl⟩

section
variable {s : Dev} {k : Nat} {pc : Word}

theorem Dev.noStep_outside (outside : (s.ctx k).step = none) (word : Nat) (body : Dev) :
    (s.countIssue k).noStep k word body = body := if_neg (by simp [Dev.inStep, outside])

theorem Dev.noStep_inside (inside : (s.ctx k).step.isSome = true) (word : Nat) (body : Dev) :
    (s.countIssue k).noStep k word body = (s.countIssue k).raise k 0x41 0 word := if_pos (by simpa [Dev.inStep] using inside)

theorem Dev.forkAt_outside (start : pcOk k pc.toNat = true) (outside : (s.ctx k).step = none) (word : Nat) (body : Dev) :
    (s.countIssue k).forkAt k word pc body = body :=
  (if_neg (by simp [start])).trans (Dev.noStep_outside outside word body)

theorem Dev.forkAt_inside (start : pcOk k pc.toNat = true) (inside : (s.ctx k).step.isSome = true) (word : Nat) (body : Dev) :
    (s.countIssue k).forkAt k word pc body = (s.countIssue k).raise k 0x41 0 word :=
  (if_neg (by simp [start])).trans (Dev.noStep_inside inside word body)

theorem Dev.forkAt_bad (start : pcOk k pc.toNat = false) (word : Nat) (body : Dev) :
    s.forkAt k word pc body = s.raise k 3 pc.toNat 0 := if_pos start

end

/-- A thread that begins to wait stays at its PC. -/
theorem Dev.await_countIssue (s : Dev) (k : Nat) (w : Wait) :
    (s.countIssue k).await k w = s.afterIssue k { s.ctx k with st := 3, wait := some w } := by
  rw [Dev.await, Dev.ctx_countIssue, Dev.afterIssue]

/-- Settles O17, by the start PC, the open step, and whether a context is free for the child. -/
theorem forkResult : Obligations.ForkResult := by
  unfold Obligations.ForkResult
  intro k rd ra rb s thread
  refine ⟨fun t start outside free => ⟨fun p row may => ?fork, fun p row may => ?forkw⟩,
    fun start outside full => ⟨fun p row may => ?fails, fun p row may => ?waits⟩,
    fun p row may => ⟨fun bad => ?badStart, fun start inside => ?inStep⟩⟩
  case fork =>
    rw [exec_fork p row]
    refine State.act_run may (.inr thread) ?_
    simp only [Dev.gr_countIssue, free]
    exact Dev.forkAt_outside start outside _ _
  case forkw =>
    rw [exec_forkw p row]
    refine State.act_run may (.inr thread) ?_
    simp only [Dev.gr_countIssue, free]
    exact Dev.forkAt_outside start outside _ _
  case fails =>
    have detaches : ∃ detach, (p.1, p.2, detach) ∈ [(Instr.fork, 0, false), (.forkD, 1, true)] := by
      simpa only [List.mem_cons, List.not_mem_nil, or_false, Prod.ext_iff, exists_or, exists_and_left, exists_eq, and_true] using row
    obtain ⟨detach, row⟩ := detaches
    rw [exec_fork _ row]
    refine State.act_run may (.inr thread) ?_
    simp only [Dev.gr_countIssue, full]
    exact Dev.forkAt_outside start outside _ _
  case waits =>
    rw [exec_forkw p row]
    refine State.act_run may (.inr thread) ?_
    simp only [Dev.gr_countIssue, full, Dev.await_countIssue]
    exact Dev.forkAt_outside start outside _ _
  case badStart =>
    obtain ⟨started, run⟩ := exec_forkAt p row k rd ra rb
    rw [run]
    refine State.act_run may (.inr thread) ?_
    rw [Dev.gr_countIssue]
    exact Dev.forkAt_bad bad _ _
  case inStep =>
    obtain ⟨started, run⟩ := exec_forkAt p row k rd ra rb
    rw [run]
    refine State.act_run may (.inr thread) ?_
    rw [Dev.gr_countIssue]
    exact Dev.forkAt_inside start inside _ _

/-- The registers of a new thread: g1 and g2 as given, every other one 0 (R265). -/
theorem newThread_reg (pc arg g2 : Nat) (parent : Option Nat) (detached : Bool) (credits n : Nat) :
    (newThread pc arg g2 parent detached credits).reg n =
      if n = 2 then BitVec.ofNat 64 g2 else if n = 1 then BitVec.ofNat 64 arg else 0 := by
  have blank : Ctx.blank.reg n = 0 := by simp [Ctx.reg, Ctx.blank, Sparse.get, Sparse.get?]
  have one : n = 1 ∧ n ≠ 0 ↔ n = 1 := by omega
  have two : n = 2 ∧ n ≠ 0 ↔ n = 2 := by omega
  show ((Ctx.blank.setReg 1 (BitVec.ofNat 64 arg)).setReg 2 (BitVec.ofNat 64 g2)).reg n = _
  simp only [Ctx.reg_setReg, blank, one, two]

/-- Settles O18: the child's context is a new thread. -/
theorem forkedThread : Obligations.ForkedThread := by
  unfold Obligations.ForkedThread
  intro s k t pc arg detach _ fits y
  have child : y = newThread pc arg.toNat (k % 256) (some (k % 256)) detach (s.ctx (ctxKey (k / 256) t)).credits :=
    Dev.ctx_setCtx_same ..
  simp only [child, newThread_reg]
  refine ⟨rfl, Nat.mod_eq_of_lt fits, by simp, rfl, fun n one two => ?_, rfl, rfl, rfl, rfl, rfl, rfl⟩
  rw [if_neg two, if_neg one]

/-! ### JOIN and EXIT (R244, R252, R282) -/

/-- Settles O19, by whose child is joined and how it stands, and by whether the exiting thread is the supervisor. -/
theorem joinAndExit : Obligations.JoinAndExit := by
  unfold Obligations.JoinAndExit
  intro k rd ra s thread outside
  refine ⟨fun may => ⟨fun child exited => ?joins, fun child runs => ?waits, fun stranger => ?badJoin⟩,
    fun may => ⟨fun other => ?exits, fun supervisor cluster => ?faults⟩⟩
    <;> refine State.act_run may (by simp [thread]) ((Dev.noStep_outside outside _ _).trans ?_) <;> simp only [Dev.gr_countIssue]
  case joins => exact (if_neg (by simp [child])).trans (if_pos exited)
  case waits => exact (if_neg (by simp [child])).trans ((if_neg runs).trans (Dev.await_countIssue ..))
  case badJoin => exact if_pos stranger
  case exits => exact if_neg fun h => other h.2
  case faults => exact if_pos ⟨cluster, supervisor⟩

/-! ### WFE (R239, R283) -/

theorem Ctx.setReg_events (x : Ctx) (n : Nat) (v : Word) (e : Nat) :
    ({ x with events := e } : Ctx).setReg n v = { x.setReg n v with events := e } := by
  unfold Ctx.setReg; split <;> rfl

/-- An instruction that changes its own context but for STATE, then writes a register and ends. -/
theorem Dev.setCtx_fixed (s : Dev) (k : Nat) (x : Ctx) (rd : Fin 32) (v : Word) :
    (s.setCtx k x).fixed k rd v = s.setCtx k (x.wrote rd v) := by
  simp only [Dev.fixed, Dev.ctx_setCtx_same]
  rw [Ctx.setReg_pc]
  exact s.setCtx_setCtx k (y := x.wrote rd v) (Ctx.setReg_st ..).symm

section
variable {k : Nat} {rd : Fin 32} {imm : BitVec 16} {s : State} (may : s.dev.mayIssue k (wordI 0x39 rd 0 imm)) (thread : k ≠ 2048)
include may

theorem exec_wfe_illegal (wrong : imm = 0 ∨ 1024 ≤ imm.toNat) :
    exec (.wfe k rd 0 imm) s = .next (s.withDev ((s.dev.countIssue k).raise k 1 0 (wordI 0x39 rd 0 imm))) := by
  refine show execWfe k rd 0 imm s = _ from State.act_bad may ?_
  rcases wrong with rfl | high
  · rfl
  · have reserved : imm.toNat / 1024 ≠ 0 := by omega
    simp [reserved]

include thread

/-- A legal WFE returns the events of its mask that are pending, or waits for one. -/
theorem exec_wfe {got : Nat} (mask : imm ≠ 0) (small : imm.toNat < 1024)
    (pending : (s.dev.ctx k).events &&& (s.dev.countIssue k).waitMask k imm.toNat = got) :
    let x := s.dev.ctx k
    exec (.wfe k rd 0 imm) s = .next (s.withDev (if got = 0 then (s.dev.countIssue k).await k (.event rd.val imm.toNat)
      else ((s.dev.countIssue k).setCtx k { x with events := x.events &&& (0xFFFF - got) }).fixed k rd (BitVec.ofNat 64 got))) := by
  have bit : imm.toNat ≠ 0 := fun zero => mask (BitVec.eq_of_toNat_eq zero)
  have good : (true && decide (imm.toNat / 1024 = 0) && decide (imm.toNat ≠ 0)) = true := by
    simp only [Nat.div_eq_of_lt small, decide_eq_true bit, decide_true, Bool.and_self]
  refine show execWfe k rd 0 imm s = _ from State.act_legal may good (.inr thread) ?_
  simp only [Dev.ctx_countIssue, pending]

end

/-- Settles O21, by the mask and whether an event of it is pending. -/
theorem waitForEvent : Obligations.WaitForEvent := by
  unfold Obligations.WaitForEvent
  refine fun k rd imm s may thread => ⟨fun mask small pending => ?returns, fun mask small quiet => ?waits, exec_wfe_illegal may⟩
    <;> rw [exec_wfe may thread mask small rfl]
  case returns =>
    rw [if_neg pending, Dev.setCtx_fixed, Ctx.wrote, Ctx.setReg_events]
    rfl
  case waits => rw [if_pos quiet, Dev.await_countIssue]

/-! ### Steps (R254, R255, R284) -/

/-- A context that may issue is READY. -/
theorem Dev.mayIssue.st {s : Dev} {k word : Nat} (may : s.mayIssue k word) : (s.ctx k).st = 1 := by
  obtain ⟨-, ready, -⟩ := may
  simp only [Dev.ready, Bool.and_eq_true, decide_eq_true_eq] at ready
  obtain ⟨⟨⟨st, -⟩, -⟩, -⟩ := ready
  exact st

theorem Dev.setCtx_running {s : Dev} {k : Nat} (x : Ctx) (running : (s.ctx k).st ≠ 3) :
    s.setCtx k x = { s with dor := { s.dor with ctxs := Sparse.set (fun _ => Ctx.blank) s.dor.ctxs k x } } := by
  rw [Dev.setCtx, if_neg fun h => running h.1]

/-- Of two stores of a context that is not in EVENT_WAIT, nor is put into it by the first, the second stays. -/
theorem Dev.setCtx_setCtx_running {s : Dev} {k : Nat} {x : Ctx} (y : Ctx) (before : (s.ctx k).st ≠ 3) (between : x.st ≠ 3) :
    (s.setCtx k x).setCtx k y = s.setCtx k y := by
  rw [Dev.setCtx_running (s := s.setCtx k x) y (by rwa [Dev.ctx_setCtx_same]), Dev.setCtx_running x before, Dev.setCtx_running y before]
  simp only [Sparse.set_set]

/-- The record of a step that a context opens: it saves the registers and the PC after SBEGIN, and holds nothing (R254). -/
def StepRec.begun (x : Ctx) : StepRec :=
  { regs := x.regs, pc := x.pc + 4, lines := [], outs := [], takes := [], taken := 0, made := [] }

section
variable {k : Nat} {s : State} (thread : k ≠ 2048)
include thread

/-- SBEGIN outside a step opens one that saves the registers and the PC after it. -/
theorem exec_sbegin (may : s.dev.mayIssue k (wordR 0x3A 0 0 0 0)) (outside : (s.dev.ctx k).step = none) :
    let x := s.dev.ctx k
    exec (.sbegin k 0 0 0) s = .next (s.withDev (s.dev.afterIssue k (Ctx.awaits { x with step := some (.begun x) } (resOf [] none)))) := by
  have running : (s.dev.ctx k).st ≠ 3 := by rw [may.st]; decide
  refine show execSbegin k 0 0 0 s = _ from State.act_run may (.inr thread) ((Dev.noStep_outside outside _ _).trans ?_)
  simp only [Dev.vary_thread _ thread, Dev.ctx_setCtx_same, Dev.ctx_countIssue]
  exact Dev.setCtx_setCtx_running _ (by rwa [Dev.ctx_countIssue]) running

/-- SCOMMIT of an open step hands its record to the release engine. -/
theorem exec_scommit {r : StepRec} (may : s.dev.mayIssue k (wordR 0x3A 0 0 0 1)) (opened : (s.dev.ctx k).step = some r) :
    ∃ e, exec (.scommit k 0 0 0) s = .next (s.withDev e) ∧
      e.ctx k = Ctx.awaits { s.dev.ctx k with step := none } (resOf [] none) ∧ e.dor.releases = s.dev.dor.releases ++ [(k, r)] ∧
      e.mem = s.dev.mem := by
  let d := ((s.dev.countIssue k).setCtx k { s.dev.ctx k with step := none }).bump .DOR_STEPS_COMMITTED (k / 256)
  let e : Dev := { d with dor := { d.dor with releases := d.dor.releases ++ [(k, r)] } }
  have closed : e.ctx k = { s.dev.ctx k with step := none } := Dev.ctx_setCtx_same ..
  refine ⟨e.vary k (resOf [] none), show execScommit k 0 0 0 s = _ from State.act_run may (.inr thread) ?_, ?_, ?_, ?_⟩
  · simp only [Dev.ctx_countIssue, opened]
    rfl
  · rw [Dev.ctx_vary_same _ thread, closed]
  · rw [Dev.vary_thread _ thread]
    exact congrArg (· ++ [(k, r)]) (Dev.countIssue_releases ..)
  · rw [Dev.vary_mem _ thread]
    exact Dev.countIssue_mem ..

theorem exec_scommit_noStep (may : s.dev.mayIssue k (wordR 0x3A 0 0 0 1)) (outside : (s.dev.ctx k).step = none) :
    exec (.scommit k 0 0 0) s = .next (s.withDev ((s.dev.countIssue k).raise k 0x10 0 (wordR 0x3A 0 0 0 1))) := by
  refine show execScommit k 0 0 0 s = _ from State.act_run may (.inr thread) ?_
  simp only [Dev.ctx_countIssue, outside]

theorem exec_sabort (may : s.dev.mayIssue k (wordR 0x3A 0 0 0 2)) :
    exec (.sabort k 0 0 0) s = .next (s.withDev (if (s.dev.ctx k).step.isSome
      then ((s.dev.countIssue k).abortStep k).vary k (resOf [] none)
      else (s.dev.countIssue k).raise k 0x10 0 (wordR 0x3A 0 0 0 2))) := by
  refine show execSabort k 0 0 0 s = _ from State.act_run may (.inr thread) ?_
  rw [Dev.inStep, Dev.ctx_countIssue]

end

/-- Settles O22: each of the three by whether a step is open. -/
theorem stepInstructions : Obligations.StepInstructions := by
  unfold Obligations.StepInstructions
  refine fun k s thread => ⟨fun may => ⟨exec_sbegin thread may, fun inside => ?illegal⟩,
    fun may => ⟨fun r => exec_scommit thread may, exec_scommit_noStep thread may⟩,
    fun may => ⟨fun inside => ?aborts, fun outside => ?noStep⟩⟩
  case illegal => exact show execSbegin k 0 0 0 s = _ from State.act_run may (.inr thread) (Dev.noStep_inside inside _ _)
  case aborts => rw [exec_sabort thread may, if_pos inside]
  case noStep => rw [exec_sabort thread may, if_neg (by simp [outside])]

/-! ### SYS, WAIT and BRK (R285 to R287) -/

/-- SYS of a value that is no free one. -/
theorem exec_sys {k v : Nat} {rd : Fin 32} {fn : BitVec 11} {s : State} (may : s.dev.mayIssue k (wordR 0x3B rd 0 0 fn.toNat))
    (name : (decide (fn.toNat % 16 = 0) && decide (fn.toNat / 16 < 8) && true && true) = true)
    (value : (s.dev.countIssue k).sysValue k (fn.toNat / 16) = (v, s.dev.countIssue k)) :
    exec (.sys k rd 0 0 fn) s = .next (s.withDev (s.dev.afterIssue k ((s.dev.ctx k).wrote rd (BitVec.ofNat 64 v)))) := by
  refine show execSys k rd 0 0 fn s = _ from State.act_legal may name (.inl rfl) ?_
  simp only [value]
  exact Dev.fixed_countIssue ..

section
variable {k : Nat} {rd : Fin 32} {s : State} (may : s.dev.mayIssue k (wordR 0x3C rd 0 0 0)) (thread : k ≠ 2048)
include may thread

theorem exec_wait_privileged (other : (s.dev.countIssue k).supervisor (k / 256) ≠ k % 256) :
    exec (.wait k rd 0 0 0) s = .next (s.withDev ((s.dev.countIssue k).raise k 2 0 (wordR 0x3C rd 0 0 0))) :=
  show execWait k rd 0 0 0 s = _ from State.act_run may (.inl rfl) ((if_neg thread).trans (if_pos other))

theorem exec_wait_supervisor (supervisor : (s.dev.countIssue k).supervisor (k / 256) = k % 256) :
    exec (.wait k rd 0 0 0) s = .next (s.withDev
      ((s.dev.countIssue k).noStep k (wordR 0x3C rd 0 0 0) ((s.dev.countIssue k).waitCluster k rd))) :=
  show execWait k rd 0 0 0 s = _ from
    State.act_run may (.inl rfl) ((if_neg thread).trans (if_neg (not_not_intro supervisor)))

end

/-- The outcome bits of a supervisor's WAIT (R286): a wake source is latched, the cluster's bit of PWR_MODE is clear, something else of
the cluster is busy. -/
def Dev.waitOut (d : Dev) (k : Nat) : Nat :=
  b2n (d.wakeLatched (k / 256)) + 2 * b2n (!(bit (d.rd .PWR_MODE 0) (k / 256))) + 4 * b2n (d.cluBusy k)

theorem Dev.waitCluster_awake {s : Dev} {k : Nat} (rd : Fin 32) (thread : k ≠ 2048) (out : (s.countIssue k).waitOut k ≠ 0) :
    (s.countIssue k).waitCluster k rd =
      s.afterIssue k ((s.ctx k).awaits (resOf [(rd.val, BitVec.ofNat 64 ((s.countIssue k).waitOut k))] (some true))) :=
  (if_pos out).trans (Dev.vary_countIssue _ _ _ thread)

theorem Dev.waitCluster_sleeps {s : Dev} {k : Nat} (rd : Fin 32) (thread : k ≠ 2048) (out : (s.countIssue k).waitOut k = 0) :
    let e := s.afterIssue k ((s.ctx k).awaits (resOf [(rd.val, 0)] (some false)))
    (s.countIssue k).waitCluster k rd = { e with dor := { e.dor with asleep := Sparse.put e.dor.asleep (k / 256) (some false) } } := by
  rw [← Dev.vary_countIssue _ _ _ thread]
  exact if_neg (not_not_intro out)

theorem exec_brk {k : Nat} {off : BitVec 26} {s : State} (may : s.dev.mayIssue k (wordJ 0x3D off)) (thread : k ≠ 2048) :
    let e := (s.dev.countIssue k).raise k 0x0F 0 off.toNat
    exec (.brk k off) s = .next (s.withDev (e.setCtx k { e.ctx k with was := 11 })) :=
  show execBrk k off s = _ from State.act_run may (.inl rfl) (if_neg thread)

/-- Settles O23: the system values one by one; WAIT by who waits, whether in a step, and its outcome bits. -/
theorem systemInstructions : Obligations.SystemInstructions := by
  unfold Obligations.SystemInstructions
  intro k rd off s thread
  refine ⟨?values, fun may => ⟨fun other => exec_wait_privileged may thread other, fun supervisor inside => ?inStep,
    fun supervisor outside out => ?awake, fun supervisor outside out => ?sleeps⟩, fun may => exec_brk may thread⟩
  case values =>
    simp only [List.forall_mem_cons, List.not_mem_nil, false_imp_iff, implies_true, and_true]
    and_intros
    all_goals
      refine fun may => exec_sys may rfl ?_
      simp [Dev.sysValue, thread, Dev.countIssue_vn]
  case inStep => rw [exec_wait_supervisor may thread supervisor, Dev.noStep_inside inside]
  case awake =>
    rw [exec_wait_supervisor may thread supervisor, Dev.noStep_outside outside, Dev.waitCluster_awake rd thread out]
    rfl
  case sleeps => rw [exec_wait_supervisor may thread supervisor, Dev.noStep_outside outside, Dev.waitCluster_sleeps rd thread out]

end Sys2Proof.Machine
end

section
/-! PROOFS of the family 10_host_endpoint.md: the Pitch Map, the Window table, the requests of a host, completions and tags, and the life of
a link. -/

namespace Sys2Proof.Machine

open Host

/-! ### Fields of one word -/

/-- Below a field that was replaced nothing has changed. -/
theorem putBits_mod (v x : Nat) {hi lo : Nat} (h : lo ≤ hi) : putBits v hi lo x % 2 ^ lo = v % 2 ^ lo := by
  have split : 2 ^ (hi + 1) = 2 ^ lo * 2 ^ (hi + 1 - lo) := by rw [← Nat.pow_add, Nat.add_sub_cancel' (by omega)]
  rw [putBits, split, Nat.mul_left_comm, Nat.mul_comm (x % _), Nat.add_assoc, Nat.mul_add_mod, Nat.mul_add_mod, Nat.mod_mod]

/-- Above a field that was replaced nothing has changed. -/
theorem putBits_div (v x : Nat) {hi lo : Nat} (h : lo ≤ hi) : putBits v hi lo x / 2 ^ (hi + 1) = v / 2 ^ (hi + 1) := by
  have split : 2 ^ (hi + 1) = 2 ^ (hi + 1 - lo) * 2 ^ lo := by rw [← Nat.pow_add, Nat.sub_add_cancel (by omega)]
  have low : x % 2 ^ (hi + 1 - lo) * 2 ^ lo + v % 2 ^ lo < 2 ^ (hi + 1) := by
    have field : x % 2 ^ (hi + 1 - lo) < 2 ^ (hi + 1 - lo) := Nat.mod_lt _ (Nat.two_pow_pos _)
    have rest : v % 2 ^ lo < 2 ^ lo := Nat.mod_lt _ (Nat.two_pow_pos _)
    calc x % 2 ^ (hi + 1 - lo) * 2 ^ lo + v % 2 ^ lo
      _ < (x % 2 ^ (hi + 1 - lo) + 1) * 2 ^ lo := by rw [Nat.add_mul, Nat.one_mul]; exact Nat.add_lt_add_left rest _
      _ ≤ 2 ^ (hi + 1) := split ▸ Nat.mul_le_mul_right _ field
  rw [putBits, Nat.add_assoc, Nat.mul_comm, Nat.mul_add_div (Nat.two_pow_pos _), Nat.div_eq_of_lt low, Nat.add_zero]

/-- A field beside one that was replaced reads as before. -/
theorem bits_putBits_other (v x : Nat) {hi lo a b : Nat} (h : lo ≤ hi) (apart : hi < b ∨ a < lo) :
    bits (putBits v hi lo x) a b = bits v a b := by
  obtain above | below := apart
  · have drop (u : Nat) : u / 2 ^ b = u / 2 ^ (hi + 1) / 2 ^ (b - (hi + 1)) := by
      rw [Nat.div_div_eq_div_mul, ← Nat.pow_add, Nat.add_sub_cancel' above]
    rw [bits, drop, putBits_div v x h, ← drop, bits]
  · rw [← bits_mod_two_pow _ _ below, putBits_mod v x h, bits_mod_two_pow _ _ below]

theorem Dev.fld_setFld_beside (s : Dev) (r : Reg) (i v : Nat) {hi lo a b : Nat} (h : lo ≤ hi) (top : a < 64) (apart : hi < b ∨ a < lo) :
    (s.setFld r i hi lo v).fld r i a b = s.fld r i a b := by
  rw [Dev.fld, Dev.setFld, Dev.rd_wr_same, bits_mod_two_pow _ _ top, bits_putBits_other _ _ h apart]
  rfl

/-! ### The Pitch Map (R303, R437) -/

theorem Dev.rd_isoStatus_other (s : Dev) {q : Reg} {j : Nat} (hj : j < 2 ^ 24) (h : q ≠ .TBL_SHADOW_STATUS) :
    s.isoStatus.rd q j = s.rd q j := by
  rw [Dev.isoStatus, Dev.rd_setFld_other _ _ _ _ (by decide) hj h, Dev.rd_setFld_other _ _ _ _ (by decide) hj h]

theorem Dev.rd_thawIso_other (s : Dev) (table i : Nat) {q : Reg} {j : Nat} (hj : j < 2 ^ 24) (h : q ≠ .TBL_SHADOW_STATUS) :
    (s.thawIso table i).rd q j = s.rd q j := by
  unfold Dev.thawIso
  split
  · exact Dev.rd_isoStatus_other _ hj h
  · rfl

@[simp] theorem Dev.thawIso_mem (s : Dev) (table i : Nat) : (s.thawIso table i).mem = s.mem := by
  unfold Dev.thawIso
  split
  · rw [Dev.setIso, Dev.isoStatus, Dev.setFld_mem, Dev.setFld_mem]
  · rfl

theorem Dev.isFrozen_wr (s : Dev) (r : Reg) (i v table j : Nat) : (s.wr r i v).isFrozen table j = s.isFrozen table j := by
  rw [Dev.isFrozen, Dev.wr_tbl, Dev.isFrozen]

/-- A thawed entry is not frozen. -/
@[simp] theorem Dev.isFrozen_thawIso (s : Dev) (table i : Nat) : (s.thawIso table i).isFrozen table i = false := by
  unfold Dev.thawIso
  split
  · rw [Dev.setIso, Dev.isFrozen, Dev.isoStatus_tbl, Sparse.get?_put_same]
  · exact eq_false_of_ne_true ‹_›

section
variable {o : Origin} {tag p : Nat} {s : State} (fits : tag < 2 ^ 16) (pitch : p < 4096) (takes : s.dev.takesWrite o .HIF_PMAP_ACC_CTL 0)
include fits pitch takes

theorem exec_pmapRead : exec (.pmapRead o tag p) s = .next (s.withDev ((s.dev.wr .HIF_PMAP_ACC_DATA 0 (s.dev.pmap p)).pmapStatus tag 0)) :=
  show execPmapRead o tag p s = _ from
    State.act_next (by simp only [Dev.regWrite_ok takes, Nat.mod_eq_of_lt pitch, Nat.mod_eq_of_lt fits])

theorem exec_pmapWrite : exec (.pmapWrite o tag p) s =
    .next (s.withDev (if o.pmapWriter then s.dev.pmapWrite p tag else s.dev.bump .TBL_CMD_FOREIGN 0)) :=
  show execPmapWrite o tag p s = _ from
    State.act_next (by simp only [Dev.regWrite_ok takes, Nat.mod_eq_of_lt pitch, Nat.mod_eq_of_lt fits])

end

section
variable (d : Dev) (p tag : Nat)

/-- The data of a Pitch Map write keeps the link and the PASID that the pitch is bound with (R437). -/
def Dev.pmapKeeps : Bool :=
  let v := d.rd .HIF_PMAP_ACC_DATA 0
  pmapValid v && pmapLink v = bits (d.rd .PIT_STATE p) 29 28 && pmapPasid v = bits (d.rd .PIT_STATE p) 27 8

/-- Another valid entry of the Pitch Map has the link and the PASID of the data written (R303). -/
def Dev.pmapDup : Bool :=
  let v := d.rd .HIF_PMAP_ACC_DATA 0
  pmapValid v && (List.range 4096).any (fun q =>
    q ≠ p && pmapValid (d.pmap q) && pmapLink (d.pmap q) = pmapLink v && pmapPasid (d.pmap q) = pmapPasid v)

/-- An accepted write of Pitch Map entry `p`: the entry takes the data, and is not frozen any more (R303). -/
def Dev.pmapPut : Dev := ((d.wr .HIF_PMAP_ENTRY p (bits (d.rd .HIF_PMAP_ACC_DATA 0) 22 0)).thawIso 0x9 p).pmapStatus tag 0

/-- The three ends of a Pitch Map write, in the order of the checks. -/
theorem Dev.pmapWrite_eq : d.pmapWrite p tag =
    if d.mode = .lockdown ∨ (d.pitState p ≠ 0 ∧ d.pmapKeeps p = false) then d.pmapStatus tag 2
    else if d.pmapDup p then d.pmapStatus tag 1 else d.pmapPut p tag := by
  by_cases locked : d.mode = .lockdown
  · rw [Dev.pmapWrite, if_pos locked, if_pos (.inl locked)]
  by_cases kept : d.pitState p ≠ 0 ∧ d.pmapKeeps p = false
  · rw [if_pos (Or.inr kept), Dev.pmapWrite, if_neg locked]
    exact if_pos kept
  · rw [if_neg (not_or.2 ⟨locked, kept⟩), Dev.pmapWrite, if_neg locked]
    exact if_neg kept

theorem Dev.pmapKeeps_eq_false_iff : d.pmapKeeps p = false ↔
    let v := d.rd .HIF_PMAP_ACC_DATA 0
    ¬ (pmapValid v = true ∧ pmapLink v = bits (d.rd .PIT_STATE p) 29 28 ∧ pmapPasid v = bits (d.rd .PIT_STATE p) 27 8) := by
  rw [← Bool.not_eq_true]
  simp only [Dev.pmapKeeps, Bool.and_eq_true, decide_eq_true_eq, and_assoc]

theorem Dev.pmapDup_iff : d.pmapDup p = true ↔
    let v := d.rd .HIF_PMAP_ACC_DATA 0
    pmapValid v = true ∧ ∃ q, q < 4096 ∧ q ≠ p ∧ pmapValid (d.pmap q) = true ∧ pmapLink (d.pmap q) = pmapLink v ∧
      pmapPasid (d.pmap q) = pmapPasid v := by
  simp [Dev.pmapDup, and_assoc]

theorem Dev.pmap_pmapStatus (r : Nat) (pitch : p < 4096) : (d.pmapStatus tag r).pmap p = d.pmap p :=
  d.rd_wr_other _ (by decide) (by omega) (by decide)

theorem Dev.pmapStatus_mem (r : Nat) : (d.pmapStatus tag r).mem = d.mem := by rw [Dev.pmapStatus, Dev.wr_mem]

theorem Dev.pmapWrite_mem : (d.pmapWrite p tag).mem = d.mem := by
  rw [Dev.pmapWrite_eq]
  split
  · exact Dev.pmapStatus_mem ..
  split
  · exact Dev.pmapStatus_mem ..
  · rw [Dev.pmapPut, Dev.pmapStatus_mem, Dev.thawIso_mem, Dev.wr_mem]

theorem Dev.rd_pmapPut_status (fits : tag < 2 ^ 16) : (d.pmapPut p tag).rd .HIF_PMAP_STATUS 0 = tag * 2 ^ 16 := by
  rw [Dev.pmapPut, Dev.pmapStatus, Dev.rd_wr_same, Nat.add_zero, Nat.mod_eq_of_lt (by omega)]

theorem Dev.isFrozen_pmapPut : (d.pmapPut p tag).isFrozen 0x9 p = false := by
  rw [Dev.pmapPut, Dev.pmapStatus, Dev.isFrozen_wr, Dev.isFrozen_thawIso]

variable {p}

theorem Dev.pmap_thawIso (table i : Nat) (pitch : p < 4096) : (d.thawIso table i).pmap p = d.pmap p :=
  d.rd_thawIso_other _ _ (by omega) (by decide)

theorem Dev.pmap_pmapPut_same (pitch : p < 4096) : (d.pmapPut p tag).pmap p = bits (d.rd .HIF_PMAP_ACC_DATA 0) 22 0 := by
  rw [Dev.pmapPut, Dev.pmap_pmapStatus _ _ _ _ pitch, Dev.pmap_thawIso _ _ _ pitch, Dev.pmap, Dev.rd_wr_same,
    bits_mod_word _ _ (by decide)]

theorem Dev.pmap_pmapPut_other {q : Nat} (pitch : p < 4096) (other : q < 4096) (h : q ≠ p) : (d.pmapPut p tag).pmap q = d.pmap q := by
  rw [Dev.pmapPut, Dev.pmap_pmapStatus _ _ _ _ other, Dev.pmap_thawIso _ _ _ other]
  exact Dev.rd_wr_element _ _ (by omega) (by omega) h

theorem Dev.pmap_pmapWrite_other {q : Nat} (pitch : p < 4096) (other : q < 4096) (h : q ≠ p) : (d.pmapWrite p tag).pmap q = d.pmap q := by
  rw [Dev.pmapWrite_eq]
  split
  · exact Dev.pmap_pmapStatus _ _ _ _ other
  split
  · exact Dev.pmap_pmapStatus _ _ _ _ other
  · exact Dev.pmap_pmapPut_other _ _ pitch other h

end

/-! ### The Window table (R304, R307, R308) -/

section
variable {o : Origin} {tag w : Nat} {s : State} (fits : tag < 2 ^ 16)
include fits

section
variable (window : w < 256) (takes : s.dev.takesWrite o .HIF_WIN_ACC_CTL 0)
include window takes

theorem exec_winWritePending : exec (.winWritePending o tag w) s = .next (s.withDev (s.dev.winPut w tag)) :=
  show execWinWritePending o tag w s = _ from
    State.act_next (by simp only [Dev.regWrite_ok takes, Nat.mod_eq_of_lt window, Nat.mod_eq_of_lt fits])

theorem exec_winRead : exec (.winRead o tag w) s = .next (s.withDev (s.dev.winData (s.dev.win w) tag)) :=
  show execWinRead o tag w s = _ from
    State.act_next (by simp only [Dev.regWrite_ok takes, Nat.mod_eq_of_lt window, Nat.mod_eq_of_lt fits])

theorem exec_winReadPending : exec (.winReadPending o tag w) s = .next (s.withDev (s.dev.winData (s.dev.winPend w) tag)) :=
  show execWinReadPending o tag w s = _ from
    State.act_next (by simp only [Dev.regWrite_ok takes, Nat.mod_eq_of_lt window, Nat.mod_eq_of_lt fits])

end

section
variable (takes : s.dev.takesWrite o .HIF_WIN_COMMIT 0)
include takes

theorem exec_winCommit : exec (.winCommit o tag) s = .next (s.withDev (s.dev.winCommit o tag)) :=
  show execWinCommit o tag s = _ from State.act_next (by simp only [Dev.regWrite_ok takes, Nat.mod_eq_of_lt fits])

theorem exec_winDiscard : exec (.winDiscard o tag) s = .next (s.withDev (s.dev.winDiscard tag)) :=
  show execWinDiscard o tag s = _ from State.act_next (by simp only [Dev.regWrite_ok takes, Nat.mod_eq_of_lt fits])

end

end

theorem Dev.rd_winTag_other (d : Dev) (tag : Nat) {q : Reg} {j : Nat} (hj : j < 2 ^ 24) (h : q ≠ .HIF_WIN_STATUS) :
    (d.winTag tag).rd q j = d.rd q j := d.rd_setFld_other _ _ _ (by decide) hj h

theorem Dev.fld_winTag (d : Dev) {tag : Nat} (fits : tag < 2 ^ 16) : (d.winTag tag).fld .HIF_WIN_STATUS 0 31 16 = tag :=
  (d.fld_setFld_same _ _ _ (by decide) (by decide)).trans (Nat.mod_eq_of_lt fits)

section
variable (d : Dev) {w tag : Nat}

/-- The image that a write access puts into the pending Window table: DATA0 and DATA1 with the reserved bits 0 (R304, R307). -/
def Dev.winImage : Nat := winMask (d.rd .HIF_WIN_ACC_DATA0 0 + d.rd .HIF_WIN_ACC_DATA1 0 * 2 ^ 64)

theorem Dev.winImage_lt : d.winImage < 2 ^ 128 :=
  Nat.lt_of_lt_of_le (Nat.mod_lt _ (Nat.two_pow_pos _)) (Nat.pow_le_pow_right (by decide) (by decide))

theorem Dev.winImage_winTag : (d.winTag tag).winImage = d.winImage := by
  rw [Dev.winImage, Dev.rd_winTag_other _ _ (by decide) (by decide), Dev.rd_winTag_other _ _ (by decide) (by decide), Dev.winImage]

/-- The two words of entry `w` in the pending Window table. -/
def Dev.putWindow (w v : Nat) : Dev :=
  { d with hif := { d.hif with
    pend := (d.hif.pend.put (2 * w) (some (BitVec.ofNat 64 v))).put (2 * w + 1) (some (BitVec.ofNat 64 (v / 2 ^ 64)))
    dirty := true } }

theorem Dev.win_putWindow (v j : Nat) : (d.putWindow w v).win j = d.win j := rfl

theorem Dev.fld_putWindow (v : Nat) (r : Reg) (i hi lo : Nat) : (d.putWindow w v).fld r i hi lo = d.fld r i hi lo := rfl

theorem Dev.winPut_eq : d.winPut w tag = ((d.winTag tag).putWindow w d.winImage).setFld .HIF_WIN_STATUS 0 3 3 1 := by
  rw [← d.winImage_winTag (tag := tag)]
  rfl

theorem Dev.winPendWord_putWindow (v i : Nat) : (d.putWindow w v).winPendWord i =
    if i = 2 * w + 1 then v / 2 ^ 64 % 2 ^ 64 else if i = 2 * w then v % 2 ^ 64 else d.winPendWord i := by
  by_cases odd : i = 2 * w + 1
  · rw [if_pos odd, Dev.winPendWord, Dev.putWindow, odd, Sparse.get?_put_same]
    exact BitVec.toNat_ofNat ..
  by_cases even : i = 2 * w
  · rw [if_neg odd, if_pos even, Dev.winPendWord, Dev.putWindow, Sparse.get?_put_other _ _ odd, even, Sparse.get?_put_same]
    exact BitVec.toNat_ofNat ..
  · rw [if_neg odd, if_neg even, Dev.winPendWord, Dev.putWindow, Sparse.get?_put_other _ _ odd, Sparse.get?_put_other _ _ even]
    rfl

/-- The pending copy of a word falls back to the entries in force, which a write of another register leaves as they are. -/
theorem Dev.winPendWord_wr {r : Reg} {i j : Nat} (v : Nat) (hi : i < 2 ^ 24) (hj : j < 2 ^ 24) (h : .HIF_WIN_ENTRY ≠ r) :
    (d.wr r i v).winPendWord j = d.winPendWord j := by
  have inForce : (d.wr r i v).reg .HIF_WIN_ENTRY j = d.reg .HIF_WIN_ENTRY j := BitVec.eq_of_toNat_eq (d.rd_wr_other v hi hj h)
  simp only [Dev.winPendWord, inForce, Dev.wr_hif]

theorem Dev.winPend_wr_status (v : Nat) (window : w < 256) : (d.wr .HIF_WIN_STATUS 0 v).winPend w = d.winPend w := by
  rw [Dev.winPend, Dev.winPendWord_wr _ _ (by decide) (by omega) (by decide), Dev.winPendWord_wr _ _ (by decide) (by omega) (by decide)]
  rfl

theorem Dev.win_wr_status (v : Nat) (window : w < 256) : (d.wr .HIF_WIN_STATUS 0 v).win w = d.win w := by
  rw [Dev.win, Dev.rd_wr_other _ _ (by decide) (by omega) (by decide), Dev.rd_wr_other _ _ (by decide) (by omega) (by decide)]
  rfl

theorem Dev.winPend_putWindow_same {v : Nat} (hv : v < 2 ^ 128) : (d.putWindow w v).winPend w = v := by
  rw [Dev.winPend, Dev.winPendWord_putWindow, Dev.winPendWord_putWindow, if_pos rfl, if_neg (by omega), if_pos rfl]
  omega

theorem Dev.winPend_putWindow_other (v : Nat) {j : Nat} (h : j ≠ w) : (d.putWindow w v).winPend j = d.winPend j := by
  rw [Dev.winPend, Dev.winPendWord_putWindow, Dev.winPendWord_putWindow, if_neg (by omega), if_neg (by omega), if_neg (by omega),
    if_neg (by omega)]
  rfl

theorem Dev.winPend_winPut_same (window : w < 256) : (d.winPut w tag).winPend w = d.winImage := by
  rw [Dev.winPut_eq, Dev.setFld, Dev.winPend_wr_status _ _ window, Dev.winPend_putWindow_same _ d.winImage_lt]

theorem Dev.winPend_winPut_other {j : Nat} (window : j < 256) (h : j ≠ w) : (d.winPut w tag).winPend j = d.winPend j := by
  rw [Dev.winPut_eq, Dev.setFld, Dev.winPend_wr_status _ _ window, Dev.winPend_putWindow_other _ _ h, Dev.winTag, Dev.setFld,
    Dev.winPend_wr_status _ _ window]

theorem Dev.win_winPut {j : Nat} (window : j < 256) : (d.winPut w tag).win j = d.win j := by
  rw [Dev.winPut_eq, Dev.setFld, Dev.win_wr_status _ _ window, Dev.win_putWindow, Dev.winTag, Dev.setFld, Dev.win_wr_status _ _ window]

/-- A write access echoes its TAG in HIF_WIN_STATUS beside PENDING. -/
theorem Dev.fld_winPut_tag (fits : tag < 2 ^ 16) : (d.winPut w tag).fld .HIF_WIN_STATUS 0 31 16 = tag := by
  rw [Dev.winPut_eq, Dev.fld_setFld_beside _ _ _ _ (by decide) (by decide) (.inl (by decide)), Dev.fld_putWindow, d.fld_winTag fits]

theorem Dev.rd_winData (v : Nat) : (d.winData v tag).rd .HIF_WIN_ACC_DATA0 0 = v % 2 ^ 64 ∧
    (d.winData v tag).rd .HIF_WIN_ACC_DATA1 0 = v / 2 ^ 64 % 2 ^ 64 := by
  constructor
  · rw [Dev.winData, Dev.rd_winTag_other _ _ (by decide) (by decide), Dev.rd_wr_other _ _ (by decide) (by decide) (by decide), Dev.rd_wr_same]
  · rw [Dev.winData, Dev.rd_winTag_other _ _ (by decide) (by decide), Dev.rd_wr_same]

end

theorem Dev.winPut_dirty (d : Dev) (w tag : Nat) : (d.winPut w tag).hif.dirty = true := by
  rw [Dev.winPut_eq, Dev.setFld_hif]
  rfl

theorem Dev.winData_hif (d : Dev) (v tag : Nat) : (d.winData v tag).hif = d.hif := by
  rw [Dev.winData, Dev.winTag, Dev.setFld_hif, Dev.wr_hif, Dev.wr_hif]

theorem Dev.winStatus_hif (d : Dev) (tag detail result : Nat) : (d.winStatus tag detail result).hif = d.hif := by
  rw [Dev.winStatus, Dev.wr_hif]

theorem Dev.winDiscard_hif (d : Dev) (tag : Nat) : (d.winDiscard tag).hif = { d.hif with pend := [], dirty := false } := by
  rw [Dev.winDiscard, Dev.winStatus_hif]

section
variable {d : Dev} (o : Origin) (tag : Nat)

theorem Dev.winCommit_lockdown (locked : d.mode = .lockdown) : d.winCommit o tag = d.winStatus tag 0xFD 7 := by
  rw [Dev.winCommit, if_pos locked]

theorem Dev.winCommit_busy (runs : d.mode ≠ .lockdown) (busy : d.hif.waiting.isSome = true) : d.winCommit o tag = d.winStatus tag 0 6 := by
  rw [Dev.winCommit, if_neg runs, if_pos busy]

variable (runs : d.mode ≠ .lockdown) (free : d.hif.waiting = none)
include runs free

theorem Dev.winCommit_clean (clean : d.hif.dirty = false) : d.winCommit o tag = d.winStatus tag 0 4 := by
  rw [Dev.winCommit, if_neg runs, if_neg (by simp [free]), if_pos clean]

variable (dirty : d.hif.dirty = true)
include dirty

theorem Dev.winCommit_inconsistent (fails : firstFail d.winChecks ≠ 0) : d.winCommit o tag = d.winStatus tag (firstFail d.winChecks) 3 := by
  rw [Dev.winCommit, if_neg runs, if_neg (by simp [free]), if_neg (by simp [dirty])]
  split
  · exact absurd ‹_› fails
  · rfl

theorem Dev.winCommit_accepted (passes : firstFail d.winChecks = 0) :
    d.winCommit o tag = Dev.winStatus { d.logPrio (applyRec o 18 0x101 0 tag 0 d.vn) with
      hif := { d.hif with waiting := some (tag, d.hif.pend, o.pmapWriter), pend := [] } } tag 0 1 := by
  rw [Dev.winCommit, if_neg runs, if_neg (by simp [free]), if_neg (by simp [dirty]), passes]
  rfl

end

theorem Dev.rd_winStatus (d : Dev) {tag detail result : Nat} (ht : tag < 2 ^ 16) (hd : detail < 256) (hr : result < 8) :
    (d.winStatus tag detail result).rd .HIF_WIN_STATUS 0 = tag * 2 ^ 16 + detail * 2 ^ 8 + b2n d.hif.dirty * 2 ^ 3 + result := by
  have flag : b2n d.hif.dirty ≤ 1 := by cases d.hif.dirty <;> decide
  rw [Dev.winStatus, Dev.rd_wr_same, Nat.mod_eq_of_lt (by omega)]

theorem exec_winCommitPoint {s : State} {tag : Nat} {snap : List (Nat × Word)} {clears : Bool}
    (waits : s.dev.hif.waiting = some (tag, snap, clears)) :
    let t := forEach snap s.dev (fun d e => let d := d.setReg .HIF_WIN_ENTRY e.1 e.2
      if clears then d.thawIso 0xA (e.1 / 2) else d)
    exec .winCommitPoint s = .next (s.withDev (Dev.winStatus { t with hif := { t.hif with
      waiting := none, mapping := t.hif.mapping + 1, dirty := !t.hif.pend.isEmpty } } tag 0 2)) :=
  show execWinCommitPoint s = _ from State.act_next (by rw [waits])

theorem exec_winCommitPoint_idle {s : State} (idle : s.dev.hif.waiting = none) : exec .winCommitPoint s = .next s :=
  show execWinCommitPoint s = .next (s.withDev s.dev) from State.act_next (by rw [idle])

/-! ### Requests of a host (R297, R298, R305, R306, R403) -/

theorem exec_bar4Request {link : Nat} {s : State} (onLink : link < 4) (hears : s.dev.hears (.bar2 link 0) = true) (space : HostSpace)
    (addr len : Nat) (pasid : Option Nat) (write atomic : Bool) (data : List Byte) (span : Nat) (parity : List (Nat × Nat)) :
    exec (.bar4Request space link addr len pasid write atomic data span parity) s =
      .next (s.withDev ((s.dev.parityFreeze parity).hostRequest space link addr len pasid write atomic data span)) :=
  show execBar4Request space link addr len pasid write atomic data span parity s = _ from
    State.act_next (by rw [if_neg (Nat.not_le.2 onLink), if_neg (by simp [hears])])

section
variable {d : Dev} {link addr len : Nat} {pasid : Option Nat} {write atomic : Bool} {data : List Byte} {span : Nat}

theorem Dev.hostRequest_beyond {space : HostSpace} (beyond : space.size < addr + max 1 (if write then data.length else len)) :
    d.hostRequest space link addr len pasid write atomic data span = (d.useLink link).barUR link write := by
  unfold Dev.hostRequest
  exact if_pos beyond

section
variable (within : addr + max 1 (if write then data.length else len) ≤ HostSpace.bar0.size) (plain : atomic = false)
include within plain

theorem Dev.hostRequest_bar0 : d.hostRequest .bar0 link addr len pasid write atomic data span =
    (d.useLink link).controlRequest link addr len write data := by
  rw [Dev.hostRequest, if_neg (Nat.not_lt.2 within), if_neg (by simp [plain])]

theorem Dev.hostRequest_bar0_bad (read : write = false) (form : regForm addr len = false) :
    d.hostRequest .bar0 link addr len pasid write atomic data span = ((d.useLink link).bump .HIF_BAD_ACCESS link).unsupported link := by
  rw [Dev.hostRequest_bar0 within plain, Dev.controlRequest, if_neg (by simp [read]), if_pos form]

theorem Dev.hostRequest_bar0_write (writes : write = true) : d.hostRequest .bar0 link addr len pasid write atomic data span =
    (d.useLink link).bar0Write link addr data.length (leNat data) := by
  rw [Dev.hostRequest_bar0 within plain, Dev.controlRequest, if_pos writes]

end

theorem Dev.hostRequest_bar2_read (within : addr + max 1 (if write then data.length else len) ≤ HostSpace.bar2.size) (read : write = false)
    (plain : atomic = false) : d.hostRequest .bar2 link addr len pasid write atomic data span =
      (d.useLink link).sendOnLink link (.hostCpl link true (List.replicate len 0)) := by
  rw [Dev.hostRequest, if_neg (Nat.not_lt.2 within), if_neg (by simp [plain]), Dev.pageRequest, if_pos read]

theorem Dev.hostRequest_cfg_read (within : addr + max 1 (if write then data.length else len) ≤ HostSpace.cfg.size) (read : write = false) :
    d.hostRequest .cfg link addr len pasid write atomic data span = (d.useLink link).sendOnLink link
      (.hostCpl link true (leBytes len ((d.useLink link).cfgRead link (addr % 4096 / 4) / 2 ^ (8 * (addr % 4))))) := by
  rw [Dev.hostRequest, if_neg (Nat.not_lt.2 within), Dev.cfgRequest, if_neg (by simp [read])]

theorem Dev.hostRequest_bar4 (within : addr + max 1 (if write then data.length else len) ≤ HostSpace.bar4.size) :
    d.hostRequest .bar4 link addr len pasid write atomic data span =
      (d.useLink link).winRequest link addr len pasid write atomic data span := by
  rw [Dev.hostRequest, if_neg (Nat.not_lt.2 within)]

theorem Dev.winRequest_atomic (isAtomic : atomic = true) : d.winRequest link addr len pasid write atomic data span =
    (d.bump .HIF_BAD_ACCESS link).unsupported link := by
  rw [Dev.winRequest, if_pos isAtomic]

section
variable (plain : atomic = false)
include plain

theorem Dev.winRequest_miss (miss : d.winHit link addr = none) : d.winRequest link addr len pasid write atomic data span =
    (d.bump .HIF_WIN_MISS link).barUR link write := by
  rw [Dev.winRequest, if_neg (by simp [plain]), miss]

theorem Dev.winRequest_suspect {w : Nat} (hit : d.winHit link addr = some w)
    (suspect : d.winRefuse w link pasid write = some .TBL_ISOLATION_SUSPECT) : d.winRequest link addr len pasid write atomic data span =
      (d.bump .TBL_ISOLATION_SUSPECT 0).barUR link write := by
  rw [Dev.winRequest, if_neg (by simp [plain]), hit]
  simp [suspect]

theorem Dev.winRequest_passes {w : Nat} (hit : d.winHit link addr = some w) (passes : d.winRefuse w link pasid write = none) :
    d.winRequest link addr len pasid write atomic data span = (d.inProgress span).winAccess link w addr len write data := by
  rw [Dev.winRequest, if_neg (by simp [plain]), hit]
  simp [passes]

end

end

/-- The internal address at which window `w` places BAR4 address `addr` (R305). -/
def Dev.winTarget (d : Dev) (w addr : Nat) : Nat := bits (d.win w) 67 32 * 4096 + (addr - (winSpan (d.win w)).1)

section
variable {d : Dev} {link w addr len : Nat} {write : Bool} {data : List Byte}

theorem Dev.winAccess_shared (shared : 0x10000000000 ≤ d.winTarget w addr) : let a := d.winTarget w addr
    d.winAccess link w addr len write data = if write then d.sharedWrite ((a - 0x10000000000) / 2 ^ 23) (a % 2 ^ 23) data
      else d.sendOnLink link (.hostCpl link true (d.sharedRead ((a - 0x10000000000) / 2 ^ 23) (a % 2 ^ 23) len)) := by
  rw [Dev.winAccess]
  exact if_pos shared

section
variable (hbm : d.winTarget w addr < 0x10000000000)
include hbm

theorem Dev.winAccess_noKey (noKey : d.memKey (some (bits (d.win w) 79 68)) = none) :
    d.winAccess link w addr len write data = (d.keyEmpty (d.winTarget w addr)).barUR link write := by
  rw [Dev.winAccess]
  refine (if_neg (Nat.not_le.2 hbm)).trans ?_
  rw [noKey]
  rfl

/-- An access to HBM under the key of the window's owner (R305, R403). -/
theorem Dev.winAccess_key {key : Nat} (owned : d.memKey (some (bits (d.win w) 79 68)) = some key) : let a := d.winTarget w addr
    d.winAccess link w addr len write data =
      if d.hbmServed a (max 1 (if write then data.length else len)) = false then d.barUR link write
      else if write then d.hbmWrite key a data
      else if d.hbmSound a len = false then (d.badLine a len).barUR link write
      else d.sendOnLink link (.hostCpl link true (d.hbmRead key a len)) := by
  rw [Dev.winAccess]
  refine (if_neg (Nat.not_le.2 hbm)).trans ?_
  rw [owned]
  rfl

variable {key : Nat} (owned : d.memKey (some (bits (d.win w) 79 68)) = some key)
include owned

theorem Dev.winAccess_unserved (unserved : d.hbmServed (d.winTarget w addr) (max 1 (if write then data.length else len)) = false) :
    d.winAccess link w addr len write data = d.barUR link write :=
  (Dev.winAccess_key hbm owned).trans (if_pos unserved)

variable (served : d.hbmServed (d.winTarget w addr) (max 1 (if write then data.length else len)) = true)
include served

theorem Dev.winAccess_write (writes : write = true) : d.winAccess link w addr len write data = d.hbmWrite key (d.winTarget w addr) data := by
  rw [Dev.winAccess_key hbm owned, if_neg (by simp [served]), if_pos writes]

theorem Dev.winAccess_read (read : write = false) : d.winAccess link w addr len write data =
    if d.hbmSound (d.winTarget w addr) len = false then (d.badLine (d.winTarget w addr) len).barUR link write
    else d.sendOnLink link (.hostCpl link true (d.hbmRead key (d.winTarget w addr) len)) := by
  rw [Dev.winAccess_key hbm owned, if_neg (by simp [served]), if_neg (by simp [read])]

end

end

/-! ### Completions, timeouts and tags (R309 to R311) -/

@[simp] theorem Dev.useLink_reqs (d : Dev) (k : Nat) : (d.useLink k).hif.reqs = d.hif.reqs := by
  rw [Dev.useLink, Dev.wakeLink]; split <;> rfl

@[simp] theorem Dev.useLink_quarantine (d : Dev) (k : Nat) : (d.useLink k).hif.quarantine = d.hif.quarantine := by
  rw [Dev.useLink, Dev.wakeLink]; split <;> rfl

@[simp] theorem Dev.unexpectedCpl_hif (d : Dev) (k : Nat) : (d.unexpectedCpl k).hif = d.hif := rfl

section
variable {link tag : Nat} {s : State}

section
variable {r : Req} (outstanding : Sparse.get? s.dev.hif.reqs (tagKey link tag) = some r)
include outstanding

theorem exec_completionReceived_fails (last : Bool) (data : List Byte) : exec (.completionReceived link tag false last data) s =
    .next (s.withDev (((s.dev.useLink link).endReq link tag).settle r (some 3))) :=
  show execCompletionReceived link tag false last data s = _ from
    State.act_next (by simp only [Dev.useLink_reqs, outstanding, Bool.not_false, if_true])

theorem exec_completionReceived_last (data : List Byte) : let t := s.dev.useLink link
    let q := { r with got := r.got ++ data }
    exec (.completionReceived link tag true true data) s =
      .next (s.withDev (((if r.flush then t else t.readData q q.got).endReq link tag).settle q none)) :=
  show execCompletionReceived link tag true true data s = _ from
    State.act_next (by simp only [Dev.useLink_reqs, outstanding, Bool.not_true, Bool.false_eq_true, if_false, if_true])

theorem exec_completionReceived_more (data : List Byte) : exec (.completionReceived link tag true false data) s =
    .next (s.withDev ((s.dev.useLink link).issue link tag { r with got := r.got ++ data })) :=
  show execCompletionReceived link tag true false data s = _ from
    State.act_next (by simp only [Dev.useLink_reqs, outstanding, Bool.not_true, Bool.false_eq_true, if_false])

theorem exec_completionTimeout_due (due : r.issued + s.dev.cplTimeout link ≤ s.dev.vn) : exec (.completionTimeout link tag) s =
    .next (s.withDev (((s.dev.quarantineTag link tag r).countTimeout link).settle r (some 1))) :=
  show execCompletionTimeout link tag s = _ from State.act_next (by simp only [outstanding, if_pos due])

theorem exec_completionTimeout_early (early : s.dev.vn < r.issued + s.dev.cplTimeout link) : exec (.completionTimeout link tag) s = .next s :=
  show execCompletionTimeout link tag s = .next (s.withDev s.dev) from
    State.act_next (by simp only [outstanding, if_neg (Nat.not_le.2 early)])

end

/-- A completion of no outstanding request is unexpected; the last one of a quarantined tag frees it (R311). -/
theorem exec_completionReceived_unexpected (unasked : Sparse.get? s.dev.hif.reqs (tagKey link tag) = none) (ok last : Bool) (data : List Byte) :
    let u := (s.dev.useLink link).unexpectedCpl link
    exec (.completionReceived link tag ok last data) s = .next (s.withDev
      (if (Sparse.get? s.dev.hif.quarantine (tagKey link tag)).isSome = true ∧ (last = true ∨ ok = false) then
        { u with hif := { u.hif with quarantine := Sparse.put u.hif.quarantine (tagKey link tag) none } } else u)) := by
  refine show execCompletionReceived link tag ok last data s = _ from State.act_next ?_
  simp only [Dev.useLink_reqs, unasked, Dev.unexpectedCpl_hif, Dev.useLink_quarantine]
  split <;> rfl

section
variable {due : Nat} (quarantined : Sparse.get? s.dev.hif.quarantine (tagKey link tag) = some due)
include quarantined

theorem exec_tagRelease_due (h : due ≤ s.dev.vn) : exec (.tagRelease link tag) s = .next (s.withDev
    { s.dev with hif := { s.dev.hif with quarantine := Sparse.put s.dev.hif.quarantine (tagKey link tag) none } }) :=
  show execTagRelease link tag s = _ from State.act_next (by simp only [quarantined, if_pos h])

theorem exec_tagRelease_early (h : s.dev.vn < due) : exec (.tagRelease link tag) s = .next s :=
  show execTagRelease link tag s = .next (s.withDev s.dev) from State.act_next (by simp only [quarantined, if_neg (Nat.not_le.2 h)])

end

end

/-! ### Training (R294, R314) -/

theorem Dev.rd_withHif (d : Dev) (h : Hif) (r : Reg) (i : Nat) : ({ d with hif := h } : Dev).rd r i = d.rd r i := rfl

/-- A link that is in no L1 state stays as it is while it is used: only its idle time begins anew. -/
theorem Dev.rd_useLink_awake {d : Dev} {k : Nat} (awake : d.pstate k ≠ 4 ∧ d.pstate k ≠ 5) (r : Reg) (i : Nat) :
    (d.useLink k).rd r i = d.rd r i := by
  rw [Dev.useLink, Dev.wakeLink, if_neg (not_or.2 awake)]
  rfl

/-- The most lanes a link can train to: 8 where its port is bifurcated (R293, R294). -/
def Dev.lanesMost (d : Dev) (link : Nat) : Nat := if d.fld .HIF_LINK_STATUS link 1 1 = 1 then 8 else 16

/-- HIF_LINK_STATUS as training leaves it. -/
def Dev.trainedStatus (d : Dev) (link speed width : Nat) (flit : Bool) : Nat :=
  putBits (putBits (putBits (putBits (d.rd .HIF_LINK_STATUS link) 16 12 (min width (d.lanesMost link))) 11 8 2) 7 4 (min speed 6))
    2 2 (b2n (flit || decide (6 ≤ speed)))

/-- The links whose partner supports L0p, after one has trained. -/
def Dev.l0pLinks (d : Dev) (link : Nat) (l0p : Bool) : List Nat :=
  let others := d.hif.l0p.filter (fun k => decide (k ≠ link))
  if l0p then link :: others else others

/-- A link that has trained. -/
def Dev.trained (d : Dev) (link speed width : Nat) (flit l0p : Bool) : Dev :=
  { (d.wr .HIF_LINK_STATUS link (d.trainedStatus link speed width flit)).useLink link with
    hif := { (d.useLink link).hif with
      l0p := d.l0pLinks link l0p, full := Sparse.set (fun _ => 0) d.hif.full link (min width (d.lanesMost link)) } }

theorem exec_pcieLinkUp {link : Nat} {s : State} (onLink : link < 4) (present : s.dev.linkPresent link = true) (down : s.dev.pstate link = 1)
    (speed width : Nat) (flit l0p : Bool) :
    exec (.pcieLinkUp link speed width flit l0p) s = .next (s.withDev (s.dev.trained link speed width flit l0p)) := by
  refine show execPcieLinkUp link speed width flit l0p s = _ from State.act_next ?_
  rw [if_neg (Nat.not_le.2 onLink), if_neg (by simp [present, down])]
  rfl

section
variable (d : Dev) (link speed width : Nat) (flit l0p : Bool)

theorem Dev.lanesMost_le : d.lanesMost link ≤ 16 := by
  unfold Dev.lanesMost; split <;> decide

theorem Dev.trainedStatus_fields : let v := d.trainedStatus link speed width flit
    bits v 11 8 = 2 ∧ bits v 7 4 = min speed 6 ∧ bits v 16 12 = min width (d.lanesMost link) ∧ bits v 2 2 = b2n (flit || decide (6 ≤ speed)) ∧
      bits v 3 3 = bits (d.rd .HIF_LINK_STATUS link) 3 3 := by
  have lanes : min width (d.lanesMost link) ≤ 16 := Nat.le_trans (Nat.min_le_right ..) (d.lanesMost_le link)
  have rate : min speed 6 ≤ 6 := Nat.min_le_right ..
  have mode : b2n (flit || decide (6 ≤ speed)) ≤ 1 := by unfold b2n; split <;> decide
  unfold Dev.trainedStatus
  have above {v x hi lo a b : Nat} (h : lo ≤ hi) (far : hi < b) := bits_putBits_other v x h (a := a) (.inl far)
  refine ⟨?up, ?rate, ?lanes, ?mode, ?gone⟩
  case up =>
    have fits : 2 % 2 ^ (11 + 1 - 8) = 2 := by decide
    rw [above (by decide) (by decide), above (by decide) (by decide), bits_putBits_same _ _ (by decide), fits]
  case rate =>
    rw [above (by decide) (by decide), bits_putBits_same _ _ (by decide)]
    exact Nat.mod_eq_of_lt (by omega)
  case lanes =>
    rw [above (by decide) (by decide), above (by decide) (by decide), above (by decide) (by decide), bits_putBits_same _ _ (by decide)]
    exact Nat.mod_eq_of_lt (by omega)
  case mode =>
    rw [bits_putBits_same _ _ (by decide)]
    exact Nat.mod_eq_of_lt (by omega)
  case gone =>
    have below {v x hi lo a b : Nat} (h : lo ≤ hi) (near : a < lo) := bits_putBits_other v x h (b := b) (.inr near)
    rw [above (by decide) (by decide), below (by decide) (by decide), below (by decide) (by decide), below (by decide) (by decide)]

theorem Dev.fld_trained {hi lo : Nat} (h : hi < 64) : (d.trained link speed width flit l0p).fld .HIF_LINK_STATUS link hi lo =
    bits (d.trainedStatus link speed width flit) hi lo := by
  have up : (d.wr .HIF_LINK_STATUS link (d.trainedStatus link speed width flit)).pstate link = 2 := by
    rw [Dev.pstate, Dev.fld, Dev.rd_wr_same, bits_mod_two_pow _ _ (by decide), (d.trainedStatus_fields link speed width flit).1]
  rw [Dev.fld, Dev.trained, Dev.rd_withHif, Dev.rd_useLink_awake (by omega), Dev.rd_wr_same, bits_mod_two_pow _ _ h]

theorem Dev.linkCfg_trained : ((d.trained link speed width flit l0p).linkCfg link).l0p = l0p := by
  show (d.l0pLinks link l0p).contains link = l0p
  cases l0p <;> simp [Dev.l0pLinks]

end

/-! ### Low power, unmasking and the resets of a link (R312 to R314, R494) -/

section
variable {link : Nat} {s : State} (onLink : link < 4)
include onLink

theorem exec_l1Entry (up : s.dev.pstate link = 2 ∨ s.dev.pstate link = 3) (aspm : (s.dev.linkCfg link).aspm = true)
    (on : s.dev.fld .HIF_LPM link 31 16 ≠ 0) (idle : s.dev.linkIdle link (s.dev.fld .HIF_LPM link 31 16) = true)
    (quiet : s.dev.linkQuiet link = true) : exec (.l1Entry link) s = .next (s.withDev
      ((s.dev.setFld .HIF_LINK_STATUS link 11 8 (if (s.dev.linkCfg link).l1ss then 5 else 4)).bump .HIF_L1_ENTRIES link)) :=
  show execL1Entry link s = _ from State.act_next (by rw [if_neg (Nat.not_le.2 onLink), if_pos ⟨up, aspm, on, idle, quiet⟩])

theorem exec_l0pReduce {low : Nat} (up : s.dev.pstate link = 2) (flit : s.dev.fld .HIF_LINK_STATUS link 2 2 = 1)
    (partner : (s.dev.linkCfg link).l0p = true) (on : s.dev.l0pWidth link ≠ 0) (calm : s.dev.fld .HIF_LPM link 15 8 ≤ low)
    (narrower : s.dev.l0pWidth link < s.dev.fld .HIF_LINK_STATUS link 16 12) : exec (.l0pReduce link low) s = .next (s.withDev
      (((s.dev.setFld .HIF_LINK_STATUS link 16 12 (s.dev.l0pWidth link)).setFld .HIF_LINK_STATUS link 11 8 3).bump .HIF_L0P_CHANGES link)) :=
  show execL0pReduce link low s = _ from
    State.act_next (by rw [if_neg (Nat.not_le.2 onLink), if_pos ⟨up, flit, partner, on, calm, narrower⟩])

theorem exec_l0pRestore (reduced : s.dev.pstate link = 3) : exec (.l0pRestore link) s = .next (s.withDev
    (((s.dev.setFld .HIF_LINK_STATUS link 16 12 (Sparse.get (fun _ => 0) s.dev.hif.full link)).setFld .HIF_LINK_STATUS link 11 8 2).bump
      .HIF_L0P_CHANGES link)) :=
  show execL0pRestore link s = _ from State.act_next (by rw [if_neg (Nat.not_le.2 onLink), if_pos reduced])

theorem exec_msixUnmask {vector : Nat} (hv : vector < 8192) (hears : s.dev.hears (.bar0 link) = true) :
    exec (.msixUnmask link vector) s = .next (s.withDev (s.dev.bar0Write link (0x110000C + 0x40000 * link + 16 * vector) 4 0)) :=
  show execMsixUnmask link vector s = _ from State.act_next (by rw [if_neg (by omega), if_neg (by simp [hears])])

theorem exec_functionReset (awake : s.dev.awake = true) (present : s.dev.linkPresent link = true) :
    exec (.functionReset link) s = .next (s.withDev (s.dev.takeReset .device (some link))) :=
  show execFunctionReset link s = _ from State.act_next (by rw [if_neg (Nat.not_le.2 onLink), if_pos ⟨awake, present⟩])

theorem exec_surpriseRemoval (awake : s.dev.awake = true) (present : s.dev.linkPresent link = true) (up : s.dev.pstate link ≠ 1)
    (released : link / 2 ∉ s.dev.bcp.perst) :
    let t := s.dev.wr .HIF_LINK_STATUS link (s.dev.fld .HIF_LINK_STATUS link 1 0 + 8 + 0x100)
    let u := (t.draw.2.bump .HIF_GONE_EVENTS link).whistle 0x10 (unitId 0x08 0 link) 0 t.draw.1
    exec (.surpriseRemoval link) s = .next (s.withDev (((u.stopPitches link).failLink link).forgetHost link)) :=
  show execSurpriseRemoval link s = _ from
    State.act_next (by rw [if_neg (Nat.not_le.2 onLink), if_neg (by simp [awake, present, up, released])])

end

theorem Dev.vectors_le (d : Dev) (link : Nat) : d.vectors link ≤ 8192 := by
  unfold Dev.vectors; split <;> decide

/-- A write of the control word of a vector that the link has (R313). -/
theorem Dev.msixWrite_ctl {d : Dev} {link vector : Nat} (has : vector < d.vectors link) (v m : Nat) :
    d.msixWrite .HIF_MSIX_CTL (8192 * link + vector) v m = (d.plainWrite .HIF_MSIX_CTL (8192 * link + vector) v m).msixOpen link vector := by
  have bound := d.vectors_le link
  have ofLink : (8192 * link + vector) / 8192 = link := by omega
  have ofVector : (8192 * link + vector) % 8192 = vector := by omega
  rw [Dev.msixWrite, ofLink, ofVector, if_neg (Nat.not_le.2 has), if_pos rfl]

@[simp] theorem Dev.perstLink_bcp (d : Dev) (k : Nat) : (d.perstLink k).bcp = d.bcp := by
  unfold Dev.perstLink; split <;> rfl

/-- PERST# of a port is seen asserted. -/
def Dev.perstSeen (d : Dev) (port : Nat) : Dev := { d with bcp := { d.bcp with perst := port :: d.bcp.perst } }

theorem Dev.awake_perstSeen (d : Dev) (port : Nat) : (d.perstSeen port).awake = d.awake := rfl

/-- The links of a port as its PERST# is asserted: both are down. -/
def Dev.perstDown (d : Dev) (port : Nat) : Dev := ((d.perstSeen port).perstLink (2 * port)).perstLink (2 * port + 1)

/-- The reset of a port whose PERST# is asserted: of its links, and of the whole device where the other port's is asserted as well (R494). -/
def Dev.perstReset (d : Dev) (port : Nat) : Dev :=
  let t := d.perstDown port
  if t.bcp.perst.contains (1 - port) then t.takeReset .device none
  else
    let u := t.takeReset .device (some (2 * port))
    if u.linkPresent (2 * port + 1) then u.takeReset .device (some (2 * port + 1)) else u

section
variable {d : Dev} {port : Nat} (onPort : port < 2)
include onPort

theorem Dev.perstDown_other : (d.perstDown port).bcp.perst.contains (1 - port) = true ↔ 1 - port ∈ d.bcp.perst := by
  have other : 1 - port ≠ port := by omega
  simp [Dev.perstDown, Dev.perstSeen, other]

theorem Dev.perstReset_both (both : 1 - port ∈ d.bcp.perst) : d.perstReset port = (d.perstDown port).takeReset .device none := by
  rw [Dev.perstReset, if_pos ((Dev.perstDown_other onPort).2 both)]

theorem Dev.perstReset_alone (alone : 1 - port ∉ d.bcp.perst) : let u := (d.perstDown port).takeReset .device (some (2 * port))
    d.perstReset port = if u.linkPresent (2 * port + 1) then u.takeReset .device (some (2 * port + 1)) else u := by
  rw [Dev.perstReset, if_neg (mt (Dev.perstDown_other onPort).1 alone)]

end

section
variable {port : Nat} {s : State} (onPort : port < 2)
include onPort

theorem exec_perstAssert_again (asserted : port ∈ s.dev.bcp.perst) : exec (.perstAssert port) s = .next s :=
  show execPerstAssert port s = .next (s.withDev s.dev) from
    State.act_next (by rw [if_neg (Nat.not_le.2 onPort), if_pos (List.contains_iff_mem.2 asserted)])

variable (released : port ∉ s.dev.bcp.perst)
include released

theorem exec_perstAssert_asleep (asleep : s.dev.awake = false) : exec (.perstAssert port) s = .next (s.withDev (s.dev.perstSeen port)) := by
  refine show execPerstAssert port s = _ from State.act_next ?_
  rw [if_neg (Nat.not_le.2 onPort), if_neg (by simp [released])]
  exact if_pos (by rw [← Dev.perstSeen, Dev.awake_perstSeen, asleep]; rfl)

theorem exec_perstAssert_awake (awake : s.dev.awake = true) : exec (.perstAssert port) s = .next (s.withDev (s.dev.perstReset port)) := by
  refine show execPerstAssert port s = _ from State.act_next ?_
  rw [if_neg (Nat.not_le.2 onPort), if_neg (by simp [released])]
  exact (if_neg (by rw [← Dev.perstSeen, Dev.awake_perstSeen, awake]; decide)).trans (apply_ite Outcome.next _ _ _).symm

end

/-- Settles O45, clause by clause: the Pitch Map, the Window table and its commits, the requests of a host, completions and tags, and the
life of a link. -/
theorem hostInterface : Obligations.HostInterface := by
  unfold Obligations.HostInterface
  refine ⟨fun o tag p s fits pitch takes => ⟨exec_pmapRead fits pitch takes, exec_pmapWrite fits pitch takes⟩,
    fun p tag d pitch fits => ⟨d.pmapWrite_mem p tag, fun q => d.pmap_pmapWrite_other tag pitch, fun bars => ?barred,
      fun free dup => ?duplicate, fun free unique => ?accepted⟩,
    fun o tag w s fits window takes => ⟨exec_winWritePending fits window takes, exec_winRead fits window takes,
      exec_winReadPending fits window takes⟩,
    fun tag w v d window fits => ⟨⟨d.winPend_winPut_same window, ?pending, d.winPut_dirty w tag, d.fld_winPut_tag fits,
      fun j => d.winPend_winPut_other, fun j => d.win_winPut⟩, (d.rd_winData v).1, (d.rd_winData v).2, Dev.fld_winTag _ fits, d.winData_hif v tag⟩,
    fun o tag s fits takes => ⟨exec_winCommit fits takes, exec_winDiscard fits takes⟩,
    fun o tag d => ⟨Dev.winCommit_lockdown o tag, Dev.winCommit_busy o tag, Dev.winCommit_clean o tag,
      fun runs free dirty => ⟨Dev.winCommit_inconsistent o tag runs free dirty, fun passes => ?commit⟩, d.winDiscard_hif tag⟩,
    fun tag detail result d ht hd hr => ⟨d.rd_winStatus ht hd hr, d.winStatus_hif .., fun j => d.win_wr_status _⟩,
    fun s => ⟨fun tag snap clears => exec_winCommitPoint, exec_winCommitPoint_idle⟩,
    fun space link addr len span pasid write atomic data parity s onLink hears => exec_bar4Request onLink hears ..,
    fun link addr len span pasid write atomic data d onLink => ⟨fun sp => Dev.hostRequest_beyond,
      fun within read plain => Dev.hostRequest_bar0_bad within plain read, fun within writes plain => Dev.hostRequest_bar0_write within plain writes,
      Dev.hostRequest_bar2_read, Dev.hostRequest_cfg_read, fun within => ?bar4⟩,
    fun link w addr len write data d => ⟨Dev.winAccess_shared, Dev.winAccess_noKey, fun hbm key owned => ⟨Dev.winAccess_unserved hbm owned,
      fun served => ⟨Dev.winAccess_write hbm owned served, fun read sound => ?sound, fun read bad => ?bad⟩⟩⟩,
    fun link tag ok last data s => ⟨fun r out => ⟨exec_completionReceived_fails out last data, exec_completionReceived_last out data,
      exec_completionReceived_more out data, exec_completionTimeout_due out, exec_completionTimeout_early out⟩,
      fun unasked => ⟨fun quarantined ends => ?frees, fun stays => ?stays⟩, fun due quarantined =>
        ⟨exec_tagRelease_due quarantined, exec_tagRelease_early quarantined⟩⟩,
    fun link speed width flit l0p s onLink present down => ⟨_, exec_pcieLinkUp onLink present down speed width flit l0p, ?trained⟩,
    fun link s onLink => ⟨exec_l1Entry onLink, fun low => exec_l0pReduce onLink, exec_l0pRestore onLink, fun vector => exec_msixUnmask onLink,
      exec_functionReset onLink, exec_surpriseRemoval onLink⟩,
    fun link vector v m d _ has => Dev.msixWrite_ctl has v m,
    fun port s onPort => ⟨exec_perstAssert_again onPort, exec_perstAssert_asleep onPort, fun released awake => ⟨fun both => ?both,
      fun alone => ?alone⟩⟩⟩
  case barred => rw [Dev.pmapWrite_eq, if_pos (by rwa [d.pmapKeeps_eq_false_iff])]
  case duplicate =>
    rw [Dev.pmapWrite_eq, if_neg (by rwa [d.pmapKeeps_eq_false_iff]), if_pos ((d.pmapDup_iff p).2 dup)]
  case accepted =>
    rw [Dev.pmapWrite_eq, if_neg (by rwa [d.pmapKeeps_eq_false_iff]), if_neg (mt (d.pmapDup_iff p).1 unique)]
    exact ⟨d.pmap_pmapPut_same tag pitch, d.rd_pmapPut_status p tag fits, d.isFrozen_pmapPut p tag⟩
  case pending => exact d.winPut_eq ▸ Dev.fld_setFld_same _ _ _ _ (by decide) (by decide)
  case commit =>
    rw [Dev.winCommit_accepted o tag runs free dirty passes]
    exact ⟨Dev.winStatus_hif .., rfl, List.length_append⟩
  case bar4 =>
    have ask := Dev.hostRequest_bar4 (d := d) (link := link) (pasid := pasid) (atomic := atomic) (span := span) within
    exact ⟨fun isAtomic => ask.trans (Dev.winRequest_atomic isAtomic), fun plain miss => ask.trans (Dev.winRequest_miss plain miss),
      fun plain w hit => ⟨fun suspect => ask.trans (Dev.winRequest_suspect plain hit suspect),
        fun passes => ask.trans (Dev.winRequest_passes plain hit passes)⟩⟩
  case sound => exact (Dev.winAccess_read hbm owned served read).trans (if_neg (by rw [Dev.winTarget, sound]; decide))
  case bad => exact (Dev.winAccess_read hbm owned served read).trans (if_pos bad)
  case frees => rw [exec_completionReceived_unexpected unasked, if_pos ⟨quarantined, ends⟩]
  case stays =>
    rw [exec_completionReceived_unexpected unasked, if_neg]
    rintro ⟨quarantined, ends⟩
    obtain unknown | ⟨more, good⟩ := stays
    · simp [unknown] at quarantined
    · simp [more, good] at ends
  case trained =>
    obtain ⟨up, rate, lanes, mode, gone⟩ := s.dev.trainedStatus_fields link speed width flit
    have field {hi lo : Nat} (h : hi < 64) := s.dev.fld_trained link speed width flit l0p (lo := lo) h
    exact ⟨(field (by decide)).trans up, s.dev.linkCfg_trained .., (field (by decide)).trans rate, (field (by decide)).trans lanes,
      (field (by decide)).trans mode, (field (by decide)).trans gone⟩
  case both => exact (exec_perstAssert_awake onPort released awake).trans (by rw [Dev.perstReset_both onPort both]; rfl)
  case alone => exact (exec_perstAssert_awake onPort released awake).trans (by rw [Dev.perstReset_alone onPort alone]; rfl)

end Sys2Proof.Machine
end

section
/-! PROOFS of the family 95_what_each_step_holds.md: every well-formed command answers a next state, and the queue drains. -/

namespace Sys2Proof.Machine

open Host

/-! ### Every well-formed command answers a next state -/

/-- The outcome is a next device, neither a fault nor a refusal. -/
def Answers (o : Outcome Dev Fault Refusal) : Prop := ∃ d, o = .next d

/-- The outcome is a next state with the queue of `s`. -/
def State.Runs (s : State) (o : Outcome State Fault Refusal) : Prop := ∃ d, o = .next (s.withDev d)

theorem answers_next (d : Dev) : Answers (.next d) := ⟨d, rfl⟩

theorem answers_ite {p : Prop} [Decidable p] {a b : Outcome Dev Fault Refusal} (ha : Answers a) (hb : Answers b) :
    Answers (if p then a else b) := by
  split <;> assumption

/-- A guard that does not hold raises no fault. -/
theorem answers_guard {p : Prop} [Decidable p] {e : Fault} {o : Outcome Dev Fault Refusal} (h : ¬ p) (ho : Answers o) :
    Answers (if p then .fault e else o) := by
  rwa [if_neg h]

theorem State.runs_ite {p : Prop} [Decidable p] {s : State} {a b : Outcome State Fault Refusal} (ha : s.Runs a) (hb : s.Runs b) :
    s.Runs (if p then a else b) := by
  split <;> assumption

theorem State.runs_guard {p : Prop} [Decidable p] {e : Fault} {s : State} {o : Outcome State Fault Refusal} (h : ¬ p) (ho : s.Runs o) :
    s.Runs (if p then .fault e else o) := by
  rwa [if_neg h]

theorem State.runs_act {s : State} {f : Dev → Outcome Dev Fault Refusal} (h : Answers (f s.dev)) : s.Runs (s.act f) := by
  obtain ⟨d, h⟩ := h
  exact ⟨d, State.act_next h⟩

/-- A row of the datapath answers when its meaning does, and while the datapath stands still. -/
theorem State.runs_flow {s : State} {f : Dev → Outcome Dev Fault Refusal} (h : Answers (f s.dev)) : s.Runs (s.flow f) := by
  obtain ⟨d, h⟩ := h
  refine State.runs_act (answers_ite ?_ (answers_next _))
  rw [h]
  exact answers_next _

theorem State.logAt_runs {link : Nat} (h : link < 4) (s : State) (r : Reg) (i : Nat) : s.Runs (s.logAt link r i) :=
  State.runs_act (answers_guard (by omega) (answers_next _))

theorem Dev.run_answers {k : Nat} (h : k ≤ 2048) (d : Dev) (word : Nat) (legal onBcp : Bool) (body : Dev → Dev) :
    Answers (d.run k word legal onBcp body) :=
  answers_guard (by omega) (answers_ite (answers_next _) (answers_next _))

theorem Dev.tblIssue_answers {n : Nat} (h : n < 16) (d : Dev) (o : Origin) (op table tag : Nat) (snapView : Bool) :
    Answers (d.tblIssue o n op table tag snapView) :=
  answers_guard (by omega) (answers_next _)

theorem Dev.supWrite_answers {c : Nat} (h : c < 8) (d : Dev) (o : Origin) (thread op : Nat) (pcSet : Bool) (tag : Nat) :
    Answers (d.supWrite o c thread op pcSet tag) :=
  answers_guard (by omega) (answers_next _)

theorem Dev.capsule_answers (d : Dev) (op : Nat) (src : CapSrc) (buf : Fetch) (row : CapDef) : Answers (d.capsule op src buf row) := by
  rw [Dev.capsule]
  split
  · exact answers_next _
  · refine answers_ite (answers_next _) ?_
    split <;> exact answers_next _

theorem Dev.stxTake_answers (d : Dev) (c : Nat) (miss : Bool) (mine : Frame → Bool) (body : Dev → Nat → Frame → Dev) :
    Answers (d.stxTake c miss mine body) := by
  rw [Dev.stxTake]
  split
  · exact answers_next _
  · dsimp only
    split <;> exact answers_next _

theorem Dev.takePdu_answers (d : Dev) (c typ : Nat) (body : Dev → Conn → List Byte → StxCmd → Dev) :
    Answers (d.takePdu c typ body) := by
  rw [Dev.takePdu]
  dsimp only
  split
  · exact answers_next _
  · refine answers_ite (answers_next _) (answers_ite (answers_next _) ?_)
    split <;> exact answers_next _

theorem Dev.message_answers {p : MsgPath} (h : p.ok = true) (d : Dev) (run : Dev → Dev) : Answers (d.message p run) := by
  cases p with
  | doe k => exact answers_guard (by simpa [MsgPath.ok] using h) (answers_next _)
  | vdm k e => exact answers_guard (by simp only [MsgPath.ok, Bool.and_eq_true, decide_eq_true_eq] at h; omega) (answers_next _)
  | smbus e => exact answers_next _

theorem Dev.pldm_answers {p : MsgPath} (h : p.ok = true) (d : Dev) (run : Dev → Dev) : Answers (d.pldm p run) := by
  cases p with
  | doe k => exact answers_guard (by simpa [MsgPath.ok] using h) (answers_next _)
  | vdm k e => exact d.message_answers h run
  | smbus e => exact d.message_answers h run

theorem Dev.ncsi_answers {channel : Nat} (h : channel < 31) (d : Dev) (pkg : Nat) (run : Dev → Dev) : Answers (d.ncsi pkg channel run) :=
  answers_guard (by omega) (answers_next _)

/-- A doorbell names a page that the device has when it comes over BAR2 (R298). -/
theorem Origin.page_of_ok {link page : Nat} (h : (Origin.bar2 link page).ok = true) : ¬ 4096 ≤ page := by
  simp only [Origin.ok, Bool.and_eq_true, decide_eq_true_eq] at h
  omega

theorem execWorkDoorbell_runs {o : Origin} (h : o.ok = true) (off width v : Nat) (s : State) : s.Runs (execWorkDoorbell o off width v s) := by
  refine State.runs_act ?_
  cases o with
  | bar2 link page => exact answers_guard (Origin.page_of_ok h) (answers_next _)
  | thread c t => exact answers_ite (answers_next _) (answers_next _)
  | _ => exact answers_next _

theorem execCompletionDoorbell_runs {o : Origin} (h : o.ok = true) (off width v : Nat) (s : State) :
    s.Runs (execCompletionDoorbell o off width v s) := by
  refine State.runs_act ?_
  cases o with
  | bar2 link page => exact answers_guard (Origin.page_of_ok h) (answers_next _)
  | thread c t => exact answers_ite (answers_next _) (answers_next _)
  | _ => exact answers_next _

/-- A meaning that raises its fault where its arbiter is none of the device's (R331). -/
theorem execRingTurn_runs {a : Nat} (h : a < 4 ∨ 8 ≤ a ∧ a < 16) (l : List Fetch) (s : State) : s.Runs (execRingTurn a l s) :=
  State.runs_act ⟨_, if_pos h⟩

theorem execReceiveDelivery_runs (ring : Nat) (s : State) : s.Runs (exec (.receiveDelivery ring) s) := by
  cases runs : s.dev.pathOpen with
  | false => exact ⟨s.dev, show execReceiveDelivery ring s = _ from State.flow_closed runs _⟩
  | true =>
    cases first : s.dev.firstIf (fun f => f.loc = .ringEngine && f.rxRing = some ring) with
    | none => exact ⟨_, show execReceiveDelivery ring s = _ from State.flow_next runs (by rw [first])⟩
    | some e =>
      cases next : s.dev.nextRecv ring with
      | some i => exact ⟨_, exec_receiveDelivery_fills runs first next⟩
      | none =>
        by_cases waits : (s.dev.rxRingOf e.2).2 = true ∧ (s.dev.ring ring).st = 1
        · exact ⟨_, exec_receiveDelivery_waits runs first next waits⟩
        · exact ⟨_, exec_receiveDelivery_drops runs first next waits⟩

theorem execReceiveR2t_runs (c : Nat) (s : State) : s.Runs (execReceiveR2t c s) :=
  State.runs_flow (answers_ite (answers_next _) (Dev.takePdu_answers ..))

theorem execRdmaReadRequest_runs (c : Nat) (miss : Bool) (s : State) : s.Runs (execRdmaReadRequest c miss s) := by
  refine State.runs_flow (answers_ite (answers_next _) ?_)
  split
  · exact answers_next _
  · exact Dev.stxTake_answers ..

theorem execPldmSensorRead_runs {p : MsgPath} (hp : p.ok = true) {sensor : Nat} (h : sensor < 104) (s : State) :
    s.Runs (execPldmSensorRead p sensor s) :=
  State.runs_act (answers_guard (by omega) (Dev.message_answers hp ..))

/-- The capsule of an OEM command is carried out by one of the capsule rows. -/
theorem carried_runs (src : CapSrc) (buf : Fetch) (left tripping op : Nat) (s : State) : s.Runs (carried src buf left tripping op s) := by
  unfold carried
  repeat' with_reducible apply State.runs_ite
  all_goals exact State.runs_act (Dev.capsule_answers ..)

theorem execOemCommand_runs {channel : Nat} (h : channel < 31) (pkg mfr word : Nat) (buf : List Byte) (left tripping : Nat) (s : State) :
    s.Runs (execOemCommand pkg channel mfr word buf left tripping s) := by
  exact State.runs_guard (by omega) (State.runs_ite ⟨s.dev, rfl⟩ (State.runs_ite (State.runs_act (answers_next _)) (carried_runs ..)))

/-- Every meaning answers a next device when the command's operands name objects of the device. The commands that share a form have its
lemma; the others are walked through branch by branch, and what is left are the guards that the operands pass. -/
theorem exec_runs (c : Instr) (s : State) (h : c.wf = true) : s.Runs (exec c s) := by
  cases c <;> dsimp only [exec]
  case add | sub | and | or | xor | sll | srl | sra | slt | sltu | min | max | minu | maxu | mul | mulh | mulhu | div | divu | rem | remu | bswap |
      popc | clz | ctz | addi | andi | ori | xori | slti | sltiu | shi | lih | adr | ldB | ldH | ldW | ldD | ldBu | ldHu | ldWu | stB | stH | stW |
      stD | amoSwap | amoAdd | amoAnd | amoOr | amoXor | amoMin | amoMax | amoMinu | amoMaxu | cas | fence | beq | bne | blt | bge | bltu | bgeu | bf
      | bnf | jmp | call | jr | jalr | xtr | ins | kvld | kvst | kvclr | lkp | crc | ctradd | ctraddBytes | ptake | pret | pretEnd | pfree | balloc |
      fork | forkD | forkw | forkwD | join | exit | sev | tmarm | tmdis | wfe | sbegin | scommit | sabort | sys | wait | brk =>
    exact State.runs_act (Dev.run_answers (of_decide_eq_true h) ..)
  case setMode | calWrite | cryKekLoad | cryKekErase | siteInfo | siteRegRead | siteRegWrite | calRead | dorLoad | dorThreadAct | pitReset | pitInfo |
      pitOp | pitMigkeyLoad | cryKeyLoad | cryKeyErase | crySaWrite | stxConnInstall | stxConnRemove | stxNsWrite | bcpReboot | bcpImgkeySet |
      bcpSvnCommit | logRead | benchReadmit | jnlCkptRead | pwrDormant =>
    exact State.runs_act (Dev.capsule_answers ..)
  case capsuleResp | c2hData =>
    exact State.runs_flow (Dev.takePdu_answers ..)
  case tcpSegment | finReceived | rstReceived | roceAckReceived | nakReceived | cnpReceived | rdmaWrite | responseSend =>
    exact State.runs_flow (Dev.stxTake_answers ..)
  case getVersion | getCapabilities | negotiateAlgorithms | getDigests | getCertificate | challenge | getMeasurements | mctpControl =>
    exact State.runs_act (Dev.message_answers h ..)
  case queryDeviceIdentifiers | getFirmwareParameters | requestUpdate | passComponentTable | updateComponent | requestFirmwareData | transferComplete
      | verifyComplete | applyComplete | activateFirmware | getStatus | cancelUpdateComponent | cancelUpdate =>
    exact State.runs_act (Dev.pldm_answers h ..)
  case getLinkStatus | ncsiGetCapabilities | enableChannelNetworkTx =>
    exact State.runs_act (Dev.ncsi_answers (of_decide_eq_true h) ..)
  case tblParityLogRead | tblFrozenLogRead | rngErrLogRead | stxConnLogRead | bcpEventLogRead =>
    exact State.logAt_runs (of_decide_eq_true h) ..
  case keyportLoad | keyportErase | keyportGenerate | connInstall | stxRead | connRemove | nsWrite | bind | resetDrain | resetSquash | freeze | thaw |
      save | restore | release =>
    exact State.runs_act (answers_next _)
  case readIndex | writeIndex | insert | delete | search | update =>
    simp only [Instr.wf, Bool.and_eq_true, decide_eq_true_eq] at h
    exact State.runs_act (Dev.tblIssue_answers (by omega) ..)
  case threadResume | threadRestart | threadKill | threadHalt | threadStart | coreRestart =>
    simp only [Instr.wf, Bool.and_eq_true, decide_eq_true_eq] at h
    exact State.runs_act (Dev.supWrite_answers (by omega) ..)
  case workDoorbell => exact execWorkDoorbell_runs h ..
  case completionDoorbell => exact execCompletionDoorbell_runs h ..
  case ringTurn => exact execRingTurn_runs (by simpa [Instr.wf] using h) ..
  case receiveDelivery => exact execReceiveDelivery_runs ..
  case receiveR2t => exact execReceiveR2t_runs ..
  case rdmaReadRequest => exact execRdmaReadRequest_runs ..
  case dmaHaltLogRead =>
    simp only [Instr.wf, Bool.and_eq_true, decide_eq_true_eq] at h
    exact State.runs_guard (by omega) (State.logAt_runs h.1 ..)
  case pldmSensorRead =>
    simp only [Instr.wf, Bool.and_eq_true, decide_eq_true_eq] at h
    exact execPldmSensorRead_runs h.1 h.2 ..
  case oemCommand => exact execOemCommand_runs (of_decide_eq_true h) ..
  case transmitFrame | parseFrame | headerAdmission | flowMissReturn | egressPipeline | pathDeliver | spillReadback | puntHandover | scheduleFrame |
      cryptoDispatch | laneOutput | storeStart | commandSend | delayedAck | rtoExpiry | persistTimer | ackTimeout | rnrWaitEnd =>
    refine State.runs_flow ?_
    repeat' first
      | with_reducible exact answers_next _
      | with_reducible refine answers_guard ?_ ?_
      | with_reducible apply answers_ite
      | split
      | dsimp only
    all_goals
      simp only [Instr.wf, decide_eq_true_eq] at h
      grind
  all_goals refine State.runs_act ?_
  all_goals
    repeat' first
      | with_reducible exact answers_next _
      | with_reducible refine answers_guard ?_ ?_
      | with_reducible apply answers_ite
      | split
      | dsimp only
  all_goals
    simp only [Instr.wf, Bool.and_eq_true, decide_eq_true_eq] at h
    grind

/-- Settles O57: a meaning answers a next device, and the queue stays. -/
theorem everyCommandRuns : Obligations.EveryCommandRuns := fun c s h => exec_runs c s h

/-! ### The queue -/

theorem step_front {s : State} {c : Instr} {rest : List Instr} (h : s.pending = c :: rest) : step s = exec c { s with pending := rest } := by
  rw [step, h]

theorem step_idle {s : State} (h : s.pending = []) : step s = .next s := by
  rw [step, h]

/-- Settles O53: it is the step's second branch. -/
theorem stepRunsFront : Obligations.StepRunsFront := fun _ _ _ => step_front

/-- Settles O54: it is the step's first branch. -/
theorem stepIdles : Obligations.StepIdles := fun _ => step_idle

/-- A step from a queue of well-formed commands takes its first one off, and the rest are well formed. -/
theorem step_queueOk {s : State} (h : s.queueOk = true) : ∃ t, step s = .next t ∧ t.pending = s.pending.tail ∧ t.queueOk = true := by
  cases queue : s.pending with
  | nil => exact ⟨s, step_idle queue, queue, h⟩
  | cons c rest =>
    rw [State.queueOk, queue, List.all_cons, Bool.and_eq_true] at h
    obtain ⟨front, others⟩ := h
    obtain ⟨d, runs⟩ := exec_runs c { s with pending := rest } front
    exact ⟨_, (step_front queue).trans runs, rfl, others⟩

/-- Settles O58, by whether a command waits. -/
theorem queueStaysSafe : Obligations.QueueStaysSafe := fun _ => step_queueOk

theorem core_run_succ {s t : State} (h : step s = .next t) (n : Nat) : core.run (n + 1) s = core.run n t := by
  have front : core.step s = .next t := h
  simp only [Host.Core.run, front]

theorem core_run_idle {s : State} (h : s.pending = []) (n : Nat) : core.run n s = .next s := by
  induction n with
  | zero => rfl
  | succ n ih => exact (core_run_succ (step_idle h) n).trans ih

/-- A run of `m` steps and more carries out the `m` commands that wait, and then idles. -/
theorem core_run_drains (m : Nat) : ∀ {s : State}, s.queueOk = true → s.pending.length = m →
    ∃ t : State, t.pending = [] ∧ ∀ n, core.run (m + n) s = .next t := by
  induction m with
  | zero =>
    intro s _ empty
    exact ⟨s, List.length_eq_zero_iff.1 empty, fun n => core_run_idle (List.length_eq_zero_iff.1 empty) _⟩
  | succ m ih =>
    intro s ok waits
    obtain ⟨t, steps, queue, safe⟩ := step_queueOk ok
    obtain ⟨u, empty, runs⟩ := ih safe (by rw [queue, List.length_tail, waits, Nat.add_sub_cancel])
    exact ⟨u, empty, fun n => by rw [Nat.add_right_comm, core_run_succ steps, runs]⟩

/-- Settles O59, by induction on the number of commands that wait. -/
theorem queueDrains : Obligations.QueueDrains := by
  intro s n ok
  obtain ⟨t, empty, runs⟩ := core_run_drains s.pending.length ok rfl
  exact ⟨t, runs n, empty, runs 0⟩

end Sys2Proof.Machine
end

section
/-! PROOFS of the family 19_address_map.md: the place of a register element in BAR0. -/

namespace Sys2Proof.Machine

theorem dimCount_cons (n st : Nat) (d : List (Nat × Nat)) : dimCount ((n, st) :: d) = n * dimCount d := by
  have scaled (l : List (Nat × Nat)) (a : Nat) : l.foldl (fun a x => a * x.1) a = a * dimCount l := by
    induction l generalizing a with
    | nil => exact (Nat.mul_one a).symm
    | cons x l ih => rw [dimCount, List.foldl_cons, List.foldl_cons, ih, ih (1 * x.1), Nat.one_mul, Nat.mul_assoc]
  rw [dimCount, List.foldl_cons, scaled, Nat.one_mul]

/-- The first offset above those of the elements under dimensions. -/
def dimEnd : List (Nat × Nat) → Nat
  | [] => 1
  | (n, st) :: d => (n - 1) * st + dimEnd d

/-- The elements of each index lie within one stride of it, so that no two elements overlap. -/
def dimsNest : List (Nat × Nat) → Bool
  | [] => true
  | (_, st) :: d => decide (dimEnd d ≤ st) && dimsNest d

theorem dimOffset_lt {d : List (Nat × Nat)} (h : dimsNest d = true) {i : Nat} (hi : i < dimCount d) : dimOffset d i < dimEnd d := by
  induction d generalizing i with
  | nil => exact Nat.one_pos
  | cons x d ih =>
    obtain ⟨n, st⟩ := x
    rw [dimsNest, Bool.and_eq_true] at h
    rw [dimCount_cons] at hi
    have inner : 0 < dimCount d := Nat.pos_of_mul_pos_left (Nat.zero_lt_of_lt hi)
    have outer : i / dimCount d ≤ n - 1 := Nat.le_sub_one_of_lt (Nat.div_lt_of_lt_mul (Nat.mul_comm n _ ▸ hi))
    exact Nat.add_lt_add_of_le_of_lt (Nat.mul_le_mul_right st outer) (ih h.2 (Nat.mod_lt _ inner))

/-- The offset of an element leads back to it, at its first byte. -/
theorem dimIndex_dimOffset {d : List (Nat × Nat)} (h : dimsNest d = true) {i : Nat} (hi : i < dimCount d) :
    dimIndex d (dimOffset d i) = some (i, 0) := by
  induction d generalizing i with
  | nil => rw [Nat.lt_one_iff.1 hi]; rfl
  | cons x d ih =>
    obtain ⟨n, st⟩ := x
    rw [dimsNest, Bool.and_eq_true, decide_eq_true_eq] at h
    rw [dimCount_cons] at hi
    have inner : 0 < dimCount d := Nat.pos_of_mul_pos_left (Nat.zero_lt_of_lt hi)
    have outer : i / dimCount d < n := Nat.div_lt_of_lt_mul (Nat.mul_comm n _ ▸ hi)
    have rest := Nat.mod_lt i inner
    have below : dimOffset d (i % dimCount d) < st := Nat.lt_of_lt_of_le (dimOffset_lt h.2 rest) h.1
    have place : dimOffset ((n, st) :: d) i / st = i / dimCount d := by
      rw [dimOffset, Nat.mul_comm, Nat.mul_add_div (Nat.zero_lt_of_lt below), Nat.div_eq_of_lt below, Nat.add_zero]
    have left : dimOffset ((n, st) :: d) i % st = dimOffset d (i % dimCount d) := by
      rw [dimOffset, Nat.mul_add_mod', Nat.mod_eq_of_lt below]
    rw [dimIndex, place, left, if_pos outer, ih h.2 rest, Option.map_some, Nat.div_add_mod']

/-- The table of the registers nests the indices of each, and every register has a byte (R549). -/
theorem Reg.info_nests (r : Reg) : dimsNest r.info.dims = true ∧ 0 < r.info.width / 8 := by
  cases r <;> decide

/-- Settles O60: the offset of an element from its register's base leads back to the element. -/
theorem registerPlace : Obligations.RegisterPlace := by
  intro r i own hi
  obtain ⟨nests, wide⟩ := r.info_nests
  have place : r.bar0 i = r.info.base + dimOffset r.info.dims i := if_neg (by omega)
  rw [Reg.hit, place]
  rw [if_neg (by omega), Nat.add_sub_cancel_left, dimIndex_dimOffset nests hi]
  exact if_pos wide

end Sys2Proof.Machine
end

section
/-! PROOFS of the family 18_basecamp.md: the course of a capsule, and what the capsules of the site, the clusters, Basecamp, the logs and
power do. -/

namespace Sys2Proof.Machine

open Host

/-! ### The course of a capsule (R511, R513, R515, R525) -/

section
variable {s : Dev} {src : CapSrc} {c k : CapRun} {op : Nat}

/-- A capsule in progress is carried on by the row of its opcode. -/
theorem Dev.capsule_inProgress {stage : Nat} (h : s.capIn src op k stage) (buf : Fetch) (d : CapDef) :
    s.capsule op src buf d = .next (s.capGoOn k d) := by
  obtain ⟨c, source, opcode, found, -⟩ := h
  simp only [Dev.capsule, source, opcode, found, ne_eq, not_true_eq_false, and_false, if_false]

/-- A capsule whose record is sealed takes effect, or ends with the first of its own checks that fails (R515, R523). -/
theorem Dev.capsule_due (h : s.capDue src op k) (buf : Fetch) (d : CapDef) : s.capsule op src buf d = .next
    (if (d.own s k k.buf).1 ≠ 0 then s.capReply k (d.own s k k.buf).1 (d.own s k k.buf).2.1 (d.own s k k.buf).2.2 []
      else d.run s k k.buf) := by
  obtain ⟨running, sealed⟩ := h
  rw [Dev.capsule_inProgress running]
  obtain ⟨c, -, -, -, fresh, runs, powered⟩ := running
  simp only [Dev.capGoOn, fresh, runs, Nat.not_le.2 powered, Option.isNone_eq_false_iff.2 sealed]
  rfl

/-- An effect without checks of its own takes place. -/
theorem Dev.capsule_due_plain (h : s.capDue src op k) (buf : Fetch) (run : Dev → CapRun → Fetch → Dev) :
    s.capsule op src buf (CapDef.plain run) = .next (run s k k.buf) :=
  s.capsule_due h buf _

theorem Dev.capsule_due_passes (h : s.capDue src op k) {d : CapDef} (passes : (d.own s k k.buf).1 = 0) (buf : Fetch) :
    s.capsule op src buf d = .next (d.run s k k.buf) := by
  rw [Dev.capsule_due h, if_neg (by simpa using passes)]

/-- An operation of a capsule that runs goes on with each issue of its row (R515). -/
theorem Dev.capsule_polls (h : s.capIn src op k 1) (buf : Fetch) (d : CapDef) : s.capsule op src buf d = .next (d.poll s k) := by
  rw [Dev.capsule_inProgress h]
  obtain ⟨c, -, -, -, stage, runs, powered⟩ := h
  simp only [Dev.capGoOn, stage, runs, Nat.not_le.2 powered]
  rfl

/-- A new capsule that there is room for is judged (R511, R514, R521). -/
theorem Dev.capsule_new (h : s.capNew src op c) {row : Nat} (mine : (capRow op).isSome = true → row = op) (buf : Fetch) (d : CapDef) :
    s.capsule row src buf d = .next (s.capJudge c buf d) := by
  obtain ⟨source, opcode, absent, awake, powered, room, alone⟩ := h
  have runs : s.bcpRuns = true := by
    simp only [Dev.capRoom, Bool.and_eq_true] at room
    exact room.1.1.1
  have listed : ¬ ((capRow c.opcode).isSome = true ∧ c.opcode ≠ row) := by
    rw [opcode]
    exact fun h => h.2 (mine h.1).symm
  have first : ¬ (c.o.mctp = true ∧ s.bcp.caps.any (fun k => decide (k.o = c.o)) = true) := fun h => by
    simp [alone h.1] at h
  simp only [Dev.capsule, source, listed, absent, if_false, Dev.capArrive, first, room, if_true]
  rw [if_neg (by simp [awake, powered]), if_neg (by simp [runs])]

/-- An operator's capsule passes the checks of R515 that its row gives. -/
theorem Dev.capChecks_may {buf : Fetch} (h : s.capMay c buf) (d : CapDef) : s.capChecks c buf d = 0 := by
  obtain ⟨operator, row, listed, paths, fields, modes⟩ := h
  have path : ¬ (row.ringOnly = true ∧ c.o.management = true) := fun h => by simp [paths h.1] at h
  simp only [Dev.capChecks, listed, operator, path, fields, modes, if_false]
  rfl

/-- A capsule that takes no buffer, or whose buffer came with it, reads none (R512). -/
theorem Dev.capJudge_may {buf : Fetch} (h : s.capMay c buf) {row : CapRow} (listed : capRow c.opcode = some row)
    (came : row.input = true → c.item = none ∧ c.o.management = true) (d : CapDef) :
    s.capJudge c buf d = s.capPassed c row buf d := by
  have read : s.bufRead c row buf = some (buf, s) := if_pos (by
    cases takes : row.input with
    | false => exact .inl rfl
    | true => exact .inr (by rw [(came takes).1]; rfl))
  have whole : c.fetched row buf = true := by
    cases takes : row.input with
    | false => simp [CapRun.fetched, takes]
    | true => simp [CapRun.fetched, (came takes).2]
  simp only [Dev.capJudge, Dev.capChecks_may h, listed, read, whole, if_true]

/-- A message of a management path is the one source of a capsule without an item. -/
theorem Dev.capOf_management (source : s.capOf src = some c) (alone : c.item = none) : c.o.management = true := by
  cases src with
  | ring r =>
    rw [Dev.capOf] at source
    split at source
    · split at source
      · cases source; cases alone
      · cases source
    · cases source
  | path o w =>
    rw [Dev.capOf] at source
    split at source
    · cases source; assumption
    · cases source

/-- What a capsule does once its checks have passed and its buffer has been read (R515). -/
theorem Dev.capPassed_ok (s : Dev) (c : CapRun) (row : CapRow) (bs : List Byte) (d : CapDef) : s.capPassed c row (.ok bs) d =
    if (d.own s c (.ok bs)).1 ≠ 0 ∨ c.checkOnly = true then
      s.capReply c (d.own s c (.ok bs)).1 (d.own s c (.ok bs)).2.1 (d.own s c (.ok bs)).2.2 []
    else if row.reads then d.run s c (.ok bs) else s.capBegin c (.ok bs) 2 0 := by
  obtain ⟨_, _, _, _, _, input⟩ := row
  cases input <;> rfl

/-- A capsule that passes every check raises its record and waits for the seal when it changes state (R515, R523). -/
theorem Dev.capsule_begins (h : s.capNew src op c) {bs : List Byte} (may : s.capMay c (.ok bs)) (acts : c.checkOnly = false) {row : CapRow}
    (listed : capRow op = some row) (records : row.reads = false) (came : row.input = true → c.item = none) {d : CapDef}
    (passes : (d.own s c (.ok bs)).1 = 0) : s.capsule op src (.ok bs) d = .next (s.capBegin c (.ok bs) 2 0) := by
  obtain ⟨source, rfl, -⟩ := id h
  have message (takes : row.input = true) : c.item = none ∧ c.o.management = true :=
    ⟨came takes, Dev.capOf_management source (came takes)⟩
  rw [Dev.capsule_new h (fun _ => rfl), Dev.capJudge_may may listed message, Dev.capPassed_ok, if_neg (by simp [passes, acts]),
    if_neg (by simp [records])]

/-- A capsule that passes every check and changes no state answers at once (R515). -/
theorem Dev.capsule_reads (h : s.capNew src op c) (may : s.capMay c (.ok [])) (acts : c.checkOnly = false) {row : CapRow}
    (listed : capRow op = some row) (reads : row.reads = true) (takes : row.input = false) (run : Dev → CapRun → Fetch → Dev) :
    s.capsule op src (.ok []) (CapDef.plain run) = .next (run s c (.ok [])) := by
  obtain ⟨-, rfl, -⟩ := id h
  rw [Dev.capsule_new h (fun _ => rfl), Dev.capJudge_may may listed (by simp [takes]), Dev.capPassed_ok,
    if_neg (by simp [CapDef.plain, acts]), if_pos reads]
  rfl

end

/-- Settles O32: a new capsule by the first check of R515 that it fails, and the two ends of its course. -/
theorem capsuleCourse : Obligations.CapsuleCourse := by
  refine ⟨?begins, ?buffered, ?unlisted, ?foreign, ?mode, fun d c buf typ stage => ⟨rfl, rfl, rfl, rfl⟩, fun d c st de r alone => ?ended⟩
  case begins =>
    intro src c s
    simp only [List.forall_mem_cons, List.not_mem_nil, false_implies, implies_true, and_true]
    exact ⟨fun new may acts => show execBcpReboot src s = _ from State.act_next (Dev.capsule_begins new may acts rfl rfl nofun rfl),
      fun new may acts => show execBcpSvnCommit src s = _ from State.act_next (Dev.capsule_begins new may acts rfl rfl nofun rfl),
      fun new may acts => show execCryKekErase src s = _ from State.act_next (Dev.capsule_begins new may acts rfl rfl nofun rfl),
      fun new may acts => show execDorThreadAct src s = _ from State.act_next (Dev.capsule_begins new may acts rfl rfl nofun rfl)⟩
  case buffered =>
    intro src c bs s
    simp only [List.forall_mem_cons, List.not_mem_nil, false_implies, implies_true, and_true]
    exact ⟨fun new may alone acts => show execCalWrite src (.ok bs) s = _ from State.act_next (Dev.capsule_begins new may acts rfl rfl (fun _ => alone) rfl),
      fun new may alone acts => show execBcpImgkeySet src (.ok bs) s = _ from State.act_next (Dev.capsule_begins new may acts rfl rfl (fun _ => alone) rfl)⟩
  case unlisted =>
    intro src c s new unlisted
    refine show execSetMode src s = _ from State.act_next ((Dev.capsule_new new (by simp [unlisted]) _ _).trans ?_)
    simp [Dev.capJudge, Dev.capChecks, unlisted, Dev.capRefused]
  case foreign =>
    intro src c p s new tenant
    obtain ⟨-, opcode, -⟩ := id new
    refine show execBcpReboot src s = _ from State.act_next ((Dev.capsule_new new (fun _ => rfl) _ _).trans ?_)
    have listed : capRow c.opcode = some ⟨false, false, allModes, 0, false, false⟩ := opcode ▸ rfl
    simp [Dev.capJudge, Dev.capChecks, listed, tenant]
  case mode =>
    intro src c s new operator elsewhere fields
    obtain ⟨-, opcode, -⟩ := id new
    refine show execBcpSvnCommit src s = _ from State.act_next ((Dev.capsule_new new (fun _ => rfl) _ _).trans ?_)
    have listed : capRow c.opcode = some ⟨false, false, [.maintenance], 0, false, false⟩ := opcode ▸ rfl
    simp [Dev.capJudge, Dev.capChecks, listed, operator, fields, elsewhere, Dev.capRefused]
  case ended =>
    simp only [Dev.capReply, alone]
    exact ⟨rfl, rfl, rfl, Dev.rd_add_same ..⟩

/-- Settles O33, capsule by capsule: a read at once, any other once its record is sealed. -/
theorem capsuleEffects : Obligations.CapsuleEffects := by
  intro src k s
  have plain {op : Nat} (due : s.dev.capDue src op k) {buf : Fetch} {run : Dev → CapRun → Fetch → Dev} :=
    State.act_next (s := s) (f := fun t => t.capsule op src buf (CapDef.plain run)) (Dev.capsule_due_plain due buf run)
  have passes {op : Nat} (due : s.dev.capDue src op k) {buf : Fetch} {d : CapDef} (own : (d.own s.dev k k.buf).1 = 0) :=
    State.act_next (s := s) (f := fun t => t.capsule op src buf d) (Dev.capsule_due_passes due own buf)
  have reads {op : Nat} {row : CapRow} (new : s.dev.capNew src op k) (may : s.dev.capMay k (.ok [])) (acts : k.checkOnly = false)
      (listed : capRow op = some row) (read : row.reads = true) (takes : row.input = false) {run : Dev → CapRun → Fetch → Dev} :=
    State.act_next (s := s) (f := fun t => t.capsule op src (.ok []) (CapDef.plain run))
      (Dev.capsule_reads new may acts listed read takes run)
  refine ⟨fun due own m mode => ?setMode, fun new may acts => ?siteInfo, fun new may acts => ?regRead, fun due left => ?regWrite,
    fun due b => ?calWrite, fun runs b => ?calEnd, fun new may acts => ?calRead, fun due b bs good own => ?dorLoad, fun due => ?threadAct,
    fun due => ?reboot, fun due b bs good => ?imgkey, fun due => ?svn, fun new may acts => ?logRead, fun due fenced => ?readmit,
    fun new may acts x image => ?ckptRead, fun due awake => ?dormant⟩
  case setMode =>
    refine (show execSetMode src s = _ from passes due own).trans ?_
    simp only [Dev.setModeRun, mode]
  case siteInfo => exact show execSiteInfo src s = _ from reads new may acts rfl rfl rfl
  case regRead => exact show execSiteRegRead src s = _ from reads new may acts rfl rfl rfl
  case regWrite => exact show execSiteRegWrite src left s = _ from plain due
  case calWrite => exact show execCalWrite src b s = _ from passes due rfl
  case calEnd => exact show execCalWrite src b s = _ from State.act_next (Dev.capsule_polls runs ..)
  case calRead => exact show execCalRead src s = _ from reads new may acts rfl rfl rfl
  case dorLoad => exact (show execDorLoad src b s = _ from passes due (by rw [good]; exact own)).trans (by simp only [good, Fetch.bytes])
  case threadAct => exact show execDorThreadAct src s = _ from plain due
  case reboot => exact show execBcpReboot src s = _ from plain due
  case imgkey => exact (show execBcpImgkeySet src b s = _ from plain due).trans (by rw [good]; rfl)
  case svn => exact show execBcpSvnCommit src s = _ from plain due
  case logRead => exact show execLogRead src s = _ from reads new may acts rfl rfl rfl
  case readmit => exact show execBenchReadmit src s = _ from passes due (congrArg Prod.fst (if_pos fenced))
  case ckptRead =>
    refine (show execJnlCkptRead src s = _ from reads new may acts rfl rfl rfl).trans ?_
    simp only [Dev.ckptVn, image]
  case dormant => exact show execPwrDormant src s = _ from passes due (by simp [awake])

end Sys2Proof.Machine
end

section
/-! PROOFS of the family 18_basecamp.md: the management messages and the firmware update. -/

namespace Sys2Proof.Machine

open Host

/-! ### Messages that reach Basecamp (R511, R520 to R522) -/

/-- A message of this path reaches Basecamp: its link is up, and a request of the Data Object Exchange finds Basecamp running. -/
def Dev.reaches (d : Dev) (p : MsgPath) : Prop :=
  (∀ k, p = .doe k → k < 4 ∧ d.linkUp k = true ∧ d.bcpRuns = true) ∧ (∀ k e, p = .vdm k e → k < 4 ∧ d.linkUp k = true)

/-- What a management command leaves: its effect, or NOT_READY while Basecamp does not run. -/
def Dev.served (d : Dev) (run : Dev → Dev) : Dev := if d.bcpRuns then run d else d.replyBytes 0xB []

theorem Dev.managed_up {d : Dev} (up : d.mgmtUp = true) (run : Dev → Dev) : d.managed run = d.served run := by
  rw [Dev.managed, if_neg (by simp [up]), Dev.served]

theorem Dev.served_runs {d : Dev} (runs : d.bcpRuns = true) (run : Dev → Dev) : d.served run = run d := if_pos runs

theorem Dev.message_reaches {d : Dev} {p : MsgPath} (reaches : d.reaches p) (up : d.mgmtUp = true) (run : Dev → Dev) :
    d.message p run = .next (d.served run) := by
  obtain ⟨doe, vdm⟩ := reaches
  rw [← Dev.managed_up up]
  cases p with
  | doe k =>
    obtain ⟨has, link, runs⟩ := doe k rfl
    rw [Dev.message, if_neg (Nat.not_le.2 has), link, runs]; rfl
  | vdm k e =>
    obtain ⟨has, link⟩ := vdm k e rfl
    rw [Dev.message, if_neg (Nat.not_le.2 has), link]; rfl
  | smbus e => rfl

/-- PLDM reaches Basecamp over MCTP alone (R534). -/
theorem Dev.pldm_reaches {d : Dev} {p : MsgPath} (reaches : d.reaches p) (up : d.mgmtUp = true) (runs : d.bcpRuns = true)
    (mctp : ∀ k, p ≠ .doe k) (run : Dev → Dev) : d.pldm p run = .next (run d) := by
  rw [← Dev.served_runs runs run, ← Dev.message_reaches reaches up]
  cases p with
  | doe k => exact absurd rfl (mctp k)
  | vdm k e => rfl
  | smbus e => rfl

theorem Dev.ncsi_runs {d : Dev} (up : d.mgmtUp = true) (runs : d.bcpRuns = true) {ch : Nat} (has : ch < 31) (run : Dev → Dev) :
    d.ncsi d.bcp.pkg ch run = .next (run d) := by
  rw [Dev.ncsi, if_neg (Nat.not_le.2 has), if_pos rfl, Dev.managed_up up, Dev.served_runs runs]

/-! ### The stages of an update (R534) -/

theorem Dev.inStage_none {d : Dev} (none : d.bcp.upd = none) (ok : Nat → Bool) (run : Dev → Upd → Dev) :
    d.inStage ok run = d.replyBytes 0x80 [] := by
  rw [Dev.inStage, none]; rfl

theorem Dev.inStage_ok {d : Dev} {x : Upd} (update : d.bcp.upd = some x) {ok : Nat → Bool} (stage : ok x.stage = true)
    (run : Dev → Upd → Dev) : d.inStage ok run = run d x := by
  rw [Dev.inStage, update]; exact if_pos stage

theorem Dev.inStage_wrong {d : Dev} {x : Upd} (update : d.bcp.upd = some x) {ok : Nat → Bool} (stage : ok x.stage = false)
    (run : Dev → Upd → Dev) : d.inStage ok run = d.replyBytes 0x84 [] := by
  rw [Dev.inStage, update]; exact if_neg (by simp [stage])

/-- A command whose record is raised takes effect once it is sealed (R523). -/
theorem Dev.recorded_some {d : Dev} (powered : d.jnl.fail < 2) (p : MsgPath) (cmd : Nat) {x : Upd} {n : Nat} (raised : x.recNo = some n)
    (run : Dev → Dev) : d.recorded p cmd x run = if d.isSealed n then run d else d := by
  rw [Dev.recorded, if_neg (Nat.not_le.2 powered), raised]

theorem Dev.recorded_none {d : Dev} (powered : d.jnl.fail < 2) (p : MsgPath) (cmd : Nat) {x : Upd} (fresh : x.recNo = none)
    (run : Dev → Dev) : d.recorded p cmd x run =
      (d.setUpd (some { x with recNo := some d.log.nextId })).logOrd (mkRec p.origin 2 (unitId 0x0E 0xFF 0xFF) 0 none x.size cmd) none := by
  rw [Dev.recorded, if_neg (Nat.not_le.2 powered), fresh]

/-- Settles O52: the messages by their path, the update by its stage. -/
theorem managementCommands : Obligations.ManagementCommands := by
  refine ⟨fun p s doe vdm up => ?messages, fun d p cmd x run powered => ⟨fun n raised => Dev.recorded_some powered p cmd raised run,
    fun fresh => ?raises⟩, fun d code req l => ⟨_, rfl⟩, fun ch s up runs => ?ncsi⟩
  case messages =>
    have message (run : Dev → Dev) : s.act (fun t => t.message p run) = .next (s.withDev (s.dev.served run)) :=
      State.act_next (Dev.message_reaches ⟨doe, vdm⟩ up run)
    refine ⟨fun req => ⟨show execGetVersion p req s = _ from message _, show execGetCapabilities p req s = _ from message _,
      show execNegotiateAlgorithms p req s = _ from message _, show execGetDigests p req s = _ from message _,
      show execGetCertificate p req s = _ from message _, show execChallenge p req s = _ from message _,
      fun i => show execGetMeasurements p i req s = _ from message _, fun runs => ⟨s.dev.draw.1, ?control⟩⟩,
      fun i has => ?sensor, fun mctp runs => ?pldm⟩
    case control =>
      refine (show execMctpControl p req s = _ from message _).trans ?_
      rw [Dev.served_runs runs]
    case sensor =>
      refine show execPldmSensorRead p i s = _ from State.act_next ?_
      rw [if_neg (Nat.not_le.2 has), Dev.message_reaches ⟨doe, vdm⟩ up]; rfl
    case pldm =>
      have pldm (run : Dev → Dev) : s.act (fun t => t.pldm p run) = .next (s.withDev (run s.dev)) :=
        State.act_next (Dev.pldm_reaches ⟨doe, vdm⟩ up runs mctp run)
      have idle (none : s.dev.bcp.upd = none) (ok : Nat → Bool) (run : Dev → Upd → Dev) :
          s.act (fun t => t.pldm p (fun t => t.inStage ok run)) = .next (s.withDev (s.dev.replyBytes 0x80 [])) :=
        (pldm _).trans (by rw [Dev.inStage_none none])
      refine ⟨show execQueryDeviceIdentifiers p s = _ from pldm _, show execGetFirmwareParameters p s = _ from pldm _,
        show execGetStatus p s = _ from pldm _, ?request, fun none => ?none, fun x update => ?stages⟩
      case request =>
        refine (show execRequestUpdate p s = _ from pldm _).trans ?_
        split
        · rfl
        · cases s.dev.bcp.upd <;> rfl
      case none =>
        simp only [List.forall_mem_cons, List.not_mem_nil, false_implies, implies_true, and_true]
        exact ⟨show execPassComponentTable p s = _ from idle none _ _, show execUpdateComponent p 0 s = _ from idle none _ _,
          show execRequestFirmwareData p [] s = _ from idle none _ _, show execTransferComplete p s = _ from idle none _ _,
          show execVerifyComplete p s = _ from idle none _ _, show execApplyComplete p s = _ from idle none _ _,
          show execActivateFirmware p s = _ from idle none _ _, show execCancelUpdateComponent p s = _ from idle none _ _,
          show execCancelUpdate p s = _ from idle none _ _⟩
      case stages =>
        have stage (ok : Nat → Prop) [DecidablePred ok] (run : Dev → Upd → Dev) :
            (ok x.stage → s.act (fun t => t.pldm p (fun t => t.inStage (fun n => decide (ok n)) run)) = .next (s.withDev (run s.dev x))) ∧
            (¬ ok x.stage → s.act (fun t => t.pldm p (fun t => t.inStage (fun n => decide (ok n)) run)) =
              .next (s.withDev (s.dev.replyBytes 0x84 []))) :=
          ⟨fun right => (pldm _).trans (by rw [Dev.inStage_ok update (decide_eq_true right)]),
            fun wrong => (pldm _).trans (by rw [Dev.inStage_wrong update (decide_eq_false wrong)])⟩
        refine ⟨stage (· = 1) _, fun size => stage (· = 2) _, fun data => stage (· = 3) _, ?transfer, stage (· = 4) _, stage (· = 5) _,
          stage (· = 6) _, stage (3 ≤ ·) _, stage (1 ≤ ·) _⟩
        case transfer =>
          refine ⟨fun right => (show execTransferComplete p s = _ from (stage (· = 3) _).1 right.1).trans (by rw [if_pos right.2]),
            fun wrong => ?_⟩
          by_cases stage3 : x.stage = 3
          · exact (show execTransferComplete p s = _ from (stage (· = 3) _).1 stage3).trans (by rw [if_neg (wrong ⟨stage3, ·⟩)]; rfl)
          · exact show execTransferComplete p s = _ from (stage (· = 3) _).2 stage3
  case raises => rw [Dev.recorded_none powered p cmd fresh]; exact ⟨rfl, List.length_append⟩
  case ncsi =>
    have ncsi (has : ch < 31) (run : Dev → Dev) : s.act (fun t => t.ncsi s.dev.bcp.pkg ch run) = .next (s.withDev (run s.dev)) :=
      State.act_next (Dev.ncsi_runs up runs has run)
    refine ⟨fun cmd req has => ⟨s.dev.draw.1, ?command⟩, fun has => ⟨?link,
      show execNcsiGetCapabilities _ ch s = _ from ncsi has _, show execEnableChannelNetworkTx _ ch s = _ from ncsi has _,
      fun mfr word buf early n foreign => ?foreign, fun word buf early n op => ?site, fun word buf early n op => ?load⟩⟩
    case link =>
      refine (show execGetLinkStatus _ ch s = _ from ncsi has _).trans ?_
      generalize s.dev.read4 (.ncsi ch) (Reg.WIRE_PORT_STATUS.bar0 ch) = answer
      obtain ⟨v, t⟩ := answer
      rfl
    case command =>
      refine show execNcsiCommand _ ch cmd req s = _ from State.act_next ?_
      rw [if_neg (Nat.not_le.2 has), if_pos rfl, Dev.managed_up up, Dev.served_runs runs]
    case foreign =>
      refine (show execOemCommand _ ch mfr word buf early n s = _ from if_neg (Nat.not_le.2 has)).trans ?_
      rw [if_neg (by simp), if_pos foreign, State.act_next (d := s.dev.replyBytes 3 []) ?_]
      rw [Dev.managed_up up, Dev.served_runs runs]; rfl
    case site =>
      refine (show execOemCommand _ ch 0xE7A5 word buf early n s = _ from if_neg (Nat.not_le.2 has)).trans ?_
      rw [if_neg (by simp), if_neg (by simp), op]; rfl
    case load =>
      refine (show execOemCommand _ ch 0xE7A5 word buf early n s = _ from if_neg (Nat.not_le.2 has)).trans ?_
      rw [if_neg (by simp), if_neg (by simp), op]; rfl

end Sys2Proof.Machine
end


section
/-! PROOFS of the family 11_rings_and_completions.md: doorbells, the operations on rings and their drains, the arbiters' turns, lookahead,
the posting of completions, and interrupts. -/

namespace Sys2Proof.Machine

open Host

/-! ### The table of rings and what leaves it as it is -/

@[simp] theorem Dev.ring_setRing_same (d : Dev) (r : Nat) (x : Ring) : (d.setRing r x).ring r = x := Sparse.get_set_same ..
theorem Dev.ring_setRing_other (d : Dev) {r j : Nat} (x : Ring) (h : j ≠ r) : (d.setRing r x).ring j = d.ring j :=
  Sparse.get_set_other _ _ _ h
@[simp] theorem Dev.cq_setCq_same (d : Dev) (q : Nat) (x : Cq) : (d.setCq q x).cq q = x := Sparse.get_set_same ..
@[simp] theorem Dev.cq_setRing (d : Dev) (r q : Nat) (x : Ring) : (d.setRing r x).cq q = d.cq q := rfl
@[simp] theorem Dev.ring_setCq (d : Dev) (q r : Nat) (x : Cq) : (d.setCq q x).ring r = d.ring r := rfl
@[simp] theorem Dev.ring_setItem (d : Dev) (i : ItemRef) (x : Option Item) (r : Nat) : (d.setItem i x).ring r = d.ring r := rfl
@[simp] theorem Dev.ring_wr (d : Dev) (q : Reg) (i v r : Nat) : (d.wr q i v).ring r = d.ring r := rfl
@[simp] theorem Dev.ring_rngStatus (d : Dev) (tag result detail : Nat) (busy : Bool) (r : Nat) :
    (d.rngStatus tag result detail busy).ring r = d.ring r := rfl
@[simp] theorem Dev.ring_rngData (d : Dev) (w v r : Nat) : (d.rngData w v).ring r = d.ring r := rfl
@[simp] theorem Dev.ring_putRngCtx (d : Dev) (v r : Nat) : (d.putRngCtx v).ring r = d.ring r := rfl

theorem Dev.ring_congr {d e : Dev} (same : d.rng = e.rng) (r : Nat) : d.ring r = e.ring r := by rw [Dev.ring, same, Dev.ring]
theorem Dev.cq_congr {d e : Dev} (same : d.rng = e.rng) (q : Nat) : d.cq q = e.cq q := by rw [Dev.cq, same, Dev.cq]

@[simp] theorem Dev.useLink_rng (d : Dev) (k : Nat) : (d.useLink k).rng = d.rng := by
  unfold Dev.useLink Dev.wakeLink; split <;> rfl

@[simp] theorem Dev.useLink_mem (d : Dev) (k : Nat) : (d.useLink k).mem = d.mem := by
  unfold Dev.useLink Dev.wakeLink; split <;> rfl

theorem Dev.rd_useLink_other (d : Dev) {k : Nat} (hk : k < 2 ^ 24) {q : Reg} {j : Nat} (hj : j < 2 ^ 24) (h : q ≠ .HIF_LINK_STATUS) :
    (d.useLink k).rd q j = d.rd q j := by
  show (d.wakeLink k).rd q j = d.rd q j
  unfold Dev.wakeLink
  split
  · exact Dev.rd_setFld_other _ _ _ _ hk hj h
  · rfl

@[simp] theorem Dev.msix_rng (d : Dev) (k v : Nat) : (d.msix k v).rng = d.rng := by
  unfold Dev.msix
  split
  · rfl
  split
  · rfl
  · exact Dev.useLink_rng ..

@[simp] theorem Dev.msix_mem (d : Dev) (k v : Nat) : (d.msix k v).mem = d.mem := by
  unfold Dev.msix
  split
  · rfl
  split
  · rfl
  · exact Dev.useLink_mem ..

theorem Dev.rd_msix_other (d : Dev) {k v : Nat} (hk : k < 4) {q : Reg} {j : Nat} (hj : j < 2 ^ 24) (pending : q ≠ .HIF_MSIX_PBA)
    (status : q ≠ .HIF_LINK_STATUS) : (d.msix k v).rd q j = d.rd q j := by
  have has := d.vectors_le k
  unfold Dev.msix
  split
  · rfl
  split
  · exact Dev.rd_setFld_other _ _ _ _ (by omega) hj pending
  · exact Dev.rd_useLink_other _ (by omega) hj status

section
variable {β : Type} (g : Dev → β) (keeps : ∀ d dor free, g { d with dor := dor, free := free } = g d) (d : Dev)
include keeps

theorem Dev.setCtx_same (k : Nat) (x : Ctx) : g (d.setCtx k x) = g d := keeps d _ d.free

theorem Dev.arrive_same (k : Nat) (onBoundary : Bool) : g (d.arrive k onBoundary) = g d := by
  obtain h | ⟨free, j, n, h⟩ := d.arrive_eq k onBoundary <;> rw [h]
  rw [Dev.setCtx_same g keeps]
  exact keeps d _ free

/-- The end of a wait reaches the contexts and their cores alone, and may draw a free value. -/
theorem Dev.endWait_same (k : Nat) (onBoundary : Bool) : g (d.endWait k onBoundary) = g d := by
  unfold Dev.endWait
  dsimp only
  split
  · split
    · rfl
    · rw [Dev.setCtx_same g keeps, Dev.goOn, Dev.setCtx_same g keeps, Dev.arrive_same g keeps]
  · rfl

theorem Dev.wakeDue_same (c : Nat) : g (d.wakeDue c) = g d := by
  unfold Dev.wakeDue
  split
  · exact keeps d _ d.free
  · rfl

/-- An event reaches the contexts and their cores alone, and may draw a free value. -/
theorem Dev.setEvent_same (k bitNo : Nat) : g (d.setEvent k bitNo) = g d := by
  unfold Dev.setEvent
  dsimp only
  split
  · rfl
  split
  · rw [Dev.wakeDue_same g keeps, Dev.setCtx_same g keeps]
  · rw [Dev.endWait_same g keeps, Dev.setCtx_same g keeps]

end

@[simp] theorem Dev.setEvent_mem (d : Dev) (k bitNo : Nat) : (d.setEvent k bitNo).mem = d.mem :=
  Dev.setEvent_same (·.mem) (fun _ _ _ => rfl) d k bitNo

@[simp] theorem Dev.setEvent_rng (d : Dev) (k bitNo : Nat) : (d.setEvent k bitNo).rng = d.rng :=
  Dev.setEvent_same (·.rng) (fun _ _ _ => rfl) d k bitNo

@[simp] theorem Dev.setEvent_dma (d : Dev) (k bitNo : Nat) : (d.setEvent k bitNo).dma = d.dma :=
  Dev.setEvent_same (·.dma) (fun _ _ _ => rfl) d k bitNo

/-- Closing the open batch of a ring changes the ring's open batch, and marks an item. -/
theorem Dev.closeBatch_eq (d : Dev) (r : Nat) : d.closeBatch r = d ∧ (d.ring r).batch = 0 ∨
    ∃ items, d.closeBatch r = { d.setRing r { d.ring r with batch := 0 } with
      rng := { (d.setRing r { d.ring r with batch := 0 }).rng with items := items } } := by
  unfold Dev.closeBatch
  dsimp only
  split
  · exact .inl ⟨rfl, ‹_›⟩
  · right
    split <;> exact ⟨_, rfl⟩

@[simp] theorem Dev.ring_closeBatch_same (d : Dev) (r : Nat) : (d.closeBatch r).ring r = { d.ring r with batch := 0 } := by
  obtain ⟨same, closed⟩ | ⟨items, closes⟩ := d.closeBatch_eq r
  · rw [same, ← closed]
  · rw [closes]
    exact Dev.ring_setRing_same ..

/-! ### Doorbells (R298, R321 to R323, R351) -/

section
variable {link page off width v : Nat} {s : State} (onPage : page < 4096)
include onPage

theorem exec_workDoorbell_page :
    exec (.workDoorbell (.bar2 link page) off width v) s = .next (s.withDev (s.dev.pageWork link page off width v)) :=
  show execWorkDoorbell (.bar2 link page) off width v s = _ from State.act_next (if_neg (Nat.not_le.2 onPage))

theorem exec_completionDoorbell_page :
    exec (.completionDoorbell (.bar2 link page) off width v) s = .next (s.withDev (s.dev.pageCpl link page off width v)) :=
  show execCompletionDoorbell (.bar2 link page) off width v s = _ from State.act_next (if_neg (Nat.not_le.2 onPage))

end

section
variable {d : Dev} {link page : Nat} (hears : d.hears (.bar2 link page) = true) (clocked : d.clocked 9 = true) (form own : Bool)
  (act : Dev → Dev)
include hears clocked

theorem Dev.pageDoor_barred {c : Reg} {i : Nat} (bar : (d.useLink link).pageBar link page = some (c, i)) :
    d.pageDoor link page form own act = (d.useLink link).bump c i := by
  rw [Dev.pageDoor, if_neg (by simp [hears, clocked])]
  simp only [bar]

theorem Dev.pageDoor_open (free : (d.useLink link).pageBar link page = none) : d.pageDoor link page form own act =
    if form = false then (d.useLink link).bump .HIF_BAD_ACCESS link
    else if (d.useLink link).pageDrops page then (d.useLink link).bump .PIT_DB_DROPPED page
    else if own then act (d.useLink link) else (d.useLink link).bump .RNG_DB_FOREIGN 0 := by
  rw [Dev.pageDoor, if_neg (by simp [hears, clocked])]
  simp only [free]

end

theorem exec_workDoorbell_thread (c t off width v : Nat) (s : State) : exec (.workDoorbell (.thread c t) off width v) s = .next (s.withDev
    (if (s.dev.ring (bits v 47 32)).loc = 2 ∧ (s.dev.ring (bits v 47 32)).producer = ctxKey c t
      then s.dev.threadDoorbell (ctxKey c t) (bits v 47 32) (bits v 31 0) else s.dev.bump .RNG_DB_FOREIGN 0)) :=
  show execWorkDoorbell (.thread c t) off width v s = _ from State.act_next (apply_ite Outcome.next _ _ _).symm

theorem exec_completionDoorbell_thread (c t off width v : Nat) (s : State) :
    exec (.completionDoorbell (.thread c t) off width v) s = .next (s.withDev
      (if (s.dev.cq (bits v 45 32)).loc = 2 ∧ (s.dev.cq (bits v 45 32)).thread = ctxKey c t
        then s.dev.judgeCqDoorbell (bits v 45 32) (bits v 31 0) (bit v 47) else s.dev.bump .RNG_DB_FOREIGN 0)) :=
  show execCompletionDoorbell (.thread c t) off width v s = _ from State.act_next (apply_ite Outcome.next _ _ _).symm

section
variable {d : Dev} {r p : Nat}

theorem Dev.judgeDoorbell_disabled (off : (d.ring r).st = 0 ∨ (d.ring r).st = 3) : d.judgeDoorbell r p = d.bump .RNG_DB_DISABLED 0 :=
  if_pos off

variable (on : (d.ring r).st = 1 ∨ (d.ring r).st = 2)
include on

theorem Dev.judgeDoorbell_repeated (same : ixSub p (d.ring r).p = 0) : d.judgeDoorbell r p = d := by
  rw [Dev.judgeDoorbell, if_neg (by omega), if_pos same]

theorem Dev.judgeDoorbell_accepted (fits : p < 2 ^ 32) (new : ixSub p (d.ring r).p ≠ 0)
    (room : ixSub p (d.ring r).p ≤ (d.ring r).size - ixSub (d.ring r).p (d.ring r).c) :
    let e := d.judgeDoorbell r p
    e.ring r = { d.ring r with p := p } ∧ e.regs = d.regs ∧ e.mem = d.mem := by
  rw [Dev.judgeDoorbell, if_neg (by omega), if_neg new, if_pos room, Nat.mod_eq_of_lt fits]
  dsimp only
  split
  · exact ⟨(Dev.ring_congr (Dev.setEvent_rng ..) r).trans (Dev.ring_setRing_same ..), Dev.setEvent_regs .., Dev.setEvent_mem ..⟩
  · exact ⟨Dev.ring_setRing_same .., rfl, rfl⟩

theorem Dev.judgeDoorbell_overrun (fits : p < 2 ^ 32) (new : ixSub p (d.ring r).p ≠ 0)
    (past : (d.ring r).size - ixSub (d.ring r).p (d.ring r).c < ixSub p (d.ring r).p) : d.judgeDoorbell r p = d.ringError r 1 p := by
  rw [Dev.judgeDoorbell, if_neg (by omega), if_neg new, if_neg (Nat.not_le.2 past), Nat.mod_eq_of_lt fits]

end

/-- A ring in error keeps its indices (R348). -/
theorem Dev.ring_ringError (d : Dev) (r code index : Nat) : (d.ringError r code index).ring r =
    { d.ring r with batch := 0, st := 2, la := [], errCode := code, errIndex := index, errDue := (d.ring r).errSlot } := by
  refine (Dev.ring_setRing_same (d.closeBatch r) r _).trans ?_
  rw [Dev.ring_closeBatch_same]

/-- The interrupt of a completion ring is sent: the ring is disarmed, and has no entry unsignalled (R350). -/
theorem Dev.cq_sendIrq_same (d : Dev) (q : Nat) : (d.sendIrq q).cq q = { d.cq q with armed := false, u := 0 } :=
  (Dev.cq_congr (Dev.msix_rng ..) q).trans (Dev.cq_setCq_same d q _)

@[simp] theorem Dev.sendIrq_mem (d : Dev) (q : Nat) : (d.sendIrq q).mem = d.mem := Dev.msix_mem ..

theorem bits_lt (v : Nat) {hi lo : Nat} : bits v hi lo < 2 ^ (hi + 1 - lo) := Nat.mod_lt _ (Nat.two_pow_pos _)

theorem Dev.rd_sendIrq_count (d : Dev) (q : Nat) : (d.sendIrq q).rd .RNG_IRQ_SENT 0 = (d.rd .RNG_IRQ_SENT 0 + 1) % 2 ^ 64 := by
  have onLink : (if (d.cq q).loc = 0 then pmapLink (d.pmap (d.cq q).pitch) else (d.cq q).link) < 4 := by
    split <;> exact bits_lt _
  exact (Dev.rd_msix_other _ onLink (by decide) (by decide) (by decide)).trans (Dev.rd_add_same _ _ _ _)

/-- The rings that wait for a completion ring are let go on: no completion ring and no memory changes (R337). -/
theorem forEach_cqFull_keeps (q : Nat) (l : List (Nat × Ring)) (d : Dev) :
    let e := forEach l d (fun s e => if e.2.cqNo = q ∧ e.2.cqFull ∧ (s.cq q).free ≠ 0 then s.setRing e.1 { e.2 with cqFull := false } else s)
    e.rng.cqs = d.rng.cqs ∧ e.mem = d.mem := by
  refine ⟨forEach_same (fun s => s.rng.cqs) (fun s e _ => ?_) d, forEach_same (fun s => s.mem) (fun s e _ => ?_) d⟩ <;>
  · dsimp only
    split <;> rfl

theorem Dev.judgeCqDoorbell_bad {d : Dev} {q c : Nat} (arm : Bool)
    (bad : (d.cq q).enabled = false ∨ ixSub (d.cq q).pcq (d.cq q).ccq < ixSub c (d.cq q).ccq) :
    d.judgeCqDoorbell q c arm = d.bump .RNG_CQ_DB_BAD 0 := if_pos (bad.imp_right Nat.not_le.2)

theorem Dev.judgeCqDoorbell_good {d : Dev} {q c : Nat} (arm : Bool) (fits : c < 2 ^ 32) (enabled : (d.cq q).enabled = true)
    (within : ixSub c (d.cq q).ccq ≤ ixSub (d.cq q).pcq (d.cq q).ccq) :
    ((d.judgeCqDoorbell q c arm).cq q).ccq = c ∧ (d.judgeCqDoorbell q c arm).mem = d.mem := by
  rw [Dev.judgeCqDoorbell, if_neg (by simp [enabled, within]), Nat.mod_eq_of_lt fits]
  dsimp only
  obtain ⟨cqs, mem⟩ := forEach_cqFull_keeps q d.rng.rings
    (d.setCq q { d.cq q with ccq := c, armed := (d.cq q).armed || (arm && (d.cq q).irq && decide ((d.cq q).pcq = c)) })
  have same (e : Dev) (h : e.rng.cqs = (d.setCq q
      { d.cq q with ccq := c, armed := (d.cq q).armed || (arm && (d.cq q).irq && decide ((d.cq q).pcq = c)) }).rng.cqs) : (e.cq q).ccq = c := by
    rw [Dev.cq, h]
    exact congrArg Cq.ccq (Dev.cq_setCq_same d q _)
  split
  · rw [Dev.cq_sendIrq_same, Dev.sendIrq_mem]
    exact ⟨same _ cqs, mem⟩
  · exact ⟨same _ cqs, mem⟩

/-! ### Operations on rings (R349, R352, R354) -/

/-- What a ring operation's command does once its write takes effect. -/
theorem exec_ringOps {o : Origin} {table index tag : Nat} {skip : Bool} {s : State} (takes : s.dev.takesWrite o .RNG_RING_ACC_CTL 0) :
    exec (.ringRead o table index tag) s = .next (s.withDev (s.dev.ringBody o table index tag false (·.ringActRead table index tag))) ∧
    exec (.ringWrite o table index tag) s = .next (s.withDev (s.dev.ringBody o table index tag true (·.ringActWrite table index tag))) ∧
    exec (.ringState o table index tag) s = .next (s.withDev (s.dev.ringBody o table index tag false (·.ringActState table index tag))) ∧
    exec (.ringEnable o table index tag) s = .next (s.withDev (s.dev.ringBody o table index tag false (·.ringActEnable table index tag))) ∧
    exec (.ringDisable o table index tag) s = .next (s.withDev (s.dev.ringBody o table index tag false (·.ringActDisable table index tag))) ∧
    exec (.ringResume o table index tag skip) s =
      .next (s.withDev (s.dev.ringBody o table index tag false (·.ringActResume table index tag skip))) ∧
    exec (.ringReset o table index tag) s = .next (s.withDev (s.dev.ringBody o table index tag false (·.ringActReset table index tag))) := by
  have done (op : Nat) (skip write : Bool) (act : Dev → Dev) :
      s.dev.ringOp o op table index tag skip write act = s.dev.ringBody o table index tag write act := Dev.regWrite_ok takes ..
  exact ⟨show execRingRead o table index tag s = _ from State.act_next (congrArg _ (done ..)),
    show execRingWrite o table index tag s = _ from State.act_next (congrArg _ (done ..)),
    show execRingState o table index tag s = _ from State.act_next (congrArg _ (done ..)),
    show execRingEnable o table index tag s = _ from State.act_next (congrArg _ (done ..)),
    show execRingDisable o table index tag s = _ from State.act_next (congrArg _ (done ..)),
    show execRingResume o table index tag skip s = _ from State.act_next (congrArg _ (done ..)),
    show execRingReset o table index tag s = _ from State.act_next (congrArg _ (done ..))⟩

section
variable {d : Dev} {o : Origin} {table index : Nat} {write : Bool} (tag : Nat) (act : Dev → Dev)

theorem Dev.ringBody_foreign (foreign : d.rngOrigin o table index write = false) :
    d.ringBody o table index tag write act = d.bump .RNG_ACC_FOREIGN 0 := if_pos foreign

variable (allowed : d.rngOrigin o table index write = true)
include allowed

theorem Dev.ringBody_busy (busy : d.rng.accBusy.isSome) :
    d.ringBody o table index tag write act = d.setFld .RNG_RING_ACC_STATUS 0 3 0 1 := by
  rw [Dev.ringBody, if_neg (by simp [allowed]), if_pos busy]

theorem Dev.ringBody_range (idle : d.rng.accBusy = none) (beyond : rngTableSize table ≤ index) :
    d.ringBody o table index tag write act = d.rngStatus (tag % 2 ^ 16) 2 0 false := by
  rw [Dev.ringBody, if_neg (by simp [allowed]), if_neg (by simp [idle]), if_pos beyond]

theorem Dev.ringBody_acts (idle : d.rng.accBusy = none) (within : index < rngTableSize table) :
    d.ringBody o table index tag write act = act d := by
  rw [Dev.ringBody, if_neg (by simp [allowed]), if_neg (by simp [idle]), if_neg (Nat.not_le.2 within)]

end

/-- The four words of a 256-bit value. -/
theorem words_of_256 {v : Nat} (fits : v < 2 ^ 256) :
    v % 2 ^ 64 + v / 2 ^ 64 % 2 ^ 64 * 2 ^ 64 + v / 2 ^ 128 % 2 ^ 64 * 2 ^ 128 + v / 2 ^ 192 % 2 ^ 64 * 2 ^ 192 = v := by omega

theorem Dev.rd_rngData_same (d : Dev) (w v : Nat) : (d.rngData w v).rd .RNG_RING_ACC_DATA w = v % 2 ^ 64 := d.rd_wr_same ..

theorem Dev.rd_rngData_other (d : Dev) {w j : Nat} (v : Nat) (hw : w < 4) (hj : j < 4) (h : j ≠ w) :
    (d.rngData w v).rd .RNG_RING_ACC_DATA j = d.rd .RNG_RING_ACC_DATA j := d.rd_wr_element v (by omega) (by omega) h

theorem Dev.rngCtx_words (d : Dev) (a b c e : Nat) : ((((d.rngData 0 a).rngData 1 b).rngData 2 c).rngData 3 e).rngCtx =
    a % 2 ^ 64 + b % 2 ^ 64 * 2 ^ 64 + c % 2 ^ 64 * 2 ^ 128 + e % 2 ^ 64 * 2 ^ 192 := by
  have first : ((((d.rngData 0 a).rngData 1 b).rngData 2 c).rngData 3 e).rd .RNG_RING_ACC_DATA 0 = a % 2 ^ 64 := by
    rw [Dev.rd_rngData_other _ _ (by decide) (by decide) (by decide), Dev.rd_rngData_other _ _ (by decide) (by decide) (by decide),
      Dev.rd_rngData_other _ _ (by decide) (by decide) (by decide), Dev.rd_rngData_same]
  have second : ((((d.rngData 0 a).rngData 1 b).rngData 2 c).rngData 3 e).rd .RNG_RING_ACC_DATA 1 = b % 2 ^ 64 := by
    rw [Dev.rd_rngData_other _ _ (by decide) (by decide) (by decide), Dev.rd_rngData_other _ _ (by decide) (by decide) (by decide),
      Dev.rd_rngData_same]
  have third : ((((d.rngData 0 a).rngData 1 b).rngData 2 c).rngData 3 e).rd .RNG_RING_ACC_DATA 2 = c % 2 ^ 64 := by
    rw [Dev.rd_rngData_other _ _ (by decide) (by decide) (by decide), Dev.rd_rngData_same]
  rw [Dev.rngCtx, first, second, third, Dev.rd_rngData_same]

/-- A context put into the DATA words reads there. -/
theorem Dev.rngCtx_putRngCtx (d : Dev) {v : Nat} (fits : v < 2 ^ 256) : (d.putRngCtx v).rngCtx = v :=
  (d.rngCtx_words _ _ _ _).trans (words_of_256 fits)

theorem Dev.rd_rngStatus (d : Dev) {tag result detail : Nat} (busy : Bool) (ht : tag < 2 ^ 16) (hd : detail < 2 ^ 8) (hr : result < 16) :
    (d.rngStatus tag result detail busy).rd .RNG_RING_ACC_STATUS 0 = tag * 2 ^ 16 + detail * 2 ^ 8 + b2n busy * 2 ^ 4 + result := by
  have flag : b2n busy ≤ 1 := by cases busy <;> decide
  rw [Dev.rngStatus, Dev.rd_wr_same, Nat.mod_eq_of_lt (by omega)]

@[simp] theorem Dev.ring_ringActRead (d : Dev) (i tag j : Nat) : (d.ringActRead 0 i tag).ring j = d.ring j := rfl
@[simp] theorem Dev.ring_ringActState (d : Dev) (i tag j : Nat) : (d.ringActState 0 i tag).ring j = d.ring j := by
  rw [Dev.ringActState, Dev.ring_rngStatus, Dev.ring_rngData, Dev.ring_rngData, Dev.ring_rngData, Dev.ring_rngData, Dev.ring_rngData,
    Dev.ring_rngData]

/-- A ring that starts has its indices at INIT_INDEX, its error slot, and no error (R354). -/
theorem Dev.ring_ringStart (d : Dev) (i : Nat) : (d.ringStart i).ring i =
    { d.ring i with p := (d.ring i).init, c := (d.ring i).init, f := (d.ring i).init, done := (d.ring i).init, st := 1, cqFull := false
                    errSlot := true, la := [], errCode := 0, errIndex := 0, errDue := false, batch := 0 } :=
  Dev.ring_setRing_same ..

/-- A ring that drains is in DRAIN with no batch open and no lookahead copy, and its indices stay (R349). -/
theorem Dev.ring_ringDrain (d : Dev) (i ctl tag : Nat) (disable : Bool) : (d.ringDrain i ctl tag disable).ring i =
    { d.ring i with batch := 0, st := 3, la := [], toDisable := disable } := by
  refine (Dev.ring_setRing_same (d.closeBatch i) i _).trans ?_
  rw [Dev.ring_closeBatch_same]

section
variable {d : Dev} {i tag : Nat} (pitch : d.ringPitchBad 0 i = false)
include pitch

theorem Dev.ringActWrite_ok (unlocked : d.ringLocked 0 i d.rngCtx = false) (off : (d.ring i).st = 0) :
    ((d.ringActWrite 0 i tag).ring i).ctx = ringMask d.rngCtx := by
  rw [Dev.ringActWrite, if_neg (by simp [unlocked]), if_neg (by simp [pitch]), Dev.ringWrite]
  rw [if_neg (not_not.2 off), Dev.ring_rngStatus, Dev.ring_setRing_same]

variable (fits : tag < 2 ^ 16)
include fits

theorem Dev.ringActEnable_eq (unlocked : d.ringLocked 0 i (d.ring i).ctx = false) (off : (d.ring i).st = 0) :
    d.ringActEnable 0 i tag = if firstFail (d.ringChecks i) = 0 then (d.ringStart i).rngStatus tag 0 0 false
      else d.rngStatus tag 4 (firstFail (d.ringChecks i)) false := by
  rw [Dev.ringActEnable, if_pos rfl, if_neg (by simp [unlocked]), if_neg (by simp [pitch]), Nat.mod_eq_of_lt fits, Dev.ringEnable]
  rw [if_neg (not_not.2 off)]
  cases firstFail (d.ringChecks i) <;> rfl

theorem Dev.ringActDisable_eq (on : (d.ring i).st = 1 ∨ (d.ring i).st = 2) : d.ringActDisable 0 i tag = d.ringDrain i 5 tag true := by
  rw [Dev.ringActDisable, if_neg (by simp [pitch]), Nat.mod_eq_of_lt fits, Dev.ringDisable]
  exact if_pos on

theorem Dev.ringActReset_eq (unlocked : d.ringLocked 0 i (d.ring i).ctx = false) (on : (d.ring i).st = 1 ∨ (d.ring i).st = 2) :
    d.ringActReset 0 i tag = d.ringDrain i 7 tag false := by
  rw [Dev.ringActReset, if_neg (by simp [unlocked]), if_neg (by simp [pitch, on]), Nat.mod_eq_of_lt fits]

section
variable (unlocked : d.ringLocked 0 i (d.ring i).ctx = false) (failed : (d.ring i).st = 2)
include unlocked failed

theorem Dev.ringActResume_full (full : (d.cq (d.ring i).cqNo).free = 0) (skip : Bool) :
    d.ringActResume 0 i tag skip = d.rngStatus tag 6 0 false := by
  rw [Dev.ringActResume, if_neg (by simp [unlocked]), if_neg (by simp [pitch]), Nat.mod_eq_of_lt fits, Dev.ringResume,
    if_neg (by simp [failed]), if_pos full]

theorem Dev.ringActResume_ok (free : (d.cq (d.ring i).cqNo).free ≠ 0) : let y := (d.ringActResume 0 i tag false).ring i
    y.st = 1 ∧ y.p = (d.ring i).p ∧ y.c = (d.ring i).c ∧ y.errSlot = true ∧ y.errDue = false := by
  rw [Dev.ringActResume, if_neg (by simp [unlocked]), if_neg (by simp [pitch]), Nat.mod_eq_of_lt fits, Dev.ringResume,
    if_neg (by simp [failed]), if_neg free]
  simp

end

end

/-- A drain has come to its end (R349): the busy operation is of this ring, which has posted all that it owes. -/
def Dev.drainEnds (s : Dev) (r n : Nat) : Prop :=
  n = r ∧ (s.ring r).st = 3 ∧ (s.ring r).done = (s.ring r).c ∧ (s.ring r).errDue = false ∧ (s.ring r).owed = []

/-- No operation on a ring runs. -/
def Dev.accIdle (s : Dev) : Dev := { s with rng := { s.rng with accBusy := none } }

section
variable {r op n : Nat} {s : State} (busy : s.dev.rng.accBusy = some (op, n))
include busy

theorem exec_ringDrainEnd_stays (stays : ¬ s.dev.drainEnds r n) : exec (.ringDrainEnd r) s = .next s := by
  refine show execRingDrainEnd r s = .next (s.withDev s.dev) from State.act_next ?_
  simp only [busy]
  refine if_pos ?_
  simp only [Dev.drainEnds, not_and_or] at stays
  simpa using stays

theorem exec_ringDrainEnd_ends (ends : s.dev.drainEnds r n) : exec (.ringDrainEnd r) s = .next (s.withDev
    (let x := s.dev.ring r
    let tag := s.dev.fld .RNG_RING_ACC_STATUS 0 31 16
    let t := s.dev.accIdle
    let u := t.freeErrSlot r
    if op = 5 then (u.setRing r { u.ring r with st := 0 }).rngStatus tag 0 0 false
    else if x.errSlot = false ∧ (s.dev.cq x.cqNo).free = 0 then (t.setRing r { x with st := 0 }).rngStatus tag 6 0 false
    else (t.ringStart r).rngStatus tag 0 0 false)) := by
  obtain ⟨same, drains, posted, noError, nothing⟩ := ends
  refine show execRingDrainEnd r s = _ from State.act_next ?_
  simp only [busy]
  rw [if_neg (by simp [same, drains, posted, noError, nothing])]
  by_cases disable : op = 5
  · rw [if_pos disable, if_pos disable]
    rfl
  rw [if_neg disable, if_neg disable]
  exact (apply_ite Outcome.next _ _ _).symm

end

/-! ### Turns and lookahead (R329 to R333) -/

theorem exec_ringTurn {k : Nat} (arbiter : k < 4 ∨ 8 ≤ k ∧ k < 16) (l : List Fetch) (s : State) :
    exec (.ringTurn k l) s = .next (s.withDev (s.dev.arbiterTurn k l).queueAssign) :=
  show execRingTurn k l s = _ from State.act_next (if_pos arbiter)

section
variable {k m r : Nat} {d e : Dev} (l : List Fetch)

theorem Dev.arbiterTurn_link (link : k < 4) {s : Dev} (member : s.takeTurn k (s.participants k) = some (m, d))
    (ring : d.takeTurn (16 + m) (d.memberRings m) = some (r, e)) :
    s.arbiterTurn k l = (e.ringTurn r (bits (e.ring r).ctx 110 104) l).useContext := by
  simp only [Dev.arbiterTurn, if_pos link, member, ring]

theorem Dev.arbiterTurn_idle (link : k < 4) {s : Dev} (idle : s.takeTurn k (s.participants k) = none) : s.arbiterTurn k l = s := by
  simp only [Dev.arbiterTurn, if_pos link, idle]

theorem Dev.arbiterTurn_cluster (cluster : 8 ≤ k) (ring : d.takeTurn (16 + (4096 + k)) (d.memberRings (4096 + k)) = some (r, e)) :
    d.arbiterTurn k l = (e.ringTurn r (bits (e.ring r).ctx 110 104) l).useContext := by
  rw [Dev.arbiterTurn, if_neg (show ¬ k < 4 by omega)]
  simp only [ring]

end

@[simp] theorem Dev.answered_rng (d : Dev) (k t : Nat) (f : Fetch) : (d.answered k t f).rng = d.rng := by
  unfold Dev.answered
  split
  · rfl
  · exact Dev.useLink_rng ..

/-- A read for a ring leaves every ring as it is. -/
theorem Dev.fetch_rng {d e : Dev} {x : Ring} {a n : Nat} {answers rest : List Fetch} {f : Fetch}
    (reads : d.fetch x a n answers = some (f, rest, e)) : e.rng = d.rng := by
  unfold Dev.fetch at reads
  split at reads
  · split at reads <;> cases reads <;> rfl
  split at reads
  · cases reads
    unfold Dev.countBar
    split <;> rfl
  · dsimp only at reads
    split at reads <;> cases reads
    exact Dev.answered_rng ..

/-- A step of LOOKAHEAD_READ (R329): the copy of the slot `j` after P, where its read succeeds. -/
def Ring.lookahead (x : Ring) (a : List (Nat × List Byte) × List Fetch × Dev) (j : Nat) : List (Nat × List Byte) × List Fetch × Dev :=
  match a.2.2.fetch x (x.slot (x.p + j)) 64 a.2.1 with
  | some (.ok d, rest, s) => (a.1 ++ [((x.p + j) % 2 ^ 32, d)], rest, s)
  | some (.fail _, rest, s) => (a.1, rest, s)
  | none => a

theorem Ring.lookahead_keeps (x : Ring) (a : List (Nat × List Byte) × List Fetch × Dev) (j : Nat) :
    (x.lookahead a j).2.2.rng = a.2.2.rng ∧ (x.lookahead a j).1.length ≤ a.1.length + 1 := by
  unfold Ring.lookahead
  split
  · exact ⟨Dev.fetch_rng ‹_›, by simp⟩
  · exact ⟨Dev.fetch_rng ‹_›, by simp⟩
  · exact ⟨rfl, by simp⟩

theorem Ring.lookaheads_keep (x : Ring) (l : List Nat) (a : List (Nat × List Byte) × List Fetch × Dev) :
    (l.foldl x.lookahead a).2.2.rng = a.2.2.rng ∧ (l.foldl x.lookahead a).1.length ≤ a.1.length + l.length := by
  induction l generalizing a with
  | nil => exact ⟨rfl, Nat.le_refl _⟩
  | cons j l ih =>
    obtain ⟨rng, length⟩ := x.lookahead_keeps a j
    obtain ⟨rngs, lengths⟩ := ih (x.lookahead a j)
    exact ⟨rngs.trans rng, by simp only [List.foldl_cons, List.length_cons]; omega⟩

theorem exec_lookaheadRead_reads {r : Nat} {s : State} (active : (s.dev.ring r).st = 1) (stamped : (s.dev.ring r).stamped = true)
    (atEnd : (s.dev.ring r).c = (s.dev.ring r).p) (l : List Fetch) : ∃ d la, exec (.lookaheadRead r l) s = .next (s.withDev d) ∧
      d.ring r = { s.dev.ring r with la := la } ∧ la.length ≤ 8 ∧ ∀ j, j ≠ r → d.ring j = s.dev.ring j := by
  let n := min 8 ((s.dev.ring r).size - ixSub (s.dev.ring r).p (s.dev.ring r).c)
  obtain ⟨rng, length⟩ := (s.dev.ring r).lookaheads_keep (List.range n) ([], l, s.dev)
  refine ⟨_, _, show execLookaheadRead r l s = _ from State.act_next (if_neg (by simp [active, stamped, atEnd])),
    Dev.ring_setRing_same .., ?_, fun j other => (Dev.ring_setRing_other _ _ other).trans (Dev.ring_congr rng j)⟩
  calc _ ≤ 0 + (List.range n).length := length
    _ ≤ 8 := by simp [n]

theorem exec_lookaheadRead_rests {r : Nat} {s : State}
    (rests : (s.dev.ring r).st ≠ 1 ∨ (s.dev.ring r).stamped = false ∨ (s.dev.ring r).c ≠ (s.dev.ring r).p) (l : List Fetch) :
    exec (.lookaheadRead r l) s = .next s :=
  show execLookaheadRead r l s = .next (s.withDev s.dev) from State.act_next (if_pos rests)

/-! ### Closing and posting (R335, R338, R350) -/

theorem exec_idleClose_due {r : Nat} {s : State} (opened : (s.dev.ring r).batch ≠ 0) (limit : bits (s.dev.ring r).ctx 175 160 ≠ 0)
    (due : (s.dev.ring r).lastVn + bits (s.dev.ring r).ctx 175 160 ≤ s.dev.vn) :
    exec (.idleClose r) s = .next (s.withDev (s.dev.closeBatch r)) :=
  show execIdleClose r s = _ from State.act_next (if_pos ⟨opened, limit, due⟩)

theorem exec_postCompletion (r : Nat) (s : State) :
    exec (.postCompletion r) s = .next (s.withDev (if s.dev.frozen then s.dev else s.dev.postNext r)) := rfl

section
variable {r : Nat} {d : Dev}

theorem Dev.postNext_held {l : List Item} (barred : d.cqOpen (d.ring r).cqNo = false) (head : d.headBatch r = some l) :
    d.postNext r = d.cqHeld (d.ring r).cqNo := by
  cases error : (d.ring r).nextError <;> simp [Dev.postNext, error, head, barred]

section
variable (opened : d.cqOpen (d.ring r).cqNo = true)
include opened

theorem Dev.postNext_batch {l : List Item} (noError : (d.ring r).nextError = none) (head : d.headBatch r = some l) :
    d.postNext r = (d.completeItems r l).postEntry (d.ring r).cqNo (mergeEntries l) false := by
  simp only [Dev.postNext, noError, head, opened, if_true]

theorem Dev.postNext_error {y : Ring} {index code : Nat} (error : (d.ring r).nextError = some (y, index, code)) :
    d.postNext r = (d.setRing r y).postEntry (d.ring r).cqNo (errorEntry (d.ring r).kind r index code) true := by
  simp only [Dev.postNext, error, opened, if_true]

end

theorem Dev.postNext_nothing (noError : (d.ring r).nextError = none) (empty : d.headBatch r = none) : d.postNext r = d := by
  simp only [Dev.postNext, noError, empty]

end

section
variable {x : Ring}

theorem Ring.nextError_owed {code index : Nat} {rest : List (Nat × Nat × Nat)} (owed : x.owed = (code, index, x.done) :: rest) :
    x.nextError = some ({ x with owed := rest }, index, code) := by
  simp only [Ring.nextError, owed, if_true]

theorem Ring.nextError_own (nothing : x.owed = []) (stopped : x.st = 2 ∨ x.st = 3) (due : x.errDue = true) (posted : x.done = x.c) :
    x.nextError = some ({ x with errDue := false, errSlot := false }, x.errIndex, x.errCode) := by
  simp only [Ring.nextError, nothing]
  exact if_pos ⟨stopped, due, posted⟩

theorem Ring.nextError_none (nothing : x.owed = []) (early : x.errDue = false ∨ x.done ≠ x.c) : x.nextError = none := by
  simp only [Ring.nextError, nothing]
  refine if_neg ?_
  rintro ⟨-, due, posted⟩
  obtain none | open' := early
  · simp [none] at due
  · exact open' posted

end

/-- The moderation time of a completion ring has passed (R350). -/
def Dev.irqDue (s : Dev) (q : Nat) : Prop :=
  (s.cq q).irq = true ∧ (s.cq q).armed = true ∧ (s.cq q).u ≠ 0 ∧ bits (s.cq q).ctx 126 117 ≠ 0 ∧
    (s.cq q).firstVn + 25 * bits (s.cq q).ctx 126 117 ≤ s.vn

theorem exec_modTimeExpiry_due {q : Nat} {s : State} (due : s.dev.irqDue q) :
    exec (.modTimeExpiry q) s = .next (s.withDev (s.dev.sendIrq q)) :=
  show execModTimeExpiry q s = _ from State.act_next (if_pos due)

theorem exec_modTimeExpiry_early {q : Nat} {s : State} (early : ¬ s.dev.irqDue q) : exec (.modTimeExpiry q) s = .next s :=
  show execModTimeExpiry q s = .next (s.withDev s.dev) from State.act_next (if_neg early)

/-! ### FIRMWARE items and the error log (R347, R359) -/

/-- The word of RNG_FW_DONE names its item, and carries the status. -/
theorem fwDone_word {i r st : Nat} (hi : i < 2 ^ 32) (hr : r < 2 ^ 16) (hs : st < 2 ^ 16) :
    let v := i % 2 ^ 32 + r % 2 ^ 16 * 2 ^ 32 + st % 2 ^ 16 * 2 ^ 48
    bits v 31 0 = i ∧ bits v 47 32 = r ∧ bits v 63 48 = st := by
  simp only [bits]
  omega

/-- An item of a FIRMWARE ring waits for its server thread `k` (R347). -/
def Dev.servedBy (s : Dev) (ref : ItemRef) (k : Nat) : Prop :=
  (s.item ref).any (fun y => y.stage = 1) = true ∧ (s.ring ref.ring).kind = 5 ∧ (s.ring ref.ring).server = k

theorem exec_fwDone {c t i r st : Nat} {s : State} (hi : i < 2 ^ 32) (hr : r < 2 ^ 16) (hs : st < 2 ^ 16)
    (takes : s.dev.takesWrite (.thread c t) .RNG_FW_DONE 0) :
    (s.dev.servedBy ⟨r, i⟩ (ctxKey c t) → exec (.fwDone (.thread c t) i r st) s = .next (s.withDev (s.dev.releaseWith ⟨r, i⟩ st 0 0))) ∧
    (¬ s.dev.servedBy ⟨r, i⟩ (ctxKey c t) → exec (.fwDone (.thread c t) i r st) s = .next (s.withDev (s.dev.bump .RNG_FW_DONE_BAD 0))) := by
  obtain ⟨index, ring, status⟩ := fwDone_word hi hr hs
  have runs : exec (.fwDone (.thread c t) i r st) s =
      .next (s.withDev (s.dev.fwDone (ctxKey c t) (i % 2 ^ 32 + r % 2 ^ 16 * 2 ^ 32 + st % 2 ^ 16 * 2 ^ 48))) :=
    show execFwDone (.thread c t) i r st s = _ from State.act_next (congrArg _ (Dev.regWrite_ok takes ..))
  rw [runs, Dev.fwDone, index, ring, status]
  unfold Dev.servedBy
  cases item : s.dev.item ⟨r, i⟩ with
  | none => simp
  | some y =>
    refine ⟨fun ⟨accepted, kind, server⟩ => ?_, fun other => ?_⟩
    · exact congrArg _ (congrArg _ (if_pos ⟨kind, server, by simpa using accepted⟩))
    · exact congrArg _ (congrArg _ (if_neg (fun ⟨kind, server, stage⟩ => other ⟨by simpa using stage, kind, server⟩)))

/-- Settles O46, clause by clause. -/
theorem ringCommands : Obligations.RingCommands := by
  unfold Obligations.RingCommands
  refine ⟨fun link page off width v s onPage hears clocked => ⟨fun c i bar => ⟨?workBar, ?cqBar⟩, fun free => ?page⟩,
    fun c t v off width s => ⟨exec_workDoorbell_thread .., exec_completionDoorbell_thread ..⟩,
    fun d r p fits => ⟨Dev.judgeDoorbell_disabled, Dev.judgeDoorbell_repeated, fun on => Dev.judgeDoorbell_accepted on fits,
      fun on new past => ?overrun⟩,
    fun d q c arm fits => ⟨Dev.judgeCqDoorbell_bad arm, Dev.judgeCqDoorbell_good arm fits⟩,
    fun o table index tag skip s takes => ?ops,
    fun d o table index tag write act => ⟨Dev.ringBody_foreign tag act, Dev.ringBody_busy tag act, Dev.ringBody_range tag act,
      Dev.ringBody_acts tag act⟩,
    fun d i tag fits => ⟨fun small => Dev.rngCtx_putRngCtx _ small, fun j => d.ring_ringActRead i tag j, fun j => d.ring_ringActState i tag j,
      fun unlocked pitch => Dev.ringActWrite_ok pitch unlocked, fun unlocked pitch off passes => ?enabled,
      fun unlocked pitch off fails => ?refused, fun pitch on => ?disable, fun unlocked pitch on => ?reset,
      fun unlocked pitch => Dev.ringActResume_ok pitch fits unlocked, fun unlocked pitch => Dev.ringActResume_full pitch fits unlocked⟩,
    fun r op n s busy => ⟨exec_ringDrainEnd_stays busy, fun ends disable => ?disabled, fun ends again noSlot full => ?noSlot,
      fun ends again slot => ?again⟩,
    fun k l s arbiter => exec_ringTurn arbiter l s,
    fun k m r d e l => ⟨fun link s => Dev.arbiterTurn_link l link, fun link s => Dev.arbiterTurn_idle l link,
      fun cluster _ => Dev.arbiterTurn_cluster l cluster⟩,
    fun r s => ⟨exec_lookaheadRead_reads, exec_lookaheadRead_rests, exec_idleClose_due, fun runs => ?posts, fun frozen => ?frozen⟩,
    fun r d => ⟨fun barred ⟨l, head⟩ => Dev.postNext_held barred head, fun opened nothing =>
        ⟨fun early l => Dev.postNext_batch opened (Ring.nextError_none nothing early),
          fun stopped due posted => Dev.postNext_error opened (Ring.nextError_own nothing stopped due posted)⟩,
      fun opened code index rest owed => Dev.postNext_error opened (Ring.nextError_owed owed),
      fun nothing early => Dev.postNext_nothing (Ring.nextError_none nothing (.inl early))⟩,
    fun q s => ⟨exec_modTimeExpiry_due, exec_modTimeExpiry_early⟩,
    fun q d => ⟨d.cq_sendIrq_same q, d.rd_sendIrq_count q⟩,
    fun c t i r st s hi hr hs takes => exec_fwDone hi hr hs takes,
    fun l s onLink takes => State.logAt_ok onLink takes⟩
  case workBar => exact (exec_workDoorbell_page onPage).trans (by rw [Dev.pageWork, Dev.pageDoor_barred hears clocked _ _ _ bar])
  case cqBar => exact (exec_completionDoorbell_page onPage).trans (by rw [Dev.pageCpl, Dev.pageDoor_barred hears clocked _ _ _ bar])
  case page =>
    simp only [exec_workDoorbell_page onPage, exec_completionDoorbell_page onPage, Dev.pageWork, Dev.pageCpl,
      Dev.pageDoor_open hears clocked _ _ _ free]
    refine ⟨fun bad => ?_, fun bad => ?_, fun at0 wide drops => ?_, fun at8 wide drops => ?_, fun at0 wide passes => ?_,
      fun at8 wide passes => ?_⟩
    · rw [if_pos (by simp; tauto)]
    · rw [if_pos (by simp; tauto)]
    · rw [if_neg (by simp [at0, wide]), if_pos drops]
    · rw [if_neg (by simp [at8, wide]), if_pos drops]
    · rw [if_neg (by simp [at0, wide]), if_neg (by simp [passes])]
      simp
    · rw [if_neg (by simp [at8, wide]), if_neg (by simp [passes])]
      simp
  case overrun =>
    rw [Dev.judgeDoorbell_overrun on fits new past, Dev.ring_ringError]
    exact ⟨rfl, rfl, rfl, rfl, rfl, rfl⟩
  case ops =>
    obtain ⟨read, write, state, enable, disable, resume, reset⟩ := exec_ringOps (table := table) (index := index) (tag := tag) (skip := skip) takes
    simp only [List.forall_mem_cons, read, write, state, enable, disable, resume, reset]
    simp
  case enabled =>
    rw [Dev.ringActEnable_eq pitch fits unlocked off, if_pos passes]
    dsimp only
    rw [Dev.ring_rngStatus, Dev.ring_ringStart]
    exact ⟨rfl, rfl, rfl, rfl, rfl, rfl, (Dev.rd_rngStatus _ _ fits (by decide) (by decide)).trans (by simp [b2n])⟩
  case refused => rw [Dev.ringActEnable_eq pitch fits unlocked off, if_neg fails]
  case disable =>
    rw [Dev.ringActDisable_eq pitch fits on]
    dsimp only
    rw [Dev.ring_ringDrain]
    exact ⟨rfl, rfl, (Dev.rd_rngStatus _ _ fits (by decide) (by decide)).trans (by simp [b2n])⟩
  case reset =>
    rw [Dev.ringActReset_eq pitch fits unlocked on]
    dsimp only
    rw [Dev.ring_ringDrain]
    exact ⟨rfl, rfl, rfl, rfl⟩
  case disabled =>
    rw [exec_ringDrainEnd_ends busy ends]
    dsimp only
    rw [if_pos disable]
    rfl
  case noSlot =>
    rw [exec_ringDrainEnd_ends busy ends]
    dsimp only
    rw [if_neg again, if_pos ⟨noSlot, full⟩]
    rfl
  case again =>
    rw [exec_ringDrainEnd_ends busy ends]
    dsimp only
    rw [if_neg again, if_neg (fun ⟨noSlot, full⟩ => slot.elim (fun has => by simp [noSlot] at has) (fun free => free full))]
    rfl
  case posts => rw [exec_postCompletion, runs]; rfl
  case frozen => rw [exec_postCompletion, frozen]; rfl

end Sys2Proof.Machine
end


section
/-! PROOFS of the family 12_dma_engines.md: the shadow of a channel, ARM, the owner table and its reclaim, bursts, the ends of transfers,
and halted owners. -/

namespace Sys2Proof.Machine

open Host

/-! ### The status word of a channel (R376) -/

theorem Dev.rd_wr_apart (d : Dev) {r q : Reg} {i j : Nat} (v : Nat) (hi : i < 2 ^ 24) (hj : j < 2 ^ 24) (h : (q, j) ≠ (r, i)) :
    (d.wr r i v).rd q j = d.rd q j := by
  rw [Dev.rd_wr, if_neg]
  rw [Reg.key_inj _ _ _ _ hj hi]
  exact fun ⟨reg, element⟩ => h (Prod.ext reg element)

theorem Dev.fld_chSet_same (d : Dev) (n v : Nat) {hi lo : Nat} (fits : lo ≤ hi ∧ hi < 64) :
    (d.chSet n hi lo v).fld .DMA_CH_STATUS n hi lo = v % 2 ^ (hi + 1 - lo) := d.fld_setFld_same _ _ _ fits.1 fits.2

theorem Dev.fld_chSet_beside (d : Dev) (n v : Nat) {hi lo a b : Nat} (apart : lo ≤ hi ∧ a < 64 ∧ (hi < b ∨ a < lo)) :
    (d.chSet n hi lo v).fld .DMA_CH_STATUS n a b = d.fld .DMA_CH_STATUS n a b := d.fld_setFld_beside _ _ _ apart.1 apart.2.1 apart.2.2

@[simp] theorem Dev.rd_setChan (d : Dev) (n : Nat) (x : Chan) (q : Reg) (i : Nat) : (d.setChan n x).rd q i = d.rd q i := rfl
@[simp] theorem Dev.fld_setChan (d : Dev) (n : Nat) (x : Chan) (q : Reg) (i a b : Nat) : (d.setChan n x).fld q i a b = d.fld q i a b := rfl
@[simp] theorem Dev.chSet_dma (d : Dev) (n hi lo v : Nat) : (d.chSet n hi lo v).dma = d.dma := rfl
@[simp] theorem Dev.chSet_mem (d : Dev) (n hi lo v : Nat) : (d.chSet n hi lo v).mem = d.mem := rfl

theorem Dev.rd_chSet_other (d : Dev) {n : Nat} (hi lo v : Nat) {q : Reg} {j : Nat} (hn : n < 1088) (hj : j < 2 ^ 24)
    (h : q ≠ .DMA_CH_STATUS) : (d.chSet n hi lo v).rd q j = d.rd q j := Dev.rd_setFld_other _ _ _ _ (by omega) hj h

section
variable (d : Dev) {n : Nat} (hn : n < 1088)
include hn

theorem Dev.fld_bump_status {q : Reg} {i : Nat} (hi : i < 2 ^ 24) (h : q ≠ .DMA_CH_STATUS) (a b : Nat) :
    (d.bump q i).fld .DMA_CH_STATUS n a b = d.fld .DMA_CH_STATUS n a b := by
  rw [Dev.fld, Dev.bump, Dev.rd_add_other _ _ hi (by omega) h.symm, Dev.fld]

theorem Dev.fld_wr_status {q : Reg} {i : Nat} (v : Nat) (hi : i < 2 ^ 24) (h : q ≠ .DMA_CH_STATUS) (a b : Nat) :
    (d.wr q i v).fld .DMA_CH_STATUS n a b = d.fld .DMA_CH_STATUS n a b := by
  rw [Dev.fld, Dev.rd_wr_other _ _ hi (by omega) h.symm, Dev.fld]

end

/-! ### Writes of origins (R361, R364, R370, R374) -/

section
variable {o : Origin} {inst unit which v tag : Nat} {s : State} (channel : chanOk inst unit = true)
include channel

theorem exec_shadowWrite (names : which < 4) (takes : s.dev.takesWrite o (shadowReg which) (128 * inst + unit)) :
    exec (.shadowWrite o inst unit which v) s = .next (s.withDev (s.dev.shadowWrite o (128 * inst + unit) which v)) := by
  refine show execShadowWrite o inst unit which v s = _ from State.act_next ?_
  rw [if_neg (by simp [channel]; omega), Dev.regWrite_ok takes]

theorem exec_ownerWrite (takes : s.dev.takesWrite o .DMA_CH_OWNER (128 * inst + unit)) :
    exec (.ownerWrite o inst unit v) s = .next (s.withDev (s.dev.ownerWrite o (128 * inst + unit) v)) := by
  refine show execOwnerWrite o inst unit v s = _ from State.act_next ?_
  rw [if_neg (by simp [channel]), Dev.regWrite_ok takes]

variable (fits : tag < 2 ^ 16) (takes : s.dev.takesWrite o .DMA_CH_CTL (128 * inst + unit))
include fits takes

theorem exec_arm : exec (.arm o inst unit tag) s = .next (s.withDev (s.dev.arm o (128 * inst + unit) tag)) := by
  refine show execArm o inst unit tag s = _ from State.act_next ?_
  rw [if_neg (by simp [channel]), Dev.regWrite_ok takes, Nat.mod_eq_of_lt fits]

theorem exec_reclaim : exec (.reclaim o inst unit tag) s = .next (s.withDev (s.dev.reclaim o (128 * inst + unit) tag)) := by
  refine show execReclaim o inst unit tag s = _ from State.act_next ?_
  rw [if_neg (by simp [channel]), Dev.regWrite_ok takes, Nat.mod_eq_of_lt fits]

theorem exec_channelReset : exec (.channelReset o inst unit tag) s = .next (s.withDev (if s.dev.mayReset o (128 * inst + unit)
    then (s.dev.chSet (128 * inst + unit) 63 48 tag).resetChannel (128 * inst + unit) else s.dev)) := by
  refine show execChannelReset o inst unit tag s = _ from State.act_next ?_
  rw [if_neg (by simp [channel]), Dev.regWrite_ok takes, Nat.mod_eq_of_lt fits]

theorem exec_channelResume : exec (.channelResume o inst unit tag) s = .next (s.withDev (if s.dev.isOwner o (128 * inst + unit)
    then (s.dev.chSet (128 * inst + unit) 63 48 tag).resumeChannel (128 * inst + unit) else s.dev)) := by
  refine show execChannelResume o inst unit tag s = _ from State.act_next ?_
  rw [if_neg (by simp [channel]), Dev.regWrite_ok takes, Nat.mod_eq_of_lt fits]

end

/-! ### The shadow set (R370) -/

/-- Replacing the bits of a mask in a 64-bit word. -/
theorem testBit_masked (old v : Nat) {m b : Nat} (hm : m < 2 ^ 64) (hb : b < 64) :
    ((old &&& (2 ^ 64 - 1 - m)) ||| (v &&& m)).testBit b = if m.testBit b then v.testBit b else old.testBit b := by
  have kept : (2 ^ 64 - 1 - m).testBit b = !m.testBit b := by
    rw [Nat.sub_sub, Nat.add_comm, Nat.testBit_two_pow_sub_succ hm, decide_eq_true hb, Bool.true_and]
  rw [Nat.testBit_or, Nat.testBit_and, Nat.testBit_and, kept]
  cases m.testBit b <;> simp

theorem shadowReg_ne (which : Nat) : shadowReg which ≠ .DMA_CH_STATUS ∧ shadowReg which ≠ .DMA_CH_SHADOW_LOCKED ∧
    (shadowReg which).info.rw < 2 ^ 64 := by
  unfold shadowReg
  split <;> decide

section
variable {d : Dev} {o : Origin} {n which v : Nat} (hn : n < 1088)

theorem Dev.shadowWrite_foreign (foreign : d.isOwner o n = false) : d.shadowWrite o n which v = d.bump .DMA_CH_FOREIGN n := if_pos foreign

theorem Dev.shadowWrite_armed (owner : d.isOwner o n = true) (armed : d.armed n = true) : d.shadowWrite o n which v = d.shadowLocked n := by
  rw [Dev.shadowWrite, if_neg (by simp [owner]), if_pos armed]

/-- A word of the shadow set after a write: the bits that the register has are written. -/
def Dev.shadowWord (d : Dev) (n which v : Nat) : Nat :=
  (d.rd (shadowReg which) n &&& (2 ^ 64 - 1 - (shadowReg which).info.rw)) ||| (v &&& (shadowReg which).info.rw)

theorem Dev.shadowWrite_takes (owner : d.isOwner o n = true) (free : d.armed n = false) :
    d.shadowWrite o n which v = (d.wr (shadowReg which) n (d.shadowWord n which v)).chSet n 2 2 1 := by
  rw [Dev.shadowWrite, if_neg (by simp [owner]), if_neg (by simp [free])]
  rfl

@[simp] theorem Dev.shadowLocked_dma : (d.shadowLocked n).dma = d.dma := rfl

theorem Dev.fld_shadowLocked : (d.shadowLocked n).fld .DMA_CH_STATUS n 3 3 = 1 := Dev.fld_chSet_same _ _ _ (by decide)

include hn

theorem Dev.rd_shadowLocked_count : (d.shadowLocked n).rd .DMA_CH_SHADOW_LOCKED n = (d.rd .DMA_CH_SHADOW_LOCKED n + 1) % 2 ^ 64 :=
  (Dev.rd_chSet_other _ _ _ _ hn (by omega) (by decide)).trans (Dev.rd_add_same ..)

theorem Dev.rd_shadowLocked_other {q : Reg} (status : q ≠ .DMA_CH_STATUS) (count : q ≠ .DMA_CH_SHADOW_LOCKED) :
    (d.shadowLocked n).rd q n = d.rd q n :=
  (Dev.rd_chSet_other _ _ _ _ hn (by omega) status).trans (Dev.rd_add_other _ _ (by omega) (by omega) count)

theorem Dev.shadowWrite_word (owner : d.isOwner o n = true) (free : d.armed n = false) {b : Nat} (hb : b < 64) :
    ((d.shadowWrite o n which v).rd (shadowReg which) n).testBit b =
      if (shadowReg which).info.rw.testBit b then v.testBit b else (d.rd (shadowReg which) n).testBit b := by
  rw [Dev.shadowWrite_takes owner free, Dev.rd_chSet_other _ _ _ _ hn (by omega) (shadowReg_ne which).1, Dev.rd_wr_same,
    Nat.testBit_mod_two_pow, decide_eq_true hb, Bool.true_and, Dev.shadowWord, testBit_masked _ _ (shadowReg_ne which).2.2 hb]

theorem Dev.shadowWrite_rest (owner : d.isOwner o n = true) (free : d.armed n = false) {q : Reg} {i : Nat} (hi : i < 2 ^ 24)
    (reg : (q, i) ≠ (shadowReg which, n)) (status : (q, i) ≠ (.DMA_CH_STATUS, n)) : (d.shadowWrite o n which v).rd q i = d.rd q i := by
  rw [Dev.shadowWrite_takes owner free]
  exact (Dev.rd_wr_apart _ _ (by omega) hi status).trans (Dev.rd_wr_apart _ _ (by omega) hi reg)

end

/-! ### ARM (R364, R369) -/

section
variable {d : Dev} {o : Origin} {n tag : Nat}

theorem Dev.arm_foreign (foreign : d.isOwner o n = false) : d.arm o n tag = d.bump .DMA_CH_FOREIGN n := if_pos foreign

section
variable (owner : d.isOwner o n = true)
include owner

theorem Dev.arm_armed (armed : d.armed n = true) : d.arm o n tag = (d.shadowLocked n).chSet n 63 48 tag := by
  rw [Dev.arm, if_neg (by simp [owner]), if_pos armed]

variable (free : d.armed n = false)
include free

theorem Dev.arm_lockdown (locked : d.mode = .lockdown) : d.arm o n tag = d.armResult n tag 3 0xFD := by
  rw [Dev.arm, if_neg (by simp [owner]), if_neg (by simp [free]), if_pos locked]

variable (runs : d.mode ≠ .lockdown)
include runs

theorem Dev.arm_fenced (fenced : d.isFenced (chanUnit n) = true) : d.arm o n tag = d.armResult n tag 3 0xFC := by
  rw [Dev.arm, if_neg (by simp [owner]), if_neg (by simp [free]), if_neg runs, if_pos fenced]

variable (inUse : d.isFenced (chanUnit n) = false)
include inUse

theorem Dev.arm_fails (fails : firstFail (d.armChecks n) ≠ 0) : d.arm o n tag = d.armResult n tag 2 (firstFail (d.armChecks n)) := by
  rw [Dev.arm, if_neg (by simp [owner]), if_neg (by simp [free]), if_neg runs, if_neg (by simp [inUse])]
  cases check : firstFail (d.armChecks n) with
  | zero => exact absurd check fails
  | succ k => rfl

/-- The channel is armed and its ARM reported. -/
def Dev.nowArmed (d : Dev) (n tag : Nat) : Dev := (d.armResult n tag 1 0).chSet n 1 1 1

theorem Dev.arm_passes (passes : firstFail (d.armChecks n) = 0) : d.arm o n tag =
    let s := d.nowArmed n tag
    if s.chState n = 0 then
      if decide (s.rd .DMA_ACT_LEN n ≠ 0 ∧ s.fld .DMA_CH_STATUS n 23 16 = 0) then (s.handOver n).bump .DMA_CH_LATE_ARMS n else s.handOver n
    else s := by
  rw [Dev.arm, if_neg (by simp [owner]), if_neg (by simp [free]), if_neg runs, if_neg (by simp [inUse])]
  split
  · dsimp only [Dev.nowArmed]
  · exact absurd passes ‹_›

end

theorem Dev.chState_chSet (d : Dev) {n hi lo : Nat} (v : Nat) (apart : lo ≤ hi ∧ (9 < lo ∨ hi < 8)) :
    (d.chSet n hi lo v).chState n = d.chState n := d.fld_chSet_beside _ _ (by omega)

theorem Dev.armed_chSet (d : Dev) {n hi lo : Nat} (v : Nat) (apart : lo ≤ hi ∧ (1 < lo ∨ hi < 1)) :
    (d.chSet n hi lo v).armed n = d.armed n := by
  rw [Dev.armed, d.fld_chSet_beside _ _ (by omega), Dev.armed]

theorem Dev.armResult_chState (d : Dev) (n tag r k : Nat) : (d.armResult n tag r k).chState n = d.chState n := by
  rw [Dev.armResult, Dev.chState_chSet _ _ (by decide), Dev.chState_chSet _ _ (by decide), Dev.chState_chSet _ _ (by decide)]

theorem Dev.armResult_armed (d : Dev) (n tag r k : Nat) : (d.armResult n tag r k).armed n = d.armed n := by
  rw [Dev.armResult, Dev.armed_chSet _ _ (by decide), Dev.armed_chSet _ _ (by decide), Dev.armed_chSet _ _ (by decide)]

theorem Dev.armResult_dma (d : Dev) (n tag r k : Nat) : (d.armResult n tag r k).dma = d.dma := by
  rw [Dev.armResult, Dev.chSet_dma, Dev.chSet_dma, Dev.chSet_dma]

/-- The fields of a reported ARM. -/
theorem Dev.armResult_fields (d : Dev) (n : Nat) {tag r k : Nat} (ht : tag < 2 ^ 16) (hr : r < 4) (hk : k < 256) : let e := d.armResult n tag r k
    e.fld .DMA_CH_STATUS n 63 48 = tag ∧ e.fld .DMA_CH_STATUS n 7 6 = r ∧ e.fld .DMA_CH_STATUS n 31 24 = k := by
  refine ⟨?_, ?_, ?_⟩
  · rw [Dev.armResult, Dev.fld_chSet_beside _ _ _ (by decide), Dev.fld_chSet_beside _ _ _ (by decide), Dev.fld_chSet_same _ _ _ (by decide)]
    exact Nat.mod_eq_of_lt ht
  · rw [Dev.armResult, Dev.fld_chSet_beside _ _ _ (by decide), Dev.fld_chSet_same _ _ _ (by decide)]
    exact Nat.mod_eq_of_lt hr
  · rw [Dev.armResult, Dev.fld_chSet_same _ _ _ (by decide)]
    exact Nat.mod_eq_of_lt hk

theorem Dev.nowArmed_chState (d : Dev) (n tag : Nat) : (d.nowArmed n tag).chState n = d.chState n := by
  rw [Dev.nowArmed, Dev.chState_chSet _ _ (by decide), Dev.armResult_chState]

theorem Dev.nowArmed_dma (d : Dev) (n tag : Nat) : (d.nowArmed n tag).dma = d.dma := by
  rw [Dev.nowArmed, Dev.chSet_dma, Dev.armResult_dma]

theorem Dev.nowArmed_armed (d : Dev) (n tag : Nat) : (d.nowArmed n tag).armed n = true := by
  rw [Dev.nowArmed, Dev.armed, Dev.fld_chSet_same _ _ _ (by decide)]
  rfl

theorem Dev.nowArmed_result (d : Dev) (n : Nat) {tag : Nat} (ht : tag < 2 ^ 16) : (d.nowArmed n tag).fld .DMA_CH_STATUS n 7 6 = 1 := by
  rw [Dev.nowArmed, Dev.fld_chSet_beside _ _ _ (by decide)]
  exact (d.armResult_fields n ht (by decide) (by decide)).2.1

theorem Dev.rd_nowArmed_other (d : Dev) {n : Nat} (hn : n < 1088) (tag : Nat) {q : Reg} (h : q ≠ .DMA_CH_STATUS) :
    (d.nowArmed n tag).rd q n = d.rd q n := by
  have small : n < 2 ^ 24 := by omega
  rw [Dev.nowArmed, Dev.armResult, Dev.rd_chSet_other _ _ _ _ hn small h, Dev.rd_chSet_other _ _ _ _ hn small h,
    Dev.rd_chSet_other _ _ _ _ hn small h, Dev.rd_chSet_other _ _ _ _ hn small h]

end

/-! ### The owner table and RECLAIM (R362, R374, R440) -/

theorem Dev.ownerWrite_refused {d : Dev} {o : Origin} {n v : Nat} (refused : let w := v &&& Reg.DMA_CH_OWNER.info.rw
    d.mayOwn o n w = false ∨ d.chState n ≠ 0 ∨ d.armed n = true ∨
      (ownerKind w = 3 ∧ bit w 19 = false ∧ d.quota (bits w 31 20) 78 69 < d.queueChannels (bits w 31 20) n + 1)) :
    d.ownerWrite o n v = d.chSet n 5 5 1 :=
  if_pos (refused.imp_right (Or.imp_right (Or.imp_right fun ⟨queue, pitch, past⟩ => by simp [queue, pitch, past])))

theorem Dev.reclaim_not {d : Dev} {o : Origin} {n tag : Nat} (may : d.mayReclaim o n = false) : d.reclaim o n tag = d := if_pos may

section
variable (d : Dev) {n : Nat} (hn : n < 1088)
include hn

theorem Dev.rd_clearShadow_other {q : Reg} {j : Nat} (hj : j < 2 ^ 24) (source : q ≠ .DMA_SH_SRC) (dest : q ≠ .DMA_SH_DST)
    (len : q ≠ .DMA_SH_LEN) (cfg : q ≠ .DMA_SH_CFG) (status : q ≠ .DMA_CH_STATUS) : (d.clearShadow n).rd q j = d.rd q j := by
  have small : n < 2 ^ 24 := by omega
  rw [Dev.clearShadow, Dev.rd_chSet_other _ _ _ _ hn hj status, Dev.rd_chSet_other _ _ _ _ hn hj status, Dev.rd_wr_other _ _ small hj cfg,
    Dev.rd_wr_other _ _ small hj len, Dev.rd_wr_other _ _ small hj dest, Dev.rd_wr_other _ _ small hj source]

theorem Dev.chState_clearShadow : (d.clearShadow n).chState n = d.chState n := by
  have small : n < 2 ^ 24 := by omega
  rw [Dev.clearShadow, Dev.chState_chSet _ _ (by decide), Dev.chState_chSet _ _ (by decide), Dev.chState,
    Dev.fld_wr_status _ hn _ small (by decide), Dev.fld_wr_status _ hn _ small (by decide), Dev.fld_wr_status _ hn _ small (by decide),
    Dev.fld_wr_status _ hn _ small (by decide), Dev.chState]

omit hn in
theorem Dev.armed_clearShadow : (d.clearShadow n).armed n = false := by
  rw [Dev.clearShadow, Dev.armed_chSet _ _ (by decide), Dev.armed, Dev.fld_chSet_same _ _ _ (by decide)]
  rfl

/-- A channel whose shadow set is cleared for a RECLAIM. -/
def Dev.reclaimed (d : Dev) (n tag : Nat) : Dev := ((d.clearShadow n).chSet n 4 4 0).chSet n 63 48 tag

variable (tag : Nat)

theorem Dev.rd_reclaimed_other {q : Reg} {j : Nat} (hj : j < 2 ^ 24) (source : q ≠ .DMA_SH_SRC) (dest : q ≠ .DMA_SH_DST)
    (len : q ≠ .DMA_SH_LEN) (cfg : q ≠ .DMA_SH_CFG) (status : q ≠ .DMA_CH_STATUS) : (d.reclaimed n tag).rd q j = d.rd q j := by
  rw [Dev.reclaimed, Dev.rd_chSet_other _ _ _ _ hn hj status, Dev.rd_chSet_other _ _ _ _ hn hj status,
    d.rd_clearShadow_other hn hj source dest len cfg status]

theorem Dev.chState_reclaimed : (d.reclaimed n tag).chState n = d.chState n := by
  rw [Dev.reclaimed, Dev.chState_chSet _ _ (by decide), Dev.chState_chSet _ _ (by decide), d.chState_clearShadow hn]

omit hn in
theorem Dev.armed_reclaimed : (d.reclaimed n tag).armed n = false := by
  rw [Dev.reclaimed, Dev.armed_chSet _ _ (by decide), Dev.armed_chSet _ _ (by decide), d.armed_clearShadow]

/-- The owner that a RECLAIM names (R374): none for Basecamp, else the supervisor of the owner's cluster. -/
def Dev.reclaimOwner (d : Dev) (o : Origin) (n : Nat) : Nat :=
  if o = .basecamp then 0 else 2 + d.supervisor (bits (d.chOwner n) 18 16) * 2 ^ 8 + bits (d.chOwner n) 18 16 * 2 ^ 16

omit hn in
theorem Dev.reclaimOwner_lt (o : Origin) : d.reclaimOwner o n < 2 ^ 64 := by
  have thread : d.supervisor (bits (d.chOwner n) 18 16) < 2 ^ 8 := bits_lt _
  have cluster : bits (d.chOwner n) 18 16 < 2 ^ 3 := bits_lt _
  unfold Dev.reclaimOwner
  split <;> omega

theorem Dev.reclaim_eq {o : Origin} (may : d.mayReclaim o n = true) : d.reclaim o n tag =
    (((d.reclaimed n tag).wr .DMA_CH_OWNER n (d.reclaimOwner o n)).setChan n { (d.reclaimed n tag).chan n with halt := 0 }).bump
      .DMA_RECLAIMS (n / 128) := by
  have cluster : bits (d.chOwner n) 18 16 < 2 ^ 3 := bits_lt _
  have same : (d.reclaimed n tag).supervisor (bits (d.chOwner n) 18 16) = d.supervisor (bits (d.chOwner n) 18 16) := by
    rw [Dev.supervisor, Dev.fld, d.rd_reclaimed_other hn _ (by omega) (by decide) (by decide) (by decide) (by decide) (by decide)]
    rfl
  rw [Dev.reclaim, if_neg (by simp [may])]
  refine congrArg (fun v => (((d.reclaimed n tag).wr .DMA_CH_OWNER n v).setChan n { (d.reclaimed n tag).chan n with halt := 0 }).bump
    .DMA_RECLAIMS (n / 128)) ?_
  rw [Dev.reclaimOwner, ← same]
  cases o <;> rfl

theorem Dev.reclaim_effects {o : Origin} (may : d.mayReclaim o n = true) : let e := d.reclaim o n tag
    e.chOwner n = d.reclaimOwner o n ∧ e.rd .DMA_RECLAIMS (n / 128) = (d.rd .DMA_RECLAIMS (n / 128) + 1) % 2 ^ 64 ∧
      e.chState n = d.chState n ∧ e.armed n = false := by
  have small : n < 2 ^ 24 := by omega
  have inst : n / 128 < 2 ^ 24 := by omega
  rw [d.reclaim_eq hn tag may]
  refine ⟨?owner, ?count, ?state, ?armed⟩
  case owner =>
    rw [Dev.chOwner, Dev.bump, Dev.rd_add_other _ _ inst small (by decide), Dev.rd_setChan, Dev.rd_wr_same]
    exact Nat.mod_eq_of_lt (d.reclaimOwner_lt o)
  case count =>
    rw [Dev.bump, Dev.rd_add_same, Dev.rd_setChan, Dev.rd_wr_other _ _ small inst (by decide),
      d.rd_reclaimed_other hn tag inst (by decide) (by decide) (by decide) (by decide) (by decide)]
  case state =>
    rw [Dev.chState, Dev.fld_bump_status _ hn inst (by decide), Dev.fld_setChan, Dev.fld_wr_status _ hn _ small (by decide)]
    exact d.chState_reclaimed hn tag
  case armed =>
    rw [Dev.armed, Dev.fld_bump_status _ hn inst (by decide), Dev.fld_setChan, Dev.fld_wr_status _ hn _ small (by decide)]
    exact d.armed_reclaimed tag

end

/-! ### Bursts and the ends of transfers (R365, R367, R371, R374) -/

section
variable {a : Nat} {s : State} (ha : a < 5)
include ha

theorem exec_dmaBurstIssue_issues {n : Nat} (pick : s.dev.pickChannel a = some n)
    (room : Sparse.get (fun _ => 0) s.dev.dma.bursts a < s.dev.clk.volleyNs) : exec (.dmaBurstIssue a) s = .next (s.withDev
      (Dev.burst { s.dev with dma := { s.dev.dma with
        turn := Sparse.set (fun _ => 2047) s.dev.dma.turn a n
        bursts := Sparse.set (fun _ => 0) s.dev.dma.bursts a (Sparse.get (fun _ => 0) s.dev.dma.bursts a + 1) } } n)) := by
  refine show execDmaBurstIssue a s = _ from State.act_next ?_
  rw [if_neg (Nat.not_le.2 ha)]
  simp only [pick]
  rw [if_neg (Nat.not_le.2 room)]

theorem exec_dmaBurstIssue_rests (rests : s.dev.pickChannel a = none ∨ s.dev.clk.volleyNs ≤ Sparse.get (fun _ => 0) s.dev.dma.bursts a) :
    exec (.dmaBurstIssue a) s = .next s := by
  refine show execDmaBurstIssue a s = .next (s.withDev s.dev) from State.act_next ?_
  rw [if_neg (Nat.not_le.2 ha)]
  cases pick : s.dev.pickChannel a with
  | none => rfl
  | some n => exact if_pos (rests.resolve_left (by simp [pick]))

end

section
variable {inst unit : Nat} {s : State} (channel : chanOk inst unit = true)
include channel

/-- A transfer of a channel has come to its completion point, and is counted (R367). -/
def Dev.transferDone (d : Dev) (n : Nat) : Dev :=
  ((d.bump .DMA_CH_TRANSFERS n).add .DMA_CH_BYTES n (d.rd .DMA_ACT_LEN n)).transferEnd n 0

section
variable (point : s.dev.atPoint (128 * inst + unit) = true)
include point

theorem exec_completionPoint_work {w : Work} (serves : ((s.dev.transferDone (128 * inst + unit)).chan (128 * inst + unit)).work = some w) :
    exec (.completionPoint inst unit) s = .next (s.withDev
      (((((s.dev.transferDone (128 * inst + unit)).workDone (128 * inst + unit) w).chSet (128 * inst + unit) 9 8 0).setChan
        (128 * inst + unit) Chan.blank).queueAssign)) := by
  refine show execCompletionPoint inst unit s = _ from State.act_next ?_
  rw [if_neg (by simp [channel]), if_neg (by simp [point])]
  unfold Dev.transferDone at *
  simp only [serves]

theorem exec_completionPoint_own (own : ((s.dev.transferDone (128 * inst + unit)).chan (128 * inst + unit)).work = none) :
    exec (.completionPoint inst unit) s = .next (s.withDev (
      let n := 128 * inst + unit
      let t := s.dev.transferDone n
      Dev.tellOwner (if t.armed n then t.handOver n else (t.chSet n 9 8 0).setChan n { Chan.blank with halt := (t.chan n).halt }) n)) := by
  refine show execCompletionPoint inst unit s = _ from State.act_next ?_
  rw [if_neg (by simp [channel]), if_neg (by simp [point])]
  unfold Dev.transferDone at *
  simp only [own]

end

section
variable {code : Nat} (runs : s.dev.chState (128 * inst + unit) = 1) (failed : (s.dev.chan (128 * inst + unit)).failed = some code)
  (settled : (s.dev.chan (128 * inst + unit)).outst = 0)
include runs failed settled

/-- A transfer of a channel has failed, and is counted (R371). -/
def Dev.transferLost (d : Dev) (n code : Nat) : Dev := (d.bump .DMA_CH_ERRORS n).transferEnd n code

theorem exec_transferFailed_work {w : Work}
    (serves : ((s.dev.transferLost (128 * inst + unit) code).chan (128 * inst + unit)).work = some w) :
    let n := 128 * inst + unit
    exec (.transferFailed inst unit) s = .next (s.withDev
      ((((((s.dev.transferLost n code).releaseWith w.item (hostStatus code) 0 0).sendReady w.item.ring).stxRemoved.chSet n 9 8 0).setChan
        n Chan.blank).queueAssign)) := by
  refine show execTransferFailed inst unit s = _ from State.act_next ?_
  rw [if_neg (by simp [channel])]
  unfold Dev.transferLost at *
  simp only [runs, failed, settled, serves]

theorem exec_transferFailed_own (own : ((s.dev.transferLost (128 * inst + unit) code).chan (128 * inst + unit)).work = none) :
    let n := 128 * inst + unit
    let t := s.dev.transferLost n code
    exec (.transferFailed inst unit) s = .next (s.withDev (((t.chSet n 9 8 2).setChan n { Chan.blank with halt := (t.chan n).halt }).tellOwner n)) := by
  refine show execTransferFailed inst unit s = _ from State.act_next ?_
  rw [if_neg (by simp [channel])]
  unfold Dev.transferLost at *
  simp only [runs, failed, settled, own]

end

theorem exec_channelResetDone (resets : s.dev.chState (128 * inst + unit) = 3) (settled : (s.dev.chan (128 * inst + unit)).outst = 0) :
    let n := 128 * inst + unit
    exec (.channelResetDone inst unit) s = .next (s.withDev (((s.dev.chSet n 9 8 0).setChan n Chan.blank).queueAssign)) := by
  refine show execChannelResetDone inst unit s = _ from State.act_next ?_
  rw [if_neg (by simp [channel]), if_pos ⟨resets, settled⟩]

end

/-! ### Halted owners (R373, R377) -/

/-- The halt of a channel's owner is to be told (R373). -/
def Dev.haltDue (d : Dev) (inst n : Nat) : Prop :=
  d.ownerHalted n = true ∧ d.fld .DMA_CH_STATUS n 4 4 = 0 ∧ max 250 (d.rd .DMA_OWNER_HALT_LIMIT inst) ≤ (d.chan n).halt

/-- The record of a halted owner in DMA_HALT_LOG (R373). -/
def Dev.haltRecord (d : Dev) (unit n : Nat) : Nat :=
  unit + bits (d.chOwner n) 18 16 * 2 ^ 15 + bits (d.chOwner n) 15 8 * 2 ^ 18 + 2 ^ 31 + d.vn % 2 ^ 32 * 2 ^ 32

/-- The halt log of a channel block, after a halt that its FIFO has room for or not (R373). -/
def Dev.haltLogged (d : Dev) (inst unit n : Nat) : List Nat :=
  let q := Sparse.get (fun _ => []) d.dma.haltLog inst
  if q.length < 64 then q ++ [d.haltRecord unit n] else q

/-- The halt of a channel's owner is marked and logged. -/
def Dev.haltMarked (d : Dev) (inst unit n : Nat) : Dev :=
  { d.chSet n 4 4 1 with dma := { d.dma with haltLog := Sparse.set (fun _ => []) d.dma.haltLog inst (d.haltLogged inst unit n) } }

/-- The halt is counted, and whistled with the thread and whether it is its cluster's supervisor. -/
def Dev.haltWhistled (d : Dev) (inst unit n : Nat) : Dev :=
  let e := d.haltMarked inst unit n
  let t := bits (d.chOwner n) 15 8
  (e.bump .DMA_OWNER_HALTS inst).whistle 0x0D (chanUnit n) 0
    (unit + t * 2 ^ 8 + b2n (decide (e.supervisor (bits (d.chOwner n) 18 16) = t)) * 2 ^ 31)

/-- The supervisor of the owner's cluster is told of the halt. -/
def Dev.haltTold (d : Dev) (inst unit n : Nat) : Dev :=
  let e := d.haltWhistled inst unit n
  e.setEvent (ctxKey (bits (d.chOwner n) 18 16) (e.supervisor (bits (d.chOwner n) 18 16))) 5

section
variable {inst unit : Nat} {s : State} (channel : chanOk inst unit = true)
include channel

theorem chanOk_bounds : inst < 9 ∧ 128 * inst + unit < 1088 := by
  simp [chanOk] at channel
  omega

theorem exec_dmaOwnerHalt_not (notDue : ¬ s.dev.haltDue inst (128 * inst + unit)) : exec (.dmaOwnerHalt inst unit) s = .next s := by
  refine show execDmaOwnerHalt inst unit s = .next (s.withDev s.dev) from State.act_next ?_
  rw [if_neg (by simp [channel])]
  exact if_neg notDue

theorem exec_dmaOwnerHalt_tells (due : s.dev.haltDue inst (128 * inst + unit)) :
    exec (.dmaOwnerHalt inst unit) s = .next (s.withDev (s.dev.haltTold inst unit (128 * inst + unit))) := by
  refine show execDmaOwnerHalt inst unit s = _ from State.act_next ?_
  rw [if_neg (by simp [channel])]
  exact if_pos due

end

/-- What the registers hold is left as it is by the whistle and the event of a halt. -/
theorem Dev.haltTold_same {β : Type} (g : Dev → β) (event : ∀ d dor free, g { d with dor := dor, free := free } = g d)
    (whistle : ∀ d n q, g { d with whistleSeq := n, whistles := q } = g d) (d : Dev) (inst unit n : Nat) :
    g (d.haltTold inst unit n) = g ((d.haltMarked inst unit n).bump .DMA_OWNER_HALTS inst) := by
  rw [Dev.haltTold, Dev.setEvent_same g event, Dev.haltWhistled]
  obtain ⟨m, q, h⟩ := ((d.haltMarked inst unit n).bump .DMA_OWNER_HALTS inst).whistle_eq 0x0D (chanUnit n) 0
    (unit + bits (d.chOwner n) 15 8 * 2 ^ 8 +
      b2n (decide ((d.haltMarked inst unit n).supervisor (bits (d.chOwner n) 18 16) = bits (d.chOwner n) 15 8)) * 2 ^ 31)
  rw [h]
  exact whistle _ m q

section
variable (d : Dev) {inst unit n : Nat}

theorem Dev.haltLog_haltTold : Sparse.get (fun _ => []) (d.haltTold inst unit n).dma.haltLog inst = d.haltLogged inst unit n := by
  rw [Dev.haltTold_same (·.dma) (fun _ _ _ => rfl) (fun _ _ _ => rfl)]
  exact Sparse.get_set_same ..

theorem Dev.mem_haltTold : (d.haltTold inst unit n).mem = d.mem :=
  Dev.haltTold_same (·.mem) (fun _ _ _ => rfl) (fun _ _ _ => rfl) ..

variable (hi : inst < 9) (hn : n < 1088)

theorem Dev.rd_haltTold (q : Reg) (i : Nat) :
    (d.haltTold inst unit n).rd q i = ((d.chSet n 4 4 1).bump .DMA_OWNER_HALTS inst).rd q i :=
  Dev.haltTold_same (·.rd q i) (fun _ _ _ => rfl) (fun _ _ _ => rfl) ..

include hi hn

theorem Dev.fld_haltTold : (d.haltTold inst unit n).fld .DMA_CH_STATUS n 4 4 = 1 := by
  rw [Dev.fld, Dev.rd_haltTold, ← Dev.fld, Dev.fld_bump_status _ hn (by omega) (by decide)]
  exact Dev.fld_chSet_same _ _ _ (by decide)

theorem Dev.rd_haltTold_count : (d.haltTold inst unit n).rd .DMA_OWNER_HALTS inst = (d.rd .DMA_OWNER_HALTS inst + 1) % 2 ^ 64 := by
  rw [Dev.rd_haltTold, Dev.bump, Dev.rd_add_same, Dev.rd_chSet_other _ _ _ _ hn (by omega) (by decide)]

theorem Dev.chOwner_haltTold : (d.haltTold inst unit n).chOwner n = d.chOwner n := by
  rw [Dev.chOwner, Dev.rd_haltTold, Dev.bump, Dev.rd_add_other _ _ (by omega) (by omega) (by decide),
    Dev.rd_chSet_other _ _ _ _ hn (by omega) (by decide), Dev.chOwner]

end

/-- Settles O47, clause by clause. -/
theorem channelCommands : Obligations.ChannelCommands := by
  unfold Obligations.ChannelCommands
  refine ⟨fun o inst unit which v tag s channel names fits => ⟨exec_shadowWrite channel names, exec_ownerWrite channel, fun takes =>
      ⟨exec_arm channel fits takes, exec_reclaim channel fits takes, exec_channelReset channel fits takes,
        exec_channelResume channel fits takes⟩⟩,
    fun d o n which v hn names => ⟨Dev.shadowWrite_foreign, fun owner armed => ?locked, fun owner free => ?shadow⟩,
    fun d o n tag hn fits => ⟨Dev.arm_foreign, fun owner armed => ?armed, Dev.arm_lockdown, Dev.arm_fenced,
      fun owner free runs inUse => ⟨Dev.arm_fails owner free runs inUse, fun passes busy => ?waits, fun passes idle first => ?starts⟩⟩,
    fun d n tag r k hn ht hr hk => ?result,
    fun d o n v hn refused => ?refused,
    fun d o n tag hn => ⟨Dev.reclaim_not, d.reclaim_effects hn tag⟩,
    fun a s ha => ⟨fun n => exec_dmaBurstIssue_issues ha, exec_dmaBurstIssue_rests ha⟩,
    fun inst unit s channel => ⟨fun point => ⟨fun w => exec_completionPoint_work channel point, fun own armed => ?next, fun own free => ?ends⟩,
      fun code runs failed settled => ⟨fun w => exec_transferFailed_work channel runs failed settled,
        exec_transferFailed_own channel runs failed settled⟩, exec_channelResetDone channel⟩,
    fun inst unit s channel => ⟨exec_dmaOwnerHalt_not channel, fun due => ⟨_, exec_dmaOwnerHalt_tells channel due, ?told⟩⟩,
    fun l inst s onLink onInst takes => ?log⟩
  case locked =>
    obtain ⟨status, count, _⟩ := shadowReg_ne which
    rw [Dev.shadowWrite_armed owner armed]
    exact ⟨Dev.rd_shadowLocked_other hn status count, Dev.fld_shadowLocked, Dev.rd_shadowLocked_count hn⟩
  case shadow =>
    refine ⟨fun b => Dev.shadowWrite_word hn owner free, ?_, ?_, fun q i => Dev.shadowWrite_rest hn owner free⟩ <;>
      rw [Dev.shadowWrite_takes owner free]
    · exact Dev.fld_chSet_same _ _ _ (by decide)
    · rfl
  case armed =>
    rw [Dev.arm_armed owner armed]
    refine ⟨(Dev.fld_chSet_beside _ _ _ (by decide)).trans Dev.fld_shadowLocked, ?_, (Dev.chSet_dma ..).trans Dev.shadowLocked_dma⟩
    exact (Dev.fld_chSet_same _ _ _ (by decide)).trans (Nat.mod_eq_of_lt fits)
  case waits =>
    rw [Dev.arm_passes owner free runs inUse passes]
    dsimp only
    rw [if_neg (by rwa [Dev.nowArmed_chState])]
    exact ⟨d.nowArmed_armed n tag, d.nowArmed_result n fits, d.nowArmed_chState n tag, d.nowArmed_dma n tag⟩
  case starts =>
    rw [Dev.arm_passes owner free runs inUse passes]
    dsimp only
    rw [if_pos (by rwa [Dev.nowArmed_chState]), if_neg (by simp [d.rd_nowArmed_other hn, first])]
    rfl
  case result =>
    obtain ⟨echo, result, detail⟩ := d.armResult_fields n ht hr hk
    exact ⟨echo, result, detail, d.armResult_armed n tag r k, d.armResult_chState n tag r k, d.armResult_dma n tag r k⟩
  case refused =>
    rw [Dev.ownerWrite_refused refused]
    exact ⟨Dev.rd_chSet_other _ _ _ _ hn (by omega) (by decide), Dev.fld_chSet_same _ _ _ (by decide), rfl⟩
  case next =>
    rw [exec_completionPoint_own channel point own]
    exact congrArg (fun d => Outcome.next (s.withDev (Dev.tellOwner d _))) (if_pos armed)
  case ends =>
    rw [exec_completionPoint_own channel point own]
    exact congrArg (fun d => Outcome.next (s.withDev (Dev.tellOwner d _))) (if_neg (by rw [← Dev.transferDone] at free; simp [free]))
  case told =>
    obtain ⟨hi, hn⟩ := chanOk_bounds channel
    refine ⟨s.dev.fld_haltTold hi hn, s.dev.rd_haltTold_count hi hn, s.dev.chOwner_haltTold hi hn, s.dev.mem_haltTold, fun room => ?_⟩
    rw [Dev.haltLog_haltTold]
    exact if_pos room
  case log =>
    exact show execDmaHaltLogRead l inst s = _ from (if_neg (by omega)).trans (State.logAt_ok onLink takes)

end Sys2Proof.Machine
end


section
/-! PROOFS of the family 13_crypto_and_keys.md: access to the security associations, the Key Port and its operations, dispatch to the lanes
and their output, alarms and the erase of the keys, and the zeroing. -/

namespace Sys2Proof.Machine

open Host

/-! ### Numbers in 64-bit words -/

/-- The number whose 64-bit words are given, the lowest first. -/
def wordsNat (f : Nat → Nat) (n : Nat) : Nat := (List.range n).foldl (fun a w => a + f w * 2 ^ (64 * w)) 0

theorem wordsNat_succ (f : Nat → Nat) (n : Nat) : wordsNat f (n + 1) = wordsNat f n + f n * 2 ^ (64 * n) := by
  simp only [wordsNat, List.range_succ, List.foldl_append, List.foldl_cons, List.foldl_nil]

theorem wordsNat_congr {f g : Nat → Nat} {n : Nat} (same : ∀ w, w < n → f w = g w) : wordsNat f n = wordsNat g n := by
  induction n with
  | zero => rfl
  | succ n ih => rw [wordsNat_succ, wordsNat_succ, ih (fun w hw => same w (by omega)), same n (by omega)]

theorem wordsNat_bits (v n : Nat) : wordsNat (fun w => bits v (64 * w + 63) (64 * w)) n = v % 2 ^ (64 * n) := by
  induction n with
  | zero => simp [wordsNat, Nat.mod_one]
  | succ n ih =>
    have width : 64 * n + 63 + 1 - 64 * n = 64 := by omega
    rw [wordsNat_succ, ih, Nat.mul_succ, Nat.pow_add, Nat.mod_mul, Nat.mul_comm (bits ..), bits, width]

theorem wordsNat_lt {f : Nat → Nat} {n : Nat} (small : ∀ w, f w < 2 ^ 64) : wordsNat f n < 2 ^ (64 * n) := by
  induction n with
  | zero => exact Nat.one_pos
  | succ n ih =>
    have top : f n * 2 ^ (64 * n) + 2 ^ (64 * n) ≤ 2 ^ 64 * 2 ^ (64 * n) := by
      rw [← Nat.succ_mul]
      exact Nat.mul_le_mul_right _ (small n)
    rw [wordsNat_succ, Nat.mul_succ, Nat.pow_add, Nat.mul_comm (2 ^ (64 * n))]
    omega

theorem putBits_lt {v n : Nat} (x : Nat) {hi lo : Nat} (h : lo ≤ hi) (top : hi < n) (small : v < 2 ^ n) : putBits v hi lo x < 2 ^ n := by
  have split : 2 ^ n = 2 ^ (n - (hi + 1)) * 2 ^ (hi + 1) := by rw [← Nat.pow_add, Nat.sub_add_cancel (by omega)]
  have above : putBits v hi lo x / 2 ^ (hi + 1) < 2 ^ (n - (hi + 1)) := by
    rw [putBits_div v x h, Nat.div_lt_iff_lt_mul (Nat.two_pow_pos _), ← split]
    exact small
  rwa [Nat.div_lt_iff_lt_mul (Nat.two_pow_pos _), ← split] at above

/-- The elements of a register from `b` on, filled one after another, read what each was given. -/
theorem Dev.rd_fillFrom (s : Dev) (r : Reg) (f : Nat → Nat) {b n w : Nat} (hn : b + n ≤ 2 ^ 24) (hw : w < n) :
    (forEach (List.range n) s (fun s i => s.wr r (b + i) (f i))).rd r (b + w) = f w % 2 ^ 64 := by
  induction n with
  | zero => omega
  | succ n ih =>
    have last : forEach (List.range (n + 1)) s (fun s i => s.wr r (b + i) (f i)) =
        (forEach (List.range n) s (fun s i => s.wr r (b + i) (f i))).wr r (b + n) (f n) := by
      simp only [forEach, List.range_succ, List.foldl_append, List.foldl_cons, List.foldl_nil]
    rw [last]
    by_cases h : w = n
    · rw [h, Dev.rd_wr_same]
    · rw [Dev.rd_wr_element _ _ (by omega) (by omega) (by omega), ih (by omega) (by omega)]

/-- An element that is not among those written reads as before. -/
theorem Dev.rd_forEach_wr_apart {α : Type} (s : Dev) (r : Reg) (i v : α → Nat) {l : List α} {q : Reg} {j : Nat} (hj : j < 2 ^ 24)
    (apart : ∀ a ∈ l, i a < 2 ^ 24 ∧ (q, j) ≠ (r, i a)) : (forEach l s (fun s a => s.wr r (i a) (v a))).rd q j = s.rd q j :=
  forEach_same (·.rd q j) (fun s a ha => s.rd_wr_apart _ (apart a ha).1 hj (apart a ha).2) s

/-! ### Security associations (R382) -/

section
variable {o : Origin} {i : Nat} {s : State} (hi : i < 262144) (takes : s.dev.takesWrite o .CRY_SA_ACC_CTL 0)
include hi takes

theorem exec_saRead : exec (.saRead o i) s = .next (s.withDev (s.dev.saAcc o (i + 2 ^ 18))) := by
  refine show execSaRead o i s = _ from State.act_next ?_
  rw [if_neg (Nat.not_le.2 hi)]
  exact congrArg _ (Dev.regWrite_ok takes ..)

theorem exec_saWrite : exec (.saWrite o i) s = .next (s.withDev (s.dev.saAcc o (i + 2 ^ 19))) := by
  refine show execSaWrite o i s = _ from State.act_next ?_
  rw [if_neg (Nat.not_le.2 hi)]
  exact congrArg _ (Dev.regWrite_ok takes ..)

end

theorem Dev.sa_eq (d : Dev) (i : Nat) : d.sa i = wordsNat (fun w => d.rd .CRY_SA_ENTRY (8 * i + w)) 8 := rfl

theorem Dev.sa_congr {d e : Dev} {i : Nat} (same : ∀ w, w < 8 → d.rd .CRY_SA_ENTRY (8 * i + w) = e.rd .CRY_SA_ENTRY (8 * i + w)) :
    d.sa i = e.sa i := by
  rw [Dev.sa_eq, Dev.sa_eq]
  exact wordsNat_congr same

theorem saMask_lt {v n : Nat} (wide : 511 < n) (small : v < 2 ^ n) : saMask v < 2 ^ n :=
  putBits_lt _ (by decide) (by omega) (putBits_lt _ (by decide) (by omega) (putBits_lt _ (by decide) wide small))

theorem Dev.saData_lt (d : Dev) : d.saData < 2 ^ (64 * 8) :=
  wordsNat_lt (f := fun w => d.rd .CRY_SA_ACC_DATA w) (n := 8) fun _ => d.rd_lt ..

section
variable (d : Dev) {i : Nat} (hi : i < 262144)
include hi

theorem Dev.sa_setSa_same {v : Nat} (small : v < 2 ^ (64 * 8)) : (d.setSa i v).sa i = v := by
  have stored : (d.setSa i v).sa i = wordsNat (fun w => bits v (64 * w + 63) (64 * w)) 8 := by
    rw [Dev.sa_eq]
    refine wordsNat_congr fun w hw => (d.rd_fillFrom .CRY_SA_ENTRY _ (by omega) hw).trans (Nat.mod_eq_of_lt ?_)
    rw [bits, show 64 * w + 63 + 1 - 64 * w = 64 by omega]
    exact Nat.mod_lt _ (by decide)
  rw [stored, wordsNat_bits]
  exact Nat.mod_eq_of_lt small

theorem Dev.rd_setSa_apart (v : Nat) {q : Reg} {j : Nat} (hj : j < 2 ^ 24) (apart : q ≠ .CRY_SA_ENTRY ∨ j / 8 ≠ i) :
    (d.setSa i v).rd q j = d.rd q j := by
  refine d.rd_forEach_wr_apart _ (fun w => 8 * i + w) _ hj fun w hw => ?_
  have low : w < 8 := List.mem_range.1 hw
  refine ⟨by omega, fun e => ?_⟩
  obtain ⟨reg, element⟩ := Prod.mk.inj e
  exact apart.elim (fun other => other reg) (fun other => by omega)

theorem Dev.sa_setSa_other (v : Nat) {j : Nat} (hj : j < 262144) (h : j ≠ i) : (d.setSa i v).sa j = d.sa j :=
  Dev.sa_congr fun w hw => d.rd_setSa_apart hi v (by omega) (.inr (by omega))

omit hi in
@[simp] theorem Dev.setSa_mem (v : Nat) : (d.setSa i v).mem = d.mem := by
  unfold Dev.setSa
  refine forEach_same (·.mem) (fun s w _ => ?_) d
  exact Dev.wr_mem ..

omit hi in
@[simp] theorem Dev.setSa_cry (v : Nat) : (d.setSa i v).cry = d.cry := by
  unfold Dev.setSa
  refine forEach_same (·.cry) (fun s w _ => ?_) d
  exact Dev.wr_cry ..

end

/-- A write of CRY_SA_ACC_CTL names its entry and its operation. -/
theorem saAcc_word {i op : Nat} (hi : i < 262144) (hop : op < 4) :
    bits (i + op * 2 ^ 18) 17 0 = i ∧ bits (i + op * 2 ^ 18) 19 18 = op := by
  simp only [bits]
  omega

section
variable (o : Origin) (d : Dev) {i : Nat} (hi : i < 262144)
include hi

/-- The image of an entry is placed in the DATA words of the access. -/
def Dev.saShown (d : Dev) (i : Nat) : Dev :=
  forEach (List.range 8) d (fun s w => s.wr .CRY_SA_ACC_DATA w (bits (d.sa i) (64 * w + 63) (64 * w)))

omit hi in
@[simp] theorem Dev.saShown_mem : (d.saShown i).mem = d.mem := by
  unfold Dev.saShown
  refine forEach_same (·.mem) (fun s w _ => ?_) d
  exact Dev.wr_mem ..

omit hi in
@[simp] theorem Dev.saShown_cry : (d.saShown i).cry = d.cry := by
  unfold Dev.saShown
  refine forEach_same (·.cry) (fun s w _ => ?_) d
  exact Dev.wr_cry ..

theorem Dev.saAcc_read : d.saAcc o (i + 2 ^ 18) = (d.saShown i).wr .CRY_SA_ACC_STATUS 0 0 := by
  obtain ⟨entry, op⟩ := saAcc_word hi (show 1 < 4 by decide)
  rw [Nat.one_mul] at entry op
  simp only [Dev.saAcc, entry, op, Dev.saShown]

theorem Dev.saAcc_write : d.saAcc o (i + 2 ^ 19) = if d.saWriter o then (d.saWrite i d.saData).1.wr .CRY_SA_ACC_STATUS 0 (d.saWrite i d.saData).2
    else d.bump .CRY_SA_FOREIGN_WRITE 0 := by
  obtain ⟨entry, op⟩ := saAcc_word hi (show 2 < 4 by decide)
  rw [show 2 * 2 ^ 18 = 2 ^ 19 by decide] at entry op
  simp only [Dev.saAcc, entry, op]

theorem Dev.saAcc_read_effects : let e := d.saAcc o (i + 2 ^ 18)
    (∀ w, w < 8 → e.rd .CRY_SA_ACC_DATA w = bits (d.sa i) (64 * w + 63) (64 * w)) ∧ e.rd .CRY_SA_ACC_STATUS 0 = 0 ∧ e.cry = d.cry ∧
      e.mem = d.mem := by
  rw [d.saAcc_read o hi]
  refine ⟨fun w hw => ?_, Dev.rd_wr_same .., (Dev.wr_cry ..).trans d.saShown_cry, (Dev.wr_mem ..).trans d.saShown_mem⟩
  rw [Dev.rd_wr_other _ _ (by decide) (by omega) (by decide), Dev.saShown, Dev.rd_fill _ _ _ (by decide) hw, bits,
      show 64 * w + 63 + 1 - 64 * w = 64 by omega, Nat.mod_mod]

end

theorem Dev.rd_withCry (d : Dev) (c : Cry) (q : Reg) (j : Nat) : ({ d with cry := c } : Dev).rd q j = d.rd q j := rfl
theorem Dev.fld_withCry (d : Dev) (c : Cry) (q : Reg) (j a b : Nat) : ({ d with cry := c } : Dev).fld q j a b = d.fld q j a b := rfl
theorem Dev.sa_withCry (d : Dev) (c : Cry) (i : Nat) : ({ d with cry := c } : Dev).sa i = d.sa i := rfl

/-- The entry of an accepted SA write takes the image, and is not logged as exhausted any more (R382, R384). -/
def Dev.saTaken (d : Dev) (i v : Nat) : Dev :=
  { d.setSa i v with cry := { (d.setSa i v).cry with limited := (d.setSa i v).cry.limited.filter (fun j => !decide (j = i)) } }

section
variable {d : Dev} {i v : Nat}

theorem Dev.saWrite_lockdown (locked : d.mode = .lockdown) : d.saWrite i v = (d, 3) := if_pos locked

theorem Dev.saWrite_fails (runs : d.mode ≠ .lockdown) (fails : firstFail (saChecks (d.sa i) (saMask v)) ≠ 0) :
    d.saWrite i v = (d, firstFail (saChecks (d.sa i) (saMask v)) * 2 ^ 8 + 2) := by
  obtain ⟨k, check⟩ := Nat.exists_eq_succ_of_ne_zero fails
  rw [Dev.saWrite, if_neg runs]
  simp only [check]

theorem Dev.saWrite_passes (runs : d.mode ≠ .lockdown) (passes : firstFail (saChecks (d.sa i) (saMask v)) = 0) :
    d.saWrite i v = (d.saTaken i (saMask v), 0) := by
  rw [Dev.saWrite, if_neg runs]
  simp only [passes]
  rfl

/-- The three outcomes of an SA write. -/
theorem Dev.saWrite_cases : (∃ r, d.saWrite i v = (d, r)) ∨ d.saWrite i v = (d.saTaken i (saMask v), 0) := by
  by_cases locked : d.mode = .lockdown
  · exact .inl ⟨3, Dev.saWrite_lockdown locked⟩
  by_cases passes : firstFail (saChecks (d.sa i) (saMask v)) = 0
  · exact .inr (Dev.saWrite_passes locked passes)
  · exact .inl ⟨_, Dev.saWrite_fails locked passes⟩

theorem Dev.saTaken_mem : (d.saTaken i v).mem = d.mem := by
  unfold Dev.saTaken
  dsimp only
  rw [Dev.setSa_mem]

theorem Dev.saTaken_slots : (d.saTaken i v).cry.slots = d.cry.slots := by
  unfold Dev.saTaken
  dsimp only
  rw [Dev.setSa_cry]

theorem Dev.sa_saTaken (j : Nat) : (d.saTaken i v).sa j = (d.setSa i v).sa j := by
  unfold Dev.saTaken
  exact Dev.sa_withCry ..

end

theorem Dev.sa_wr_status (d : Dev) (v : Nat) {i : Nat} (hi : i < 262144) : (d.wr .CRY_SA_ACC_STATUS 0 v).sa i = d.sa i :=
  Dev.sa_congr fun w hw => d.rd_wr_other v (by decide) (by omega) (by decide)

theorem firstFail_le (l : List Bool) : firstFail l ≤ l.length := by
  unfold firstFail
  split
  · exact (List.findIdx?_eq_some_iff_getElem.1 ‹_›).1
  · exact Nat.zero_le _

section
variable {o : Origin} {d : Dev} {i : Nat} (hi : i < 262144)
include hi

theorem Dev.saWrite_keeps {v : Nat} : let e := (d.saWrite i v).1
    e.mem = d.mem ∧ e.cry.slots = d.cry.slots ∧ (∀ j, j < 262144 → j ≠ i → e.sa j = d.sa j) := by
  obtain ⟨r, h⟩ | h := d.saWrite_cases (i := i) (v := v) <;> rw [h]
  · exact ⟨rfl, rfl, fun j _ _ => rfl⟩
  · refine ⟨Dev.saTaken_mem, Dev.saTaken_slots, fun j hj other => ?_⟩
    rw [Dev.sa_saTaken, d.sa_setSa_other hi _ hj other]

theorem Dev.saAcc_foreign (foreign : d.saWriter o = false) : d.saAcc o (i + 2 ^ 19) = d.bump .CRY_SA_FOREIGN_WRITE 0 := by
  rw [d.saAcc_write o hi, if_neg (by simp [foreign])]

variable (writer : d.saWriter o = true)
include writer

/-- What an SA write leaves as it is, whatever its checks give. -/
theorem Dev.saAcc_write_keeps : let e := d.saAcc o (i + 2 ^ 19)
    e.mem = d.mem ∧ e.cry.slots = d.cry.slots ∧ (∀ j, j < 262144 → j ≠ i → e.sa j = d.sa j) := by
  obtain ⟨mem, slots, others⟩ := Dev.saWrite_keeps (d := d) (v := d.saData) hi
  dsimp only
  rw [d.saAcc_write o hi, if_pos writer, Dev.wr_mem, Dev.wr_cry]
  exact ⟨mem, slots, fun j hj other => (Dev.sa_wr_status _ _ hj).trans (others j hj other)⟩

theorem Dev.saAcc_lockdown (locked : d.mode = .lockdown) :
    (d.saAcc o (i + 2 ^ 19)).rd .CRY_SA_ACC_STATUS 0 = 3 ∧ (d.saAcc o (i + 2 ^ 19)).sa i = d.sa i := by
  rw [d.saAcc_write o hi, if_pos writer, Dev.saWrite_lockdown locked]
  exact ⟨Dev.rd_wr_same .., d.sa_wr_status _ hi⟩

variable (runs : d.mode ≠ .lockdown)
include runs

theorem Dev.saAcc_fails (fails : firstFail (saChecks (d.sa i) (saMask d.saData)) ≠ 0) :
    (d.saAcc o (i + 2 ^ 19)).rd .CRY_SA_ACC_STATUS 0 = firstFail (saChecks (d.sa i) (saMask d.saData)) * 2 ^ 8 + 2 ∧
      (d.saAcc o (i + 2 ^ 19)).sa i = d.sa i := by
  rw [d.saAcc_write o hi, if_pos writer, Dev.saWrite_fails runs fails]
  have few : firstFail (saChecks (d.sa i) (saMask d.saData)) ≤ 7 := firstFail_le _
  exact ⟨(Dev.rd_wr_same ..).trans (Nat.mod_eq_of_lt (by omega)), d.sa_wr_status _ hi⟩

theorem Dev.saAcc_passes (passes : firstFail (saChecks (d.sa i) (saMask d.saData)) = 0) :
    (d.saAcc o (i + 2 ^ 19)).rd .CRY_SA_ACC_STATUS 0 = 0 ∧ (d.saAcc o (i + 2 ^ 19)).sa i = saMask d.saData := by
  rw [d.saAcc_write o hi, if_pos writer, Dev.saWrite_passes runs passes]
  exact ⟨Dev.rd_wr_same .., by rw [Dev.sa_wr_status _ _ hi, Dev.sa_saTaken, d.sa_setSa_same hi (saMask_lt (by decide) d.saData_lt)]⟩

end

/-! ### The Key Port (R397) -/

section
variable {o : Origin} {s : State}

theorem exec_keyportAcquire (reaches : s.dev.clocked 0xB = true) (hears : s.dev.hears o = true) (may : o.atPort.mayHold = true) :
    exec (.keyportAcquire o) s = .next (s.withDev ((s.dev.keyLock o.atPort).2.readReply o 4 (s.dev.keyLock o.atPort).1)) := by
  refine show execKeyportAcquire o s = _ from State.act_next ?_
  rw [if_neg (by simp [reaches, hears]), if_pos may]

theorem exec_keyportAcquire_deaf (deaf : s.dev.clocked 0xB = false ∨ s.dev.hears o = false) :
    exec (.keyportAcquire o) s = .next (s.withDev (s.dev.readReply o 4 0)) :=
  show execKeyportAcquire o s = _ from State.act_next (if_pos deaf)

theorem exec_keyportRelease (takes : s.dev.takesWrite o .CRY_KEYPORT_LOCK 0) : exec (.keyportRelease o) s = .next (s.withDev
    (if s.dev.holds o then s.dev.releasePort else s.dev.bump .CRY_KEYPORT_FOREIGN 0)) :=
  show execKeyportRelease o s = _ from State.act_next (congrArg _ (Dev.regWrite_ok takes ..))

theorem exec_keyportTimeout_due {h : Origin} {v : Nat} (held : s.dev.cry.holder = some (h, v)) (due : v ≤ s.dev.vn)
    (stays : s.dev.cry.relDue = false) : exec .keyportTimeout s = .next (s.withDev
      (((s.dev.setFld .CRY_KEYPORT_STATUS 0 3 3 1).bump .CRY_KEYPORT_TIMEOUTS 0).releasePort)) := by
  refine show execKeyportTimeout s = _ from State.act_next ?_
  simp only [held]
  rw [if_neg (by simp [stays, due])]

theorem exec_keyportTimeout_not {h : Origin} {v : Nat} (held : s.dev.cry.holder = some (h, v))
    (notDue : s.dev.vn < v ∨ s.dev.cry.relDue = true) : exec .keyportTimeout s = .next s := by
  refine show execKeyportTimeout s = .next (s.withDev s.dev) from State.act_next ?_
  simp only [held]
  exact if_pos notDue

end

section
variable {o : Origin} {d : Dev}

theorem Dev.keyLock_free (free : d.cry.holder = none) :
    d.keyLock o = (holderBits o + 3, { d with cry := { d.cry with holder := some (o, d.vn + 25000) } }) := by
  simp only [Dev.keyLock, free]

theorem Dev.keyLock_own {v : Nat} (held : d.cry.holder = some (o, v)) (stays : d.cry.relDue = false) : d.keyLock o = (holderBits o + 3, d) := by
  simp only [Dev.keyLock, held, stays, and_self, if_true]

theorem Dev.keyLock_denied {h : Origin} {v : Nat} (held : d.cry.holder = some (h, v)) (other : h ≠ o ∨ d.cry.relDue = true) :
    d.keyLock o = (holderBits h + 2, d.bump .CRY_KEYPORT_DENIED 0) := by
  simp only [Dev.keyLock, held]
  exact if_neg fun ⟨same, stays⟩ => other.elim (fun h => h same) (fun h => by simp [stays] at h)

end

/-! ### Operations of the Key Port (R398) -/

theorem exec_keyportOps {o : Origin} {slot typ owner tag : Nat} {ov : Bool} {s : State} (takes : s.dev.takesWrite o .CRY_KEYPORT_CTL 0) :
    exec (.keyportLoad o slot typ owner ov tag) s = .next (s.withDev (s.dev.keyCtl o (keyCtlWord 1 slot typ owner ov tag))) ∧
    exec (.keyportErase o slot tag) s = .next (s.withDev (s.dev.keyCtl o (keyCtlWord 2 slot 0 0 false tag))) ∧
    exec (.keyportGenerate o slot typ owner ov tag) s = .next (s.withDev (s.dev.keyCtl o (keyCtlWord 3 slot typ owner ov tag))) :=
  ⟨show execKeyportLoad o slot typ owner ov tag s = _ from State.act_next (congrArg _ (Dev.regWrite_ok takes ..)),
    show execKeyportErase o slot tag s = _ from State.act_next (congrArg _ (Dev.regWrite_ok takes ..)),
    show execKeyportGenerate o slot typ owner ov tag s = _ from State.act_next (congrArg _ (Dev.regWrite_ok takes ..))⟩

theorem b2n_le (b : Bool) : b2n b ≤ 1 := by cases b <;> decide

/-- The fields of a word of CRY_KEYPORT_CTL. -/
theorem keyCtlWord_fields (op slot typ owner tag : Nat) (ov : Bool) (hop : op < 8) : let v := keyCtlWord op slot typ owner ov tag
    bits v 17 0 = slot % 2 ^ 18 ∧ bits v 20 18 = op ∧ bits v 31 24 = typ % 256 ∧ bits v 43 32 = owner % 4096 ∧ bits v 44 44 = b2n ov ∧
      bits v 63 48 = tag % 2 ^ 16 := by
  have flag := b2n_le ov
  simp only [keyCtlWord, bits]
  omega

section
variable {o : Origin} {d : Dev} {v : Nat}

theorem Dev.keyCtl_foreign (foreign : d.holds o = false) : d.keyCtl o v = d.bump .CRY_KEYPORT_FOREIGN 0 := if_pos foreign

theorem Dev.keyCtl_busy (holds : d.holds o = true) (busy : d.cry.op.isSome) : d.keyCtl o v = d := by
  rw [Dev.keyCtl, if_neg (by simp [holds]), if_pos (.inl busy)]

/-- The status of the port as an operation of a TAG starts. -/
def Dev.keyBusy (d : Dev) (tag : Nat) : Dev := (d.setFld .CRY_KEYPORT_STATUS 0 31 16 tag).setFld .CRY_KEYPORT_STATUS 0 2 2 1

@[simp] theorem Dev.keyBusy_cry (d : Dev) (tag : Nat) : (d.keyBusy tag).cry = d.cry := by rw [Dev.keyBusy, Dev.setFld_cry, Dev.setFld_cry]

theorem Dev.keyBusy_tag (d : Dev) {tag : Nat} (fits : tag < 2 ^ 16) : (d.keyBusy tag).fld .CRY_KEYPORT_STATUS 0 31 16 = tag :=
  (Dev.fld_setFld_beside _ _ _ _ (by decide) (by decide) (.inl (by decide))).trans
    ((Dev.fld_setFld_same d _ _ _ (by decide) (by decide)).trans (Nat.mod_eq_of_lt fits))

theorem Dev.keyBusy_busy (d : Dev) (tag : Nat) : (d.keyBusy tag).fld .CRY_KEYPORT_STATUS 0 2 2 = 1 :=
  Dev.fld_setFld_same (d.setFld ..) _ _ _ (by decide) (by decide)

theorem Dev.keyCtl_starts (holds : d.holds o = true) (idle : d.cry.op = none) (op : 1 ≤ bits v 20 18 ∧ bits v 20 18 ≤ 3) :
    d.keyCtl o v = { d.keyBusy (bits v 63 48) with cry := { d.cry with op := some (v, o) } } := by
  rw [Dev.keyCtl, if_neg (by simp [holds]), if_neg (by simp [idle]; omega), ← d.keyBusy_cry (bits v 63 48)]
  rfl

end

theorem exec_keyportOpDone {v : Nat} {o : Origin} {s : State} (runs : s.dev.cry.op = some (v, o)) : exec .keyportOpDone s =
    .next (s.withDev ((s.dev.keyRun o v s.dev.keyData).1.keyEnd (s.dev.keyRun o v s.dev.keyData).2)) := by
  refine show execKeyportOpDone s = _ from State.act_next ?_
  simp only [runs]

/-- The operation of the port has ended with a RESULT, but for a release that is due. -/
def Dev.keyDone (d : Dev) (r : Nat) : Dev :=
  let e := (d.setFld .CRY_KEYPORT_STATUS 0 7 4 r).setFld .CRY_KEYPORT_STATUS 0 2 2 0
  { e with cry := { e.cry with op := none } }

theorem Dev.keyEnd_eq (d : Dev) (r : Nat) : d.keyEnd r = if (d.keyDone r).cry.relDue then (d.keyDone r).freePort else d.keyDone r := rfl

/-- A free port has no holder, and its DATA words are written. -/
theorem Dev.freePort_keeps (d : Dev) : d.freePort.cry = { d.cry with holder := none, relDue := false } ∧
    d.freePort.rd .CRY_KEYPORT_STATUS 0 = d.rd .CRY_KEYPORT_STATUS 0 := by
  obtain ⟨regs, h⟩ := forEach_wr_eq .CRY_KEYPORT_DATA id (fun _ => 0) (List.range 9)
    { d with cry := { d.cry with holder := none, relDue := false } }
  refine ⟨congrArg Dev.cry h, ?_⟩
  exact Dev.rd_forEach_wr_apart { d with cry := { d.cry with holder := none, relDue := false } } .CRY_KEYPORT_DATA id (fun _ => 0) (by decide)
    fun w hw => ⟨show w < 2 ^ 24 from Nat.lt_trans (List.mem_range.1 hw) (by decide), by simp⟩

theorem Dev.keyEnd_effects (d : Dev) {r : Nat} (hr : r ≤ 5) : (d.keyEnd r).cry.op = none ∧ (d.keyEnd r).cry.slots = d.cry.slots ∧
    (d.keyEnd r).fld .CRY_KEYPORT_STATUS 0 7 4 = r ∧ (d.keyEnd r).fld .CRY_KEYPORT_STATUS 0 2 2 = 0 := by
  have result : (d.keyDone r).fld .CRY_KEYPORT_STATUS 0 7 4 = r :=
    (Dev.fld_setFld_beside _ _ _ _ (by decide) (by decide) (.inl (by decide))).trans
      ((Dev.fld_setFld_same d _ _ _ (by decide) (by decide)).trans (Nat.mod_eq_of_lt (by omega)))
  have done : (d.keyDone r).fld .CRY_KEYPORT_STATUS 0 2 2 = 0 := Dev.fld_setFld_same (d.setFld ..) _ _ _ (by decide) (by decide)
  rw [Dev.keyEnd_eq]
  split
  · obtain ⟨cry, status⟩ := (d.keyDone r).freePort_keeps
    rw [Dev.fld, Dev.fld, status, cry]
    exact ⟨rfl, rfl, result, done⟩
  · exact ⟨rfl, rfl, result, done⟩

/-! ### The key store (R394, R395, R398) -/

section
variable (d : Dev) {i : Nat} (key typ owner ov : Nat)

theorem Dev.rd_setSlotKey (q : Reg) (j : Nat) : (d.setSlotKey i key typ owner ov).rd q j =
    (d.wr .CRY_KEYINFO i (typ + owner * 2 ^ 8 + ov * 2 ^ 20 + b2n (decide (0x3F000 ≤ i)) * 2 ^ 21)).rd q j := by
  unfold Dev.setSlotKey
  exact Dev.rd_withCry ..

@[simp] theorem Dev.slotKey_setSlotKey_same : (d.setSlotKey i key typ owner ov).slotKey i = key := Sparse.get_set_same ..

theorem Dev.slotKey_setSlotKey_other {j : Nat} (h : j ≠ i) : (d.setSlotKey i key typ owner ov).slotKey j = d.slotKey j :=
  Sparse.get_set_other _ _ _ h

theorem Dev.slotType_setSlotKey_other {j : Nat} (hi : i < 262144) (hj : j < 262144) (h : j ≠ i) :
    (d.setSlotKey i key typ owner ov).slotType j = d.slotType j := by
  have same : (d.setSlotKey i key typ owner ov).rd .CRY_KEYINFO j = d.rd .CRY_KEYINFO j := by
    rw [Dev.rd_setSlotKey, d.rd_wr_element _ (by omega) (by omega) h]
  rw [Dev.slotType, Dev.fld, same, Dev.slotType, Dev.fld]

variable {typ owner ov} (ht : typ < 256) (ho : owner < 4096) (hov : ov ≤ 1)
include ht ho hov

/-- The metadata of a written slot. -/
theorem Dev.keyinfo_setSlotKey : let v := (d.setSlotKey i key typ owner ov).rd .CRY_KEYINFO i
    bits v 7 0 = typ ∧ bits v 19 8 = owner ∧ bits v 20 20 = ov := by
  have flag := b2n_le (decide (0x3F000 ≤ i))
  have value : (d.setSlotKey i key typ owner ov).rd .CRY_KEYINFO i =
      (typ + owner * 2 ^ 8 + ov * 2 ^ 20 + b2n (decide (0x3F000 ≤ i)) * 2 ^ 21) % 2 ^ 64 := by rw [Dev.rd_setSlotKey, Dev.rd_wr_same]
  rw [value]
  simp only [bits]
  omega

theorem Dev.slotType_setSlotKey_same : (d.setSlotKey i key typ owner ov).slotType i = typ := (d.keyinfo_setSlotKey key ht ho hov).1

theorem Dev.slotOwner_setSlotKey_same : (d.setSlotKey i key typ owner ov).slotOwner i = if ov = 1 then some owner else none := by
  obtain ⟨_, who, valid⟩ := d.keyinfo_setSlotKey (i := i) key ht ho hov
  rw [Dev.slotOwner, Dev.fld, Dev.fld, who, valid]

end

/-- A random key draws two free values, and nothing else changes. -/
theorem Dev.randomKey_eq (d : Dev) (typ : Nat) : (d.randomKey typ).2 = { d with free := d.free + 2 } := rfl

/-- The fields of a word of CRY_KEYPORT_CTL for a slot outside the memory keys. -/
theorem keyPort_word (op : Nat) {slot typ owner : Nat} (hs : slot < 0x3F000) (ht : typ < 256) (ho : owner < 4096) (ov : Bool) (tag : Nat)
    (hop : op < 8) : let v := keyCtlWord op slot typ owner ov tag
    bits v 17 0 = slot ∧ bits v 20 18 = op ∧ bits v 31 24 = typ ∧ bits v 43 32 = owner ∧ bits v 44 44 = b2n ov := by
  obtain ⟨index, code, type, who, valid, -⟩ := keyCtlWord_fields op slot typ owner tag ov hop
  exact ⟨index.trans (Nat.mod_eq_of_lt (by omega)), code, type.trans (Nat.mod_eq_of_lt ht), who.trans (Nat.mod_eq_of_lt ho), valid⟩

section
variable {o : Origin} {d : Dev} {slot typ owner tag : Nat} {ov : Bool} {img : List Byte}

theorem Dev.keyRun_refused (refused : d.mode = .lockdown ∨ d.cry.erasing = true) (v : Nat) : d.keyRun o v img = (d, 5) := if_pos refused

variable (hs : slot < 0x3F000) (ht : typ < 256) (ho : owner < 4096) (runs : d.mode ≠ .lockdown) (keeps : d.cry.erasing = false)

section
include hs runs keeps

/-- ERASE of a slot outside the memory keys. -/
theorem Dev.keyRun_erase : d.keyRun o (keyCtlWord 2 slot 0 0 false tag) img = (d.eraseSlot slot, 0) := by
  obtain ⟨index, op, -, -, -, -⟩ := keyCtlWord_fields 2 slot 0 0 tag false (by decide)
  have small : slot % 2 ^ 18 = slot := Nat.mod_eq_of_lt (by omega)
  unfold Dev.keyRun
  rw [if_neg (by simp [runs, keeps])]
  simp only [op, index, small]

include ht ho

/-- LOAD and GENERATE of a slot outside the memory keys: the type is checked first, then that there is a KEK. -/
theorem Dev.keyRun_badType (bad : typ = 0 ∨ 4 < typ) : d.keyRun o (keyCtlWord 1 slot typ owner ov tag) img = (d, 2) ∧
    d.keyRun o (keyCtlWord 3 slot typ owner ov tag) img = (d, 2) := by
  have user : decide (0x3F000 ≤ slot) = false := decide_eq_false (Nat.not_le.2 hs)
  constructor <;> unfold Dev.keyRun <;> rw [if_neg (by simp [runs, keeps])]
  · obtain ⟨index, op, type, who, valid⟩ := keyPort_word 1 hs ht ho ov tag (by decide)
    simp only [op, index, type, user]
    rw [if_neg (by decide), if_pos bad]
  · obtain ⟨index, op, type, who, valid⟩ := keyPort_word 3 hs ht ho ov tag (by decide)
    simp only [op, index, type, user]
    rw [if_neg (by simp), if_pos (.inr (by simpa using bad))]

section
variable (good : ¬ (typ = 0 ∨ 4 < typ))
include good

theorem Dev.keyRun_noKek (empty : d.cry.kek = none) : d.keyRun o (keyCtlWord 1 slot typ owner ov tag) img = (d, 4) ∧
    d.keyRun o (keyCtlWord 3 slot typ owner ov tag) img = (d, 4) := by
  have user : decide (0x3F000 ≤ slot) = false := decide_eq_false (Nat.not_le.2 hs)
  constructor <;> unfold Dev.keyRun <;> rw [if_neg (by simp [runs, keeps])]
  · obtain ⟨index, op, type, who, valid⟩ := keyPort_word 1 hs ht ho ov tag (by decide)
    simp only [op, index, type, user, empty]
    rw [if_neg (by decide), if_neg good]
  · obtain ⟨index, op, type, who, valid⟩ := keyPort_word 3 hs ht ho ov tag (by decide)
    simp only [op, index, type, user, empty]
    rw [if_neg (by simp), if_neg (by simpa using good)]

variable {k : Nat} (kek : d.cry.kek = some k)
include kek

theorem Dev.keyRun_unwrapFail (fails : Config.keyUnwrap k (wrapIv typ owner (b2n ov)) img = none) :
    d.keyRun o (keyCtlWord 1 slot typ owner ov tag) img = (d, 3) := by
  have user : decide (0x3F000 ≤ slot) = false := decide_eq_false (Nat.not_le.2 hs)
  obtain ⟨index, op, type, who, valid⟩ := keyPort_word 1 hs ht ho ov tag (by decide)
  unfold Dev.keyRun
  rw [if_neg (by simp [runs, keeps])]
  simp only [op, index, type, who, valid, user, kek, fails]
  rw [if_neg (by decide), if_neg good]

theorem Dev.keyRun_load {bs : List Byte} (unwraps : Config.keyUnwrap k (wrapIv typ owner (b2n ov)) img = some bs) :
    d.keyRun o (keyCtlWord 1 slot typ owner ov tag) img =
      ((d.setSlotKey slot (leNat (bs.take 64)) typ owner (b2n ov)).bump .CRY_KEYPORT_LOADS 0, 0) := by
  have user : decide (0x3F000 ≤ slot) = false := decide_eq_false (Nat.not_le.2 hs)
  obtain ⟨index, op, type, who, valid⟩ := keyPort_word 1 hs ht ho ov tag (by decide)
  unfold Dev.keyRun
  rw [if_neg (by simp [runs, keeps])]
  simp only [op, index, type, who, valid, user, kek, unwraps]
  rw [if_neg (by decide), if_neg good]

theorem Dev.keyRun_generate : d.keyRun o (keyCtlWord 3 slot typ owner ov tag) img =
    (((d.randomKey typ).2.setSlotKey slot (d.randomKey typ).1 typ owner (b2n ov)).putKeyData
      (Config.keyWrap k (wrapIv typ owner (b2n ov)) (leBytes 64 (d.randomKey typ).1)), 0) := by
  have user : decide (0x3F000 ≤ slot) = false := decide_eq_false (Nat.not_le.2 hs)
  obtain ⟨index, op, type, who, valid⟩ := keyPort_word 3 hs ht ho ov tag (by decide)
  unfold Dev.keyRun
  rw [if_neg (by simp [runs, keeps])]
  simp only [op, index, type, who, valid, user, kek]
  rw [if_neg (by simp), if_neg (by simpa using good)]
  rfl

end

end

end

/-- Key Port DATA is beside the key store. -/
theorem Dev.putKeyData_keeps (d : Dev) (bs : List Byte) {j : Nat} (hj : j < 262144) :
    (d.putKeyData bs).slotKey j = d.slotKey j ∧ (d.putKeyData bs).slotType j = d.slotType j := by
  obtain ⟨regs, h⟩ := forEach_wr_eq .CRY_KEYPORT_DATA id (fun w => leNat ((bs.drop (8 * w)).take 8)) (List.range 9) d
  have same : (d.putKeyData bs).rd .CRY_KEYINFO j = d.rd .CRY_KEYINFO j :=
    d.rd_forEach_wr_apart .CRY_KEYPORT_DATA id (fun w => leNat ((bs.drop (8 * w)).take 8)) (by omega)
      fun w hw => ⟨show w < 2 ^ 24 from Nat.lt_trans (List.mem_range.1 hw) (by decide), by simp⟩
  refine ⟨congrArg (fun e => e.slotKey j) h, ?_⟩
  rw [Dev.slotType, Dev.fld, same, Dev.slotType, Dev.fld]

theorem Dev.slotKey_bump (d : Dev) (r : Reg) (i j : Nat) : (d.bump r i).slotKey j = d.slotKey j := rfl

theorem Dev.slotType_bump (d : Dev) {r : Reg} (other : r ≠ .CRY_KEYINFO) {j : Nat} (hj : j < 262144) :
    (d.bump r 0).slotType j = d.slotType j := by
  rw [Dev.slotType, Dev.fld, Dev.bump, Dev.rd_add_other _ _ (by decide) (by omega) other.symm, Dev.slotType, Dev.fld]

theorem Dev.slotOwner_bump (d : Dev) {r : Reg} (other : r ≠ .CRY_KEYINFO) {j : Nat} (hj : j < 262144) :
    (d.bump r 0).slotOwner j = d.slotOwner j := by
  have same : (d.bump r 0).rd .CRY_KEYINFO j = d.rd .CRY_KEYINFO j := by
    rw [Dev.bump, Dev.rd_add_other _ _ (by decide) (by omega) other.symm]
  rw [Dev.slotOwner, Dev.fld, Dev.fld, same, Dev.slotOwner, Dev.fld, Dev.fld]

section
variable (d : Dev) {slot typ owner : Nat} (hs : slot < 0x3F000) (ht : typ < 256) (ho : owner < 4096) (ov : Bool)
include hs ht ho

/-- A LOAD writes its slot, and no other. -/
theorem Dev.keyLoaded (key : Nat) : let e := (d.setSlotKey slot key typ owner (b2n ov)).bump .CRY_KEYPORT_LOADS 0
    e.slotKey slot = key ∧ e.slotType slot = typ ∧ e.slotOwner slot = (if ov then some owner else none) ∧
      ∀ j, j < 262144 → j ≠ slot → e.slotKey j = d.slotKey j ∧ e.slotType j = d.slotType j := by
  have few : slot < 262144 := by omega
  dsimp only
  refine ⟨?_, ?_, ?_, fun j hj other => ⟨?_, ?_⟩⟩
  · rw [Dev.slotKey_bump, Dev.slotKey_setSlotKey_same]
  · rw [Dev.slotType_bump _ (by decide) few, Dev.slotType_setSlotKey_same _ _ ht ho (b2n_le ov)]
  · rw [Dev.slotOwner_bump _ (by decide) few, Dev.slotOwner_setSlotKey_same _ _ ht ho (b2n_le ov)]
    cases ov <;> rfl
  · rw [Dev.slotKey_bump, Dev.slotKey_setSlotKey_other _ _ _ _ _ other]
  · rw [Dev.slotType_bump _ (by decide) hj, Dev.slotType_setSlotKey_other _ _ _ _ _ few hj other]

/-- A GENERATE writes its slot, and no other. -/
theorem Dev.keyMade (bs : List Byte) :
    let e := ((d.randomKey typ).2.setSlotKey slot (d.randomKey typ).1 typ owner (b2n ov)).putKeyData bs
    e.slotType slot = typ ∧ ∀ j, j < 262144 → j ≠ slot → e.slotKey j = d.slotKey j := by
  refine ⟨?_, fun j hj other => ?_⟩
  · rw [(Dev.putKeyData_keeps _ bs (by omega)).2, Dev.slotType_setSlotKey_same _ _ ht ho (b2n_le ov)]
  · rw [(Dev.putKeyData_keeps _ bs hj).1, Dev.slotKey_setSlotKey_other _ _ _ _ _ other, Dev.randomKey_eq]
    rfl

end

/-! ### Lanes (R379, R405, R407) -/

section
variable {f l : Nat} {s : State} (runs : s.dev.pathOpen = true)
include runs

theorem exec_cryptoDispatch_erasing (erasing : s.dev.cry.erasing = true) (item : Option ItemRef) :
    exec (.cryptoDispatch f item) s = .next (s.withDev s.dev.xonCheck) := by
  refine show execCryptoDispatch f item s = _ from State.flow_next runs ?_
  simp only [erasing]

section
variable (keeps : s.dev.cry.erasing = false) (lane : s.dev.lanePick = some l)
include keeps lane

theorem exec_cryptoDispatch_item {r : ItemRef} {x : Item} (item : s.dev.item r = some x) : exec (.cryptoDispatch f (some r)) s =
    .next (s.withDev (if s.dev.itemReady r x then s.dev.dispatchItem r x l else s.dev).xonCheck) := by
  refine show execCryptoDispatch f (some r) s = _ from State.flow_next runs ?_
  simp only [keeps, lane, item]

theorem exec_cryptoDispatch_frame {x : Frame} (frame : s.dev.frame f = some x) (waits : x.loc = .crypto) (outside : s.dev.inLane f = false)
    (first : s.dev.cryFirst f x = true) : let t := s.dev.leaveArrived f
    exec (.cryptoDispatch f none) s = .next (s.withDev (if x.protects then t.dispatchProtect f x l else t.dispatchOpen f x l).xonCheck) := by
  refine show execCryptoDispatch f none s = _ from State.flow_next runs ?_
  simp only [keeps, lane, frame]
  exact if_pos ⟨waits, outside, first⟩

end

theorem exec_laneOutput {j : Job} (head : s.dev.laneHead l = some j) :
    exec (.laneOutput l 0) s = .next (s.withDev ((s.dev.endJob j).jobOut j).xonCheck) ∧
    exec (.laneOutput l 1) s = .next (s.withDev (((s.dev.bump .CRY_CHECK_RETRIES 0).endJob j).jobOut j).xonCheck) ∧
    exec (.laneOutput l 2) s = .next (s.withDev (((s.dev.bump .CRY_CHECK_RETRIES 0).endJob j).jobFault j).xonCheck) := by
  refine ⟨show execLaneOutput l 0 s = _ from State.flow_next runs ?_, show execLaneOutput l 1 s = _ from State.flow_next runs ?_,
    show execLaneOutput l 2 s = _ from State.flow_next runs ?_⟩ <;> simp only [head]
  · rfl
  · rfl
  · rfl

end

/-! ### The alarm (R404, R405) -/

theorem exec_alarm {src : Nat} {s : State} (awake : s.dev.awake = true) (trips : src % 32 ≠ 0) : let t := s.dev.latchAlarm src
    let u : Dev := { t with cry := { t.cry with erasing := true } }
    exec (.alarm src) s = .next (s.withDev (if u.cry.op.isSome then u.keyEnd 5 else u).refusePit) := by
  refine show execAlarm src s = _ from State.act_next ?_
  rw [if_neg (by simp [awake, trips])]

theorem exec_keyEraseDone {s : State} (erasing : s.dev.cry.erasing = true) :
    let t := s.dev.eraseKeys.emptyLanes.setFld .CRY_ALARM_STATUS 0 5 5 1
    let u := t.draw.2.whistle 0x0E (unitId 0x0B 0 0x22) 0 t.draw.1
    exec .keyEraseDone s = .next (s.withDev (if u.mode = .lockdown then u else u.enterLockdown)) := by
  refine show execKeyEraseDone s = _ from State.act_next ?_
  rw [if_neg (by simp [erasing])]

/-- A list filtered by its keys lists what the filter keeps. -/
theorem Sparse.get?_filter {α : Type} (m : Sparse α) (p : Nat → Bool) (k : Nat) :
    Sparse.get? (List.filter (fun e => p e.1) m) k = if p k then Sparse.get? m k else none := by
  induction m with
  | nil => simp [Sparse.get?]
  | cons e m ih =>
    obtain ⟨q, v⟩ := e
    by_cases kept : p q = true
    · rw [List.filter_cons_of_pos (by simpa using kept), Sparse.get?, Sparse.get?]
      by_cases same : k = q
      · rw [if_pos same, if_pos same, same, if_pos kept]
      · rw [if_neg same, if_neg same, ih]
    · rw [List.filter_cons_of_neg (by simpa using kept), Sparse.get?, ih]
      by_cases same : k = q
      · rw [same, if_neg kept, if_neg kept]
      · rw [if_neg same]

theorem Dev.rd_resetCells (d : Dev) (p : Reg → Nat → Bool) (r : Reg) {i : Nat} (hi : i < 2 ^ 24) :
    (d.resetCells p).rd r i = if p r i then Reg.resetAt r i % 2 ^ 64 else d.rd r i := by
  have cell : (d.resetCells p).reg r i = if p r i then Reg.dflt (r.key i) else d.reg r i := by
    rw [Dev.reg, Sparse.get, Dev.resetCells, Sparse.get?_filter _ (fun k => !p (Reg.ofKey k) (Reg.ixOf k)), Reg.ofKey_key r hi, Reg.ixOf_key r hi]
    cases p r i <;> rfl
  rw [Dev.rd, cell]
  split
  · rw [Reg.dflt, Reg.ofKey_key r hi, Reg.ixOf_key r hi, BitVec.toNat_ofNat]
  · rfl

theorem Dev.eraseKeys_slot (d : Dev) {i : Nat} (hi : i < 262144) : d.eraseKeys.slotKey i = 0 ∧ d.eraseKeys.slotType i = 0 := by
  refine ⟨rfl, ?_⟩
  have reset : d.eraseKeys.rd .CRY_KEYINFO i = (if 0x3F000 ≤ i then 2 ^ 21 else 0) % 2 ^ 64 := by
    rw [Dev.eraseKeys, Dev.rd_withCry, Dev.rd_resetCells _ _ _ (by omega), if_pos (by decide)]
    rfl
  rw [Dev.slotType, Dev.fld, reset]
  split <;> decide

theorem Dev.eraseKeys_kekStatus (d : Dev) : d.eraseKeys.rd .CRY_KEK_STATUS 0 = 0 := by
  rw [Dev.eraseKeys, Dev.rd_withCry, Dev.rd_resetCells _ _ _ (by decide), if_pos (by decide)]
  rfl

/-! ### The device keys and the zeroing (R402, R498) -/

theorem exec_zeroing {s : State} (runs : s.dev.bcpRuns = true) (bringup : s.dev.mode = .bringup) (empty : s.dev.cry.noPitch = none) :
    let a := s.dev.randomKey 5
    let b := a.2.randomKey 5
    exec .zeroing s = .next (s.withDev
      (Dev.renewKeys { b.2 with cry := { b.2.cry with noPitch := some a.1, spill := some b.1, zeroing := some b.2.vn } })) := by
  refine show execZeroing s = _ from State.act_next ?_
  rw [if_neg (by simp [runs, bringup, empty])]

/-- The device after its device regions have been zeroed. -/
def Dev.zeroed (s : Dev) : Dev :=
  { s with
    cry := { s.cry with zeroing := none }
    tbl := { s.tbl with entries := s.tbl.entries.filter (fun e => !decide (e.1 / 2 ^ 32 = 5)) }
    mem := { s.mem with hbm := s.mem.hbm.filter (fun e => !decide (deviceArea ≤ e.1)) } }

theorem exec_zeroingDone {s : State} (zeroing : s.dev.cry.zeroing.isSome) : exec .zeroingDone s = .next (s.withDev s.dev.zeroed) := by
  refine show execZeroingDone s = _ from State.act_next (if_neg ?_)
  simp [Option.isSome_iff_ne_none.1 zeroing]

theorem Dev.entry_zeroed (d : Dev) (t : Nat) {i : Nat} (hi : i < 2 ^ 32) :
    d.zeroed.entry t i = if t = 5 then TblEntry.blank else d.entry t i := by
  have table : entKey t i / 2 ^ 32 = t := by rw [entKey]; omega
  rw [Dev.entry, Sparse.get, Dev.zeroed, Sparse.get?_filter _ (fun k => !decide (k / 2 ^ 32 = 5)), table]
  by_cases counters : t = 5 <;> simp [counters, Dev.entry, Sparse.get]

theorem Dev.hbm_zeroed (d : Dev) (a : Nat) :
    Memory.read d.zeroed.mem.hbm a = if deviceArea ≤ a then Memory.blank a else Memory.read d.mem.hbm a := by
  rw [Memory.read, Sparse.get, Dev.zeroed, Sparse.get?_filter _ (fun k => !decide (deviceArea ≤ k))]
  by_cases device : deviceArea ≤ a <;> simp [device, Memory.read, Sparse.get]

/-- Settles O48, clause by clause. -/
theorem cryptoCommands : Obligations.CryptoCommands := by
  unfold Obligations.CryptoCommands
  refine ⟨fun o i s hi takes => ⟨exec_saRead hi takes, exec_saWrite hi takes⟩,
    fun o i d hi => ⟨d.saAcc_read_effects o hi, Dev.saAcc_foreign hi, fun writer => ?saWrite⟩,
    fun o s => ⟨exec_keyportAcquire, exec_keyportAcquire_deaf, exec_keyportRelease⟩,
    fun o d => ⟨Dev.keyLock_free, fun v => Dev.keyLock_own, fun h v => Dev.keyLock_denied⟩,
    fun h v s held => ⟨exec_keyportTimeout_due held, exec_keyportTimeout_not held⟩,
    fun o slot typ owner tag ov s takes => exec_keyportOps takes,
    fun o op slot typ owner tag ov d low high fits => ⟨Dev.keyCtl_foreign, Dev.keyCtl_busy, fun holds idle => ?starts⟩,
    fun v o s runs => exec_keyportOpDone runs,
    fun d r hr => d.keyEnd_effects hr,
    fun d o slot typ owner tag ov img hs ht ho => ⟨fun refused => ?refused, fun runs keeps => ?runs⟩,
    fun f l item s runs keeps lane => ⟨fun r x named item => ?item, fun x named frame waits outside first => ?frame⟩,
    fun f item s runs erasing => exec_cryptoDispatch_erasing runs erasing item,
    fun l j s runs head => exec_laneOutput runs head,
    fun src s awake trips => exec_alarm awake trips,
    fun s erasing => exec_keyEraseDone erasing,
    fun d => ?erased,
    fun s runs bringup empty => exec_zeroing runs bringup empty,
    fun s zeroing => ⟨_, exec_zeroingDone zeroing, rfl, fun i hi => ?pair, fun t i other hi => ?entry, fun a device => ?device,
      fun a below => ?below, rfl⟩⟩
  case saWrite =>
    obtain ⟨mem, slots, others⟩ := Dev.saAcc_write_keeps hi writer
    exact ⟨mem, slots, others, Dev.saAcc_lockdown hi writer, Dev.saAcc_fails hi writer, Dev.saAcc_passes hi writer⟩
  case starts =>
    obtain ⟨-, code, -, -, -, echo⟩ := keyCtlWord_fields op slot typ owner tag ov (by omega)
    rw [Dev.keyCtl_starts holds idle (by rw [code]; exact ⟨low, high⟩), echo, Nat.mod_eq_of_lt fits]
    exact ⟨rfl, (Dev.fld_withCry ..).trans (d.keyBusy_tag fits), (Dev.fld_withCry ..).trans (d.keyBusy_busy tag)⟩
  case refused => exact ⟨Dev.keyRun_refused refused _, Dev.keyRun_refused refused _, Dev.keyRun_refused refused _⟩
  case runs =>
    refine ⟨Dev.keyRun_erase hs runs keeps, Dev.keyRun_badType hs ht ho runs keeps,
      fun low high => Dev.keyRun_noKek hs ht ho runs keeps (by omega), fun low high k kek => ?_⟩
    have good : ¬ (typ = 0 ∨ 4 < typ) := by omega
    refine ⟨Dev.keyRun_unwrapFail hs ht ho runs keeps good kek, fun bs unwraps => ?_, ?_⟩
    · rw [Dev.keyRun_load hs ht ho runs keeps good kek unwraps]
      exact ⟨rfl, d.keyLoaded hs ht ho ov _⟩
    · rw [Dev.keyRun_generate hs ht ho runs keeps good kek]
      exact ⟨rfl, d.keyMade hs ht ho ov _⟩
  case item => exact named ▸ exec_cryptoDispatch_item runs keeps lane item
  case frame => exact named ▸ exec_cryptoDispatch_frame runs keeps lane frame waits outside first
  case erased => exact ⟨rfl, rfl, rfl, rfl, rfl, d.eraseKeys_kekStatus, fun i => d.eraseKeys_slot⟩
  case pair =>
    rw [Dev.pair, Dev.entry_zeroed _ _ hi, if_pos rfl]
    rfl
  case entry => rw [Dev.entry_zeroed _ _ hi, if_neg other]
  case device => rw [Dev.hbm_zeroed, if_pos device]
  case below => rw [Dev.hbm_zeroed, if_neg (Nat.not_le.2 below)]

end Sys2Proof.Machine
end


section
/-! PROOFS of the family 15_pitches.md: the clock that a write of PIT_CTL needs. -/

namespace Sys2Proof.Machine

open Host

/-! ### A held write of PIT_CTL (R442, R540)

PIT_CTL lies in the window of block 18, the host interface, whose class is 8 (R549). A write reaches it while that class runs on a clock;
class 0x12, which the statement names in its place, is another one and has its own CLK_SRC. -/

/-- The host interface's class is OFF and class 0x12 runs: Basecamp's RESET_DRAIN of pitch 0, which is not bound, is then not judged. -/
def offState : Dev := (Dev.reset.wr .CLK_SRC 0x12 1).wr .CLK_SRC 8 0

/-- RESET_DRAIN of pitch 0 under TAG 1. -/
def drainWord : Nat := pitWord 2 0 0 1

theorem offState_clock : offState.clocked 0x12 = true := by decide +kernel

/-- The held write does not reach its register, and PIT_STATUS stays as it was. -/
theorem offState_heldEffect :
    (offState.heldEffect ⟨.basecamp, Reg.PIT_CTL.key 0, drainWord, Reg.PIT_CTL.ones, none⟩ 0).rd .PIT_STATUS 0 = 0 := by decide +kernel

/-- The operation that the statement names reports BAD_STATE (2) under TAG 1. -/
theorem offState_pitCtl : (offState.pitCtl .basecamp drainWord).rd .PIT_STATUS 0 = 0x10020 := by decide +kernel

/-- Refutes O50: its second clause asks for a clock of class 0x12, but PIT_CTL is a register of class 8. With class 8 OFF and class 0x12
running, the held write of PIT_CTL does nothing, where the clause has it report BAD_STATE. -/
theorem not_pitchesAndReferee : ¬ Obligations.PitchesAndReferee := by
  unfold Obligations.PitchesAndReferee
  rintro ⟨-, held, -⟩
  have unfenced : offState.regFenced .PIT_CTL 0 = false := rfl
  have heard : offState.hears .basecamp = true := by decide +kernel
  have same := held offState .basecamp 2 0 0 1 0 (by decide) (by decide) (by decide) (by decide) (by decide) unfenced offState_clock nofun nofun
    heard
  have status := offState_heldEffect
  rw [drainWord, same, ← drainWord, offState_pitCtl] at status
  exact absurd status (by decide)

end Sys2Proof.Machine
end


section
/-! PROOFS of the families 14_storage_and_transport.md and 17_accepted_work.md: a read of a log over a link that the device does not have. -/

namespace Sys2Proof.Machine

open Host

/-! ### Reads of a log over a link that the device does not have (R10, R293)

The device has the links 0 to 3, and a read of a log FIFO over any other link names no object. Whether a link is present is read in the
register element of its number, and no hypothesis of the two statements keeps that number below 4. -/

/-- A read of a log over a link that the device does not have is a fault. -/
theorem State.logAt_noLink (s : State) {l : Nat} (r : Reg) (i : Nat) (beyond : 4 ≤ l) : s.logAt l r i = .fault .noSuchObject := by
  rw [State.logAt, State.act, if_pos beyond]

/-- A device whose element 4 of HIF_LINK_STATUS says PRESENT, with the class of STX (0x0C) on the oscillator. -/
def fifthLink : State := ⟨(Dev.reset.wr .HIF_LINK_STATUS 4 1).wr .CLK_SRC 0x0C 1, []⟩

theorem fifthLink_hears : fifthLink.dev.hears (.bar0 4) = true := by decide +kernel

theorem fifthLink_takes_connLog : fifthLink.dev.takesRead 4 .STX_CONN_LOG 0 := ⟨fifthLink_hears, by decide +kernel, by decide +kernel⟩

theorem fifthLink_takes_eventLog : fifthLink.dev.takesRead 4 .BCP_EVENT_LOG 0 := ⟨fifthLink_hears, by decide +kernel, by decide +kernel⟩

/-- Refutes O49: its clause on STX_CONN_LOG leaves the link open. A read over link 4, whose status element says PRESENT, is a fault. -/
theorem not_storageCommands : ¬ Obligations.StorageCommands := by
  unfold Obligations.StorageCommands
  rintro ⟨-, -, connLog, -⟩
  have read := connLog 4 fifthLink fifthLink_takes_connLog
  have fault : exec (.stxConnLogRead 4) fifthLink = .fault .noSuchObject :=
    State.logAt_noLink (l := 4) fifthLink .STX_CONN_LOG 0 (Nat.le_refl 4)
  rw [fault] at read
  cases read

/-- Refutes O51: its clause on BCP_EVENT_LOG leaves the link open. A read over link 4, whose status element says PRESENT, is a fault. -/
theorem not_journalAndPower : ¬ Obligations.JournalAndPower := by
  unfold Obligations.JournalAndPower
  rintro ⟨-, -, -, -, -, -, -, -, -, -, -, -, -, -, eventLog, -⟩
  have read := eventLog 4 fifthLink fifthLink_takes_eventLog
  have fault : exec (.bcpEventLogRead 4) fifthLink = .fault .noSuchObject :=
    State.logAt_noLink (l := 4) fifthLink .BCP_EVENT_LOG 0 (Nat.le_refl 4)
  rw [fault] at read
  cases read

end Sys2Proof.Machine
end


section
/-! PROOFS of the family 13_crypto_and_keys.md: what the capsules of pitches, keys, security associations and storage do, and what stays open of
the load of the KEK. -/

namespace Sys2Proof.Machine

open Host

/-! ### The wrapping key of a loaded KEK (R400)

The buffer of CRY_KEK_LOAD is the 97-byte ephemeral public key, padding, and the wrapped KEK. The model derives the wrapping key from the
first 97 bytes; the clause of O34 on this capsule derives it from the whole buffer. Config gives neither the derivation nor the unwrap, so
O34 holds just when the two agree (`keyCapsuleEffects_iff`), which functions in their place decide either way. -/

/-- Whenever a buffer unwraps under the key derived from all of it, it unwraps to the same KEK under the key derived from its first 97
bytes. -/
def KekPrefixAgrees (unwrap : Nat → Nat → List Byte → Option (List Byte)) (derive : List Byte → Nat) : Prop :=
  ∀ bs key : List Byte, unwrap (derive bs) defaultIv ((bs.drop 100).take 40) = some key →
    ∃ held, unwrap (derive (bs.take 97)) defaultIv ((bs.drop 100).take 40) = some held ∧ leNat (held.take 32) = leNat (key.take 32)

/-- A derivation that reads no more than the public key agrees. -/
theorem kekPrefixAgrees_of_prefix {unwrap : Nat → Nat → List Byte → Option (List Byte)} {derive : List Byte → Nat}
    (reads : ∀ bs, derive (bs.take 97) = derive bs) : KekPrefixAgrees unwrap derive :=
  fun bs key opened => ⟨key, by rw [reads, opened], rfl⟩

/-- A derivation from the whole buffer need not agree. -/
theorem not_kekPrefixAgrees_length : ¬ KekPrefixAgrees (fun k _ _ => if k = 160 then some [] else none) List.length := by
  intro agrees
  obtain ⟨held, opened, -⟩ := agrees (List.replicate 160 0) [] (if_pos List.length_replicate)
  have short : ((List.replicate 160 (0 : Byte)).take 97).length ≠ 160 := by rw [List.take_replicate, List.length_replicate]; decide
  exact Option.some_ne_none _ (opened.symm.trans (if_neg short))

/-! ### Capsules whose effect is due -/

section
variable {s : State} {src : CapSrc} {k : CapRun} {op : Nat} (due : s.dev.capDue src op k) {buf : Fetch} {d : CapDef}
include due

theorem State.capsule_passes (own : (d.own s.dev k k.buf).1 = 0) :
    s.act (fun t => t.capsule op src buf d) = .next (s.withDev (d.run s.dev k k.buf)) :=
  State.act_next (Dev.capsule_due_passes due own buf)

theorem State.capsule_fails (own : (d.own s.dev k k.buf).1 ≠ 0) : s.act (fun t => t.capsule op src buf d) =
    .next (s.withDev (s.dev.capReply k (d.own s.dev k k.buf).1 (d.own s.dev k k.buf).2.1 (d.own s.dev k k.buf).2.2 [])) :=
  State.act_next ((Dev.capsule_due due buf d).trans (congrArg _ (if_pos own)))

end

/-! ### The load of the KEK (R400, R406) -/

/-- The device with a KEK loaded, before the capsule ends: an alarm bit is clear unless its source trips. -/
def Dev.withKek (s : Dev) (kek tripping : Nat) : Dev :=
  (Dev.wr { s with cry := { s.cry with kek := some kek } } .CRY_KEK_STATUS 0 1).setFld .CRY_ALARM_STATUS 0 4 0
    (s.fld .CRY_ALARM_STATUS 0 4 0 &&& tripping)

theorem Dev.withKek_status (s : Dev) (kek tripping : Nat) : (s.withKek kek tripping).rd .CRY_KEK_STATUS 0 = 1 := by
  rw [Dev.withKek, Dev.rd_setFld_other _ _ _ _ (by decide) (by decide) (by decide), Dev.rd_wr_same, Nat.mod_eq_of_lt (by decide)]

theorem Dev.withKek_alarms (s : Dev) (kek tripping : Nat) :
    (s.withKek kek tripping).fld .CRY_ALARM_STATUS 0 4 0 = s.fld .CRY_ALARM_STATUS 0 4 0 &&& tripping := by
  have small : s.fld .CRY_ALARM_STATUS 0 4 0 &&& tripping < 2 ^ 5 := Nat.lt_of_le_of_lt Nat.and_le_left (bits_lt _)
  rw [Dev.withKek, Dev.fld_setFld_same _ _ _ _ (by decide) (by decide)]
  exact Nat.mod_eq_of_lt small

theorem Dev.kekLoad_ok {s : Dev} {c : CapRun} {b : Fetch} {key : List Byte} (opened : s.kekUnwrap b = .ok key) (tripping : Nat) :
    s.kekLoad c b tripping = (s.withKek (leNat (key.take 32)) tripping).capReply c 0 0 0 [] := by
  have alarms : (Dev.wr { s with cry := { s.cry with kek := some (leNat (key.take 32)) } } .CRY_KEK_STATUS 0 1).fld .CRY_ALARM_STATUS 0 4 0
      = s.fld .CRY_ALARM_STATUS 0 4 0 := by
    rw [Dev.fld, Dev.rd_wr_other _ _ (by decide) (by decide) (by decide)]
    rfl
  simp only [Dev.kekLoad, opened, alarms]
  rfl

theorem Dev.kekUnwrap_free {s : Dev} (free : s.cry.kek = none) {bs held : List Byte}
    (opened : Config.keyUnwrap (Config.kekWrappingKey (bs.take 97)) defaultIv ((bs.drop 100).take 40) = some held) :
    s.kekUnwrap (.ok bs) = .ok held := by
  simp only [Dev.kekUnwrap, free, Fetch.bytes, opened, Option.isSome_none, Bool.false_eq_true, if_false]

theorem Dev.kekUnwrap_used {s : Dev} (used : s.cry.kek.isSome = true) (b : Fetch) : s.kekUnwrap b = .error 0x40B := if_pos used

/-- O34 follows where the two derivations agree; no other clause needs it. -/
theorem keyCapsuleEffects_of_agrees (agrees : KekPrefixAgrees Config.keyUnwrap Config.kekWrappingKey) : Obligations.KeyCapsuleEffects := by
  intro src k s
  refine ⟨fun due own => ?pitReset, fun new may acts p named => ?pitInfo, fun due own => ?pitOp, fun due b bs key good kek loaded opened => ?migkey,
    fun due b bs key good free opened tripping => ?kekLoad, fun due b bs good used tripping => ?kekUsed, fun due => ?kekErase,
    fun due b bs good low => ?keyLoad, fun due low => ?keyErase, fun due b bs good high => ?badSlot, fun due b bs good own => ?saWrite,
    fun due b bs good own => ?install, fun due free inUse => ?remove, fun due own => ?nsWrite⟩
  case pitReset => exact show execPitReset src s = _ from State.capsule_passes due own
  case pitInfo =>
    refine (show execPitInfo src s = _ from State.act_next (Dev.capsule_reads new may acts rfl rfl rfl _)).trans ?_
    simp only [named, Option.getD_some]
  case pitOp => exact show execPitOp src s = _ from State.capsule_passes due own
  case migkey =>
    have ok : s.dev.migUnwrap k.buf = .ok key := by simp only [Dev.migUnwrap, loaded, good, Fetch.bytes, opened]
    refine (show execPitMigkeyLoad src b s = _ from State.capsule_passes due (by simp only [ok]; rfl)).trans ?_
    simp only [Dev.migLoad, ok]
  case kekLoad =>
    obtain ⟨held, prefixOpened, same⟩ := agrees bs key opened
    have ok : s.dev.kekUnwrap k.buf = .ok held := good ▸ Dev.kekUnwrap_free free prefixOpened
    refine ⟨s.dev.withKek (leNat (held.take 32)) tripping, ?_, congrArg some same, Dev.withKek_status .., Dev.withKek_alarms .., rfl⟩
    rw [← Dev.kekLoad_ok ok]
    exact show execCryKekLoad src b tripping s = _ from State.capsule_passes due (by simp only [ok]; rfl)
  case kekUsed =>
    have used := Dev.kekUnwrap_used used k.buf
    refine (show execCryKekLoad src b tripping s = _ from State.capsule_fails due (by simp only [used]; decide)).trans ?_
    simp only [used]
    rfl
  case kekErase => exact show execCryKekErase src s = _ from State.capsule_passes due rfl
  case keyLoad =>
    refine (show execCryKeyLoad src b s = _ from State.capsule_passes due (congrArg Prod.fst (if_pos low))).trans ?_
    simp only [good, Fetch.bytes]
  case keyErase => exact show execCryKeyErase src s = _ from State.capsule_passes due (congrArg Prod.fst (if_pos low))
  case badSlot =>
    have bad : slotOwn k = (0x406, 0, 0) := if_neg (by omega)
    refine (show execCryKeyLoad src b s = _ from State.capsule_fails due (by simp only [bad]; decide)).trans ?_
    simp only [bad]
  case saWrite => exact (show execCrySaWrite src b s = _ from State.capsule_passes due (by rw [good]; exact own)).trans (by rw [good])
  case install =>
    exact (show execStxConnInstall src b s = _ from State.capsule_passes due (by rw [good]; exact own)).trans (by rw [good]; rfl)
  case remove => exact show execStxConnRemove src s = _ from State.capsule_passes due (by simp [free, inUse])
  case nsWrite => exact show execStxNsWrite src s = _ from State.capsule_passes due own

/-! ### What the clause on CRY_KEK_LOAD asks -/

/-- The SMBus message of a CRY_KEK_LOAD with BUF_LEN 160. -/
def kekWord : Nat := 0x0B01 + 160 * 2 ^ 192

/-- The source of that capsule. -/
def kekSrc : CapSrc := .path (.mctpSmbus 9) kekWord

/-- The capsule with its buffer, its record sealed. -/
def kekCap (bs : List Byte) : CapRun :=
  { o := .mctpSmbus 9, item := none, word := kekWord, recNo := 0, logSeq := some 1, stage := 0, start := 0, buf := .ok bs }

/-- A device on which Basecamp runs, without a KEK and with that capsule in progress. -/
def kekState (bs : List Byte) : State :=
  ⟨{ Dev.reset.wr .BCP_STATUS 0 1 with bcp := { Dev.reset.bcp with caps := [kekCap bs] } }, []⟩

theorem kekState_due (bs : List Byte) : (kekState bs).dev.capDue kekSrc 0x0B01 (kekCap bs) := by
  have runs : (Dev.reset.wr .BCP_STATUS 0 1).bcpRuns = true := by decide +kernel
  have source : (Dev.reset.capOf kekSrc).any (fun c => decide (c.opcode = 0x0B01) && (kekCap []).same c) = true := by decide +kernel
  obtain ⟨c, found, is⟩ := (Option.any_eq_true _ _).1 source
  simp only [Bool.and_eq_true, decide_eq_true_eq] at is
  obtain ⟨opcode, same⟩ := is
  exact ⟨⟨c, found, opcode, List.find?_cons_of_pos same, rfl, runs, (by decide : (0 : Nat) < 2)⟩, rfl⟩

/-- The end of a capsule from a management path leaves the crypto complex alone. -/
theorem Dev.capReply_cry (s : Dev) {c : CapRun} (message : c.item = none) (status detail result : Nat) (data : List Byte) :
    (s.capReply c status detail result data).cry = s.cry := by
  simp only [Dev.capReply, message]
  rfl

theorem exec_kekLoad_error {bs : List Byte} {status : Nat} (fails : (kekState bs).dev.kekUnwrap (.ok bs) = .error status) (some_ : status ≠ 0)
    (b : Fetch) (tripping : Nat) : exec (.cryKekLoad kekSrc b tripping) (kekState bs) =
      .next ((kekState bs).withDev ((kekState bs).dev.capReply (kekCap bs) status 0 0 [])) := by
  have code : unwrapCode ((kekState bs).dev.kekUnwrap (kekCap bs).buf) = (status, 0, 0) := congrArg unwrapCode fails
  refine (show execCryKekLoad _ b tripping (kekState bs) = _ from State.capsule_fails (kekState_due bs) (by simpa only [code] using some_)).trans ?_
  simp only [code]

theorem exec_kekLoad_ok {bs held : List Byte} (opened : (kekState bs).dev.kekUnwrap (.ok bs) = .ok held) (b : Fetch) (tripping : Nat) :
    exec (.cryKekLoad kekSrc b tripping) (kekState bs) = .next ((kekState bs).withDev
      (((kekState bs).dev.withKek (leNat (held.take 32)) tripping).capReply (kekCap bs) 0 0 0 [])) := by
  have code : unwrapCode ((kekState bs).dev.kekUnwrap (kekCap bs).buf) = (0, 0, 0) := congrArg unwrapCode opened
  rw [← Dev.kekLoad_ok opened]
  exact show execCryKekLoad _ b tripping (kekState bs) = _ from State.capsule_passes (kekState_due bs) (by simp only [code])

/-- What O34 comes to: it holds just when the KEK that unwraps under the key derived from the whole buffer also unwraps
under the key derived from its first 97 bytes, and Config leaves both functions open. -/
theorem keyCapsuleEffects_iff : Obligations.KeyCapsuleEffects ↔ KekPrefixAgrees Config.keyUnwrap Config.kekWrappingKey := by
  refine ⟨fun holds bs key opened => ?_, keyCapsuleEffects_of_agrees⟩
  obtain ⟨-, -, -, -, load, -⟩ := holds kekSrc (kekCap bs) (kekState bs)
  obtain ⟨d, runs, kek, -⟩ := load (kekState_due bs) (.ok bs) bs key rfl rfl opened 0
  have loaded (e : Dev) (ends : exec (.cryKekLoad kekSrc (.ok bs) 0) (kekState bs) = .next ((kekState bs).withDev e)) :
      e.cry.kek = some (leNat (key.take 32)) := by
    have same : e = d.capReply (kekCap bs) 0 0 0 [] := congrArg State.dev (Outcome.next.inj (ends.symm.trans runs))
    rw [same, Dev.capReply_cry _ rfl, kek]
  cases unwrapped : Config.keyUnwrap (Config.kekWrappingKey (bs.take 97)) defaultIv ((bs.drop 100).take 40) with
  | none =>
    have fails : (kekState bs).dev.kekUnwrap (.ok bs) = .error 0x408 := by
      simp only [Dev.kekUnwrap, Fetch.bytes, unwrapped]
      rfl
    have none_ := loaded _ (exec_kekLoad_error fails (by decide) _ _)
    rw [Dev.capReply_cry _ rfl] at none_
    cases none_
  | some held =>
    have got := loaded _ (exec_kekLoad_ok (Dev.kekUnwrap_free rfl unwrapped) _ _)
    rw [Dev.capReply_cry _ rfl] at got
    exact ⟨held, rfl, Option.some.inj got⟩

end Sys2Proof.Machine
end
